-- ==== Sys2Proof/Word.lean ====
section
/-! DEFINITION. The word types of the model and the small named sets that more than one file uses. -/

namespace Sys2Proof

/-- A register word (R13), a sample word Q4.28 (R60) or a coefficient word Q2.30 (R62). -/
abbrev Word := BitVec 32

/-- One byte of a memory. -/
abbrev Byte := BitVec 8

/-- A double word: a time quantity of the tables, or an accumulator of a strip engine. -/
abbrev DWord := BitVec 64

/-- The two software planes that reach the register pages (R534, R540): the host over BAR0, the manager over the
management bus. -/
inductive Plane where
  | host
  | mgmt
  deriving DecidableEq, Repr

/-- Access types of R14. -/
inductive Acc where
  | rw | ro | wo | w1c | w1s | rc | rws
  deriving DecidableEq, Repr

/-- One field of the register tables: the byte offset in BAR0 of its first instance, its bit range, and how its
instances repeat: `step` bytes apart within a page, `per` of them on a page, pages `pst` bytes apart, `cnt` in all.
Where the table's words come in groups of which only the first `lim` of every `grp` exist, `grp` and `lim` say so. -/
structure Fld where
  addr : Nat
  hi   : Nat
  lo   : Nat
  step : Nat := 0
  per  : Nat := 1
  pst  : Nat := 0
  cnt  : Nat := 1
  grp  : Nat := 1
  lim  : Nat := 1
  acc  : Acc
  rst  : Nat := 0
  deriving DecidableEq, Repr

/-- A sparse table: pairs of a key and a value, keys strictly rising, no entry equal to what an unlisted key reads as. -/
abbrev Tbl (α : Type) := List (Nat × α)

/-- The part of a Bridge core that any Camlor 320 instruction may change (R168, R171): window registers by 16 × window + register,
accumulators, PC, sticky flags ([0] SAT, [1] V, [2] DZ) and local memory, words of 24 bits. -/
structure BcData where
  win   : Tbl Nat := []
  ma    : Nat := 0
  mb    : Nat := 0
  pc    : Nat := 0
  flags : Nat := 0
  mem   : Tbl Nat := []
  deriving DecidableEq, Repr, Inhabited

end Sys2Proof
end

