-- ==== Sys2Proof/Syntax.lean ====
section
/-! DEFINITION. The commands of the block: one constructor of `Instr` per row of the table of operations and events,
with the operands that the row's rule names. The types before it are those operands. -/

namespace Sys2Proof

/-- A unit ID (R613): the page and the index of bits [27:16] and [15:0]. -/
structure UnitId where
  page  : Nat
  index : Nat := 0
  deriving DecidableEq, Repr

/-- What an interconnect request does (R489, R502): a read or a locking read of `n` bytes, or a write of bytes. -/
inductive MemAcc where
  | read (n : Nat)
  | lockRead (n : Nat)
  | write (data : List Byte)
  deriving DecidableEq, Repr

/-- What the ECC of a memory access finds (R500): nothing, a corrected granule, an uncorrectable granule, with its
syndrome. -/
inductive Ecc where
  | clean
  | corrected (syn : Nat)
  | uncorrectable (syn : Nat)
  deriving DecidableEq, Repr

/-- The query registers whose snapshots complete on their own (R84). -/
inductive Query where
  | rconv | patch | fabXp | fabSrc | scn | arb | own
  deriving DecidableEq, Repr

/-- Who issued a command: a plane through its registers, or a host command ring. -/
inductive Origin where
  | reg (p : Plane)
  | ring (q : Nat)
  deriving DecidableEq, Repr

/-- A subframe on an AES3 line (R405, R406): its 24-bit audio field and V, U and C bits; good: no coding violation and no parity
error. -/
structure AesSub where
  audio : Nat
  v     : Bool := false
  u     : Bool := false
  c     : Bool := false
  good  : Bool := true
  deriving DecidableEq, Repr

/-- A frame on an AES3 line: z: it begins with a Z preamble; rate: the measured frame rate in Hz. -/
structure AesFrame where
  z    : Bool
  a    : AesSub
  b    : AesSub
  rate : Nat
  deriving DecidableEq, Repr

/-- A channel of a MADI frame (R413, R414). -/
structure MadiChan where
  audio  : Nat
  v      : Bool := false
  active : Bool := true
  parity : Bool := true
  symbol : Bool := true
  deriving DecidableEq, Repr

/-- A MADI frame: mark: it arrives with a channel-0 mark; its channels; the measured frame rate in Hz. -/
structure MadiFrame where
  mark : Bool
  chans : List MadiChan
  rate : Nat
  deriving DecidableEq, Repr

/-- What has not been done in the period that a sample boundary ends: late: strips that have missed it (output strips from 2,048);
done: strips that had delivered before their engine stopped; fetch: strips whose delay fetch was late or uncorrectable; buses: buses
left unwritten. -/
structure SampleIn where
  late  : List Nat := []
  done  : List Nat := []
  fetch : List Nat := []
  buses : List Nat := []
  deriving DecidableEq, Repr

/-- The commands: operations and events of the GCM1024-IB1. Those without operands stand last: the compiler numbers only the first 245
constructors that have operands. -/
inductive Instr where
  /-- DEVICE_RESET (R558): RESET_N or a supply reset threshold puts the engine in START from any mode and begins the
      START sequence. rail: the supply rail whose monitor crossed its reset threshold, none for RESET_N; straps: the
      straps as sampled, UNIT_B in bit 0, QSPI_4B in bit 1, SMB_ADDR in bits 3:2; slotA, slotB: the boot ROM verifies
      the image of that firmware slot. -/
  | deviceReset (rail : Option Nat) (straps : Nat) (slotA slotB : Bool)
  /-- START_DONE (R558): START step 7 completes, setting START_DONE, or a step fails and sets START_FAIL; passing
      START lifts fences, retirements and shedding. good: every remaining step of START can complete. -/
  | startDone (good : Bool)
  /-- HOST_IF_RESET (R532): PERST_N, hot reset, FLR, link down or D3hot resets only the host interface, disabling
      MSI-X and host command rings. linkDown: the cause is a link-down event or a hot reset; d3: the cause is a change
      to D3hot. -/
  | hostIfReset (linkDown d3 : Bool)
  /-- SMBUS_FW_IMAGE (R569): The boot ROM accepts a firmware image over SMBus into slot A and resets the device if it
      verifies. image: the bytes written over SMBus, header first; verified: its CRC and signature are right. -/
  | smbusFwImage (image : List Byte) (verified : Bool)
  /-- SAMPLE_BOUNDARY (R301): A sample period begins: slots commit, Bridge returns and sends are exchanged, samples
      are latched, events accepted and stages advance. w: what the engines and memories have not delivered in the
      period just ended. -/
  | sampleBoundary (w : SampleIn)
  /-- SAMPLE_LANDING (R296): A sample becomes valid in its ingress buffer at a PCLK edge. src: the source ID; x: the
      sample, for a source of a local port. -/
  | sampleLanding (src : Nat) (x : Word)
  /-- LANE_LOCK (R76): A lane meets its lock criterion and enters LOCKED, ramping in over 64 samples. m: the lane;
      ratio, rate: the measured ratio × 2^28 and input rate in Hz, used for an asynchronous source. -/
  | laneLock (m ratio rate : Nat)
  /-- LANE_UNLOCK (R75): A locked lane sees no input for 3 nominal periods or a ratio step above 1,000 ppm and enters
      UNLOCK. m: the lane; input: input is present. -/
  | laneUnlock (m : Nat) (input : Bool)
  /-- LANE_UNLOCK_RAMP_END (R75): The 64-sample ramp of UNLOCK ends and the lane enters ACQUIRE if input is present.
      m: the lane. -/
  | laneUnlockRampEnd (m : Nat)
  /-- RANGE_ENTER (R75): A lane measures its input rate outside 31.5 to 194.0 kHz and enters RANGE. m: the lane; rate:
      the measured input rate in Hz. -/
  | rangeEnter (m rate : Nat)
  /-- RANGE_EXIT (R75): A lane's input rate returns inside range and it enters ACQUIRE. m: the lane; rate: the
      measured input rate in Hz. -/
  | rangeExit (m rate : Nat)
  /-- SET_RATE (R564): A rate-mode request is accepted or refused and, in SHOW or HOLD, starts the ramp-out of R81.
      rate: the RATE code requested. -/
  | setRate (p : Plane) (rate : Nat)
  /-- RCONV_QSEL (R84): A write selects a conversion lane to snapshot and clears VALID. v: the word written. -/
  | rconvQsel (v : Word)
  /-- PATCH_QSEL (R84): A write selects a source ID to snapshot and clears VALID. v: the word written. -/
  | patchQsel (v : Word)
  /-- SE_QSEL (R175): A write selects a strip engine register to capture at the next strip boundary. e: the strip
      engine. -/
  | seQsel (e : Nat) (v : Word)
  /-- BC_QSEL (R176): A write selects a Bridge core register to capture at the core's next WAITS. c: the Bridge core;
      v: the word written. -/
  | bcQsel (c : Nat) (v : Word)
  /-- FAB_XP_QSEL (R214): A write selects a crosspoint to snapshot through page 0x042. v: the word written. -/
  | fabXpQsel (v : Word)
  /-- FAB_SRC_QSEL (R228): A write selects a fabric source whose tag and tier are snapshotted. v: the word written. -/
  | fabSrcQsel (v : Word)
  /-- SCN_QW0 (R293): A write names a target word whose staged and running moves are snapshotted. v: the word written. -/
  | scnQw0 (v : Word)
  /-- ARB_QSEL (R525): A write selects an arbiter and master to snapshot. v: the word written. -/
  | arbQsel (v : Word)
  /-- OWN_QADDR (R526): A write selects a byte address whose owner tag and pass state are snapshotted. v: the word
      written. -/
  | ownQaddr (v : Word)
  /-- SNAPSHOT_DONE (R84): A query snapshot completes and its VALID bit sets. q: the query register whose snapshot
      completes. -/
  | snapshotDone (q : Query)
  /-- STRIP_BEGIN (R196): The instruction names the next strip and takes its entry checkpoint. e: the strip engine;
      out: an output strip; n: its number. -/
  | stripBegin (e : Nat) (out : Bool) (n : Nat)
  /-- STRIP_END (R197): The instruction delivers the strip's result, commits its state block and folds its sticky
      flags. e: the strip engine; res, dout, send: the strip's result, its direct out and its Bridge send. -/
  | stripEnd (e : Nat) (res dout : Word) (send : Nat)
  /-- DERIVATION_DONE (R134): A staged strip or Automix group move finishes derivation and is staged. lane: the slot,
      or 16 for the live lane; word: the target word whose derivation is complete. -/
  | derivationDone (lane word : Nat)
  /-- STRIP_MIGRATION (R206): At the first boundary after a fence the retired engine's strips move to the lowest idle
      spare. e: the engine that has been fenced. -/
  | stripMigration (e : Nat)
  /-- STRIP_SHED (R628): With no spare left, chosen strips ramp to silence and the retired engine's strips take their
      slots. e: the engine that has been retired. -/
  | stripShed (e : Nat)
  /-- LG_FRAME_END (R120): A Loop Guard frame ends and candidates are evaluated, placing or deepening notches. cands:
      output strips with the frequency, in 0.01 Hz, of a peak that has met R120 in three frames. -/
  | lgFrameEnd (cands : List (Nat × Nat))
  /-- LG_NOTCH_RELAX (R122): A notch not deepened for 60 s rises by 3.0 dB every 10 s and is freed at depth 0. n: the
      output strip; k: its notch section. -/
  | lgNotchRelax (n k : Nat)
  /-- MAC_NOP (R149): The MAC slot does nothing. e: the strip engine. -/
  | macNop (e : Nat)
  /-- MPY (R149): Each masked accumulator takes S times its coefficient. e: the strip engine. -/
  | mpy (e src q mask : Nat)
  /-- MAC (R149): Each masked accumulator adds S times its coefficient. e: the strip engine. -/
  | mac (e src q mask : Nat)
  /-- MSU (R149): Each masked accumulator subtracts S times its coefficient. e: the strip engine. -/
  | msu (e src q mask : Nat)
  /-- CLR (R149): Each masked accumulator is cleared. e: the strip engine. -/
  | clr (e mask : Nat)
  /-- LDA (R155): Each masked accumulator is loaded with S aligned. e: the strip engine. -/
  | lda (e src mask : Nat)
  /-- ADDA (R155): S aligned is added to each masked accumulator. e: the strip engine. -/
  | adda (e src mask : Nat)
  /-- SUBA (R155): S aligned is subtracted from each masked accumulator. e: the strip engine. -/
  | suba (e src mask : Nat)
  /-- ADD (R161): Dd = Ds + Dt, wrapping and setting V on overflow. e: the strip engine. -/
  | add (e dd ds dt : Nat)
  /-- SUB (R161): Dd = Ds - Dt, wrapping and setting V on overflow. e: the strip engine. -/
  | sub (e dd ds dt : Nat)
  /-- ADDS (R161): Saturating addition that sets SAT. e: the strip engine. -/
  | adds (e dd ds dt : Nat)
  /-- SUBS (R161): Saturating subtraction that sets SAT. e: the strip engine. -/
  | subs (e dd ds dt : Nat)
  /-- NEG (R163): Dd = -Ds with the 0x8000_0000 edge case. e: the strip engine. -/
  | neg (e dd ds : Nat)
  /-- ABS (R163): Dd = |Ds| with the 0x8000_0000 edge case. e: the strip engine. -/
  | absD (e dd ds : Nat)
  /-- AND (R149): Bitwise AND of two data registers. e: the strip engine. -/
  | andD (e dd ds dt : Nat)
  /-- OR (R149): Bitwise OR of two data registers. e: the strip engine. -/
  | orD (e dd ds dt : Nat)
  /-- XOR (R149): Bitwise XOR of two data registers. e: the strip engine. -/
  | xorD (e dd ds dt : Nat)
  /-- CMP (R149): Sets Z and N from Ds - Dt computed exactly. e: the strip engine. -/
  | cmp (e ds dt : Nat)
  /-- DIV (R160): Starts a signed integer division whose result lands 8 bundles later. e: the strip engine. -/
  | div (e dd ds dt : Nat)
  /-- DIV_COMPLETE (R160): An in-flight DIV completes, writing Dd and setting DZ and V. e: the strip engine. -/
  | divComplete (e : Nat)
  /-- ASR (R162): Arithmetic right shift by a register count. e: the strip engine. -/
  | asr (e dd ds dt : Nat)
  /-- LSR (R162): Logical right shift by a register count. e: the strip engine. -/
  | lsr (e dd ds dt : Nat)
  /-- LSL (R162): Left shift by a register count. e: the strip engine. -/
  | lsl (e dd ds dt : Nat)
  /-- LSLS (R162): Saturating left shift by a register count. e: the strip engine. -/
  | lsls (e dd ds dt : Nat)
  /-- ASRI (R162): Arithmetic right shift by an immediate count. e: the strip engine. -/
  | asri (e dd count : Nat)
  /-- LSRI (R162): Logical right shift by an immediate count. e: the strip engine. -/
  | lsri (e dd count : Nat)
  /-- LSLI (R162): Left shift by an immediate count. e: the strip engine. -/
  | lsli (e dd count : Nat)
  /-- LSLSI (R162): Saturating left shift by an immediate count. e: the strip engine. -/
  | lslsi (e dd count : Nat)
  /-- ASRA (R162): Arithmetic right shift of an accumulator at width 72. e: the strip engine. -/
  | asra (e acc count : Nat)
  /-- LSRA (R162): Logical right shift of an accumulator at width 72. e: the strip engine. -/
  | lsra (e acc count : Nat)
  /-- LSLA (R162): Left shift of an accumulator at width 72. e: the strip engine. -/
  | lsla (e acc count : Nat)
  /-- LSLSA (R162): Saturating left shift of an accumulator at width 72. e: the strip engine. -/
  | lslsa (e acc count : Nat)
  /-- LOAD (R147): A move slot loads a memory word into a data register or accumulator. e: the strip engine; ecc: what
      the ECC check of the word read says. -/
  | load (e slot space an mode reg : Nat) (ecc : Ecc)
  /-- STORE (R156): A move slot stores a data register or accumulator, rounding and saturating an accumulator sample.
      e: the strip engine. -/
  | store (e slot space an mode reg : Nat)
  /-- LOAD_ADDRESS_FILE (R159): A move slot loads the low bits of a word into an A, N, L or B register. e: the strip
      engine; ecc: what the ECC check of the word read says. -/
  | loadAddressFile (e slot space an mode reg : Nat) (ecc : Ecc)
  /-- AU_ADD_OFFSET (R158): The AU slot post-modifies An by Nm under circular addressing. e: the strip engine. -/
  | auAddOffset (e an nm : Nat)
  /-- AU_LOAD_BASE (R148): The AU slot sets An to Bn. e: the strip engine. -/
  | auLoadBase (e an : Nat)
  /-- NOP (R181): The CTRL slot does nothing. e: the strip engine. -/
  | nop (e : Nat)
  /-- BR (R181): Branch to the target after two delay slots. e: the strip engine. -/
  | br (e target : Nat)
  /-- BRC (R182): Branch if COND holds on FLAGS. e: the strip engine. -/
  | brc (e cond target : Nat)
  /-- BRI (R181): Branch to the address in a data register. e: the strip engine. -/
  | bri (e ds : Nat)
  /-- BRK (R186): Close the innermost active repeat. e: the strip engine. -/
  | brk (e : Nat)
  /-- REP (R184): Open a repeat with an immediate count. e: the strip engine. -/
  | rep (e count last : Nat)
  /-- REPD (R184): Open a repeat with a count from a data register. e: the strip engine. -/
  | repd (e ds last : Nat)
  /-- GATH16 (R165): Start a 16-element gather from GATHER_POS. src: 0 XM, 1 YM, 2 the interconnect; dsp, ad: space
      and address register of the destination; isp, ai: those of the index block; base: the base register. -/
  | gath16 (e src dsp ad isp ai base : Nat)
  /-- GATHER_COMPLETE (R165): The last gather element is written and GATHER_POS returns to 0. e: the strip engine. -/
  | gatherComplete (e : Nat)
  /-- GATHER_FAULT (R166): A gather element faults, ending the gather at that element and suspending the engine. e:
      the strip engine; k: the element; cause: the cause code. -/
  | gatherFault (e k cause : Nat)
  /-- LDI (R181): Load an immediate into a data register. e: the strip engine. -/
  | ldi (e dd : Nat) (v : Word)
  /-- MVTC (R181): Move a data register to a control register. e: the strip engine. -/
  | mvtc (e cr ds : Nat)
  /-- MVFC (R181): Move a control register to a data register. e: the strip engine. -/
  | mvfc (e cr dd : Nat)
  /-- RTE (R192): Return from an event handler to the saved bundle with the strip bank. e: the strip engine. -/
  | rte (e : Nat)
  /-- DMA_ERR (R188): An error response on a mailbox transfer raises the DMA_ERR event. e: the strip engine; depends:
      the running strip depends on the transfer. -/
  | dmaErr (e : Nat) (depends : Bool)
  /-- EVENT_ACCEPT (R191): A pending event is accepted at an acceptance point and its vector issues. e: the strip
      engine. -/
  | eventAccept (e : Nat)
  /-- EVENT_LATENCY (R194): A pending event reaches 512 cc of waiting and EVENT_LATENCY is raised. e: the strip
      engine; code: the event. -/
  | eventLatency (e code : Nat)
  /-- WAITS (R172): The Bridge core waits for its sample event. c: the Bridge core. -/
  | waits (c : Nat)
  /-- ENTER (R209): The Bridge core opens a call frame, or takes a frames-full trap at RES = 7. c: the Bridge core. -/
  | enter (c : Nat)
  /-- LEAVE (R209): The Bridge core closes a frame, or takes a frames-empty or double trap. c: the Bridge core. -/
  | leave (c : Nat)
  /-- PARK3 (R210): The handler writes the three oldest resident frames to the park area. c: the Bridge core. -/
  | park3 (c : Nat)
  /-- UNPARK (R210): The handler brings back up to three parked frames. c: the Bridge core. -/
  | unpark (c : Nat)
  /-- TRAPX (R210): The handler restores FP, releases events and the trapping instruction re-executes. c: the Bridge
      core. -/
  | trapx (c : Nat)
  /-- TEST_AND_SET (R502): The Camlor 320 test-and-set runs as a locked read-modify-write sequence. c: the Bridge
      core; addr: the interconnect address of the word. -/
  | testAndSet (c addr : Nat)
  /-- BRIDGE_INSTRUCTION (R171): Any other Camlor 320 instruction executes as on the Camlor 320. c: the Bridge core;
      instr: the instruction's word. -/
  | bridgeInstruction (c instr : Nat)
  /-- LOAD_STRIP_PROGRAM (R203): A ring command fetches and checks a Plovmo strip image, refusing it at the first
      failure. q: the ring; image: the bytes fetched from host memory, none where the fetch fails. -/
  | loadStripProgram (q : Nat) (image : Option (List Byte))
  /-- LOAD_BRIDGE (R550): A ring command fetches and checks Bridge effect code for chosen channels. q: the ring;
      image: the bytes fetched from host memory, none where the fetch fails. -/
  | loadBridge (q : Nat) (image : Option (List Byte))
  /-- BRIDGE_LOAD_WRITE (R550): At the next boundary the core halts and the image is written and its scratch zeroed.
      c: the Bridge core. -/
  | bridgeLoadWrite (c : Nat)
  /-- BRIDGE_CORE_START (R550): At the first boundary after the write the core starts at word 0 with its sample event.
      c: the Bridge core. -/
  | bridgeCoreStart (c : Nat)
  /-- MTR_RD_SET (R246): The host frees meter ring slots by writing its read index. v: the word written. -/
  | mtrRdSet (v : Word)
  /-- EYE_BLOCK_END (R249): An Eyepiece tap completes a 256-sample block and writes it, ending a one-shot when due. t:
      the tap. -/
  | eyeBlockEnd (t : Nat)
  /-- EYE_RD_SET (R250): The host frees Eyepiece ring slots by writing its read index. t: the tap; v: the word
      written. -/
  | eyeRdSet (t : Nat) (v : Word)
  /-- OPEN (R284): Takes the lowest FREE slot and makes it OPEN. who: the issuing plane or ring. -/
  | openSlot (who : Origin)
  /-- CLOSE (R284): Admits an OPEN slot and attaches its trigger. slot: the SLOT field of SCN_CMD; a ring's descriptor
      holds its own. -/
  | close (who : Origin) (slot : Nat)
  /-- ARM (R284): Attaches a trigger to a READY slot. slot: the SLOT field of SCN_CMD; a ring's descriptor holds its
      own. -/
  | arm (who : Origin) (slot : Nat)
  /-- ABORT (R265): Releases every move of a non-LIVE slot and removes its Ephemeris entry. slot: the SLOT field of
      SCN_CMD; a ring's descriptor holds its own. -/
  | abort (who : Origin) (slot : Nat)
  /-- LOAD_IMAGE (R287): Starts loading a Plovmo scene image into an empty OPEN slot. slot: the SLOT field of SCN_CMD;
      a ring's descriptor holds its own. -/
  | loadImage (who : Origin) (slot : Nat)
  /-- IMAGE_LOAD_END (R288): An image load ends, comparing CHECK and closing the slot with trigger HOLD or refusing
      it. image: the bytes fetched from host memory, header first; err: the fetch ended in an error response. -/
  | imageLoadEnd (image : List Byte) (err : Bool)
  /-- MOVES (R284): Reads move records from host memory into a slot or the live lane. slot: the SLOT field of SCN_CMD;
      data: the words read from host memory, none where the read fails. -/
  | moves (who : Origin) (slot : Nat) (data : Option (List Word))
  /-- SCN_PORT_PUSH (R291): A write pushes the move record held in SCN_PORT_W0-W3 to a slot or the live lane. lane:
      the lane written. -/
  | scnPortPush (p : Plane) (lane : Nat)
  /-- LIVE_WRITE (R275): A write to a data-plane field becomes a live move admitted alone at receipt. off: BAR0 byte
      offset of the word; v: the value written. -/
  | liveWrite (off : Nat) (v : Word)
  /-- EPH_PUSH (R294): A write inserts the CUE_OUT entry held in the EPH words. p: the writing plane; v: the word
      written. -/
  | ephPush (p : Plane) (v : Word)
  /-- EPH_CANCEL (R281): A write removes a CUE_OUT entry that has not fired. v: the word written. -/
  | ephCancel (v : Word)
  /-- EPH_COMMIT_FIRE (R278): A COMMIT entry fires at the cutoff of its boundary and fires the slot's TIME trigger.
      slot: the slot whose COMMIT entry fires. -/
  | ephCommitFire (slot : Nat)
  /-- CUE_OUT_FIRE (R281): A CUE_OUT entry drives its line to its active level at its time. handle: the entry's
      handle. -/
  | cueOutFire (handle : Nat)
  /-- CUE_OUT_PULSE_END (R281): A CUE_OUT pulse of WIDTH µs ends and the line returns to its resolved level. line: the
      cue output. -/
  | cueOutPulseEnd (line : Nat)
  /-- CUE_EDGE_CONFIRM (R282): A cue input edge is confirmed after 16 pc and fires every attached CUE trigger. line:
      the cue input; level: its new level. -/
  | cueEdgeConfirm (line : Nat) (level : Bool)
  /-- MEASUREMENT_INSTANT (R314): Every 125 ms monitors measure candidates and Heliostat rejects, accepts and
      transitions. raw: RAW of each candidate, the mean over the last second in ppb, where it can be measured; trim:
      the root trim as the loop filter has it, in ppb; phase: sample boundary minus phase target, in ns. -/
  | measurementInstant (raw : List (Option Int)) (trim phase : Int)
  /-- ACTIVITY_LOSS (R313): A candidate has no activity for 3 nominal periods or its source declares fault. c: the
      candidate; declared: its source declares the fault. -/
  | activityLoss (c : Nat) (declared : Bool)
  /-- CAL_SET_GO (R362): A write checks CAL_SET_DATE and CAL_SET_TIME and sets the calendar or sets DATE_ERR. v: the
      word written. -/
  | calSetGo (v : Word)
  /-- CAL_TAI_UTC_ARM (R364): A write arms a change of TAI-UTC at SEC = CAL_TAI_UTC_AT. v: the word written. -/
  | calTaiUtcArm (v : Word)
  /-- TIME_SEC_LO_READ (R350): A read of TIME_SEC_LO latches the other time words for the reading plane. p: the
      reading plane. -/
  | timeSecLoRead (p : Plane)
  /-- CAL_DATE_READ (R366): A read of CAL_DATE latches CAL_TIME for the reading plane. p: the reading plane. -/
  | calDateRead (p : Plane)
  /-- EPH_NEXT_SEC_LO_READ (R294): A read of EPH_NEXT_SEC_LO latches the other words of the earliest entry time. p:
      the reading plane. -/
  | ephNextSecLoRead (p : Plane)
  /-- TIME_TXTS_POP (R355): A write removes the head entry of the TX timestamp FIFO. p: the writing plane; v: the word
      written. -/
  | timeTxtsPop (p : Plane) (v : Word)
  /-- SVX_PUSH (R356): A write submits a SYNC or DELAY push to a servo, which computes a measurement or path delay. p:
      the writing plane; x: the servo; v: the word written. -/
  | svxPush (p : Plane) (x : Nat) (v : Word)
  /-- MPD_TIMEOUT (R358): No DELAY push has yielded D for 64 s and MPD_VALID clears. x: the servo. -/
  | mpdTimeout (x : Nat)
  /-- NET_RX_FRAME (R371): A received frame is classified to discard, management, an RX stream or the host ring. x:
      the port; frame: its bytes without FCS; fcsOk: the FCS is right. -/
  | netRxFrame (x : Nat) (frame : List Byte) (fcsOk : Bool)
  /-- RX_STREAM_WAIT (R378): An RX stream has accepted no packet for 8 packet times and enters WAIT, flushing its
      buffer. n: the stream. -/
  | rxStreamWait (n : Nat)
  /-- RX_LEG_DOWN (R383): A merged stream's leg has delivered no packet within 8 packet times and goes down. n: the
      stream; leg: 0 NET_A, 1 NET_B. -/
  | rxLegDown (n leg : Nat)
  /-- HOST_FRAME_TX (R388): A host frame starts on a port once it can end 100 ns before the next audio launch. x: the
      port; data: what the read of host memory returns, none where it ends in an error. -/
  | hostFrameTx (x : Nat) (data : Option (List Byte))
  /-- MGMT_FRAME_TX (R388): A management frame is sent in a gap and its TX timestamp is appended when requested. x:
      the port. -/
  | mgmtFrameTx (x : Nat)
  /-- NET_RING_DB (R394): A doorbell on a network port ring fetches descriptors and checks their SEQ. x: the port; q:
      the ring; v: the SEQ written; descs: what fetches from host memory return, in order. -/
  | netRingDb (p : Plane) (x q : Nat) (v : Word) (descs : List (List Word))
  /-- NET_LINK_UP (R396): A network port's link comes up. x: the port; an: auto-negotiation has completed. -/
  | netLinkUp (x : Nat) (an : Bool)
  /-- NET_LINK_DOWN (R396): A network port's link goes down. x: the port. -/
  | netLinkDown (x : Nat)
  /-- AES3_RX_FRAME (R406): An AES3 frame is received, gaining LOCK, landing samples and tracking block lock. r: the
      receiver; f: the frame on its line. -/
  | aes3RxFrame (r : Nat) (f : AesFrame)
  /-- AES3_LOCK_LOSS (R406): No valid frame has arrived for 3 frame times and LOCK clears. r: the receiver. -/
  | aes3LockLoss (r : Nat)
  /-- LOSS_OF_SIGNAL (R407): A receiver sees no transitions for 3 frame times, declares LOS and ramps its last samples
      down. p: the receiver (0 to 31 AES3, 32 to 35 MADI, 36 to 59 TDM). -/
  | lossOfSignal (p : Nat)
  /-- LOS_RAMP_END (R407): The 64-sample LOS ramp ends and the source becomes ABSENT. p: the receiver, as in
      LOSS_OF_SIGNAL. -/
  | losRampEnd (p : Nat)
  /-- SIGNAL_RETURN (R407): The first transition after loss of signal clears LOS. p: the receiver, as in
      LOSS_OF_SIGNAL. -/
  | signalReturn (p : Nat)
  /-- MEDIA_SET (R403): A declared EXTERNAL port has held LOCK within the phase window for 1 s and MEDIA sets. p: the
      receiver, as in LOSS_OF_SIGNAL. -/
  | mediaSet (p : Nat)
  /-- AES3_TX_FRAME (R411): An AES3 transmitter sends a frame with samples, V, U, C and parity. t: the transmitter. -/
  | aes3TxFrame (t : Nat)
  /-- MADI_RX_FRAME (R414): A MADI frame is received and checked for channel count and symbol errors. m: the port; f:
      the frame on its line. -/
  | madiRxFrame (m : Nat) (f : MadiFrame)
  /-- MADI_TX_FRAME (R415): A MADI transmitter sends a frame of its channels. m: the port. -/
  | madiTxFrame (m : Nat)
  /-- TDM_FS_EDGE (R417): A slave TDM port receives a frame-sync edge and restarts or checks its slot count. q: the
      port; count: bit clocks since the accepted edge before. -/
  | tdmFsEdge (q count : Nat)
  /-- TDM_RX_FRAME (R416): A TDM port receives a frame of slots. q: the port; slots: the 24 data bits of each slot as
      the port counts them; rate: the frame rate in Hz. -/
  | tdmRxFrame (q : Nat) (slots : List Nat) (rate : Nat)
  /-- TDM_TX_FRAME (R416): A TDM port sends a frame of slots. q: the port. -/
  | tdmTxFrame (q : Nat)
  /-- RESTART (R418): At the port's next frame boundary after its Meridian the TDM port discards partial frames and
      realigns. q: the port. -/
  | restart (q : Nat)
  /-- VCXO_LOOP_UPDATE (R422): Each base-grid period a running VCXO loop measures buffer fill and moves CODE. v: the
      output; off: ingress fill of the bound port less its target, in half frames. -/
  | vcxoLoopUpdate (v : Nat) (off : Int)
  /-- PMUX_RELEASE (R426): At the outgoing function's frame boundary the ball is held at its idle level. n: the ball. -/
  | pmuxRelease (n : Nat)
  /-- PMUX_TAKE (R426): One bit period later the incoming function takes the ball. n: the ball. -/
  | pmuxTake (n : Nat)
  /-- PMUX_FIRST_FRAME (R426): The incoming function sends or takes its first frame and IRQ_SWITCH is raised. n: the
      ball. -/
  | pmuxFirstFrame (n : Nat)
  /-- LANE_CDR_LOCK (R452): A SERDES lane gains CDR lock. l: the lane; pcie: the PCIe speed code of a PCIe lane. -/
  | laneCdrLock (l pcie : Nat)
  /-- LANE_CDR_LOST (R458): A running lane loses CDR lock. l: the lane; low: the readback of a claim that follows
      shows low. -/
  | laneCdrLost (l : Nat) (low : Bool)
  /-- LANE_ADAPT_DONE (R437): A lane completes initial equaliser adaptation. ctle, dfe, eye: the adapted values of the
      lane's read-only words. -/
  | laneAdaptDone (l ctle : Nat) (dfe eye : Word)
  /-- PRBS_CHK_LOCK (R441): A checker sees 64 matching bits after seeding and sets CHK_LOCK. l: the lane. -/
  | prbsChkLock (l : Nat)
  /-- PRBS_CHK_RELOCK (R441): 512 of 1,024 bits mismatch, the checker clears CHK_LOCK and reseeds. bits, errs: bits
      compared and mismatches since the last command of the lane's checker. -/
  | prbsChkRelock (l bits errs : Nat)
  /-- PRBS_CLR (R441): A commit clears LANE_ERR, LANE_BITS and CHK_RELOCK. l: the lane. -/
  | prbsClr (l : Nat)
  /-- LANE_ERR_LO_READ (R442): A read of LANE_ERR_LO latches LANE_ERR_HI and LANE_BITS. p: the reading plane; bits,
      errs: bits compared and mismatches since the last command of the lane's checker. -/
  | laneErrLoRead (p : Plane) (l bits errs : Nat)
  /-- KZL_FRAME_RX (R449): A Kaztal frame is received, its link word processed and its SEQ accepted, duplicated or
      gapped. k: the link; frame: the 64 words received; each record of an accepted MIRROR frame then arrives as a
      command of its own. -/
  | kzlFrameRx (k : Nat) (frame : List DWord)
  /-- KZL_FRAME_TX (R448): At each frame slot the transmitter sends a retransmission, a queued frame or IDLE. k: the
      link; low: the readback of a claim that a link failure brings shows low. -/
  | kzlFrameTx (k : Nat) (low : Bool)
  /-- KZL_RTO (R450): The oldest unacknowledged frame exceeds T_RTO and the transmitter goes back. k: the link. -/
  | kzlRto (k : Nat)
  /-- KZL_LINK_FAIL (R451): The link is declared failed, discarding its retransmit and receive state. k: the link;
      cause: the LAST_FAIL code; low: the readback of a claim that follows shows low. -/
  | kzlLinkFail (k cause : Nat) (low : Bool)
  /-- KZL_ALIGN_DONE (R452): All lanes reach block lock and alignment and the link enters HANDSHAKE. k: the link; map,
      skew: the words of KZL_LANEMAP and KZL_SKEW; partnerB, partnerLink: what the partner's HELLO carries. -/
  | kzlAlignDone (k map skew : Nat) (partnerB : Bool) (partnerLink : Nat)
  /-- KZL_STATE_TIMEOUT (R452): A bring-up state exceeds 10 times its limit and the link returns to CDR. k: the link. -/
  | kzlStateTimeout (k : Nat)
  /-- ACTIVE_N_CONFIRM (R477): A level change of ACTIVE_N is confirmed after 16 pc and a standby decides whether to
      claim. level: the level confirmed; low: the readback of a claim that follows shows low. -/
  | activeNConfirm (level low : Bool)
  /-- RELEASE_DECISION_TIMEOUT (R481): 4 µs after a release without GIVEUP the standby decides RELEASED_WHILE_ACTIVE.
      low: the readback of a claim that follows shows low. -/
  | releaseDecisionTimeout (low : Bool)
  /-- GIVEUP_RECLAIM (R482): No STATUS showing the partner active arrives within 8 µs and the engine that gave up
      claims again. low: the readback shows low. -/
  | giveupReclaim (low : Bool)
  /-- STBY_FORCE (R484): FORCE_CLAIM by the manager claims the active role ignoring ACTIVE_N and HB_IN. v: the word
      written; low: the readback shows low. -/
  | stbyForce (p : Plane) (v : Word) (low : Bool)
  /-- BC_CATCHUP_DONE (R475): A reseeded Bridge core reaches the present boundary and resumes normal pacing. c: the
      core. -/
  | bcCatchupDone (c : Nat)
  /-- STATUS_RECORD (R486): A STATUS record updates the partner's role, give-up, mode and sync state. sample: the
      header's SAMPLE; body: the body words. -/
  | statusRecord (sample : Nat) (body : List Word)
  /-- MOVE_RECORD (R486): A MOVE record mirrors an admitted move into the standby. sample: the header's SAMPLE; body:
      the body words. -/
  | moveRecord (sample : Nat) (body : List Word)
  /-- SLOT_RECORD (R486): A SLOT record mirrors ADMIT, ABORT, COMMIT or STAGED. sample: the header's SAMPLE; body: the
      body words. -/
  | slotRecord (sample : Nat) (body : List Word)
  /-- MEAS_RECORD (R467): A MEAS record delivers a measured decision applied at S + 4. sample: the header's SAMPLE;
      body: the body words. -/
  | measRecord (sample : Nat) (body : List Word)
  /-- CHECK_RECORD (R472): A CHECK record carries a window CRC or a match result. sample: the header's SAMPLE; body:
      the body words. -/
  | checkRecord (sample : Nat) (body : List Word)
  /-- CASC_RECORD (R486): A CASC record passes cascade partials to the standby. sample: the header's SAMPLE; body: the
      body words. -/
  | cascRecord (sample : Nat) (body : List Word)
  /-- MODE_RECORD (R486): A MODE record mirrors a mode or rate-mode switch at a named sample. sample: the header's
      SAMPLE; body: the body words. -/
  | modeRecord (sample : Nat) (body : List Word)
  /-- TIME_RECORD (R486): A TIME record loads the PTP clock at a base-grid boundary. sample: the header's SAMPLE;
      body: the body words. -/
  | timeRecord (sample : Nat) (body : List Word)
  /-- PAGE_RECORD (R473): A PAGE record delivers page words for a join. sample: the header's SAMPLE; body: the body
      words. -/
  | pageRecord (sample : Nat) (body : List Word)
  /-- SEED_RECORD (R474): A SEED record delivers a strip's committed state block. sample: the header's SAMPLE; body:
      the body words. -/
  | seedRecord (sample : Nat) (body : List Word)
  /-- BCSEED_RECORD (R475): A BCSEED record delivers part of a Bridge core snapshot. sample: the header's SAMPLE;
      body: the body words. -/
  | bcseedRecord (sample : Nat) (body : List Word)
  /-- INTERCONNECT_REQUEST (R489): A master issues a request that is decoded to a target or an error response. host:
      the attribute H; addr: the 64-bit address. -/
  | interconnectRequest (master : Nat) (host : Bool) (addr : Nat) (acc : MemAcc)
  /-- ARB_GRANT (R507): An arbiter ranks present requests and grants the winners, sending hints to losers. a: the
      arbiter; ecc: what the ECC of the first grant's target finds. -/
  | arbGrant (a : Nat) (ecc : Ecc)
  /-- ARB_WINDOW_END (R508): A quota window ends and masked requests are unmasked. a: the arbiter. -/
  | arbWindowEnd (a : Nat)
  /-- HOLD_CUT (R509): A grant would exceed HOLD_MAX and the arbiter cuts it off. a: the arbiter; beats: the beats
      transferred before the cut. -/
  | holdCut (a : Nat) (beats : Nat)
  /-- LOCK_READ (R502): A read marked LOCK locks its SRAM bank until the same master's write. addr: interconnect
      address; n: bytes read. -/
  | lockRead (master : Nat) (addr n : Nat)
  /-- LOCK_BREAK (R503): A lock held 64 fc is broken and its completing write discarded. bank: 8 × group + bank. -/
  | lockBreak (bank : Nat)
  /-- SCRUB_STEP (R501): Each 1,024 fc a bank reads and corrects one word. bank: 8 × group + bank; ecc: what the scrub
      finds. -/
  | scrubStep (bank : Nat) (ecc : Ecc)
  /-- FENCE (R39): A fence masks the unit's requests, revokes its grants, breaks its locks and reassigns its buffers.
      unit: the unit fenced. -/
  | fence (unit : UnitId)
  /-- DARK_FRAME_PASS_START (R516): A zeroing pass starts once every granted burst touching the buffer has completed.
      base: the buffer's address. -/
  | darkFramePassStart (base : Nat)
  /-- DARK_FRAME_COMPLETE (R39): A dark-frame pass ends and stalled accesses by the new owner proceed. base: the
      buffer's address. -/
  | darkFrameComplete (base : Nat)
  /-- DRAM_TRAINING_DONE (R505): DRAM training ends and READY sets or TRAIN_FAIL is reported. ok: training succeeded;
      mr4: refresh code read. -/
  | dramTrainingDone (ok : Bool) (mr4 : Nat)
  /-- REMAP (R495): A management write selects boot ROM or SRAM for the low window. v: the word written to the REMAP
      register. -/
  | remap (p : Plane) (v : Word)
  /-- CVU_ENABLE (R520): Writing EN arms a check-value unit with INIT, or stops it holding its result. u: the unit; v:
      the word written to its control register. -/
  | cvuEnable (p : Plane) (u : Nat) (v : Word)
  /-- CVU_RESULT_LO_READ (R520): A read of CVU_RESULT_LO latches CVU_RESULT_HI and CVU_BYTES. u: the unit. -/
  | cvuResultLoRead (p : Plane) (u : Nat)
  /-- ARB_COMMIT (R511): A write of 1 to PG_COMMIT of the ARB page applies the shadow priorities. v: the word written
      to PG_COMMIT. -/
  | arbCommit (p : Plane) (v : Word)
  /-- REGISTER_WRITE (R14): A write to a register with no row of its own takes effect per its access type or passes
      the gate. off: BAR0 byte offset; data: the bytes written. -/
  | registerWrite (p : Plane) (off : Nat) (data : List Byte)
  /-- RC_READ (R17): A read of an RC field returns its value and clears it. off: BAR0 byte offset; n: bytes read. -/
  | rcRead (p : Plane) (off n : Nat)
  /-- SOFT_RESET (R536): A write of 1 to PG_CTRL[1] performs the page's soft reset. page: the page index. -/
  | softReset (p : Plane) (page : Nat)
  /-- FREEZE (R537): Setting or clearing FREEZE holds or releases the page's status and counter values. on: the bit
      written to PG_CTRL[2]. -/
  | freeze (p : Plane) (page : Nat) (on : Bool)
  /-- MSIX_MESSAGE (R544): A due vector past its holdoff sends its MSI-X message and sets IN_SERVICE. v: the vector;
      on: MSI-X is enabled; funcMask, vecMask: the function mask and the vector mask, which the host sets in
      configuration space and in BAR4. -/
  | msixMessage (v : Nat) (on funcMask vecMask : Bool)
  /-- INTC_EOI (R544): A write ends service of a vector, clearing IN_SERVICE. k: the word of INTC_EOI; v: the word
      written. -/
  | intcEoi (k : Nat) (v : Word)
  /-- HOSTQ_RING_DB (R551): A doorbell on a host command ring starts fetching descriptors from RING_EXPECT. q: the
      ring; v: the SEQ written. -/
  | hostqRingDb (q : Nat) (v : Word)
  /-- HOSTQ_FETCH (R553): A descriptor is fetched once a completion slot is free and checked for SEQ. desc: the 16
      words fetched from host memory, none where the fetch fails. -/
  | hostqFetch (q : Nat) (desc : Option (List Word))
  /-- RING_REPLAY (R552): A write asks for recorded completions from a SEQ to be written again. v: the SEQ written. -/
  | ringReplay (q : Nat) (v : Word)
  /-- HOSTQ_RING_EN (R555): Setting EN resets completion indices; clearing it stops the ring after the running
      command. on: the bit written to EN. -/
  | hostqRingEn (q : Nat) (on : Bool)
  /-- CMD_NOP (R548): The ring command NOP completes with no effect. q: the ring. -/
  | cmdNop (q : Nat)
  /-- REG_WRITE (R548): The ring command writes up to 8 consecutive register words as BAR0 writes. q: the ring. -/
  | regWrite (q : Nat)
  /-- REG_READ (R548): The ring command reads consecutive register words into host memory. q: the ring. -/
  | regRead (q : Nat)
  /-- REQ_SHOW (R559): A mode request for SHOW starts the data plane, leaves HOLD or claims under R465. p: the
      requesting plane; low: the readback of a claim shows low. -/
  | reqShow (p : Plane) (low : Bool)
  /-- REQ_HOLD (R562): A mode request for HOLD ramps every egress destination to silence over 64 samples. p: the
      requesting plane. -/
  | reqHold (p : Plane)
  /-- REQ_FOLLOW (R465): A mode request for FOLLOW starts a join or a planned give-up. p: the requesting plane. -/
  | reqFollow (p : Plane)
  /-- REQ_START (R559): A mode request for START stops the data plane and runs START. full: FULL_CHECK. -/
  | reqStart (p : Plane) (full : Bool)
  /-- REQ_MAINT (R559): A manager request moves START to MAINT. p: the requesting plane. -/
  | reqMaint (p : Plane)
  /-- REQ_PARK (R561): A mode request for PARK begins orderly shutdown. p: the requesting plane. -/
  | reqPark (p : Plane)
  /-- DATA_PLANE_STOP (R561): At the end of the output ramp the data plane stops and, for PARK, the shutdown sequence
      runs. what the shutdown self-test finds on the way to PARK: failing domains; failing rows; an SE or BC memory
      failed. -/
  | dataPlaneStop (failMap : Nat) (rows : List (Nat × Nat)) (memFail : Bool)
  /-- FLASH_ERASE (R571): The flash window erases one sector. p: the writing plane. -/
  | flashErase (p : Plane)
  /-- FLASH_PROGRAM (R571): The flash window programs 256 bytes from group 0. p: the writing plane. -/
  | flashProgram (p : Plane)
  /-- FLASH_READ (R571): The flash window reads 256 bytes into group 0. p: the writing plane. -/
  | flashRead (p : Plane)
  /-- PROV_COMMIT (R574): A commit checks, erases, programs and verifies the inactive slot, then makes it active. p:
      the writing plane. -/
  | provCommit (p : Plane)
  /-- KEY_DATA (R577): A write appends one word of an authenticated command envelope. v: the envelope word. -/
  | keyData (p : Plane) (v : Word)
  /-- KEY_CHECK (R577): The key store checks the envelope's HMAC, UID and counter and sets KEY_AUTH. p: the writing
      plane. -/
  | keyCheck (p : Plane)
  /-- KEY_DONE (R577): A write clears KEY_AUTH. p: the writing plane. -/
  | keyDone (p : Plane)
  /-- KEY_WRAP (R580): The key store wraps KEY_NEW with the device key into KEY_WRAPPED. v: the word written. -/
  | keyWrap (p : Plane) (v : Word)
  /-- DOMAIN_IDLE_OFF (R583): An idle domain enabled in PWR_IDLE_OFF is powered off. d: the domain code of R582. -/
  | domainIdleOff (d : Nat)
  /-- DOMAIN_WAKE (R583): An access or move targeting an off domain wakes it on demand. d: the domain code. -/
  | domainWake (d : Nat)
  /-- DOMAIN_READY (R584): A waking domain reports ready and stalled accesses proceed. ready: the phase ended within
      its limit. -/
  | domainReady (d : Nat) (ready : Bool)
  /-- DVFS_REQ (R588): A divider request is checked and refused or started. v: the word written. -/
  | dvfsReq (p : Plane) (v : Word)
  /-- SUPPLY_SAMPLE (R591): Each 1 µs every rail is sampled for warning, reset and overvoltage. mv: the ten rails, in
      mV. -/
  | supplySample (mv : List Nat)
  /-- SENSOR_READ (R595): Each 1 ms the thermal sensors are read and Tj is formed. t: the eight sensors, in 0.25 °C. -/
  | sensorRead (t : List Int)
  /-- FAN_FAIL (R602): A fan stays below TACH_MIN for 2 s at 30 % duty and is failed. f: the fan; rpm: its measured
      speed. -/
  | fanFail (f rpm : Nat)
  /-- FAN_RECOVER (R602): A failed fan stays above TACH_MIN for 2 s and recovers. f: the fan; rpm: its measured speed. -/
  | fanRecover (f rpm : Nat)
  /-- FLT_WDT_KICK (R627): A write restarts the management watchdog period. v: the word written. -/
  | fltWdtKick (p : Plane) (v : Word)
  /-- FAULT_EVENT (R615): A fault source event is stamped, counted for severity and starts a targeted test where
      named. src: the source number; unit: the unit of the event; addr: the faulting address or 0. -/
  | faultEvent (src : Nat) (unit : UnitId) (addr : Word)
  /-- TARGETED_TEST_END (R624): A targeted test ends; a pass resumes the unit, a fail or escalation retires it. unit:
      the unit under test; pass: signature and march passed. -/
  | targetedTestEnd (unit : UnitId) (pass : Bool)
  /-- FLT_FENCE_GO (R630): A manager fence command is checked for unit and epoch and applies a fence. v: the word
      written. -/
  | fltFenceGo (p : Plane) (v : Word)
  /-- BIST_GO (R643): In MAINT a write starts a full self-check. v: the word written. -/
  | bistGo (p : Plane) (v : Word)
  /-- BIST_DONE (R631): A logic BIST and march check ends and its failures are recorded. failMap: failing domains;
      rows: failing rows (bank, row); memFail: an SE or BC memory failed. -/
  | bistDone (failMap : Nat) (rows : List (Nat × Nat)) (memFail : Bool)
  /-- MARCH_GO (R636): A write starts a requested march or refuses it. v: the word written. -/
  | marchGo (p : Plane) (v : Word)
  /-- MARCH_DONE (R636): A requested march ends with failing rows in the FIFO. rows: failing rows (bank, row). -/
  | marchDone (rows : List (Nat × Nat))
  /-- MARCH_FIFO_READ (R644): A read of MARCH_FIFO returns and removes the oldest failing-row entry. p: the reading
      plane. -/
  | marchFifoRead (p : Plane)
  /-- REP_FUSE_GO (R638): A write starts burning every unfused soft repair into the eFuse table. v: the word written. -/
  | repFuseGo (p : Plane) (v : Word)
  /-- FUSE_BURN_DONE (R638): The eFuse burn ends and REP_STAT reports its outcome. verified: every read-back agrees;
      stopped: a condition of FUSE_COND arose during the burn. -/
  | fuseBurnDone (verified : Bool) (stopped : Bool)
  /-- ACTIVITY_EVENT (R313): An activity event of a Heliostat candidate (an edge on WCLK_IN, HSYNC_IN or OSC_IN, an
      AES11 frame start) is timestamped for the frequency monitor and makes an ABSENT candidate active and PENDING. c:
      the candidate. -/
  | activityEvent (c : Nat)
  /-- PCIE_LINK_UP (R533): The PCIe link finishes training and comes up, setting LINK_WIDTH and LINK_SPEED, so that
      writes toward host memory go out again. width: lanes, 1, 2 or 4; speed: the code of LINK_SPEED; master: Bus
      Master Enable. -/
  | pcieLinkUp (width speed : Nat) (master : Bool)
  /-- FLASH_COMMAND_END (R571): A flash window ERASE, PROGRAM or READ finishes on the QSPI device, setting DONE with
      its status and raising IRQ_FLASH. good: the device finished without an error. -/
  | flashCommandEnd (good : Bool)
  /-- PROV_COMMIT_END (R574): The erase, program and verify of a provisioning commit finish, the slot is made active
      and its commit records are applied, or the commit ends refused; DONE sets and IRQ_COMMIT is raised. good: the
      read-back CHECK is right. -/
  | provCommitEnd (good : Bool)
  /-- SCAN_CHAIN_ENABLE (R581): Before a scan chain is enabled the key store zeroes keys, licence words and KEY_NEW
      and sets CLEARED. -/
  | scanChainEnable
  /-- RATE_SWITCH (R81): At the first common boundary the rate mode switches and strips, lanes and ports are rebuilt. -/
  | rateSwitch
  /-- RATE_RAMP_IN (R81): After 64 silent samples at the new rate every output starts ramping back in. -/
  | rateRampIn
  /-- RATE_CHANGE_DONE (R81): The 64-sample ramp-in after a rate switch ends and outputs are at full level. -/
  | rateChangeDone
  /-- SHED_STOP (R628): At B + 32 the shed strips stop and the displaced strips start in the freed slots. -/
  | shedStop
  /-- AUTOMIX_UPDATE (R128): Every 0.5 ms Automix computes each member's gain from the group's power shares. -/
  | automixUpdate
  /-- PROG_WRITE_START (R204): At the next boundary every engine stops its strips and writes the accepted program. -/
  | progWriteStart
  /-- PROG_WRITE_END (R204): The program write ends; SE_PROG_ID, PG_STAT[6] and PG_EPOCH change and strips rebuild. -/
  | progWriteEnd
  /-- METER_FRAME_BOUNDARY (R245): A meter frame ends, its entries and header are written to the host ring or
      discarded. -/
  | meterFrameBoundary
  /-- SCENE_CUTOFF (R266): At the cutoff of a boundary, staged slots whose triggers have fired are set to commit
      there. -/
  | sceneCutoff
  /-- DEFERRED_XFADE_START (R274): A deferred crossfade pair begins when the running pair drops its old copy. -/
  | deferredXfadeStart
  /-- ACQ_TIMEOUT (R322): ACQUIRE has lasted 30 s and Heliostat enters HOLDOVER. -/
  | acqTimeout
  /-- ACQ_HOLDOFF_EXPIRE (R322): No candidate accepted for ACQ_HOLDOFF seconds in HOLDOVER, so an eligible one is
      acquired. -/
  | acqHoldoffExpire
  /-- WTR_EXPIRE (R324): A higher-priority candidate has been ACCEPTED for WTR seconds and Heliostat switches to it. -/
  | wtrExpire
  /-- PTP_STEP (R348): At the first base-grid boundary after the decision the PTP clock steps. -/
  | ptpStep
  /-- SECONDS_CARRY (R344): NS passes 1,000,000,000 and SEC increments, advancing the calendar. -/
  | secondsCarry
  /-- PACKET_LAUNCH (R387): A NET_LAUNCH entry fires and the packet leaves, is dropped, or counts as muted. -/
  | packetLaunch
  /-- READBACK_FAULT (R477): ACTIVE_N reads high while driven low and READBACK is set. -/
  | readbackFault
  /-- HB_TOGGLE (R476): HB_OUT toggles at every 24th base-grid boundary. -/
  | hbToggle
  /-- HB_IN_EDGE (R476): An edge on HB_IN counts toward heartbeat presence. -/
  | hbInEdge
  /-- HB_LOST (R476): No heartbeat edge for 8 ms sets HB_LOST. -/
  | hbLost
  /-- GIVEUP_RELEASE (R479): At boundary B after the give-up acknowledgement or 8 µs the active engine releases
      ACTIVE_N. -/
  | giveupRelease
  /-- CHECK_WINDOW_END (R472): A 64-sample window ends and its egress CRC is sent or compared. -/
  | checkWindowEnd
  /-- CONFIRM_TIMEOUT (R471): CONFIRMING lasts 3 s without 4 matching windows and returns to RESEEDING or STUCK. -/
  | confirmTimeout
  /-- DATA_PLANE_START (R561): At the first boundary after acceptance the data plane starts and outputs fill and ramp
      in. -/
  | dataPlaneStart
  /-- HOLD_RAMP_END (R562): The SHOW/HOLD ramp at the egress buffers ends and the transition completes. -/
  | holdRampEnd
  /-- DVFS_DIVIDER_CHANGE (R589): At an allowed 62.5 µs boundary the CCLK divider changes. -/
  | dvfsDividerChange
  /-- DVFS_RAIL_CONFIRM (R589): VDD_CORE is confirmed within ±15 mV of the new level. -/
  | dvfsRailConfirm
  /-- DVFS_VOLT_TIMEOUT (R589): The rail is not confirmed within 1 ms, VID reverts and DVFS_FAULT is raised. -/
  | dvfsVoltTimeout
  /-- SUPPLY_HOLD_END (R593): Every rail has stayed above warning for 10 ms and move receipt resumes. -/
  | supplyHoldEnd
  /-- THERMAL_STATE_CHANGE (R596): A threshold crossing held for 1 s changes the thermal state. -/
  | thermalStateChange
  /-- WDT_EXPIRE (R627): The watchdog expires, raising MGMT_WDT and restarting the controller at the boot ROM. -/
  | wdtExpire
  /-- FAULT_N_PULSE_END (R619): The 1 ms FAULT_N pulse ends and the pin follows LEVEL. -/
  | faultNPulseEnd
  /-- STUCK_LOW (R483): A standby that received GIVEUP sees ACTIVE_N still low 8 µs later, raises INTERLOCK_FAULT of
      kind STUCK_LOW and does not claim. -/
  | stuckLow
  deriving DecidableEq, Repr

end Sys2Proof
end

