-- ==== Sys2Proof/Decode.lean ====
section
/-! DEFINITION. The command that a word spells by the table of operations and events. -/

namespace Sys2Proof

/-- The table gives none of its rows bits (every row's field list is empty): the block's commands arrive through registers, rings,
lanes and pins, and no word spells one. DESIGN CHOICE (log entry 1). -/
def decodeTableWord (_nbits _w : Nat) : Option Instr := none

end Sys2Proof
end

