-- ==== Sys2Proof/Machine/Bits.lean ====
section
/-! DEFINITION. Bit fields, sign extension, rounding and saturation, and the operations of a sparse table. -/

namespace Sys2Proof.Machine

/-- Bits [hi:lo] of a number. -/
def bits (x hi lo : Nat) : Nat := x / 2 ^ lo % 2 ^ (hi + 1 - lo)

/-- Bit b of a number. -/
def bit (x b : Nat) : Bool := x / 2 ^ b % 2 == 1

/-- A number with bits [hi:lo] replaced by the low bits of `v`. -/
def withBits (x hi lo v : Nat) : Nat :=
  x - bits x hi lo * 2 ^ lo + v % 2 ^ (hi + 1 - lo) * 2 ^ lo

/-- A number with bit b set or cleared. -/
def withBit (x b : Nat) (v : Bool) : Nat := withBits x b b v.toNat

/-- The two's-complement reading of the low `w` bits of a number. -/
def sx (w x : Nat) : Int :=
  let y := x % 2 ^ w
  if y < 2 ^ (w - 1) then (y : Int) else (y : Int) - 2 ^ w

/-- The low `w` bits that spell an integer in two's complement. -/
def unsx (w : Nat) (x : Int) : Nat := (x % (2 ^ w : Int)).toNat

/-- Saturation of an integer to `w` bits, two's complement. -/
def satTo (w : Nat) (x : Int) : Int :=
  if x < -(2 ^ (w - 1) : Int) then -(2 ^ (w - 1) : Int)
  else if x > (2 ^ (w - 1) : Int) - 1 then (2 ^ (w - 1) : Int) - 1 else x

/-- Does an integer lie outside `w` bits, two's complement? -/
def overflows (w : Nat) (x : Int) : Bool := satTo w x != x

/-- Convergent rounding: `num / den` rounded to the nearest integer, halves to even (`den` positive). -/
def roundHalfEven (num : Int) (den : Nat) : Int :=
  let d : Int := den
  let q := num.fdiv d
  let r2 := 2 * (num - q * d)
  if r2 < d then q else if r2 > d then q + 1 else if q % 2 = 0 then q else q + 1

/-- Convergent rounding of the low `n` bits away. -/
def roundShift (x : Int) (n : Nat) : Int := roundHalfEven x (2 ^ n)

/-- Floor shift right by `n`. -/
def asr (x : Int) (n : Nat) : Int := x.fdiv (2 ^ n)

/-- The sample word of an integer (R60): its low 32 bits. -/
def toWord (x : Int) : Word := BitVec.ofInt 32 x

/-- Saturation to a sample word. -/
def satWord (x : Int) : Word := toWord (satTo 32 x)

/-- A rational held as a numerator and a positive denominator. -/
abbrev Ratio := Int × Nat

/-- Saturating count in `w` bits. -/
def satInc (w x n : Nat) : Nat := if x + n < 2 ^ w then x + n else 2 ^ w - 1

/-- Little-endian bytes of a number. -/
def leBytes : Nat → Nat → List Byte
  | 0, _ => []
  | n + 1, x => BitVec.ofNat 8 x :: leBytes n (x / 256)

/-- The number that little-endian bytes spell. -/
def ofLeBytes : List Byte → Nat
  | [] => 0
  | b :: r => b.toNat + 256 * ofLeBytes r

/-- Little-endian 32-bit words of a byte list. -/
def leWords : List Byte → List Nat
  | a :: b :: c :: d :: r => ofLeBytes [a, b, c, d] :: leWords r
  | _ => []

/-- The bytes of a list of 32-bit words, little-endian. -/
def wordBytes (ws : List Nat) : List Byte := ws.flatMap (leBytes 4)

/-- The value of a sparse table at a key; `d` is what an unlisted key reads as. -/
def tget {α : Type} (d : α) : Tbl α → Nat → α
  | [], _ => d
  | (k, v) :: r, a => if a = k then v else tget d r a

/-- Store at a key of a sparse table, keeping the canonical form for the default `d` of that key. -/
def tput {α : Type} [DecidableEq α] (d : α) : Tbl α → Nat → α → Tbl α
  | [], a, v => if v = d then [] else [(a, v)]
  | (k, w) :: r, a, v =>
    if k < a then (k, w) :: tput d r a v
    else
      let rest := if k = a then r else (k, w) :: r
      if v = d then rest.filter (fun p => p.1 ≠ a) else (a, v) :: rest

/-- Canonical form: keys strictly rising above `lo`, no entry equal to the default of its key. -/
def twfFrom {α : Type} [DecidableEq α] (d : Nat → α) : Nat → Tbl α → Bool
  | _, [] => true
  | lo, (k, v) :: r => decide (lo ≤ k) && decide (v ≠ d k) && twfFrom d (k + 1) r

/-- A sparse table is in canonical form. -/
def twf {α : Type} [DecidableEq α] (d : Nat → α) (t : Tbl α) : Bool := twfFrom d 0 t

/-- Update the value at a key. -/
def tmod {α : Type} [DecidableEq α] (d : α) (t : Tbl α) (k : Nat) (f : α → α) : Tbl α :=
  tput d t k (f (tget d t k))

/-- Store consecutive bytes (or values) from a key on. -/
def tputs {α : Type} [DecidableEq α] (d : α) : Tbl α → Nat → List α → Tbl α
  | t, _, [] => t
  | t, a, v :: r => tputs d (tput d t a v) (a + 1) r

/-- Read `n` consecutive values from a key on. -/
def tgets {α : Type} (d : α) (t : Tbl α) (a : Nat) : Nat → List α
  | 0 => []
  | n + 1 => tget d t a :: tgets d t (a + 1) n

/-- Apply `f` to a state for each number from `lo`, `n` of them. -/
def forRange {σ : Type} (f : Nat → σ → σ) : Nat → Nat → σ → σ
  | _, 0, s => s
  | lo, n + 1, s => forRange f (lo + 1) n (f lo s)

/-- Apply `f` to a state for each element of a list. -/
def forEach {σ α : Type} (f : α → σ → σ) : List α → σ → σ
  | [], s => s
  | a :: r, s => forEach f r (f a s)

/-- The numbers below `n` for which `p` holds, rising. -/
def below (n : Nat) (p : Nat → Bool) : List Nat := (List.range n).filter p

end Sys2Proof.Machine
end

