-- ==== Sys2Proof/Machine/FaultTable.lean ====
section
/-! DEFINITION. The fault source table of R614: the default window and escalation of each source, its fixed severity and
its targeted test (R621, R622). -/

namespace Sys2Proof.Machine

/-- The targeted tests of R622. -/
inductive TestKind where
  | se | bc | lane | row | path | dram | port | serdes
  deriving DecidableEq, Repr

/-- The default N of a source (R614). -/
def faultN (s : Nat) : Nat :=
  if s ≤ 0x43 then 3 else if s ≤ 0x4B then 4 else if s ≤ 0x93 then 2 else if s ≤ 0xA1 then 8
  else match s with
    | 0xA2 => 2 | 0xA3 => 1 | 0xA4 => 16 | 0xA5 => 64 | 0xA6 => 3 | 0xA7 => 2 | 0xA8 => 32 | 0xA9 => 1
    | 0xAA => 1 | 0xAB => 3 | 0xAC => 3 | 0xAD => 3 | 0xAE => 4 | 0xAF => 4 | 0xB0 => 8 | 0xB1 => 2
    | 0xB2 => 4 | 0xB3 => 4 | 0xB4 => 4 | 0xB5 => 2 | 0xB6 => 1 | 0xB7 => 8 | 0xB8 => 8 | 0xBD => 2
    | _ => if s ≤ 0xC0 then 1 else 0

/-- The default W of a source, in ms (R614). -/
def faultW (s : Nat) : Nat :=
  if s ≤ 0x4B then 60000 else if s ≤ 0xA1 then 10000
  else match s with
    | 0xA2 => 60000 | 0xA6 => 60000 | 0xA7 => 60000 | 0xAB => 60000 | 0xAC => 60000 | 0xAD => 60000
    | 0xAE => 60000 | 0xB1 => 60000 | 0xB2 => 60000 | 0xB3 => 10000 | 0xB4 => 60000 | 0xB5 => 60000
    | 0xBD => 60000
    | _ => if s ≤ 0xC0 then 1000 else 0

/-- The default ESC of a source (R614). -/
def faultEsc (s : Nat) : Bool :=
  s ≤ 0x43 || (0x4C ≤ s && s ≤ 0x93) || [0xA2, 0xA6, 0xA7, 0xAB, 0xAC, 0xAD, 0xB1, 0xB3].contains s

/-- The fixed severity C320 of a source (R614): severe in compatibility mode. -/
def faultC320 (s : Nat) : Bool :=
  s ≤ 0x93 ||
  (s ≤ 0xC0 && !(List.contains [0xA3, 0xA4, 0xA5, 0xA8, 0xAF, 0xB0, 0xB2, 0xB7, 0xB8] s) && !(0x94 ≤ s && s ≤ 0xA1))

/-- The word of a source on FLT page 0x0D1 with the defaults of R614 (R640). -/
def faultDefaultWord (s : Nat) : Nat :=
  (faultEsc s).toNat * 2 ^ 31 + (faultC320 s).toNat * 2 ^ 30 + faultN s * 2 ^ 16 + faultW s

/-- The targeted test that an event of a source starts on the unit with this index (R614); SERDES lanes 2 to 5 have
none. -/
def faultTest (s idx : Nat) : Option TestKind :=
  if s ≤ 0x43 then some .se
  else if s ≤ 0x4B then some .row
  else if s ≤ 0x93 then some .lane
  else if s ≤ 0xA1 then (if 2 ≤ idx ∧ idx ≤ 5 then none else some .serdes)
  else match s with
    | 0xA2 => some .se | 0xA6 => some .bc | 0xA7 => some .bc | 0xAB => some .row | 0xAC => some .row
    | 0xAD => some .row | 0xAE => some .dram | 0xB1 => some .path | 0xB2 => some .row | 0xB3 => some .port
    | 0xBD => some .row
    | _ => none

/-- The duration of a targeted test (R622), in cc for SE, BC and summing lane tests and in fc otherwise (R642); the port
test is given for 48 kHz framing and the SERDES test for 25.78125 Gb/s. -/
def testTime : TestKind → Nat
  | .se => 4224 | .bc => 14464 | .lane => 288 | .row => 1024 | .path => 512 | .dram => 3000
  | .port => 62500 | .serdes => 30504

end Sys2Proof.Machine
end

