-- ==== Sys2Proof/Machine/State.lean ====
section
/-! DEFINITION. The state of the block as plain data, the reasons a step can stop, and the state after reset. -/

namespace Sys2Proof.Machine

/-! ## Clocks and time (R26, R30, R31, R344, R345) -/

/-- The clock tree and the boundary lattice. All positions are counted in edges of the 3.0 GHz root from device reset. -/
structure Clk where
  /-- root edges since device reset -/
  now    : Nat := 0
  /-- the reference boundary of R30 has been placed and boundaries run from it -/
  placed : Bool := false
  /-- root edge of the reference boundary (R30) -/
  ref    : Nat := 0
  /-- exact position of the last boundary, in root edges from the reference boundary (R31) -/
  pos    : Nat := 0
  /-- sample periods begun since the reference boundary -/
  idx    : Nat := 0
  /-- CCLK root divider in force: 2, 3 or 4 (R26) -/
  div    : Nat := 2
  deriving DecidableEq, Repr

/-- One measurement pair kept by a PTP servo: the SYNC value before a DELAY push and its D, in 2^-16 ns (R357). -/
structure DelayPair where
  s : Int
  d : Int
  deriving DecidableEq, Repr

/-- A PTP servo (R356 to R358). -/
structure Servo where
  /-- last SYNC value S, in 2^-16 ns -/
  lastS   : Option Int := none
  /-- the last 16 DELAY pushes, newest first -/
  pairs   : List DelayPair := []
  /-- last offset, in 2^-16 ns -/
  offset  : Int := 0
  /-- root edge of the last DELAY push that yielded D (R358) -/
  mpdAt   : Nat := 0
  deriving DecidableEq, Repr

/-- A Heliostat candidate (R311 to R319): what its page does not hold. -/
structure HelCand where
  /-- root edge since which it has been active without a loss -/
  since : Option Nat := none
  /-- root edge of its last activity event -/
  last  : Nat := 0
  /-- root edge of its last accept -/
  accAt : Nat := 0
  /-- the first compliant instant of the count of R317 has come -/
  compl : Bool := false
  /-- it has a measurement from the last instant -/
  meas  : Bool := false
  /-- reason of its last loss of activity (R313) -/
  why   : Nat := 0
  deriving DecidableEq, Repr

/-- Heliostat (R314 to R335): what its pages do not hold. Frequencies in ppb. -/
structure Hel where
  cands   : Tbl HelCand := []
  /-- root edge of the last measurement instant -/
  inst    : Nat := 0
  /-- root edge at which the present state was entered -/
  since   : Nat := 0
  /-- root trim at the last instant or transition, and when -/
  trim    : Int := 0
  trimAt  : Nat := 0
  /-- mean F_ref over each of the last eighths of a second, in thousandths of a ppb, newest first (R314, R315) -/
  means   : List Int := []
  /-- trims recorded while LOCKED since the last FREERUN, newest first, at most 480 (R327) -/
  records : List Int := []
  /-- holdover frequency of the present HOLDOVER, a sum and a count -/
  hold    : Int × Nat := (0, 1)
  /-- successive instants at which the servo's offset exceeded 1 ms (R348) -/
  far     : Nat := 0
  /-- the trim stands at its limit (R333) -/
  limited : Bool := false
  deriving DecidableEq, Repr

/-- An entry of the TX timestamp FIFO (R355): the record of R354 and its cookie. -/
structure TxTs where
  words  : List Word
  port   : Nat
  cookie : Nat
  deriving DecidableEq, Repr

/-- The PTP clock (R345), its pending step, its servos and the TX timestamp FIFO. -/
structure PtpClk where
  /-- value at edge `at0`, in thirds of a nanosecond -/
  base    : Nat := 0
  /-- root edge at which `base` was taken -/
  at0     : Nat := 0
  /-- the clock runs (it stands in PARK, R347) -/
  run     : Bool := false
  /-- last value at which a seconds carry was taken, in seconds -/
  secSeen : Nat := 0
  /-- a decided step, in base periods, taken at the next base-grid boundary (R348) -/
  step    : Option Int := none
  /-- TIME_STAT.VALID (R347) -/
  valid   : Bool := false
  /-- steps since device reset (TIME_STEP_CNT, wrapping) -/
  steps   : Nat := 0
  /-- servos A and B -/
  servoA  : Servo := {}
  servoB  : Servo := {}
  /-- TX timestamps, oldest first, at most 64 (R355) -/
  txts    : List TxTs := []
  /-- an accepted CAL_SET pair shown from the next carry (R362): year, month, day, hour, minute, second -/
  calSet  : Option (Nat × Nat × Nat × Nat × Nat × Nat) := none
  /-- AUTO was set and the load of the next carry is due (R363) -/
  calLoad : Bool := false
  deriving DecidableEq, Repr

/-! ## Faults (R613 to R646) -/

/-- A fault source's window (R616): open since `t0` (µs of FLT_TIME). -/
structure FltWin where
  opened : Bool := false
  t0     : Nat := 0
  deriving DecidableEq, Repr

/-- A targeted test running or queued (R621). -/
structure FltTest where
  unit    : UnitId
  src     : Nat
  kind    : TestKind
  stamp   : Nat
  ts32    : Nat
  addr    : Word
  /-- the unit is retired whatever the test finds (R617) -/
  esc     : Bool := false
  /-- this event made its source severe -/
  severe  : Bool := false
  running : Bool := false
  /-- root edges at which the unit was suspended and at which the test started -/
  since   : Nat := 0
  begun   : Nat := 0
  deriving DecidableEq, Repr

/-- The fault controller (R615 to R630). -/
structure Flt where
  /-- windows by source -/
  wins    : Tbl FltWin := []
  /-- targeted tests in stamp order, the first four running -/
  tests   : List FltTest := []
  /-- entries logged so far (SEQ of R642) -/
  logSeq  : Nat := 0
  /-- closed interconnect paths by master (R625) -/
  paths   : List Nat := []
  /-- DRAM bursts listed as bad (R625), DRAM offset divided by 64 -/
  badDram : List Nat := []
  /-- sub-units retired or fenced that no register shows -/
  retired : List UnitId := []
  /-- fenced units for which the data plane reschedules at the next boundary (R40) -/
  resched : List UnitId := []
  /-- the watchdog has been armed: root edge of the last kick -/
  wdtKick : Nat := 0
  deriving DecidableEq, Repr

/-! ## Memory substrate (R489 to R528) -/

/-- A request raised at an arbiter and not yet granted (R507). -/
structure Req where
  master : Nat
  access : MemAcc
  /-- interconnect address -/
  addr   : Nat
  /-- root edge at which it was raised -/
  since  : Nat
  /-- it has lost an arbitration -/
  lost   : Bool := false
  /-- last finder hint sent (R510) -/
  hint   : Nat := 0
  deriving DecidableEq, Repr

/-- Per arbiter and requester counters (R511). -/
structure ArbCnt where
  grants  : Nat := 0
  waits   : Nat := 0
  longest : Nat := 0
  cuts    : Nat := 0
  /-- grants received in the present window (R508) -/
  inWin   : Nat := 0
  deriving DecidableEq, Repr

/-- The last response a master received (R492, R494). -/
structure Resp where
  addr : Nat
  err  : Bool
  data : List Byte
  deriving DecidableEq, Repr

/-- A bank lock (R502): the bank, its holder, and the root edge of its grant. -/
structure Lock where
  bank   : Nat
  master : Nat
  addr   : Nat
  since  : Nat
  deriving DecidableEq, Repr

/-- A tagged buffer (R514): class code and owner ID. -/
structure Buf where
  base  : Nat
  size  : Nat
  cls   : Nat
  owner : Nat
  deriving DecidableEq, Repr

/-- A dark-frame pass, waiting or running (R515, R516): the buffer and its new owner. -/
structure Pass where
  base    : Nat
  size    : Nat
  cls     : Nat
  owner   : Nat
  running : Bool := false
  /-- bytes already zeroed -/
  done    : Nat := 0
  /-- an access waits on the buffer (R517) -/
  waited  : Bool := false
  deriving DecidableEq, Repr

/-- A check-value unit's internal register (R520, R522); its settings stand in its page. -/
structure Cvu where
  reg   : Nat := 0
  bytes : Nat := 0
  deriving DecidableEq, Repr

/-- The memory substrate. Byte memories hold every byte that differs from the value an unwritten byte reads as. -/
structure Mem where
  /-- SRAM by offset from 0x1000_0000 (64 MiB) -/
  sram    : Tbl Byte := []
  /-- DRAM by offset from 0x8000_0000 (2 GiB) -/
  dram    : Tbl Byte := []
  /-- requests present at each arbiter, in order of arrival -/
  reqs    : List (Nat × Req) := []
  /-- counters by 64 × arbiter + master -/
  cnt     : Tbl ArbCnt := []
  /-- the last response of each master -/
  resp    : Tbl (Option Resp) := []
  locks   : List Lock := []
  /-- masters whose lock was broken, with its bank: the completing write is discarded when it arrives (R503) -/
  broken  : List (Nat × Nat) := []
  /-- next scrub word of each bank (64 banks) -/
  scrub   : Tbl Nat := []
  bufs    : List Buf := []
  passes  : List Pass := []
  /-- masked masters: a fenced unit's requests (R39) -/
  masked  : List Nat := []
  cvu     : Tbl Cvu := []
  deriving DecidableEq, Repr

/-! ## Host interface (R529 to R557) -/

/-- The recorded completion of a ring command (R552): SEQ and its four words. -/
structure Cpl where
  seq   : Nat
  words : List Word
  deriving DecidableEq, Repr

/-- The command a ring is executing (R553): its descriptor's words. -/
structure RingCmd where
  seq   : Nat
  op    : Nat
  words : List Word
  /-- started in the engine, completion still due -/
  began : Bool := false
  /-- a host interface reset has come since: the completion is recorded and not written (R532) -/
  mute  : Bool := false
  deriving DecidableEq, Repr

/-- A host command ring's internal state (R551 to R555). -/
structure HostRing where
  /-- SEQ of the last doorbell, while descriptors up to it remain to be fetched, and the SEQ whose slot is fetched next -/
  doorbell : Option Nat := none
  cursor   : Nat := 0
  /-- the last 256 accepted SEQ with their completions, newest first -/
  records  : List Cpl := []
  cmd      : Option RingCmd := none
  /-- completions that wait for a slot of the completion ring, oldest first (R552, R553) -/
  replay   : List Cpl := []
  /-- EN was cleared while a command runs: the ring stops after it (R555) -/
  stopping : Bool := false
  deriving DecidableEq, Repr

/-- An MSI-X vector (R544): its masks and the root edge of its last message. -/
structure Vector where
  masked  : Bool := true
  last    : Option Nat := none
  pending : Bool := false
  sent    : Nat := 0
  deriving DecidableEq, Repr

/-- The host interface. -/
structure HostIf where
  rings      : Tbl HostRing := []
  vectors    : Tbl Vector := []
  msixOn     : Bool := false
  msixMask   : Bool := false
  /-- Bus Master Enable, link up and not D3hot: writes toward host memory go out (R533) -/
  busMaster  : Bool := false
  linkUp     : Bool := false
  d3hot      : Bool := false
  /-- bytes the engine has written to host memory, by host address -/
  mem        : Tbl Byte := []
  /-- value of the last register read of each plane, and whether it ended in an abort or error response -/
  readHost   : List Word := []
  readMgmt   : List Word := []
  abortHost  : Bool := false
  abortMgmt  : Bool := false
  deriving DecidableEq, Repr

/-! ## Modes, management, power (R558 to R612) -/

/-- A mode or rate transition in progress (R81, R559 to R562). -/
inductive Trans where
  | none
  /-- START is running; `step` steps are complete (R558) -/
  | start (step : Nat) (plane : Option Plane := Option.none)
  /-- into START, MAINT, SHOW or FOLLOW: waiting for the first boundary; into SHOW or FOLLOW silence and ramp in follow (R37, R561) -/
  | enter (mode : Nat) (plane : Option Plane)
  | fill (mode : Nat) (plane : Option Plane)
  | rampIn (mode : Nat) (plane : Option Plane)
  /-- output ramp before a stop (R561) -/
  | stop (mode : Nat) (plane : Option Plane)
  /-- SHOW to HOLD or HOLD to SHOW at the egress ramp (R562) -/
  | hold (mode : Nat) (plane : Option Plane)
  /-- a rate change (R81): step 1 ramp out, 2 wait, 4 silence, 5 ramp in -/
  | rate (step : Nat) (rate : Nat) (plane : Option Plane)
  /-- planned give-up running (R560) -/
  | giveUp (plane : Option Plane)
  /-- the data plane has stopped on the way to PARK: the shutdown sequence runs (R633) -/
  | shutdown (plane : Option Plane)
  /-- thermal SHUTDOWN: the data plane stops at the next boundary, without a ramp (R559) -/
  | heat
  deriving DecidableEq, Repr

/-- A mode request waiting to take effect at a sample boundary (R37). -/
structure ModeReq where
  plane : Plane
  mode  : Nat
  full  : Bool := false
  deriving DecidableEq, Repr

/-- The mode machine: what no register of the MODE page holds. -/
structure ModeSt where
  trans     : Trans := .start 0
  /-- samples left in the step of the transition that runs -/
  left      : Nat := 0
  /-- FULL_CHECK was requested for the next START (R566, R632) -/
  fullCheck : Bool := false
  /-- the data plane runs -/
  running   : Bool := false
  /-- gain of the HOLD ramp in 64ths (R562) -/
  holdGain  : Nat := 64
  /-- gain of the output ramps of R81 and R561 in 64ths -/
  outGain   : Nat := 0
  /-- BIST_NOW_SEC was written: root edge (R632) -/
  nowSecAt  : Option Nat := none
  /-- root edge at which the START that runs, or ran last, began -/
  startAt   : Nat := 0
  /-- the START that runs passed through the device reset (R572: ARB applies then only) -/
  fromReset : Bool := true
  /-- test results of step 2 that step 4 repairs: failing rows (bank, row) -/
  rows      : List (Nat × Nat) := []
  deriving DecidableEq, Repr

/-- One health record of the flash (R634). -/
structure Health where
  seq       : Nat
  kind      : Nat
  good      : Bool
  timeValid : Bool
  full      : Bool
  sec       : Nat
  logicFail : Nat
  rows      : List (Nat × Nat)
  uptime    : Nat
  deriving DecidableEq, Repr

/-- The key store (R576 to R581): what no register shows. Keys are byte strings. -/
structure KeyStore where
  key0     : Option (List Byte) := none
  key1     : Option (List Byte) := none
  /-- envelope words written so far, oldest first -/
  envelope : List Word := []
  /-- a scan chain is enabled or has been since the last load: the device key's read path is closed -/
  closed   : Bool := false
  deriving DecidableEq, Repr

/-- A flash command or a provisioning commit in progress (R571, R574). -/
inductive FlashOp where
  | none
  | erase (addr : Nat)
  | program (addr : Nat) (data : List Byte)
  | read (addr dst : Nat)
  | commit (image : List Byte)
  deriving DecidableEq, Repr

/-- A burn of the eFuse table in progress (R638): entries still to burn, (bank, row, spare). -/
structure Burn where
  left : List (Nat × Nat × Nat)
  deriving DecidableEq, Repr

/-- One soft or fused repair (R637): bank, failing row, spare row. -/
structure Repair where
  bank  : Nat
  row   : Nat
  spare : Nat
  fused : Bool
  deriving DecidableEq, Repr

/-- The management plane: flash, fuses, keys, provisioning, fan and BIST state. -/
structure Mgmt where
  /-- QSPI NOR by offset; an unlisted byte reads 0xFF (erased) -/
  flash     : Tbl Byte := []
  flashOp   : FlashOp := .none
  keys      : KeyStore := {}
  /-- the controller stays in the boot ROM with no valid slot (R569) -/
  inRom     : Bool := false
  booted    : Bool := false
  /-- the watchdog restarted the controller at the boot ROM -/
  restarts  : Nat := 0
  /-- SHED priorities by strip index 0-3071; default 8 (R629) -/
  shedPri   : Tbl Nat := []
  /-- LANE_TX record body words -/
  laneTx    : List Word := []
  /-- IDENT record body words -/
  ident     : List Word := []
  /-- FAN record: T_LO, T_HI in 0.25 °C, D_LO, D_HI in 0.1 %, TACH_MIN, pulses (R603) -/
  fanTLo    : Int := 240
  fanTHi    : Int := 380
  fanDLo    : Nat := 300
  fanDHi    : Nat := 1000
  fanTach   : Nat := 600
  fanPulses : Nat := 2
  /-- KEYCTR floors in force -/
  ctrFloor0 : Nat := 0
  ctrFloor1 : Nat := 0
  repairs   : List Repair := []
  burn      : Option Burn := none
  /-- eFuse entries consumed -/
  fuseUsed  : Nat := 0
  /-- rows withheld from allocation: bank, row (R637) -/
  withheld  : List (Nat × Nat) := []
  /-- failing rows of the MARCH_FIFO, oldest first -/
  marchFifo : List (Nat × Nat) := []
  marchRun  : Bool := false
  /-- MARCH_REQ as the march under way took it -/
  marchReq  : Nat := 0
  deriving DecidableEq, Repr

/-- A supply rail (R591): consecutive samples below the warning and the reset thresholds, warning start. -/
structure Rail where
  belowWarn  : Nat := 0
  belowReset : Nat := 0
  warning    : Bool := false
  since      : Nat := 0
  deriving DecidableEq, Repr

/-- Power, supplies, thermal and fans. -/
structure Power where
  rails     : Tbl Rail := []
  /-- every rail has been above its warning threshold since this root edge, receipt still held (R593) -/
  holdFrom  : Option Nat := none
  /-- move receipt is held (R271) -/
  hold      : Bool := false
  /-- sensors set aside -/
  aside     : List Nat := []
  /-- reading and ms for which each sensor has read unchanged -/
  same      : Tbl (Int × Nat) := []
  /-- ms for which every reading has been above WARN, SHED, SHUTDOWN -/
  above     : Tbl Nat := []
  /-- ms for which every reading has been below each threshold minus 5 °C -/
  under     : Tbl Nat := []
  /-- ms since the last state change -/
  sinceChg  : Nat := 1000
  /-- THERMTRIP_N is asserted (R599) -/
  tripped   : Bool := false
  /-- PARK_N is asserted low (R585) -/
  parkN     : Bool := false
  /-- domains that are waking, with the root edge of the wake -/
  waking    : Tbl Nat := []
  /-- highest threshold crossed upward and not since crossed downward; ms spent in SHED (R596, R607) -/
  crossed   : Nat := 0
  shedMs    : Nat := 0
  /-- root edges of the last sample of the rails and of the sensors -/
  supAt     : Nat := 0
  thermAt   : Nat := 0
  /-- a divider request in progress: the new divider code and 0 waiting for the boundary, 1 waiting for the rail -/
  dvfs      : Option (Nat × Nat) := none
  deriving DecidableEq, Repr
/-! ## Scene engine (R252 to R295) -/

/-- A gain in use: off, a level of c/d hundredths of a dB, or a linear gain of n/d (a RAMP_LIN in progress). -/
inductive GainVal where
  | off
  | db (c : Int) (d : Nat)
  | lin (n d : Nat)
  deriving DecidableEq, Repr

/-- The word a move names (R252): TKIND and TARGET. -/
structure MoveTarget where
  kind : Nat
  addr : Nat
  deriving DecidableEq, Repr

/-- A parameter move held in a slot or the live lane (R252, R259): its rule resolved by R254, and the derivation cc it
still owes (0: staged, R263). -/
structure SMove where
  target : MoveTarget
  value  : Nat
  /-- 1 STEP, 2 RAMP_LIN, 3 RAMP_DB, 4 XFADE_SECTION, 5 HOLD_MUTE -/
  rule   : Nat
  dur    : Nat
  tag    : Nat
  derive : Nat := 0
  deriving DecidableEq, Repr

/-- A committed move in flight (R255, R256). -/
structure RunMove where
  target : MoveTarget
  slot   : Nat
  rule   : Nat
  dur    : Nat
  /-- word in effect before the Meridian, and the new word -/
  old    : Nat
  value  : Nat
  /-- gain in effect before the Meridian, for ramps -/
  start  : GainVal
  /-- sample index of the Meridian (or of the first sample of a deferred pair) -/
  first  : Nat
  /-- a deferred crossfade that has not begun (R274) -/
  defer  : Bool := false
  /-- a dip under which another move has taken over the word: no change of value at its silent sample (R273) -/
  mute   : Bool := false
  /-- multiplier a dip starts from, in a fraction (R273); 1/1 otherwise -/
  mulN   : Nat := 1
  mulD   : Nat := 1
  deriving DecidableEq, Repr

/-- What attaches to a slot beside its report page (R266). -/
structure Slot where
  moves  : List SMove := []
  /-- the trigger has fired -/
  fired  : Bool := false
  /-- order of attachment among slots (R268) -/
  order  : Nat := 0
  cue    : Nat := 0
  edge   : Nat := 0
  /-- records received so far, kept or not (their index in a report) -/
  seen   : Nat := 0
  /-- the sample at which the slot commits (set at its cutoff, R266) -/
  commit : Option Nat := none
  /-- a move of this slot failed at receipt: first status recorded, or 0 -/
  failed : Nat := 0
  /-- the trigger fired and the cutoff it needed has passed unstaged (R269) -/
  missed : Bool := false
  deriving DecidableEq, Repr

/-- A scene image load in progress (R287). -/
structure ImageLoad where
  who  : Origin
  slot : Nat
  /-- from DRAM (true) or host memory -/
  dram : Bool
  addr : Nat
  cvu  : Nat
  /-- the image has passed, and its slot is deriving -/
  closing : Bool := false
  deriving DecidableEq, Repr

/-- The scene engine. -/
structure Scn where
  slots  : Tbl Slot := []
  /-- uncommitted live moves, oldest first; those staged by a cutoff bear the sample at which they commit -/
  live   : List (SMove × Option Nat) := []
  runs   : List RunMove := []
  /-- attachments so far -/
  orders : Nat := 0
  load   : Option ImageLoad := none
  deriving DecidableEq, Repr

/-- Kinds of Ephemeris entries (R277). -/
inductive EphKind where
  | commit (slot : Nat)
  | cueOut (line : Nat) (pol : Bool) (width : Nat)
  | netLaunch (stream : Nat) (leg : Nat)
  deriving DecidableEq, Repr

/-- An Ephemeris entry: its time in ns, its kind and handle, in order of insertion. -/
structure EphEntry where
  time   : Nat
  kind   : EphKind
  handle : Nat
  /-- a step of the PTP clock has passed it (R280): it fires at the next boundary -/
  passed : Bool := false
  deriving DecidableEq, Repr

/-- A pulse on a cue output (R281): polarity, start and end in root edges. -/
structure Pulse where
  line  : Nat
  pol   : Bool
  start : Nat
  stop  : Nat
  deriving DecidableEq, Repr

/-- The Ephemeris and the cue lines. -/
structure Eph where
  entries : List EphEntry := []
  pulses  : List Pulse := []
  /-- level driven on each CUE_OUT line, by line -/
  lines   : Tbl Bool := []
  /-- idle level of each line after its last pulse -/
  idle    : Tbl Bool := []
  handles : Nat := 0
  deriving DecidableEq, Repr
/-! ## Data path (R60 to R139, R213 to R251, R296 to R310) -/

/-- What one source has landed in its ingress buffer (R296, R297, R420). -/
structure Ingress where
  /-- landed and not yet latched: root edge and sample, oldest first -/
  queue : List (Nat × Word) := []
  /-- the sample latched last -/
  cur   : Word := 0
  /-- a sample was latched at some boundary -/
  had   : Bool := false
  deriving DecidableEq, Repr

/-- A conversion lane (R73 to R80). -/
structure Lane where
  /-- state code of R75 -/
  state : Nat := 0
  /-- measured ratio of input rate to internal rate, × 2^28 (R76) -/
  ratio : Nat := 0
  /-- measured input rate, Hz -/
  rate  : Nat := 0
  /-- samples of filter history filled since the lane took its entry (R76, R80) -/
  fill  : Nat := 0
  /-- MODEL's own: filter history; R74 fixes no arithmetic -/
  hist  : Nat := 0
  /-- samples done of the ramp of LOCKED or UNLOCK (R75) -/
  ramp  : Nat := 0
  /-- input is present -/
  input : Bool := false
  /-- root edge at which ACQUIRE was entered; the measured ratio was kept (R80) -/
  acqAt : Nat := 0
  keep  : Bool := false
  /-- entry word in use -/
  entry : Nat := 0xFFF
  /-- the lane's output of the period just ended -/
  out   : Word := 0
  /-- dip of a lane move whose strips wait for LOCKED (R79), 0 none, and samples done of their return -/
  back  : Nat := 0
  backK : Nat := 0
  deriving DecidableEq, Repr

/-- A Loop Guard notch (R121 to R123): what its report word does not hold. Depths in half dB. -/
structure Notch where
  /-- depth at the start of the glide -/
  src  : Nat := 0
  /-- samples done of the glide of 64 -/
  k     : Nat := 64
  /-- root edge of the last deepening, and of the last relaxation step -/
  since : Nat := 0
  /-- order of placement -/
  order : Nat := 0
  deriving DecidableEq, Repr

/-- The state of one strip (R98, R118): what no report word holds. -/
structure Strip where
  live   : Bool := false
  /-- source sample taken for the strip's next period -/
  feed   : Word := 0
  /-- samples done of the return ramp of a DIRECT source (R71); 32 is full level -/
  dirK   : Nat := 32
  /-- lookahead line, newest first (R104) -/
  look   : List Word := []
  /-- MODEL's own: states of filter sections and dynamics blocks by block offset; old copies of a pair at offset + 512.
  R671 fixes no arithmetic -/
  cells  : Tbl Nat := []
  /-- signal at insert point 1 in the period just ended (R106) -/
  point1 : Word := 0
  /-- 24-bit send of the period just ended (R108) -/
  send   : Nat := 0
  /-- last input of the delay line, with its misses counted in `miss` (R112), and previous delayed sample -/
  dlyIn  : Word := 0
  dlyOut : Word := 0
  /-- Automix gain at the last update and its target, in 0.01 dB as fractions; samples since and in the interval (R128) -/
  amOld  : Int × Nat := (0, 1)
  amNew  : Int × Nat := (0, 1)
  amK    : Nat := 0
  amN    : Nat := 0
  /-- Automix gain now -/
  amNow  : Int × Nat := (0, 1)
  /-- result and direct out of the period just ended -/
  res    : Word := 0
  dout   : Word := 0
  /-- consecutive misses (R135) -/
  miss   : Nat := 0
  /-- samples left of the 32-sample ramp-in from silence (R135, R139, R204) -/
  fade   : Nat := 0
  /-- samples of silence before that ramp; the strip does not deliver (R204, R628) -/
  mute   : Nat := 0
  /-- samples left of a ramp to silence before a shedding (R628) -/
  fall   : Nat := 0
  notches : Tbl Notch := []
  /-- signals at the meter taps of the period just ended, by tap code (R243) -/
  taps   : List Word := []
  deriving DecidableEq, Repr

/-- An offset that a crosspoint keeps after a tag change (R230). -/
structure TagRun where
  /-- offset kept up to and including period `last` -/
  old  : Nat := 0
  last : Nat := 0
  /-- a tag ramp of 32 samples follows -/
  ramp : Bool := false
  deriving DecidableEq, Repr

/-- What a meter point has gathered in the present frame (R244). -/
structure Meter where
  /-- the point's word in force -/
  word  : Nat := 0
  peak  : Nat := 0
  sumSq : Nat := 0
  last  : Nat := 0
  worst : Nat := 0
  deriving DecidableEq, Repr

/-- The meter stream and the Eyepiece taps (R245 to R250): frame or block in progress. -/
structure Frame where
  running : Bool := false
  /-- samples gathered, and the TS32 of the first boundary -/
  count   : Nat := 0
  ts32    : Nat := 0
  /-- settings in force: FRATE or the point word, base and slots -/
  sel     : Nat := 0
  base    : Nat := 0
  slots   : Nat := 0
  /-- a frame before this one was discarded -/
  discont : Bool := false
  seq     : Nat := 0
  /-- samples of an Eyepiece block, oldest first -/
  data    : List Word := []
  /-- blocks left of a one-shot -/
  left    : Nat := 0
  deriving DecidableEq, Repr

/-- The Automix, Loop Guard and meter timers' last events, and the data path's samples. -/
structure Data where
  src    : Tbl Ingress := []
  lanes  : Tbl Lane := []
  ins    : Tbl Strip := []
  outs   : Tbl Strip := []
  /-- history rings by fabric source ID, newest first (R228); own cascade partials by 4096 + bus -/
  hist   : Tbl (List Word) := []
  /-- bus samples of the period just ended (R216) -/
  bus    : Tbl Word := []
  /-- partner partials by 4096 × bus + sample index mod 4096 (R233) -/
  casc   : Tbl (Option Word) := []
  /-- samples done of the partner ramp after the cascade came up (R234) -/
  cascK  : Nat := 32
  /-- tags in effect by fabric source ID (R228) -/
  tags   : Tbl Nat := []
  tagRuns : Tbl TagRun := []
  /-- sends given to the Bridge cores at the last boundary, returns collected there: 24-bit words by channel (R172) -/
  sends  : Tbl Nat := []
  rets   : Tbl Nat := []
  /-- egress buffers by destination ID: internal words not yet taken, oldest first, at most 2 (R298, R420) -/
  egress : Tbl (List Word) := []
  /-- the word last written to each egress buffer in the present period (R243) -/
  egrNow : Tbl Word := []
  /-- samples done of an express route's return ramp, from 0 while it is silent (R238) -/
  exp    : Tbl (Option Nat) := []
  /-- express samples on their way (R309): root edge at which each is visible to the port, destination and word -/
  expFly : List (Nat × Nat × Word) := []
  /-- MODEL's own: states of the decimation filters by destination (R242) -/
  decim  : Tbl Nat := []
  meters : Tbl Meter := []
  frame  : Frame := {}
  eyes   : Tbl Frame := []
  /-- positions, in root edges from the reference boundary, of the last Automix update and Loop Guard frame end -/
  amAt   : Nat := 0
  lgAt   : Nat := 0
  /-- notches placed so far -/
  lgNum  : Nat := 0
  /-- engine's own strips, where a migration or a shedding has moved them from R86 -/
  shed   : List Nat := []
  /-- strips ramping out before SHED_STOP, with the displaced strips that take their slots, and the boundary (R628) -/
  shedding : List Nat := []
  displaced : List Nat := []
  shedAt : Nat := 0
  /-- the engine that serves a working slot of R86, where it is not its own -/
  slotEng : Tbl Nat := []
  /-- Loop Guard frames have their doubled length (R137) -/
  lgLong : Bool := false
  /-- ramps end at their targets from the next boundary and new ramps are refused until R fits (R226) -/
  overBudget : Bool := false
  /-- fenced port channels (R625), receivers by number, transmitters from 64: 1 before the first boundary, then samples done of the
  64-sample mute, plus two -/
  chMute : Tbl Nat := []
  deriving DecidableEq, Repr
/-! ## Ports (R368 to R434) -/

/-- A local receiver (AES3 0 to 31, MADI 32 to 35, TDM 36 to 59): what its page does not hold. -/
structure PortRx where
  /-- consecutive good frames toward LOCK (R406, R414) -/
  good   : Nat := 0
  /-- root edge of the last valid frame -/
  lastAt : Nat := 0
  /-- frames of the present block, with BLK held, and whether one carried V = 1 -/
  pos    : Nat := 0
  vSeen  : Bool := false
  /-- C and U bits of the present block, oldest first: 4 bits a frame, [0] C of A, [1] U of A, [2] C of B, [3] U of B -/
  bits   : List Nat := []
  /-- last good sample by channel -/
  last   : Tbl Word := []
  /-- samples done of the ramp of R407, and whether the port was clocked from the media clock when it began -/
  ramp   : Option Nat := none
  media  : Bool := false
  /-- last measured frame rate, Hz; 0 if never measured -/
  rate   : Nat := 0
  /-- phase against the base grid, in root edges, that R403 holds the port to, and root edge since it has held -/
  phase  : Option Int := none
  phaseAt : Nat := 0
  /-- root edge since which the fill has stayed within ±1 frame of its target (R423) -/
  fillAt : Option Nat := none
  /-- a TDM port waits for a frame-sync edge (R417, R418) -/
  waitFs : Bool := true
  deriving DecidableEq, Repr

/-- A local transmitter (AES3 0 to 31, MADI 32 to 35, TDM 36 to 59). -/
structure PortTx where
  /-- frames sent since it started; a block begins at each multiple of 192 (R412) -/
  frames : Nat := 0
  /-- channel-status and user words in effect since the last Z preamble (R412) -/
  cs     : List Word := []
  user   : List Word := []
  /-- the last frame on the line: per slot, 24 audio bits in [27:4] and V, U, C, P in [28], [29], [30], [31] -/
  line   : List Nat := []
  /-- last word sent by slot -/
  sent   : Tbl Nat := []
  deriving DecidableEq, Repr

/-- A ball whose function changes (R426): the outgoing function word, the incoming one, and the step reached. -/
structure BallSwitch where
  ball : Nat
  old  : Nat
  new  : Nat
  /-- 0 Meridian, 1 released, 2 taken -/
  step : Nat := 0
  deriving DecidableEq, Repr

/-- The local ports. -/
structure Ports where
  /-- root edge at which a VCXO output's CODE last moved (R422) -/
  vcxoAt : Tbl Nat := []
  rx    : Tbl PortRx := []
  tx    : Tbl PortTx := []
  balls : List BallSwitch := []
  deriving DecidableEq, Repr

/-- An RX stream's jitter buffer and timers (R378 to R383). -/
structure RxStream where
  /-- samples held: media index (R379) and the samples of every channel, in order of index -/
  buf    : List (Nat × List Word) := []
  /-- root edge of the last accepted packet, and of the last packet delivered on each leg -/
  lastAt : Nat := 0
  legA   : Option Nat := none
  legB   : Option Nat := none
  /-- next RTP sequence number expected on each leg -/
  seqA   : Option Nat := none
  seqB   : Option Nat := none
  /-- end of the media indices already delivered or, before the first, the first accepted index; none since WAIT -/
  done   : Option Nat := none
  /-- an ASYNC stream's loop has restarted and waits for a depth of LINK_OFS (R380) -/
  fill   : Bool := true
  deriving DecidableEq, Repr

/-- A built packet waiting for its launch (R385, R386): launch time in thirds of a ns, its RTP fields and payload. -/
structure TxPacket where
  launch  : Nat
  seq     : Nat
  rtp     : Nat
  marker  : Bool
  payload : List Byte
  deriving DecidableEq, Repr

/-- A TX stream (R384 to R391). -/
structure TxStream where
  /-- the packet being gathered: payload and sample times so far, stamp of its first sample and its launch, in thirds of a ns -/
  data   : List Byte := []
  count  : Nat := 0
  stamp  : Nat := 0
  launch : Nat := 0
  mark   : Bool := false
  /-- next sequence number; the next packet begun carries the marker -/
  seq    : Nat := 0
  marker : Bool := true
  ready  : List TxPacket := []
  deriving DecidableEq, Repr

/-- A ring command's descriptor on a network ring (R393): its words. -/
structure NetDesc where
  seq   : Nat
  words : List Word
  deriving DecidableEq, Repr

/-- A network ring (R392 to R395): accepted descriptors and recorded completions. -/
structure NetRing where
  descs   : List NetDesc := []
  records : List Cpl := []
  deriving DecidableEq, Repr

/-- A frame sent on a port: its bytes (without FCS), its start and its end in 150ths of a ns since reset. -/
structure SentFrame where
  port  : Nat
  bytes : List Byte
  start : Nat
  stop  : Nat
  deriving DecidableEq, Repr

/-- The network ports. -/
structure Net where
  rx    : Tbl RxStream := []
  tx    : Tbl TxStream := []
  rings : Tbl NetRing := []
  /-- end of the last audio frame and of the last frame of any kind, by port, in 150ths of a ns since reset -/
  audioEnd : Tbl Nat := []
  frameEnd : Tbl Nat := []
  /-- the last frame sent -/
  sent  : Option SentFrame := none
  deriving DecidableEq, Repr
/-! ## Lanes, Kaztal links and the hot-standby pair (R435 to R488) -/

/-- A SERDES lane's checker (R441): mismatched and checked bits. -/
structure LaneHw where
  err  : Nat := 0
  bits : Nat := 0
  deriving DecidableEq, Repr

/-- A sequenced Kaztal frame: TYPE 1 CASC or 2 MIRROR, its payload bytes, the root edge at which it was last sent and how often. -/
structure KzlFrame where
  seq     : Nat := 0
  typ     : Nat
  payload : List Byte
  sentAt  : Nat := 0
  tries   : Nat := 0
  deriving DecidableEq, Repr

/-- A Kaztal link (R445 to R457): what its page does not hold. Times in root edges. -/
structure Kzl where
  /-- sequenced frames queued and not yet sent, oldest first -/
  queue   : List KzlFrame := []
  /-- the retransmit buffer, oldest first -/
  held    : List KzlFrame := []
  /-- a go-back runs: SEQ of the next frame to resend -/
  back    : Option Nat := none
  /-- further RTX_REQ are ignored until then -/
  deaf    : Nat := 0
  /-- the next link word carries RTX_REQ; when a gap was last requested, while it stands -/
  ask     : Bool := false
  gapAt   : Option Nat := none
  ackOk   : Bool := false
  /-- when the present state was entered, and when bring-up began -/
  since   : Nat := 0
  start   : Nat := 0
  /-- next probe identifier, when the last sixteen were sent, and the last probes received, newest first -/
  probe   : Nat := 0
  sentAt  : Tbl Nat := []
  probes  : List (Nat × Nat) := []
  /-- sum of round trips less turnaround, in UI × 48, and how many; a measurement has completed since UP -/
  rtSum   : Int := 0
  rtN     : Nat := 0
  known   : Bool := false
  /-- partner's sample count at its last placed boundary -/
  count   : Option Nat := none
  /-- KZL_SMP_OFS has been fixed since UP; a differing offset and the ticks it has stood -/
  fixed   : Bool := false
  other   : Nat × Nat := (0, 0)
  /-- partner sample whose CASC frames arrive, and the buses seen in them -/
  smp     : Nat := 0
  seen    : List Nat := []
  /-- the last frame sent, as 64 words -/
  sent    : List DWord := []
  deriving DecidableEq, Repr

/-- A measured decision that waits for its sample (R467): the sample index, KIND, index and value words. -/
structure Meas where
  sample : Nat
  kind   : Nat
  index  : Nat
  v0     : Nat
  v1     : Nat
  deriving DecidableEq, Repr

/-- The hot-standby pair (R461 to R487): what the STBY page does not hold. Times in root edges. -/
structure Stby where
  /-- this engine drives ACTIVE_N low; SEL_OUT and HB_OUT levels; heartbeat toggles -/
  drive    : Bool := false
  sel      : Bool := false
  hb       : Bool := false
  /-- level of ACTIVE_N last confirmed, and when -/
  level    : Bool := true
  levelAt  : Nat := 0
  /-- a claim or a give-up forced this engine's role to depend on a readback at step 4 -/
  hbEdges  : List Nat := []
  /-- partner's last STATUS: when, whether it showed GIVEUP and GAVE_UP, its mode and sync code, its epoch; when one last showed
  the active role -/
  statusAt : Option Nat := none
  pGiveup  : Option Nat := none
  pGaveUp  : Bool := false
  pMode    : Nat := 0
  pSync    : Nat := 0
  pEpoch   : Nat := 0
  activeAt : Option Nat := none
  /-- a give-up runs: its cause and when STATUS with GIVEUP was queued; the SEQ of that frame -/
  giveup   : Option (Nat × Nat) := none
  giveSeq  : Nat := 0
  /-- the line stands low without a heartbeat: no claim until FORCE_CLAIM (R483) -/
  stuck    : Bool := false
  /-- position of the last heartbeat toggle (R476) -/
  hbPos    : Option Nat := none
  /-- the active role was released by a give-up, or the partner's release waits for a decision, since then -/
  released : Option Nat := none
  decideAt : Option Nat := none
  /-- a claim is in progress since the release seen then -/
  relSeen  : Nat := 0
  /-- running CRC register of the present window, own values of past windows, the window begun -/
  crc      : Nat := 0xFFFFFFFF
  window   : Nat := 0
  full     : Bool := false
  own      : List (Nat × Nat) := []
  /-- consecutive matching windows, CONFIRMING timeouts in a row, when CONFIRMING was entered -/
  agree    : Nat := 0
  timeouts : Nat := 0
  since    : Nat := 0
  /-- sent by the active engine while its partner reseeds: the strip that comes next, and the cores whose snapshots have
  gone, each with its sample -/
  next     : Nat := 0
  snaps    : List (Nat × Nat) := []
  /-- cores loaded since: the partner's copy is to be reseeded (R550) -/
  reload   : List Nat := []
  /-- strips reseeded (3,072 for all), words of the strip under way; Bridge cores caught up -/
  seeded   : List Nat := []
  seed     : List Word := []
  cores    : List Nat := []
  /-- the partner's value of the window compared next: window and CRC (R472) -/
  check    : Option (Nat × Nat) := none
  /-- words of PAGE records and mirrored moves by register, with the sample of the newest -/
  newest   : Tbl Nat := []
  /-- measured decisions that wait for their sample -/
  meas     : List Meas := []
  /-- mode of the active engine as mirrored: 4 SHOW or 5 HOLD -/
  pShow    : Nat := 4
  /-- a mirrored mode or rate switch: sample, mode, rate -/
  modeAt   : Option (Nat × Nat × Nat) := none
  /-- a mirrored PTP clock: sample, seconds and the remaining thirds of a ns -/
  timeAt   : Option (Nat × Nat) := none
  /-- slots and the live lane (16) that the standby has reported staged -/
  staged   : List Nat := []
  /-- value words of the recovered clocks taken from the active engine, by RX stream (R467) -/
  rxClocks : Tbl (Nat × Nat) := []
  /-- source classes decided by the active engine (R467) -/
  classes  : Tbl (Option Nat) := []
  deriving DecidableEq, Repr
/-! ## Strip engines and Bridge cores (R140 to R212) -/

/-- A result on its way to a register of a strip engine (R151, R153, R178): register code of R175, the bits it writes (from bit
`lo`, `width` of them), the first bundle that sees it, the bundle that issued it and its slot (1 control, 2 AU, 3 MAC, 4 MV0,
5 MV1). -/
structure SeWrite where
  reg   : Nat
  lo    : Nat := 0
  width : Nat
  val   : Nat
  due   : Nat
  issue : Nat
  slot  : Nat
  deriving DecidableEq, Repr

/-- An update of an address register in the bundle being gathered (R152): by an offset, or to its base. -/
structure SeUpdate where
  slot : Nat
  an   : Nat
  by'  : Int
  base : Bool
  deriving DecidableEq, Repr

/-- An active repeat, with its body and counter (R184). -/
structure SeRepeat where
  first : Nat
  last  : Nat
  lc    : Nat
  deriving DecidableEq, Repr

/-- A division in flight (R160): its operands, the bundle that issued it; a later write has taken its register. -/
structure SeDiv where
  dd    : Nat
  ds    : Nat
  dt    : Nat
  issue : Nat
  lost  : Bool := false
  deriving DecidableEq, Repr

/-- A gather in progress (R164, R165): source (0 X, 1 Y, 2 interconnect), destination memory and first word, base, offsets. -/
structure SeGather where
  src  : Nat
  dsp  : Nat
  dst  : Nat
  base : Nat
  offs : List Nat
  deriving DecidableEq, Repr

/-- What a running handler has saved (R191): code, the bundle to return to and the strip's repeat state. -/
structure SeHandler where
  code : Nat
  pc   : Nat
  reps : List SeRepeat
  deriving DecidableEq, Repr

/-- A strip engine (R140): registers by their code of R175, the event bank's copies at code + 64. -/
structure Se where
  regs    : Tbl Nat := []
  pc      : Nat := 0
  x       : Tbl Word := []
  y       : Tbl Word := []
  prog    : Tbl DWord := []
  /-- bundles issued, cc used, and cc used when the present period began -/
  n       : Nat := 0
  cc      : Nat := 0
  cc0     : Nat := 0
  queue   : List SeWrite := []
  /-- the bundle being gathered: address updates, flags set (V, DZ, SAT bits), Z and N of its ALU operation, the memory its
  first move uses -/
  ups     : List SeUpdate := []
  sticky  : Nat := 0
  zn      : Option Nat := none
  space   : Option Nat := none
  /-- a taken branch: its target and the delay slots still to issue -/
  branch  : Option (Nat × Nat) := none
  reps    : List SeRepeat := []
  /-- the bundle just ended closed an iteration of the innermost repeat -/
  iterEnd : Bool := false
  div     : Option SeDiv := none
  gather  : Option SeGather := none
  handler : Option SeHandler := none
  /-- pending events by code, with the cc at which each was raised; those that have raised EVENT_LATENCY -/
  events  : List (Nat × Nat) := []
  slow    : List Nat := []
  /-- the strip under way and the strip last ended (false input, true output) -/
  strip   : Option (Bool × Nat) := none
  ended   : Bool × Nat := (false, 0)
  /-- entry checkpoint: registers of the strip bank, and the bundle after STRIP_BEGIN -/
  entry   : Tbl Nat := []
  entryPc : Nat := 0
  /-- strips begun and strips delivered in this period: OUT, strip, result, direct out, send -/
  begun   : List (Bool × Nat) := []
  done    : List (Bool × Nat × Word × Word × Nat) := []
  /-- the engine stopped at a gather fault, whose checkpoint a passed test resumes -/
  gfault  : Bool := false
  /-- register selected by SE_QSEL, plus one; 0 none -/
  qsel    : Nat := 0
  deriving DecidableEq, Repr

/-- The loaded strip program: header fields (R202); the vendor strip's are open. A load in progress: image, its passes. -/
structure Prog where
  entry : Nat := 0
  vec   : Nat := 0
  wIn   : Nat := 290
  wOut  : Nat := 290
  /-- accepted image whose write has not begun (R204): its header words and bundles -/
  next  : Option (List Word × List DWord) := none
  /-- the write runs -/
  write : Bool := false
  /-- ring that issued the load; the sample index at which it was accepted; root edge at which the write began -/
  ring  : Nat := 0
  since : Nat := 0
  at'   : Nat := 0
  /-- samples for which strips still deliver silence after a write (R204) -/
  mute  : Nat := 0
  deriving DecidableEq, Repr

/-- A Bridge core (R168 to R173, R209 to R212). -/
structure Bc where
  core    : BcData := {}
  fp      : Nat := 0
  res     : Nat := 1
  parked  : Nat := 0
  /-- events are held: a frame trap's handler runs -/
  held    : Bool := false
  /-- the sample event is pending; the core has executed WAITS since the last boundary and waits -/
  event   : Bool := false
  waits   : Bool := false
  /-- stopped: no code has been started, a load is being written, or a double trap -/
  halted  : Bool := true
  /-- its channels run as in an overrun in the period just ended (R173) -/
  dry     : Bool := true
  /-- root edge of its last sample event -/
  at'     : Nat := 0
  /-- register selected by BC_QSEL, plus one -/
  qsel    : Nat := 0
  /-- a load in progress: CHAN_MASK and words; its ring; the sample index at which it was accepted, or written -/
  load    : Option (Nat × List Nat) := none
  ring    : Nat := 0
  since   : Nat := 0
  /-- its words are written and wait for the boundary that starts the core -/
  ready   : Bool := false
  /-- a reseed of this core runs: its snapshot loads or it catches up (R475) -/
  reseed  : Bool := false
  /-- sends of the samples since the snapshot that the core has not taken, 32 words a sample, oldest first -/
  log     : List Nat := []
  deriving DecidableEq, Repr
/-! ## The machine -/

/-- The whole state of the block. -/
structure State where
  /-- commands waiting, first in first out -/
  pending : List Instr := []
  clk     : Clk := {}
  ptp     : PtpClk := {}
  hel     : Hel := {}
  /-- register words that differ from their reset value, by BAR0 byte offset; per-plane copies stand at
  offset + 2^24 (host) and offset + 2^25 (manager) -/
  regs    : Tbl Word := []
  /-- words of the frozen pages as they stood when FREEZE took effect (R537), by page -/
  frozen  : Tbl (Tbl Word) := []
  /-- MODEL's own: how many free values have been drawn -/
  free    : Nat := 0
  /-- item selected by each query register (R84) -/
  sel     : Tbl Nat := []
  flt     : Flt := {}
  mem     : Mem := {}
  host    : HostIf := {}
  mode    : ModeSt := {}
  mgmt    : Mgmt := {}
  pwr     : Power := {}
  scn     : Scn := {}
  eph     : Eph := {}
  dp      : Data := {}
  ports   : Ports := {}
  net     : Net := {}
  lanes   : Tbl LaneHw := []
  kzl     : Tbl Kzl := []
  stby    : Stby := {}
  se      : Tbl Se := []
  prog    : Prog := {}
  bc      : Tbl Bc := []
  deriving DecidableEq, Repr

/-- Reasons for which a step stops with a fault. -/
inductive Fault where
  /-- raised by no meaning of this model: every stop of the spec's hardware is an effect on the state. Safe. -/
  | unraised
  deriving DecidableEq, Repr

/-- Reasons for which the model gives no meaning. -/
inductive Refusal where
  /-- the command's arm of `exec` has no meaning yet. Safe. -/
  | notModelled (mnemonic : String)
  deriving DecidableEq, Repr

/-- The outcome of a command. -/
abbrev Out := Host.Outcome State Fault Refusal

/-- The machine right after reset: every register word at its reset value (an empty table), every queue empty,
memory with nothing listed. -/
def State.reset : State := {}

end Sys2Proof.Machine
end

