-- ==== Sys2Proof/Machine/Gain.lean ====
section
/-! DEFINITION. Gains: the linear gain of a GAIN16 level, its coefficients (R216, R668), ramps and multipliers (R255, R669,
R670). -/

namespace Sys2Proof.Machine

/-- ln(10)/2000 and ln(2), scaled by 2^192. -/
def ln10Over2000 : Nat := 7226780441554212935187217868863697332521711957413681951
def ln2Fixed : Nat := 4350955369971217654477563090224794165364344896676135745069

/-- Terms of the exponential series from term `n` on, scaled by 2^192. -/
def expTerms : Nat → Nat → Nat → Nat → Nat
  | 0, _, _, _ => 0
  | fuel + 1, n, term, r => term + expTerms fuel (n + 1) (term * r / 2 ^ 192 / (n + 1)) r

/-- 10^(c / (2000 d)) as a fraction: exact where the exponent is whole, else from an expansion to 2^-160. DEDUCED (log entry 52). -/
def dbToLin (c : Int) (d : Nat) : Nat × Nat :=
  if c % (2000 * (d : Int)) = 0 then
    let k := c / (2000 * (d : Int))
    if 0 ≤ k then (10 ^ k.toNat, 1) else (1, 10 ^ (-k).toNat)
  else
    let y : Int := (c * ln10Over2000).fdiv d
    let i : Int := y.fdiv ln2Fixed
    let r : Nat := (y - i * ln2Fixed).toNat
    let e := expTerms 60 0 (2 ^ 192) r
    if 0 ≤ i then (e * 2 ^ i.toNat, 2 ^ 192) else (e, 2 ^ 192 * 2 ^ (-i).toNat)

/-- The linear gain of a gain in use, as a fraction. DEDUCED (log entry 52). -/
def gainLin : GainVal → Nat × Nat
  | .off => (0, 1)
  | .db c d => dbToLin c d
  | .lin n d => (n, d)

/-- The largest level of at most `hi`, in 2^-20 hundredths of a dB above −144 dB, whose linear gain does not exceed n/d. -/
def linToDbFrom : Nat → Nat → Nat → Nat → Nat → Nat
  | 0, lo, _, _, _ => lo
  | k + 1, lo, step, n, d =>
    let c : Int := ((lo + step : Nat) : Int) - 14400 * 2 ^ 20
    let g := dbToLin c (2 ^ 20)
    linToDbFrom k (if g.1 * d ≤ n * g.2 then lo + step else lo) (step / 2) n d

/-- A linear gain as a level, to 2^-20 of 0.01 dB. DESIGN CHOICE (log entry 60). -/
def linToDb (n d : Nat) : Int × Nat :=
  (((linToDbFrom 35 0 (2 ^ 34) n d : Nat) : Int) - 14400 * 2 ^ 20, 2 ^ 20)

/-- The value of a GAIN16 word (R89): 0x8000 is off, any other a level in 0.01 dB. DEDUCED (log entry 52). -/
def gain16 (v : Nat) : GainVal := if v % 65536 = 0x8000 then .off else .db (sx 16 v) 1

/-- The level of a gain for a RAMP_DB end: off stands at −144.00 dB (R95). -/
def gainDb : GainVal → Int × Nat
  | .off => (-14400, 1)
  | .db c d => (c, d)
  | .lin n d => if n = 0 then (-14400, 1) else linToDb n d

/-- Sample k of a RAMP_DB over n from a to b (R95, R255): in dB between the finite ends, exactly off at an off end.
DEDUCED (log entry 52). -/
def rampDb (a b : GainVal) (k n : Nat) : GainVal :=
  if n ≤ k + 1 then b
  else
    let (p, pd) := gainDb a
    let (q, qd) := gainDb b
    .db (p * qd * n + (q * pd - p * qd) * (k + 1)) (pd * qd * n)

/-- Sample k of a RAMP_LIN over n from a to b (R255): linear in gain. -/
def rampLin (a b : GainVal) (k n : Nat) : GainVal :=
  if n ≤ k + 1 then b
  else
    let (p, pd) := gainLin a
    let (q, qd) := gainLin b
    .lin (p * qd * (n - (k + 1)) + q * pd * (k + 1)) (pd * qd * n)

/-- The smallest scaling shift of R668 and its coefficient, for a linear gain n/d. -/
def coefShiftFrom : Nat → Nat → Nat → Nat → Nat × Nat
  | 0, s, _, _ => (0x7FFFFFFF, s)
  | k + 1, s, n, d =>
    let c := (roundHalfEven (n * 2 ^ (30 - s)) d).toNat
    if c ≤ 0x7FFFFFFF then (c, s) else coefShiftFrom k (s + 1) n d

/-- Coefficient and shift of a gain stage of the vendor strip (R668). -/
def stripCoef (n d : Nat) : Nat × Nat := coefShiftFrom 30 0 n d

/-- The Q4.28 coefficient of the fabric and the express lane (R216). -/
def fabCoef (n d : Nat) : Nat := (roundHalfEven (n * 2 ^ 28) d).toNat

/-- A gain stage of the vendor strip (R668): the exact product with c × 2^s, rounded and saturated to Q4.28; `neg` is a
polarity inversion that shares the stage. -/
def gainStage (x : Word) (n d : Nat) (neg : Bool) : Word :=
  let (c, s) := stripCoef n d
  let c' : Int := if neg then -(c : Int) else c
  satWord (roundHalfEven (x.toInt * c' * 2 ^ s) (2 ^ 30))

/-- Does the stage saturate? -/
def gainStageSat (x : Word) (n d : Nat) (neg : Bool) : Bool :=
  let (c, s) := stripCoef n d
  let c' : Int := if neg then -(c : Int) else c
  overflows 32 (roundHalfEven (x.toInt * c' * 2 ^ s) (2 ^ 30))

/-- A multiplier where there is no gain stage (R670): the exact value times n/d, rounded once to Q4.28. -/
def scaleWord (x : Word) (n d : Nat) : Word :=
  if n = d then x else satWord (roundHalfEven (x.toInt * n) d)

/-- Rising fixed ramp (R669): multiplier of sample k of n. -/
def riseMul (k n : Nat) : Nat × Nat := if n ≤ k + 1 then (1, 1) else (k + 1, n)

/-- Falling fixed ramp (R669): multiplier of sample k of n. -/
def fallMul (k n : Nat) : Nat × Nat := if n ≤ k + 1 then (0, 1) else (n - (k + 1), n)

/-- The dip multiplier of a HOLD_MUTE with dip D at sample M + k (R255), from a starting multiplier n/d (R273). -/
def dipMul (dip k n d : Nat) : Nat × Nat :=
  if k ≤ dip then (n * (dip - k), d * (dip + 1))
  else if k ≤ 2 * dip then (k - dip, dip) else (1, 1)

/-- A gain in use as the nearest GAIN16 word. -/
def toGain16 (g : GainVal) : Nat :=
  match g with
  | .off => 0x8000
  | g =>
    let (c, d) := gainDb g
    if gainLin g = (0, 1) then 0x8000 else unsx 16 (satTo 16 (roundHalfEven c d))

/-- Ingress conversion of a port word (R63): 24 bits shifted left by 4, 16 bits by 12. -/
def ingress24 (w : Nat) : Word := toWord (sx 24 w * 16)
def ingress16 (w : Nat) : Word := toWord (sx 16 w * 4096)

/-- Egress conversion to a 24-bit word (R64): convergent rounding of 4 bits, then saturation; answers the word and whether it
saturated. -/
def egress24 (x : Word) : Nat × Bool :=
  let y := roundShift x.toInt 4
  (unsx 24 (satTo 24 y), overflows 24 y)

/-- Egress conversion to a 16-bit word (R64). -/
def egress16 (x : Word) : Nat × Bool :=
  let y := roundShift x.toInt 12
  (unsx 16 (satTo 16 y), overflows 16 y)

end Sys2Proof.Machine
end

