-- ==== Sys2Proof/Config.lean ====
section
/-! DEFINITION. What the spec leaves open: opaque constants without a body, so that no proof can see a value of them. -/

namespace Sys2Proof.Config

/-- A free value: the n-th value that the model draws where the spec states no result.
DESIGN CHOICE (log entry 6). DESIGN CHOICE (log entry 9). -/
opaque freeValue : Nat → Nat

/-- The boot ROM's contents (R489, R568): the spec gives none. DESIGN CHOICE (log entry 50). -/
opaque bootRom : Nat → Byte

/-- Where the engine places a tagged buffer (R514): the spec fixes no allocation. Argument: how many it has placed.
DESIGN CHOICE (log entry 61). -/
opaque bufferPlace : Nat → Nat

/-- Size of a staging or stream buffer in units of 256 bytes, less one, modulo 4,096 (R514): the spec gives no size. Argument: the
owner ID. DESIGN CHOICE (log entry 61). -/
opaque bufferUnits : Nat → Nat

/-! ## Arithmetic that the spec leaves to the microcode (R671, R74, R242)

Each state is a number without a meaning of its own: the spec fixes neither the states nor the samples. Arguments: the block's
parameter words, the internal rate in Hz, the state, the sample (or the detector's and the audio sample). -/

/-- Output sample of an enabled filter section. DESIGN CHOICE (log entry 51). -/
opaque sectionOut : (a b fs st : Nat) → Word → Word

/-- Next state of an enabled filter section. -/
opaque sectionNext : (a b fs st : Nat) → Word → Nat

/-- Output sample and next state of a Loop Guard notch: centre, depth at the glide's start and end in half dB, samples done of
the glide (R121, R123). -/
opaque notchOut : (freq src dst k fs st : Nat) → Word → Word
opaque notchNext : (freq src dst k fs st : Nat) → Word → Nat

/-- Output sample of the gate/expander, the compressor or the limiter. DESIGN CHOICE (log entry 51). -/
opaque dynOut : (words : List Nat) → (fs st : Nat) → (key audio : Word) → Word

/-- Next state of a dynamics block. -/
opaque dynNext : (words : List Nat) → (fs st : Nat) → (key audio : Word) → Nat

/-- Attenuation of a dynamics block now, in 0.01 dB. -/
opaque dynGr : (words : List Nat) → (st : Nat) → Nat

/-- Next state of an Automix level detector (AM_RESP, state, sample). DESIGN CHOICE (log entry 51). -/
opaque levelNext : (resp fs st : Nat) → Word → Nat

/-- Power that an Automix level detector reports; 0 for a level of zero. -/
opaque levelPower : (st : Nat) → Nat

/-- 10 log10 of a power share, in 0.0001 dB (R128, within the bound of R671). DESIGN CHOICE (log entry 51). -/
opaque shareDb : (own total : Nat) → Int

/-- Output sample of a conversion lane (R74). DESIGN CHOICE (log entry 51). -/
opaque laneOut : (filt ratio hist : Nat) → Word

/-- Next filter history of a conversion lane. -/
opaque laneNext : (filt ratio hist : Nat) → Word → Nat

/-- Output sample and next state of a decimation filter (R242). DESIGN CHOICE (log entry 51). -/
opaque decimOut : (by2 : Nat) → (st : Nat) → Word
opaque decimNext : (by2 : Nat) → (st : Nat) → Word → Nat

/-- Which memory of a strip engine a faulting address lies in: 0 X, 1 Y, 2 program (R642 shows the address alone).
DEDUCED (log entry 46). -/
opaque eccMemory : Nat → Nat

/-- Does the state of a conversion lane lie in the row of the Rate Converter with this address (R614)? DEDUCED (log entry 47). -/
opaque rconvRow : (addr lane : Nat) → Bool

/-- Is a fan duty between two steps of 0.1 % rounded up (R600)? The spec gives no rounding. DESIGN CHOICE (log entry 33). -/
opaque fanRoundsUp : (num den : Nat) → Bool

/-- The device key, 256 bits in fuses (R576). DESIGN CHOICE (log entry 50). -/
opaque deviceKey : List Byte

/-- The VERSION values that the engine knows for a record TYPE of the provisioning block (R572): the spec gives none.
DEDUCED (log entry 38). -/
opaque provVersion : (type version : Nat) → Bool

/-- Does a refresh-rate code of MR4 ask for a raised refresh rate (R524)? The spec gives no codes. DESIGN CHOICE (log entry 95). -/
opaque mr4Derate : Nat → Bool

/-! ## The Camlor 320 (R171) -/

/-- What a Camlor 320 instruction other than those of R209 to R212 does: the instruction, the current window and the core.
DESIGN CHOICE (log entry 72). -/
opaque camlor : (instr window : Nat) → BcData → BcData

/-- The Camlor 320 test-and-set on a word read (R502): the word written back, and what the instruction does in the core.
DESIGN CHOICE (log entry 72). -/
opaque tasWord : Nat → Nat
/-- DESIGN CHOICE (log entry 72). -/
opaque tasCore : (word window : Nat) → BcData → BcData

/-- Entry and event vector base of the vendor strip microcode (R202, R672: the manual does not give them). DESIGN CHOICE (log entry 50). -/
opaque vendorEntry : Nat
/-- DESIGN CHOICE (log entry 50). -/
opaque vendorVec : Nat

end Sys2Proof.Config
end

