-- ==== Sys2Proof/Machine/Params.lean ====
section
/-! DEFINITION. The parameter window (pages 0x100 to 0x8FF) and the crosspoints: which words are parameters, their class
(R93), the bits they hold, their value after reset and the values a move may give them (R90, R253). -/

namespace Sys2Proof.Machine

/-- Classes of R93. -/
inductive PClass where
  | gain | switch | eqWord | dynCtrl | dynSet | delay | tag | amMember | envelope
  deriving DecidableEq, Repr

/-- One parameter word. -/
structure PInfo where
  cls  : PClass
  /-- listed bits of the word (R88) -/
  mask : Nat
  rst  : Nat
  /-- the values a move may give it, alone (R90) -/
  ok   : Nat → Bool

/-! ## Ranges -/

/-- A GAIN16 word between two bounds, off allowed where `off` (R89). -/
def okGain (lo hi : Int) (off : Bool) (v : Nat) : Bool :=
  if v % 65536 = 0x8000 then off else decide (lo ≤ sx 16 v) && decide (sx 16 v ≤ hi)

/-- A LVL16 word between two bounds. -/
def okLevel (lo hi : Int) (v : Nat) : Bool := decide (lo ≤ sx 16 v) && decide (sx 16 v ≤ hi)

/-- An unsigned word between two bounds. -/
def okUpto (lo hi : Nat) (v : Nat) : Bool := decide (lo ≤ v) && decide (v ≤ hi)

/-- FREQ24 within 10.00 to 40,000.00 Hz (R100). -/
def okFreq (f : Nat) : Bool := okUpto 1000 4000000 f

/-- Word A of a section that allows the types listed (R100). -/
def okSecA (types : List Nat) (v : Nat) : Bool := okFreq (bits v 23 0) && types.contains (bits v 30 27)

/-- Word B of a section (R100). -/
def okSecB (v : Nat) : Bool := okLevel (-2400) 2400 (bits v 31 16) && okUpto 100 20000 (bits v 15 0)

/-- Types 0 to 9. -/
def allTypes : List Nat := [0, 1, 2, 3, 4, 5, 6, 7, 8, 9]

/-- The meter point encodings that R243 accepts. -/
def okMeter (v : Nat) : Bool :=
  let k := bits v 31 28
  let t := bits v 27 24
  if k = 0 then true
  else if k = 1 then t ≤ 4 || t == 8 || t == 9 || t == 10
  else if k = 2 then t ≤ 3 || t == 8
  else k ≤ 5 && t == 0

/-! ## Blocks of words -/

def wGain (rst : Nat) (lo hi : Int) (off : Bool) : PInfo := { cls := .gain, mask := 0xFFFF, rst := rst, ok := okGain lo hi off }
def wFader (rst : Nat) : PInfo := wGain rst (-13800) 1200 true
def wSwitch (rst : Nat) : PInfo := { cls := .switch, mask := 1, rst := rst, ok := fun _ => true }
def wSecA (rst : Nat) (types : List Nat) : PInfo := { cls := .eqWord, mask := 0xF8FFFFFF, rst := rst, ok := okSecA types }
def wSecB (rst : Nat) : PInfo := { cls := .eqWord, mask := 0xFFFFFFFF, rst := rst, ok := okSecB }
def wDynLvl (rst : Nat) (lo hi : Int) : PInfo := { cls := .dynSet, mask := 0xFFFF, rst := rst, ok := okLevel lo hi }
def wDynNat (mask rst lo hi : Nat) : PInfo := { cls := .dynSet, mask := mask, rst := rst, ok := okUpto lo hi }
def wEnv (mask rst : Nat) (ok : Nat → Bool) : PInfo := { cls := .envelope, mask := mask, rst := rst, ok := ok }
def wTag (mask rst : Nat) (ok : Nat → Bool) : PInfo := { cls := .tag, mask := mask, rst := rst, ok := ok }

/-- Default frequencies of the eight parametric sections (R99). -/
def peqFreq (k : Nat) : Nat :=
  [0x189C, 0x30D4, 0x61A8, 0xC350, 0x186A0, 0x30D40, 0x61A80, 0xC3500].getD k 0

/-- A word of an input strip block, by its offset (R99). -/
def inParam (o : Nat) : Option PInfo :=
  if 0x20 ≤ o ∧ o < 0x60 ∧ o % 4 = 0 then
    some (if o % 8 = 0 then wSecA (peqFreq ((o - 0x20) / 8)) allTypes else wSecB 0x3E8)
  else match o with
  | 0x00 => some (wGain 0 (-2400) 2400 false)
  | 0x04 => some (wSwitch 0)
  | 0x08 => some (wFader 0x8000)
  | 0x0C => some (wSwitch 0)
  | 0x10 => some (wSecA 0x20001F40 [4, 9])
  | 0x14 => some (wSecB 0x2C3)
  | 0x18 => some (wSecA 0x181E8480 [3, 8])
  | 0x1C => some (wSecB 0x2C3)
  | 0x60 => some { cls := .dynCtrl, mask := 0xFFF7, rst := 0, ok := fun v => decide (bits v 15 4 < 2048) }
  | 0x64 => some (wDynLvl 0xF060 (-8000) 0)
  | 0x68 => some (wDynLvl 0x0FA0 0 8000)
  | 0x6C => some (wDynNat 0xFFFF 0xC8 100 800)
  | 0x70 => some (wDynLvl 0x12C 0 1200)
  | 0x74 => some (wDynNat 0xFFFFFF 0x1F4 20 100000)
  | 0x78 => some (wDynNat 0xFFFFFF 0xC350 0 2000000)
  | 0x7C => some (wDynNat 0xFFFFFF 0x30D40 5000 5000000)
  | 0x80 => some { cls := .dynCtrl, mask := 7, rst := 0, ok := fun _ => true }
  | 0x84 => some (wDynLvl 0xF830 (-6000) 2000)
  | 0x88 => some { cls := .dynSet, mask := 0xFFFF, rst := 0x12C, ok := fun v => okUpto 100 10000 v || v == 0xFFFF }
  | 0x8C => some (wDynLvl 0x258 0 2400)
  | 0x90 => some (wDynNat 0xFFFFFF 0x2710 50 300000)
  | 0x94 => some (wDynNat 0xFFFFFF 0x249F0 5000 5000000)
  | 0x98 => some (wGain 0 0 2400 false)
  | 0x9C => some (wTag 0x7FFFF 0 (okUpto 0 384))
  | 0xA0 => some (wSecA 0x20002710 allTypes)
  | 0xA4 => some (wSecB 0x2C3)
  | 0xA8 => some (wSecA 0x186A0 allTypes)
  | 0xAC => some (wSecB 0x3E8)
  | 0xB0 => some (wTag 0x3F07 0 (fun v => bits v 2 1 != 3))
  | 0xB8 => some { cls := .delay, mask := 0x7FFFF, rst := 0, ok := okUpto 0 384000 }
  | 0xBC => some (wTag 7 0 (okUpto 0 4))
  | 0xC0 => some (wFader 0)
  | 0xC4 => some (wSwitch 1)
  | 0xC8 => some { cls := .amMember, mask := 0xF1, rst := 0, ok := fun _ => true }
  | 0xCC => some (wEnv 0xFFFF 0 (okGain (-1200) 1200 false))
  | _ => none

/-- The locked-band word of Loop Guard (R119). -/
def okLock (v : Nat) : Bool := !bit v 31 || okFreq (bits v 23 0)

/-- The placement band of Loop Guard (R119). -/
def okBand (v : Nat) : Bool :=
  okUpto 20 20000 (bits v 15 0) && okUpto 20 40000 (bits v 31 16) && decide (bits v 15 0 ≤ bits v 31 16)

/-- A word of an output strip block, by its offset (R119). -/
def outParam (o : Nat) : Option PInfo :=
  if 0x10 ≤ o ∧ o < 0x90 ∧ o % 4 = 0 then some (if o % 8 = 0 then wSecA 0x186A0 allTypes else wSecB 0x3E8)
  else if 0xB0 ≤ o ∧ o < 0xD0 ∧ o % 4 = 0 then some (wEnv 0x80FFFFFF 0 okLock)
  else match o with
  | 0x00 => some (wFader 0x8000)
  | 0x04 => some (wSwitch 0)
  | 0x08 => some (wSwitch 0)
  | 0x90 => some { cls := .dynCtrl, mask := 1, rst := 0, ok := fun _ => true }
  | 0x94 => some (wDynLvl 0 (-4000) 2000)
  | 0x98 => some (wDynNat 0xFFFFFF 0x64 20 10000)
  | 0x9C => some (wDynNat 0xFFFFFF 0x186A0 5000 2000000)
  | 0xA0 => some { cls := .delay, mask := 0x7FFFF, rst := 0, ok := okUpto 0 96000 }
  | 0xA4 => some (wEnv 3 0 (fun _ => true))
  | 0xA8 => some (wEnv 0x3F 0x18 (okUpto 0 48))
  | 0xAC => some (wEnv 0xFFFFFFFF 0x3E80003C okBand)
  | 0xD0 => some (wEnv 0xFFFF 0x4B0 (okLevel 600 3000))
  | _ => none

/-- A word of an Automix group (R126). -/
def amParam (o : Nat) : Option PInfo :=
  match o with
  | 0 => some (wEnv 0xFFFF 0 (okGain (-1200) 1200 false))
  | 4 => some (wEnv 0xFFFF 0x9C4 (okLevel 0 6000))
  | 8 => some (wEnv 0xFFFFFF 0x2710 (okUpto 1000 100000))
  | _ => none

/-- A word of an RX stream entry (R375). -/
def rxParam (w : Nat) : PInfo :=
  match w with
  | 0 => wEnv 0xFC7F00FF 0x600000 (fun v => bits v 30 29 != 3)
  | 4 => wEnv 0xFFFF7FFF 0x138803E8 (fun _ => true)
  | 6 => wEnv 0x07FF33FF 0x3008 (fun v => bits v 9 8 != 3)
  | _ => wEnv 0xFFFFFFFF 0 (fun _ => true)

/-- A word of a TX stream entry (R384). -/
def txParam (w : Nat) : PInfo :=
  match w with
  | 0 => wEnv 0xFFFFEFC0 0x880 (fun v => bits v 30 29 != 3)
  | 4 => wEnv 0xFFFFFFFF 0x1388 (fun _ => true)
  | 5 => wEnv 0xFFFFFF7F 0x13884060 (fun _ => true)
  | 6 => wEnv 0x07FF33FF 0x3008 (fun v => bits v 9 8 != 3)
  | _ => wEnv 0xFFFFFFFF 0 (fun _ => true)

/-- The parameter at a BAR0 byte offset; none where the word is reserved or no parameter (R253). -/
def paramAt (a : Nat) : Option PInfo :=
  if a % 4 ≠ 0 then none
  else if 0x100000 ≤ a ∧ a < 0x102000 then some (wTag 0xFFFFFF 0xFFF (fun v => bits v 13 12 != 3))
  else if 0x102000 ≤ a ∧ a < 0x103000 then some (wTag 0x3FFF 0xFFF (fun _ => true))
  else if 0x110000 ≤ a ∧ a < 0x110100 then amParam (a % 16)
  else if 0x200000 ≤ a ∧ a < 0x300000 then inParam (a % 512)
  else if 0x300000 ≤ a ∧ a < 0x380000 then outParam (a % 512)
  else if 0x400000 ≤ a ∧ a < 0x402000 then
    some (if a % 8 = 0 then wTag 0xFFF 64 (fun _ => true) else wTag 1 0 (fun _ => true))
  else if 0x404000 ≤ a ∧ a < 0x405000 then
    match a % 16 with
    | 0 => some (wTag 0xFFFFFF 0xFFF (fun _ => true))
    | 4 => some (wFader 0x8000)
    | 8 => some (wSwitch 0)
    | _ => none
  else if 0x408000 ≤ a ∧ a < 0x40B200 then some (wTag 0xFFF 0xFFF (fun v => !(decide (0xC00 ≤ v) && decide (v < 0xFFF))))
  else if 0x540000 ≤ a ∧ a < 0x544000 then some (wEnv 0xFF000FFF 0 okMeter)
  else if 0x600000 ≤ a ∧ a < 0x602000 then some (rxParam (a % 32 / 4))
  else if 0x602000 ≤ a ∧ a < 0x604000 then some (txParam (a % 32 / 4))
  else none

/-- The one word of a crosspoint (R214). -/
def xpParam : PInfo := wFader 0x8000

/-- The key under which a crosspoint's word stands among the register words. -/
def xpKey (id : Nat) : Nat := 0x4000000 + id

/-- Reset value of a parameter word by BAR0 byte offset. -/
def paramReset (a : Nat) : Nat := match paramAt a with
  | some p => p.rst
  | none => 0

/-! ## Transition rules (R93 to R96, R254) -/

/-- Rule codes of R252. -/
def rDefault : Nat := 0
def rStep : Nat := 1
def rRampLin : Nat := 2
def rRampDb : Nat := 3
def rXfade : Nat := 4
def rHoldMute : Nat := 5

/-- Default rule and duration of a class. -/
def defaultRule : PClass → Nat × Nat
  | .gain => (rRampDb, 32)
  | .switch => (rRampLin, 32)
  | .eqWord | .dynCtrl | .delay => (rXfade, 64)
  | .dynSet | .envelope => (rStep, 0)
  | .tag => (rHoldMute, 32)
  | .amMember => (rRampDb, 32)

/-- Rules that a move may state. -/
def allowedRules : PClass → List Nat
  | .gain => [rStep, rRampLin, rRampDb, rHoldMute]
  | .switch => [rStep, rRampLin, rHoldMute]
  | .eqWord | .dynCtrl | .delay => [rStep, rXfade, rHoldMute]
  | .dynSet => [rStep, rXfade]
  | .tag => [rStep, rHoldMute]
  | .amMember => [rStep, rRampDb]
  | .envelope => [rStep]

/-- The rule and duration a move runs under, or none where R254 refuses it. GAIN and SWITCH ramps run over at least 32
samples (R94). -/
def resolveRule (c : PClass) (rule dur : Nat) : Option (Nat × Nat) :=
  if rule = rDefault then some (defaultRule c)
  else if !(allowedRules c).contains rule then none
  else if rule = rStep then some (rStep, 0)
  else if rule = rXfade then (if 16 ≤ dur ∧ dur ≤ 4096 then some (rXfade, dur) else none)
  else if rule = rHoldMute then (if 8 ≤ dur ∧ dur ≤ 1024 then some (rHoldMute, dur) else none)
  else if 1 ≤ dur ∧ dur < 2 ^ 24 then some (rule, if c = .gain ∨ c = .switch then max dur 32 else dur)
  else none

/-! ## Blocks that change as one (R102, R134, R257) -/

/-- The block of words a parameter belongs to: the two words of a section, the words of a dynamics block, or itself. -/
def wordBlock (a : Nat) : Nat :=
  let o := a % 512
  let b := a - o
  if 0x200000 ≤ a ∧ a < 0x300000 then
    if (0x10 ≤ o ∧ o < 0x60) ∨ (0xA0 ≤ o ∧ o < 0xB0) then b + o / 8 * 8
    else if 0x60 ≤ o ∧ o < 0x80 then b + 0x60
    else if 0x80 ≤ o ∧ o < 0x98 then b + 0x80
    else a
  else if 0x300000 ≤ a ∧ a < 0x380000 then
    if 0x10 ≤ o ∧ o < 0x90 then b + o / 8 * 8
    else if 0x90 ≤ o ∧ o < 0xA0 then b + 0x90
    else a
  else a

/-- Derivation cost in cc of a move on a strip word (R134). DESIGN CHOICE (log entry 83). -/
def deriveCost (c : PClass) : Nat := match c with
  | .eqWord => 96
  | .dynCtrl | .dynSet => 64
  | .gain => 12
  | .delay => 8
  | _ => 4

end Sys2Proof.Machine
end

