-- ==== Sys2Proof/Machine/RegTable.lean ====
section
/-! DEFINITION. The register fields of the page map (R540), one definition per field, written from the register
tables of the chapters named beside each block: offset, bit range, access type (R14) and reset value. -/

namespace Sys2Proof.Machine.Reg

/-! RCONV: RCONV page 0x060 (chapter 02) -/

def RCONV_IRQ_RANGE : Fld := { addr := 0x60010, hi := 3, lo := 3, acc := .w1c }
def RCONV_IRQ_UNLOCK : Fld := { addr := 0x60010, hi := 2, lo := 2, acc := .w1c }
def RCONV_IRQ_LOCK : Fld := { addr := 0x60010, hi := 1, lo := 1, acc := .w1c }
def RCONV_IRQ_RATE_SWITCH : Fld := { addr := 0x60010, hi := 0, lo := 0, acc := .w1c }
def RCONV_LANES : Fld := { addr := 0x60040, hi := 10, lo := 0, acc := .ro, rst := 1024 }
def RCONV_LOCKED_CNT : Fld := { addr := 0x60044, hi := 10, lo := 0, acc := .ro }
def RCONV_ACQ_CNT : Fld := { addr := 0x60048, hi := 10, lo := 0, acc := .ro }
def RCONV_QSEL : Fld := { addr := 0x6004C, hi := 9, lo := 0, acc := .wo }
def RCONV_VALID : Fld := { addr := 0x60050, hi := 31, lo := 31, acc := .ro }
def RCONV_SRC : Fld := { addr := 0x60050, hi := 23, lo := 12, acc := .ro, rst := 4095 }
def RCONV_CLASS : Fld := { addr := 0x60050, hi := 11, lo := 9, acc := .ro }
def RCONV_DELAY : Fld := { addr := 0x60050, hi := 8, lo := 3, acc := .ro }
def RCONV_STATE : Fld := { addr := 0x60050, hi := 2, lo := 0, acc := .ro }
def RCONV_QRATIO : Fld := { addr := 0x60054, hi := 31, lo := 0, acc := .ro }
def RCONV_QRATE : Fld := { addr := 0x60058, hi := 17, lo := 0, acc := .ro }
def RCONV_UNLOCK : Fld := { addr := 0x61040, hi := 31, lo := 0, step := 4, per := 32, cnt := 32, acc := .w1c }
def RCONV_RANGE : Fld := { addr := 0x62040, hi := 31, lo := 0, step := 4, per := 32, cnt := 32, acc := .w1c }
def RCONV_LOCKED : Fld := { addr := 0x63040, hi := 31, lo := 0, step := 4, per := 32, cnt := 32, acc := .ro }
def blkRCONV : List Fld := [RCONV_IRQ_RANGE, RCONV_IRQ_UNLOCK, RCONV_IRQ_LOCK, RCONV_IRQ_RATE_SWITCH, RCONV_LANES, RCONV_LOCKED_CNT, RCONV_ACQ_CNT, RCONV_QSEL, RCONV_VALID, RCONV_SRC, RCONV_CLASS, RCONV_DELAY, RCONV_STATE, RCONV_QRATIO, RCONV_QRATE, RCONV_UNLOCK, RCONV_RANGE, RCONV_LOCKED]

/-! PATCH: PATCH page 0x064 (chapter 02) -/

def PATCH_IRQ_DERR : Fld := { addr := 0x64010, hi := 0, lo := 0, acc := .w1c }
def PATCH_STRIPS : Fld := { addr := 0x64040, hi := 11, lo := 0, acc := .ro, rst := 1024 }
def PATCH_QSEL : Fld := { addr := 0x64044, hi := 11, lo := 0, acc := .wo }
def PATCH_VALID : Fld := { addr := 0x64048, hi := 31, lo := 31, acc := .ro }
def PATCH_RATE : Fld := { addr := 0x64048, hi := 20, lo := 3, acc := .ro }
def PATCH_CLASS : Fld := { addr := 0x64048, hi := 2, lo := 0, acc := .ro }
def PATCH_DERR_CNT : Fld := { addr := 0x6404C, hi := 11, lo := 0, acc := .ro }
def PATCH_DERR : Fld := { addr := 0x64080, hi := 31, lo := 0, step := 4, per := 64, cnt := 64, acc := .w1c }
def blkPATCH : List Fld := [PATCH_IRQ_DERR, PATCH_STRIPS, PATCH_QSEL, PATCH_VALID, PATCH_RATE, PATCH_CLASS, PATCH_DERR_CNT, PATCH_DERR]

/-! SE: R174 (chapter 04) -/

def SE_IRQ_ECC_CORR : Fld := { addr := 0x10010, hi := 4, lo := 4, pst := 0x1000, cnt := 34, acc := .w1c }
def SE_IRQ_OVERRUN : Fld := { addr := 0x10010, hi := 3, lo := 3, pst := 0x1000, cnt := 34, acc := .w1c }
def SE_IRQ_GATHER : Fld := { addr := 0x10010, hi := 2, lo := 2, pst := 0x1000, cnt := 34, acc := .w1c }
def SE_IRQ_ARITH : Fld := { addr := 0x10010, hi := 1, lo := 1, pst := 0x1000, cnt := 34, acc := .w1c }
def SE_IRQ_STRIP_EVT : Fld := { addr := 0x10010, hi := 0, lo := 0, pst := 0x1000, cnt := 34, acc := .w1c }
def SE_PROG_ID : Fld := { addr := 0x10040, hi := 31, lo := 0, pst := 0x1000, cnt := 34, acc := .ro }
def SE_OUT_STRIPS : Fld := { addr := 0x10044, hi := 15, lo := 8, pst := 0x1000, cnt := 34, acc := .ro }
def SE_IN_STRIPS : Fld := { addr := 0x10044, hi := 7, lo := 0, pst := 0x1000, cnt := 34, acc := .ro }
def SE_CC_MAX : Fld := { addr := 0x10048, hi := 15, lo := 0, pst := 0x1000, cnt := 34, acc := .rc }
def SE_CC_LAST : Fld := { addr := 0x1004C, hi := 15, lo := 0, pst := 0x1000, cnt := 34, acc := .ro }
def SE_DZ : Fld := { addr := 0x10050, hi := 2, lo := 2, pst := 0x1000, cnt := 34, acc := .w1c }
def SE_V : Fld := { addr := 0x10050, hi := 1, lo := 1, pst := 0x1000, cnt := 34, acc := .w1c }
def SE_SAT : Fld := { addr := 0x10050, hi := 0, lo := 0, pst := 0x1000, cnt := 34, acc := .w1c }
def SE_ARITH_VALID : Fld := { addr := 0x10054, hi := 31, lo := 31, pst := 0x1000, cnt := 34, acc := .ro }
def SE_ARITH_OUT : Fld := { addr := 0x10054, hi := 12, lo := 12, pst := 0x1000, cnt := 34, acc := .ro }
def SE_ARITH_STRIP : Fld := { addr := 0x10054, hi := 11, lo := 0, pst := 0x1000, cnt := 34, acc := .ro }
def SE_GFLT_VALID : Fld := { addr := 0x10058, hi := 31, lo := 31, pst := 0x1000, cnt := 34, acc := .ro }
def SE_CAUSE : Fld := { addr := 0x10058, hi := 7, lo := 6, pst := 0x1000, cnt := 34, acc := .ro }
def SE_SPACE : Fld := { addr := 0x10058, hi := 5, lo := 4, pst := 0x1000, cnt := 34, acc := .ro }
def SE_IDX : Fld := { addr := 0x10058, hi := 3, lo := 0, pst := 0x1000, cnt := 34, acc := .ro }
def SE_GFLT_ADDR : Fld := { addr := 0x1005C, hi := 31, lo := 0, pst := 0x1000, cnt := 34, acc := .ro }
def SE_ECC_CORR : Fld := { addr := 0x10060, hi := 31, lo := 0, pst := 0x1000, cnt := 34, acc := .ro }
def SE_QSEL : Fld := { addr := 0x10064, hi := 6, lo := 0, pst := 0x1000, cnt := 34, acc := .wo }
def SE_QVALID : Fld := { addr := 0x10068, hi := 31, lo := 31, pst := 0x1000, cnt := 34, acc := .ro }
def SE_QOUT : Fld := { addr := 0x10068, hi := 12, lo := 12, pst := 0x1000, cnt := 34, acc := .ro }
def SE_QSTRIP : Fld := { addr := 0x10068, hi := 11, lo := 0, pst := 0x1000, cnt := 34, acc := .ro }
def SE_QDATA0 : Fld := { addr := 0x1006C, hi := 31, lo := 0, pst := 0x1000, cnt := 34, acc := .ro }
def SE_QDATA1 : Fld := { addr := 0x10070, hi := 31, lo := 0, pst := 0x1000, cnt := 34, acc := .ro }
def SE_QDATA2 : Fld := { addr := 0x10074, hi := 7, lo := 0, pst := 0x1000, cnt := 34, acc := .ro }
def blkSE : List Fld := [SE_IRQ_ECC_CORR, SE_IRQ_OVERRUN, SE_IRQ_GATHER, SE_IRQ_ARITH, SE_IRQ_STRIP_EVT, SE_PROG_ID, SE_OUT_STRIPS, SE_IN_STRIPS, SE_CC_MAX, SE_CC_LAST, SE_DZ, SE_V, SE_SAT, SE_ARITH_VALID, SE_ARITH_OUT, SE_ARITH_STRIP, SE_GFLT_VALID, SE_CAUSE, SE_SPACE, SE_IDX, SE_GFLT_ADDR, SE_ECC_CORR, SE_QSEL, SE_QVALID, SE_QOUT, SE_QSTRIP, SE_QDATA0, SE_QDATA1, SE_QDATA2]

/-! BC: R176 (chapter 04) -/

def BC_IRQ_ARITH : Fld := { addr := 0xC0010, hi := 1, lo := 1, pst := 0x1000, cnt := 2, acc := .w1c }
def BC_IRQ_OVERRUN : Fld := { addr := 0xC0010, hi := 0, lo := 0, pst := 0x1000, cnt := 2, acc := .w1c }
def BC_CHAN_COUNT : Fld := { addr := 0xC0040, hi := 13, lo := 8, pst := 0x1000, cnt := 2, acc := .ro, rst := 32 }
def BC_CHAN_FIRST : Fld := { addr := 0xC0040, hi := 5, lo := 0, pst := 0x1000, cnt := 2, acc := .ro }
def BC_CC_MAX : Fld := { addr := 0xC0044, hi := 15, lo := 0, pst := 0x1000, cnt := 2, acc := .rc }
def BC_OVERRUN_CNT : Fld := { addr := 0xC0048, hi := 31, lo := 0, pst := 0x1000, cnt := 2, acc := .ro }
def BC_DZ : Fld := { addr := 0xC004C, hi := 2, lo := 2, pst := 0x1000, cnt := 2, acc := .w1c }
def BC_V : Fld := { addr := 0xC004C, hi := 1, lo := 1, pst := 0x1000, cnt := 2, acc := .w1c }
def BC_SAT : Fld := { addr := 0xC004C, hi := 0, lo := 0, pst := 0x1000, cnt := 2, acc := .w1c }
def BC_CHAN_LOADED : Fld := { addr := 0xC0050, hi := 31, lo := 0, pst := 0x1000, cnt := 2, acc := .ro }
def BC_CHAN_RETURN : Fld := { addr := 0xC0054, hi := 31, lo := 0, pst := 0x1000, cnt := 2, acc := .ro }
def BC_QSEL : Fld := { addr := 0xC0058, hi := 7, lo := 0, pst := 0x1000, cnt := 2, acc := .wo }
def BC_VALID : Fld := { addr := 0xC005C, hi := 31, lo := 31, pst := 0x1000, cnt := 2, acc := .ro }
def BC_QDATA0 : Fld := { addr := 0xC0060, hi := 31, lo := 0, pst := 0x1000, cnt := 2, acc := .ro }
def BC_QDATA1 : Fld := { addr := 0xC0064, hi := 23, lo := 0, pst := 0x1000, cnt := 2, acc := .ro }
def blkBC : List Fld := [BC_IRQ_ARITH, BC_IRQ_OVERRUN, BC_CHAN_COUNT, BC_CHAN_FIRST, BC_CC_MAX, BC_OVERRUN_CNT, BC_DZ, BC_V, BC_SAT, BC_CHAN_LOADED, BC_CHAN_RETURN, BC_QSEL, BC_VALID, BC_QDATA0, BC_QDATA1]

/-! FAB: FAB page 0x040 (chapter 06) -/

def FAB_IRQ_FAB_OVERRUN : Fld := { addr := 0x40010, hi := 4, lo := 4, acc := .w1c }
def FAB_IRQ_BUS_SHED : Fld := { addr := 0x40010, hi := 3, lo := 3, acc := .w1c }
def FAB_IRQ_CASC_ABSENT : Fld := { addr := 0x40010, hi := 2, lo := 2, acc := .w1c }
def FAB_IRQ_CASC_UP : Fld := { addr := 0x40010, hi := 1, lo := 1, acc := .w1c }
def FAB_IRQ_CASC_DOWN : Fld := { addr := 0x40010, hi := 0, lo := 0, acc := .w1c }
def FAB_IN_ACTIVE : Fld := { addr := 0x40040, hi := 27, lo := 16, acc := .ro }
def FAB_BUS_ACTIVE : Fld := { addr := 0x40040, hi := 10, lo := 0, acc := .ro }
def FAB_LANES : Fld := { addr := 0x40044, hi := 6, lo := 0, acc := .ro, rst := 72 }
def FAB_LINK : Fld := { addr := 0x40048, hi := 1, lo := 1, acc := .rw }
def FAB_EN : Fld := { addr := 0x40048, hi := 0, lo := 0, acc := .rw }
def FAB_CASC_BUSES : Fld := { addr := 0x4004C, hi := 26, lo := 16, acc := .ro }
def FAB_RATE_MISMATCH : Fld := { addr := 0x4004C, hi := 1, lo := 1, acc := .ro }
def FAB_UP : Fld := { addr := 0x4004C, hi := 0, lo := 0, acc := .ro }
def FAB_CASC_MISS : Fld := { addr := 0x40050, hi := 31, lo := 0, acc := .ro }
def FAB_CASC_SLIP : Fld := { addr := 0x40054, hi := 31, lo := 0, acc := .ro }
def FAB_BUS_SHED_CNT : Fld := { addr := 0x40058, hi := 10, lo := 0, acc := .ro }
def FAB_CASC_ABSENT : Fld := { addr := 0x40080, hi := 31, lo := 0, step := 4, per := 32, cnt := 32, acc := .ro }
def FAB_BUS_SHED : Fld := { addr := 0x40100, hi := 31, lo := 0, step := 4, per := 32, cnt := 32, acc := .ro }
def blkFAB : List Fld := [FAB_IRQ_FAB_OVERRUN, FAB_IRQ_BUS_SHED, FAB_IRQ_CASC_ABSENT, FAB_IRQ_CASC_UP, FAB_IRQ_CASC_DOWN, FAB_IN_ACTIVE, FAB_BUS_ACTIVE, FAB_LANES, FAB_LINK, FAB_EN, FAB_CASC_BUSES, FAB_RATE_MISMATCH, FAB_UP, FAB_CASC_MISS, FAB_CASC_SLIP, FAB_BUS_SHED_CNT, FAB_CASC_ABSENT, FAB_BUS_SHED]

/-! FABB: FAB page 0x041 (chapter 06) -/

def FABB_IRQ_REFUSED : Fld := { addr := 0x41010, hi := 0, lo := 0, acc := .w1c }
def FABB_BUDGET : Fld := { addr := 0x41040, hi := 23, lo := 0, acc := .ro }
def FABB_COST_NOW : Fld := { addr := 0x41044, hi := 23, lo := 0, acc := .ro }
def FABB_COST_MAX : Fld := { addr := 0x41048, hi := 23, lo := 0, acc := .rc }
def FABB_RESERVED : Fld := { addr := 0x4104C, hi := 23, lo := 0, acc := .ro }
def FABB_XP_STATIC : Fld := { addr := 0x41050, hi := 23, lo := 0, acc := .ro }
def FABB_XP_RAMP : Fld := { addr := 0x41054, hi := 23, lo := 0, acc := .ro }
def FABB_TIERS : Fld := { addr := 0x41058, hi := 1, lo := 0, acc := .ro, rst := 1 }
def FABB_TIER2_BUSES : Fld := { addr := 0x4105C, hi := 26, lo := 16, acc := .ro }
def FABB_TIER1_BUSES : Fld := { addr := 0x4105C, hi := 10, lo := 0, acc := .ro }
def FABB_TIER3_BUSES : Fld := { addr := 0x41060, hi := 10, lo := 0, acc := .ro }
def FABB_REFUSED : Fld := { addr := 0x41064, hi := 31, lo := 0, acc := .ro }
def FABB_PERIOD_CC : Fld := { addr := 0x41068, hi := 15, lo := 0, acc := .ro }
def blkFABB : List Fld := [FABB_IRQ_REFUSED, FABB_BUDGET, FABB_COST_NOW, FABB_COST_MAX, FABB_RESERVED, FABB_XP_STATIC, FABB_XP_RAMP, FABB_TIERS, FABB_TIER2_BUSES, FABB_TIER1_BUSES, FABB_TIER3_BUSES, FABB_REFUSED, FABB_PERIOD_CC]

/-! FABX: FAB page 0x042 (chapter 06) -/

def FABX_XP_QSEL : Fld := { addr := 0x42040, hi := 21, lo := 0, acc := .wo }
def FABX_VALID : Fld := { addr := 0x42044, hi := 31, lo := 31, acc := .ro }
def FABX_ACTIVE : Fld := { addr := 0x42044, hi := 30, lo := 30, acc := .ro }
def FABX_RAMPING : Fld := { addr := 0x42044, hi := 29, lo := 29, acc := .ro }
def FABX_TAG_RAMP : Fld := { addr := 0x42044, hi := 28, lo := 28, acc := .ro }
def FABX_SHORT : Fld := { addr := 0x42044, hi := 27, lo := 27, acc := .ro }
def FABX_OFFSET : Fld := { addr := 0x42044, hi := 11, lo := 0, acc := .ro }
def FABX_GAIN_TARGET : Fld := { addr := 0x42048, hi := 31, lo := 16, acc := .ro, rst := 32768 }
def FABX_GAIN_NOW : Fld := { addr := 0x42048, hi := 15, lo := 0, acc := .ro, rst := 32768 }
def FABX_RAMP_LEFT : Fld := { addr := 0x4204C, hi := 12, lo := 0, acc := .ro }
def FABX_TAGRAMP_CNT : Fld := { addr := 0x42050, hi := 23, lo := 0, acc := .ro }
def blkFABX : List Fld := [FABX_XP_QSEL, FABX_VALID, FABX_ACTIVE, FABX_RAMPING, FABX_TAG_RAMP, FABX_SHORT, FABX_OFFSET, FABX_GAIN_TARGET, FABX_GAIN_NOW, FABX_RAMP_LEFT, FABX_TAGRAMP_CNT]

/-! FABE: FAB page 0x043 (chapter 06) -/

def FABE_IRQ_EXP_DERR : Fld := { addr := 0x43010, hi := 0, lo := 0, acc := .w1c }
def FABE_EXP_ROUTES : Fld := { addr := 0x43040, hi := 8, lo := 0, acc := .ro, rst := 256 }
def FABE_EXP_ACTIVE : Fld := { addr := 0x43044, hi := 8, lo := 0, acc := .ro }
def FABE_EXP_DERR : Fld := { addr := 0x43080, hi := 31, lo := 0, step := 4, per := 8, cnt := 8, acc := .w1c }
def blkFABE : List Fld := [FABE_IRQ_EXP_DERR, FABE_EXP_ROUTES, FABE_EXP_ACTIVE, FABE_EXP_DERR]

/-! FABL: FAB page 0x044 (chapter 06) -/

def FABL_IRQ_BUS_SAT : Fld := { addr := 0x44010, hi := 1, lo := 1, acc := .w1c }
def FABL_IRQ_ALIGN_SHORT : Fld := { addr := 0x44010, hi := 0, lo := 0, acc := .w1c }
def FABL_SRC_QSEL : Fld := { addr := 0x44040, hi := 11, lo := 0, acc := .wo }
def FABL_VALID : Fld := { addr := 0x44044, hi := 31, lo := 31, acc := .ro }
def FABL_TIER : Fld := { addr := 0x44044, hi := 29, lo := 28, acc := .ro }
def FABL_TAG : Fld := { addr := 0x44044, hi := 11, lo := 0, acc := .ro }
def FABL_FAN_OUT : Fld := { addr := 0x44048, hi := 10, lo := 0, acc := .ro }
def FABL_SHORT_NOW : Fld := { addr := 0x44080, hi := 31, lo := 0, step := 4, per := 32, cnt := 32, acc := .ro }
def FABL_SHORT : Fld := { addr := 0x44100, hi := 31, lo := 0, step := 4, per := 32, cnt := 32, acc := .w1c }
def FABL_BUS_SAT : Fld := { addr := 0x44180, hi := 31, lo := 0, step := 4, per := 32, cnt := 32, acc := .w1c }
def blkFABL : List Fld := [FABL_IRQ_BUS_SAT, FABL_IRQ_ALIGN_SHORT, FABL_SRC_QSEL, FABL_VALID, FABL_TIER, FABL_TAG, FABL_FAN_OUT, FABL_SHORT_NOW, FABL_SHORT, FABL_BUS_SAT]

/-! FABG: FAB page 0x045 (chapter 06) -/

def FABG_IRQ_EGR_DERR : Fld := { addr := 0x45010, hi := 0, lo := 0, acc := .w1c }
def FABG_EGR_ACTIVE : Fld := { addr := 0x45040, hi := 11, lo := 0, acc := .ro }
def FABG_RET_ACTIVE : Fld := { addr := 0x45044, hi := 6, lo := 0, acc := .ro }
def FABG_EGR_DERR : Fld := { addr := 0x45080, hi := 31, lo := 0, step := 4, per := 100, cnt := 100, acc := .w1c }
def blkFABG : List Fld := [FABG_IRQ_EGR_DERR, FABG_EGR_ACTIVE, FABG_RET_ACTIVE, FABG_EGR_DERR]

/-! MTR: FAB page 0x046 (chapter 06) -/

def MTR_IRQ_DROP : Fld := { addr := 0x46010, hi := 1, lo := 1, acc := .w1c }
def MTR_IRQ_FRAME : Fld := { addr := 0x46010, hi := 0, lo := 0, acc := .w1c }
def MTR_FRATE : Fld := { addr := 0x46040, hi := 3, lo := 2, acc := .rw, rst := 2 }
def MTR_EN : Fld := { addr := 0x46040, hi := 0, lo := 0, acc := .rw }
def MTR_BASE_LO : Fld := { addr := 0x46044, hi := 31, lo := 5, acc := .rw }
def MTR_BASE_HI : Fld := { addr := 0x46048, hi := 31, lo := 0, acc := .rw }
def MTR_SLOTS : Fld := { addr := 0x4604C, hi := 10, lo := 0, acc := .rw, rst := 16 }
def MTR_WR : Fld := { addr := 0x46050, hi := 10, lo := 0, acc := .ro }
def MTR_RD_SET : Fld := { addr := 0x46054, hi := 10, lo := 0, acc := .wo }
def MTR_RD : Fld := { addr := 0x46058, hi := 10, lo := 0, acc := .ro }
def MTR_SEQ : Fld := { addr := 0x4605C, hi := 31, lo := 0, acc := .ro }
def blkMTR : List Fld := [MTR_IRQ_DROP, MTR_IRQ_FRAME, MTR_FRATE, MTR_EN, MTR_BASE_LO, MTR_BASE_HI, MTR_SLOTS, MTR_WR, MTR_RD_SET, MTR_RD, MTR_SEQ]

/-! EYE: FAB page 0x047 (chapter 06) -/

def EYE_IRQ_DONE : Fld := { addr := 0x47010, hi := 23, lo := 16, acc := .w1c }
def EYE_IRQ_DROP : Fld := { addr := 0x47010, hi := 15, lo := 8, acc := .w1c }
def EYE_IRQ_BLOCK : Fld := { addr := 0x47010, hi := 7, lo := 0, acc := .w1c }
def EYE_SEL_KT : Fld := { addr := 0x47040, hi := 31, lo := 24, step := 32, per := 8, cnt := 8, acc := .rw }
def EYE_SEL_IX : Fld := { addr := 0x47040, hi := 11, lo := 0, step := 32, per := 8, cnt := 8, acc := .rw }
def EYE_BLOCKS : Fld := { addr := 0x47044, hi := 15, lo := 4, step := 32, per := 8, cnt := 8, acc := .rw, rst := 1 }
def EYE_MODE : Fld := { addr := 0x47044, hi := 1, lo := 0, step := 32, per := 8, cnt := 8, acc := .rw }
def EYE_BASE_LO : Fld := { addr := 0x47048, hi := 31, lo := 4, step := 32, per := 8, cnt := 8, acc := .rw }
def EYE_BASE_HI : Fld := { addr := 0x4704C, hi := 31, lo := 0, step := 32, per := 8, cnt := 8, acc := .rw }
def EYE_SLOTS : Fld := { addr := 0x47050, hi := 11, lo := 0, step := 32, per := 8, cnt := 8, acc := .rw, rst := 16 }
def EYE_WR : Fld := { addr := 0x47054, hi := 11, lo := 0, step := 32, per := 8, cnt := 8, acc := .ro }
def EYE_RD_SET : Fld := { addr := 0x47058, hi := 11, lo := 0, step := 32, per := 8, cnt := 8, acc := .wo }
def EYE_RD : Fld := { addr := 0x4705C, hi := 11, lo := 0, step := 32, per := 8, cnt := 8, acc := .ro }
def blkEYE : List Fld := [EYE_IRQ_DONE, EYE_IRQ_DROP, EYE_IRQ_BLOCK, EYE_SEL_KT, EYE_SEL_IX, EYE_BLOCKS, EYE_MODE, EYE_BASE_LO, EYE_BASE_HI, EYE_SLOTS, EYE_WR, EYE_RD_SET, EYE_RD]

/-! SCN: R290 (chapter 07) -/

def SCN_IRQ_IMG_DONE : Fld := { addr := 0x50010, hi := 6, lo := 6, acc := .w1c }
def SCN_IRQ_LIVE_REFUSED : Fld := { addr := 0x50010, hi := 5, lo := 5, acc := .w1c }
def SCN_IRQ_LATE : Fld := { addr := 0x50010, hi := 4, lo := 4, acc := .w1c }
def SCN_IRQ_REFUSED : Fld := { addr := 0x50010, hi := 3, lo := 3, acc := .w1c }
def SCN_IRQ_FREE : Fld := { addr := 0x50010, hi := 2, lo := 2, acc := .w1c }
def SCN_IRQ_COMMIT : Fld := { addr := 0x50010, hi := 1, lo := 1, acc := .w1c }
def SCN_IRQ_READY : Fld := { addr := 0x50010, hi := 0, lo := 0, acc := .w1c }
def SCN_INFLIGHT : Fld := { addr := 0x50040, hi := 16, lo := 0, acc := .ro }
def SCN_INFLIGHT_MAX : Fld := { addr := 0x50044, hi := 16, lo := 0, acc := .rc }
def SCN_SLOTS_USED : Fld := { addr := 0x50048, hi := 4, lo := 0, acc := .ro }
def SCN_FOLLOW_MIRROR : Fld := { addr := 0x5004C, hi := 2, lo := 2, acc := .ro }
def SCN_MODE_OK : Fld := { addr := 0x5004C, hi := 1, lo := 1, acc := .ro }
def SCN_SUPPLY_HOLD : Fld := { addr := 0x5004C, hi := 0, lo := 0, acc := .ro }
def SCN_LIVE_CNT : Fld := { addr := 0x50050, hi := 31, lo := 0, acc := .ro }
def SCN_LIVE_MERGED : Fld := { addr := 0x50054, hi := 31, lo := 0, acc := .ro }
def SCN_LIVE_REFUSED : Fld := { addr := 0x50058, hi := 31, lo := 0, acc := .ro }
def SCN_STATUS : Fld := { addr := 0x5005C, hi := 31, lo := 24, acc := .ro }
def SCN_TARGET : Fld := { addr := 0x5005C, hi := 23, lo := 0, acc := .ro }
def SCN_LAST_TKIND : Fld := { addr := 0x50060, hi := 3, lo := 0, acc := .ro }
def SCN_LATE_CNT : Fld := { addr := 0x50064, hi := 31, lo := 0, acc := .ro }
def blkSCN : List Fld := [SCN_IRQ_IMG_DONE, SCN_IRQ_LIVE_REFUSED, SCN_IRQ_LATE, SCN_IRQ_REFUSED, SCN_IRQ_FREE, SCN_IRQ_COMMIT, SCN_IRQ_READY, SCN_INFLIGHT, SCN_INFLIGHT_MAX, SCN_SLOTS_USED, SCN_FOLLOW_MIRROR, SCN_MODE_OK, SCN_SUPPLY_HOLD, SCN_LIVE_CNT, SCN_LIVE_MERGED, SCN_LIVE_REFUSED, SCN_STATUS, SCN_TARGET, SCN_LAST_TKIND, SCN_LATE_CNT]

/-! SCNC: R291 (chapter 07) -/

def SCNC_CMD_SLOT : Fld := { addr := 0x51040, hi := 8, lo := 4, acc := .wo }
def SCNC_CMD_OP : Fld := { addr := 0x51040, hi := 3, lo := 0, acc := .wo }
def SCNC_ARG : Fld := { addr := 0x51044, hi := 31, lo := 0, step := 4, per := 4, cnt := 4, acc := .rw }
def SCNC_CMD_DONE : Fld := { addr := 0x51054, hi := 31, lo := 31, acc := .ro }
def SCNC_CMD_BUSY : Fld := { addr := 0x51054, hi := 30, lo := 30, acc := .ro }
def SCNC_STAT_SLOT : Fld := { addr := 0x51054, hi := 20, lo := 16, acc := .ro }
def SCNC_CMD_STATUS : Fld := { addr := 0x51054, hi := 7, lo := 0, acc := .ro }
def SCNC_CMD_INDEX : Fld := { addr := 0x51058, hi := 16, lo := 0, acc := .ro }
def SCNC_PORT_W : Fld := { addr := 0x5105C, hi := 31, lo := 0, step := 4, per := 4, cnt := 4, acc := .rw }
def SCNC_PORT_PUSH : Fld := { addr := 0x5106C, hi := 4, lo := 0, acc := .wo }
def SCNC_PORT_DONE : Fld := { addr := 0x51070, hi := 31, lo := 31, acc := .ro }
def SCNC_PORT_STATUS : Fld := { addr := 0x51070, hi := 7, lo := 0, acc := .ro }
def blkSCNC : List Fld := [SCNC_CMD_SLOT, SCNC_CMD_OP, SCNC_ARG, SCNC_CMD_DONE, SCNC_CMD_BUSY, SCNC_STAT_SLOT, SCNC_CMD_STATUS, SCNC_CMD_INDEX, SCNC_PORT_W, SCNC_PORT_PUSH, SCNC_PORT_DONE, SCNC_PORT_STATUS]

/-! SLOT: R292 (chapter 07) -/

def SLOT_STATUS : Fld := { addr := 0x52040, hi := 23, lo := 16, step := 32, per := 16, cnt := 16, acc := .ro }
def SLOT_IMAGE : Fld := { addr := 0x52040, hi := 10, lo := 10, step := 32, per := 16, cnt := 16, acc := .ro }
def SLOT_XF_DEFER : Fld := { addr := 0x52040, hi := 9, lo := 9, step := 32, per := 16, cnt := 16, acc := .ro }
def SLOT_LATE : Fld := { addr := 0x52040, hi := 8, lo := 8, step := 32, per := 16, cnt := 16, acc := .ro }
def SLOT_LATE_ABORT : Fld := { addr := 0x52040, hi := 6, lo := 6, step := 32, per := 16, cnt := 16, acc := .ro }
def SLOT_TRIG : Fld := { addr := 0x52040, hi := 5, lo := 4, step := 32, per := 16, cnt := 16, acc := .ro }
def SLOT_STATE : Fld := { addr := 0x52040, hi := 2, lo := 0, step := 32, per := 16, cnt := 16, acc := .ro }
def SLOT_MOVES : Fld := { addr := 0x52044, hi := 16, lo := 0, step := 32, per := 16, cnt := 16, acc := .ro }
def SLOT_STAGED : Fld := { addr := 0x52048, hi := 16, lo := 0, step := 32, per := 16, cnt := 16, acc := .ro }
def SLOT_BAD_INDEX : Fld := { addr := 0x5204C, hi := 16, lo := 0, step := 32, per := 16, cnt := 16, acc := .ro }
def SLOT_BAD_TAG : Fld := { addr := 0x52050, hi := 15, lo := 0, step := 32, per := 16, cnt := 16, acc := .ro }
def SLOT_MERIDIAN : Fld := { addr := 0x52054, hi := 31, lo := 0, step := 32, per := 16, cnt := 16, acc := .ro }
def SLOT_SCENE : Fld := { addr := 0x52058, hi := 31, lo := 0, step := 32, per := 16, cnt := 16, acc := .ro }
def SLOT_DERIVE_LEFT : Fld := { addr := 0x5205C, hi := 23, lo := 0, step := 32, per := 16, cnt := 16, acc := .ro }
def blkSLOT : List Fld := [SLOT_STATUS, SLOT_IMAGE, SLOT_XF_DEFER, SLOT_LATE, SLOT_LATE_ABORT, SLOT_TRIG, SLOT_STATE, SLOT_MOVES, SLOT_STAGED, SLOT_BAD_INDEX, SLOT_BAD_TAG, SLOT_MERIDIAN, SLOT_SCENE, SLOT_DERIVE_LEFT]

/-! SCNQ: R293 (chapter 07) -/

def SCNQ_IRQ_CUE_EDGE : Fld := { addr := 0x53010, hi := 3, lo := 0, acc := .w1c }
def SCNQ_QW0 : Fld := { addr := 0x53040, hi := 31, lo := 0, acc := .wo }
def SCNQ_VALID : Fld := { addr := 0x53044, hi := 31, lo := 31, acc := .ro }
def SCNQ_PENDING : Fld := { addr := 0x53044, hi := 30, lo := 30, acc := .ro }
def SCNQ_RUNNING : Fld := { addr := 0x53044, hi := 29, lo := 29, acc := .ro }
def SCNQ_DEFERRED : Fld := { addr := 0x53044, hi := 28, lo := 28, acc := .ro }
def SCNQ_PEND_SLOT : Fld := { addr := 0x53044, hi := 20, lo := 16, acc := .ro }
def SCNQ_PEND_CNT : Fld := { addr := 0x53044, hi := 12, lo := 8, acc := .ro }
def SCNQ_RULE : Fld := { addr := 0x53044, hi := 3, lo := 0, acc := .ro }
def SCNQ_QSTAGED : Fld := { addr := 0x53048, hi := 31, lo := 0, acc := .ro }
def SCNQ_QLIVE : Fld := { addr := 0x5304C, hi := 31, lo := 0, acc := .ro }
def SCNQ_QLEFT : Fld := { addr := 0x53050, hi := 23, lo := 0, acc := .ro }
def SCNQ_CUE_EN : Fld := { addr := 0x53080, hi := 0, lo := 0, step := 4, per := 4, cnt := 4, acc := .rw }
def SCNQ_CUE_CNT : Fld := { addr := 0x53090, hi := 31, lo := 0, step := 4, per := 4, cnt := 4, acc := .ro }
def SCNQ_CUE_IDLE : Fld := { addr := 0x530A0, hi := 31, lo := 0, acc := .ro }
def SCNQ_CUE_LEVEL : Fld := { addr := 0x530A4, hi := 3, lo := 0, acc := .ro }
def blkSCNQ : List Fld := [SCNQ_IRQ_CUE_EDGE, SCNQ_QW0, SCNQ_VALID, SCNQ_PENDING, SCNQ_RUNNING, SCNQ_DEFERRED, SCNQ_PEND_SLOT, SCNQ_PEND_CNT, SCNQ_RULE, SCNQ_QSTAGED, SCNQ_QLIVE, SCNQ_QLEFT, SCNQ_CUE_EN, SCNQ_CUE_CNT, SCNQ_CUE_IDLE, SCNQ_CUE_LEVEL]

/-! EPH: R294 (chapter 07) -/

def EPH_IRQ_STEP : Fld := { addr := 0x54010, hi := 2, lo := 2, acc := .w1c }
def EPH_IRQ_FULL : Fld := { addr := 0x54010, hi := 1, lo := 1, acc := .w1c }
def EPH_IRQ_CUE_OUT : Fld := { addr := 0x54010, hi := 0, lo := 0, acc := .w1c }
def EPH_USED : Fld := { addr := 0x54040, hi := 12, lo := 0, acc := .ro }
def EPH_NET_USED : Fld := { addr := 0x54044, hi := 8, lo := 0, acc := .ro }
def EPH_FIRED : Fld := { addr := 0x54048, hi := 31, lo := 0, acc := .ro }
def EPH_REFUSED : Fld := { addr := 0x5404C, hi := 31, lo := 0, acc := .ro }
def EPH_STEPPED : Fld := { addr := 0x54050, hi := 31, lo := 0, acc := .ro }
def EPH_NEXT_SEC_LO : Fld := { addr := 0x54054, hi := 31, lo := 0, acc := .ro }
def EPH_NEXT_SEC_HI : Fld := { addr := 0x54058, hi := 15, lo := 0, acc := .ro }
def EPH_EMPTY : Fld := { addr := 0x5405C, hi := 31, lo := 31, acc := .ro, rst := 1 }
def EPH_NEXT_NS : Fld := { addr := 0x5405C, hi := 29, lo := 0, acc := .ro }
def EPH_KIND : Fld := { addr := 0x54060, hi := 31, lo := 28, acc := .rw }
def EPH_LINE : Fld := { addr := 0x54060, hi := 25, lo := 24, acc := .rw }
def EPH_POL : Fld := { addr := 0x54060, hi := 23, lo := 23, acc := .rw }
def EPH_WIDTH : Fld := { addr := 0x54060, hi := 15, lo := 0, acc := .rw }
def EPH_W1 : Fld := { addr := 0x54064, hi := 31, lo := 0, acc := .rw }
def EPH_W2 : Fld := { addr := 0x54068, hi := 15, lo := 0, acc := .rw }
def EPH_W3 : Fld := { addr := 0x5406C, hi := 29, lo := 0, acc := .rw }
def EPH_PUSH : Fld := { addr := 0x54070, hi := 0, lo := 0, acc := .wo }
def EPH_DONE : Fld := { addr := 0x54074, hi := 31, lo := 31, acc := .ro }
def EPH_HANDLE : Fld := { addr := 0x54074, hi := 23, lo := 12, acc := .ro }
def EPH_STATUS : Fld := { addr := 0x54074, hi := 7, lo := 0, acc := .ro }
def EPH_CANCEL : Fld := { addr := 0x54078, hi := 11, lo := 0, acc := .wo }
def blkEPH : List Fld := [EPH_IRQ_STEP, EPH_IRQ_FULL, EPH_IRQ_CUE_OUT, EPH_USED, EPH_NET_USED, EPH_FIRED, EPH_REFUSED, EPH_STEPPED, EPH_NEXT_SEC_LO, EPH_NEXT_SEC_HI, EPH_EMPTY, EPH_NEXT_NS, EPH_KIND, EPH_LINE, EPH_POL, EPH_WIDTH, EPH_W1, EPH_W2, EPH_W3, EPH_PUSH, EPH_DONE, EPH_HANDLE, EPH_STATUS, EPH_CANCEL]

/-! HEL: R339 (chapter 09) -/

def HEL_IRQ_TRIM_LIMIT : Fld := { addr := 0x70010, hi := 4, lo := 4, acc := .w1c }
def HEL_IRQ_SWITCH : Fld := { addr := 0x70010, hi := 3, lo := 3, acc := .w1c }
def HEL_IRQ_REJECT : Fld := { addr := 0x70010, hi := 2, lo := 2, acc := .w1c }
def HEL_IRQ_ACCEPT : Fld := { addr := 0x70010, hi := 1, lo := 1, acc := .w1c }
def HEL_IRQ_STATE : Fld := { addr := 0x70010, hi := 0, lo := 0, acc := .w1c }
def HEL_PHASE_ALIGNED : Fld := { addr := 0x70040, hi := 31, lo := 31, acc := .ro }
def HEL_SEL : Fld := { addr := 0x70040, hi := 19, lo := 16, acc := .ro, rst := 15 }
def HEL_STATE : Fld := { addr := 0x70040, hi := 1, lo := 0, acc := .ro }
def HEL_TRIM : Fld := { addr := 0x70044, hi := 31, lo := 0, acc := .ro }
def HEL_HOLD : Fld := { addr := 0x70048, hi := 31, lo := 0, acc := .ro }
def HEL_HIST_SECS : Fld := { addr := 0x7004C, hi := 6, lo := 0, acc := .ro }
def HEL_HOLD_AGE : Fld := { addr := 0x70050, hi := 31, lo := 0, acc := .ro }
def HEL_PHASE_ERR : Fld := { addr := 0x70054, hi := 31, lo := 0, acc := .ro }
def HEL_PROV_ERR : Fld := { addr := 0x70058, hi := 7, lo := 7, acc := .w1c }
def HEL_TRIM_LIMIT : Fld := { addr := 0x70058, hi := 6, lo := 6, acc := .w1c }
def HEL_ACQ_TIMEOUT : Fld := { addr := 0x70058, hi := 5, lo := 5, acc := .w1c }
def HEL_SWITCH : Fld := { addr := 0x70058, hi := 4, lo := 4, acc := .w1c }
def HEL_ENTERED : Fld := { addr := 0x70058, hi := 3, lo := 0, acc := .w1c }
def HEL_REJ : Fld := { addr := 0x7005C, hi := 15, lo := 8, acc := .w1c }
def HEL_ACC : Fld := { addr := 0x7005C, hi := 7, lo := 0, acc := .w1c }
def HEL_SWITCH_CNT : Fld := { addr := 0x70060, hi := 31, lo := 0, acc := .ro }
def HEL_TRANS_CNT : Fld := { addr := 0x70064, hi := 31, lo := 0, acc := .ro }
def HEL_STATUS : Fld := { addr := 0x70080, hi := 31, lo := 30, step := 16, per := 8, cnt := 8, acc := .ro }
def HEL_ACTIVE : Fld := { addr := 0x70080, hi := 29, lo := 29, step := 16, per := 8, cnt := 8, acc := .ro }
def HEL_IN_RANGE : Fld := { addr := 0x70080, hi := 28, lo := 28, step := 16, per := 8, cnt := 8, acc := .ro }
def HEL_ELIGIBLE : Fld := { addr := 0x70080, hi := 27, lo := 27, step := 16, per := 8, cnt := 8, acc := .ro }
def HEL_LAST_REJ : Fld := { addr := 0x70080, hi := 19, lo := 16, step := 16, per := 8, cnt := 8, acc := .ro }
def HEL_QUAL_CNT : Fld := { addr := 0x70080, hi := 4, lo := 0, step := 16, per := 8, cnt := 8, acc := .ro }
def HEL_CAND_OFS : Fld := { addr := 0x70084, hi := 31, lo := 0, step := 16, per := 8, cnt := 8, acc := .ro }
def HEL_CAND_RAW : Fld := { addr := 0x70088, hi := 31, lo := 0, step := 16, per := 8, cnt := 8, acc := .ro }
def HEL_REJ_CNT : Fld := { addr := 0x7008C, hi := 31, lo := 16, step := 16, per := 8, cnt := 8, acc := .ro }
def HEL_ACC_CNT : Fld := { addr := 0x7008C, hi := 15, lo := 0, step := 16, per := 8, cnt := 8, acc := .ro }
def HEL_PROV_G0 : Fld := { addr := 0x70100, hi := 31, lo := 0, acc := .ro }
def HEL_PROV_G1 : Fld := { addr := 0x70104, hi := 31, lo := 0, acc := .ro }
def HEL_PROV_C0 : Fld := { addr := 0x70140, hi := 31, lo := 0, step := 8, per := 8, cnt := 8, acc := .ro }
def HEL_PROV_C1 : Fld := { addr := 0x70144, hi := 31, lo := 0, step := 8, per := 8, cnt := 8, acc := .ro }
def blkHEL : List Fld := [HEL_IRQ_TRIM_LIMIT, HEL_IRQ_SWITCH, HEL_IRQ_REJECT, HEL_IRQ_ACCEPT, HEL_IRQ_STATE, HEL_PHASE_ALIGNED, HEL_SEL, HEL_STATE, HEL_TRIM, HEL_HOLD, HEL_HIST_SECS, HEL_HOLD_AGE, HEL_PHASE_ERR, HEL_PROV_ERR, HEL_TRIM_LIMIT, HEL_ACQ_TIMEOUT, HEL_SWITCH, HEL_ENTERED, HEL_REJ, HEL_ACC, HEL_SWITCH_CNT, HEL_TRANS_CNT, HEL_STATUS, HEL_ACTIVE, HEL_IN_RANGE, HEL_ELIGIBLE, HEL_LAST_REJ, HEL_QUAL_CNT, HEL_CAND_OFS, HEL_CAND_RAW, HEL_REJ_CNT, HEL_ACC_CNT, HEL_PROV_G0, HEL_PROV_G1, HEL_PROV_C0, HEL_PROV_C1]

/-! HELLOG: R340 (chapter 09) -/

def HELLOG_LOG_WR : Fld := { addr := 0x71040, hi := 5, lo := 0, acc := .ro }
def HELLOG_LOG_SEQ : Fld := { addr := 0x71044, hi := 15, lo := 0, acc := .ro }
def HELLOG_LOG_TS : Fld := { addr := 0x71080, hi := 31, lo := 0, step := 8, per := 64, cnt := 64, acc := .ro }
def HELLOG_LOG_EVT : Fld := { addr := 0x71084, hi := 31, lo := 0, step := 8, per := 64, cnt := 64, acc := .ro }
def blkHELLOG : List Fld := [HELLOG_LOG_WR, HELLOG_LOG_SEQ, HELLOG_LOG_TS, HELLOG_LOG_EVT]

/-! TIME: R365 (chapter 10) -/

def TIME_IRQ_PUSH_REJ : Fld := { addr := 0x74010, hi := 3, lo := 3, acc := .w1c }
def TIME_IRQ_TXTS_OVF : Fld := { addr := 0x74010, hi := 2, lo := 2, acc := .w1c }
def TIME_IRQ_TXTS : Fld := { addr := 0x74010, hi := 1, lo := 1, acc := .w1c }
def TIME_IRQ_STEP : Fld := { addr := 0x74010, hi := 0, lo := 0, acc := .w1c }
def TIME_SEC_LO : Fld := { addr := 0x74040, hi := 31, lo := 0, acc := .ro }
def TIME_SEC_HI : Fld := { addr := 0x74044, hi := 15, lo := 0, acc := .ro }
def TIME_NS : Fld := { addr := 0x74048, hi := 29, lo := 0, acc := .ro }
def TIME_FRAC : Fld := { addr := 0x7404C, hi := 15, lo := 0, acc := .ro }
def TIME_TS32 : Fld := { addr := 0x74050, hi := 31, lo := 0, acc := .ro }
def TIME_STEP_CNT : Fld := { addr := 0x74054, hi := 31, lo := 0, acc := .ro }
def TIME_VALID : Fld := { addr := 0x74058, hi := 31, lo := 31, acc := .ro }
def TIME_PTP_LOCKED : Fld := { addr := 0x74058, hi := 30, lo := 30, acc := .ro }
def TIME_SRC : Fld := { addr := 0x74058, hi := 19, lo := 16, acc := .ro, rst := 15 }
def TIME_TS32_NOW : Fld := { addr := 0x7405C, hi := 31, lo := 0, acc := .ro }
def TIME_LAST_STEP_LO : Fld := { addr := 0x74060, hi := 31, lo := 0, acc := .ro }
def TIME_LAST_STEP_HI : Fld := { addr := 0x74064, hi := 15, lo := 0, acc := .ro }
def TIME_LAST_STEP_TS32 : Fld := { addr := 0x74068, hi := 31, lo := 0, acc := .ro }
def TIME_LAT_A_TX : Fld := { addr := 0x74070, hi := 31, lo := 16, acc := .ro }
def TIME_LAT_A_RX : Fld := { addr := 0x74070, hi := 15, lo := 0, acc := .ro }
def TIME_LAT_B_TX : Fld := { addr := 0x74074, hi := 31, lo := 16, acc := .ro }
def TIME_LAT_B_RX : Fld := { addr := 0x74074, hi := 15, lo := 0, acc := .ro }
def TIME_TXTS_CNT : Fld := { addr := 0x74080, hi := 6, lo := 0, acc := .ro }
def TIME_TXTS_POP : Fld := { addr := 0x74084, hi := 0, lo := 0, acc := .wo }
def TIME_TXTS_W : Fld := { addr := 0x74088, hi := 31, lo := 0, step := 4, per := 4, cnt := 4, acc := .ro }
def TIME_PORT : Fld := { addr := 0x74098, hi := 16, lo := 16, acc := .ro }
def TIME_TXTS_COOKIE : Fld := { addr := 0x74098, hi := 15, lo := 0, acc := .ro }
def TIME_TXTS_LOST : Fld := { addr := 0x7409C, hi := 31, lo := 0, acc := .ro }
def TIME_EN : Fld := { addr := 0x74100, hi := 31, lo := 31, step := 64, per := 2, cnt := 2, acc := .rw }
def TIME_DOMAIN : Fld := { addr := 0x74100, hi := 7, lo := 0, step := 64, per := 2, cnt := 2, acc := .rw }
def TIME_KIND : Fld := { addr := 0x74104, hi := 0, lo := 0, step := 64, per := 2, cnt := 2, acc := .rw }
def TIME_TA_SEC_LO : Fld := { addr := 0x74108, hi := 31, lo := 0, step := 64, per := 2, cnt := 2, acc := .rw }
def TIME_TA_SEC_HI : Fld := { addr := 0x7410C, hi := 15, lo := 0, step := 64, per := 2, cnt := 2, acc := .rw }
def TIME_TA_NS : Fld := { addr := 0x74110, hi := 29, lo := 0, step := 64, per := 2, cnt := 2, acc := .rw }
def TIME_TB_SEC_LO : Fld := { addr := 0x74114, hi := 31, lo := 0, step := 64, per := 2, cnt := 2, acc := .rw }
def TIME_TB_SEC_HI : Fld := { addr := 0x74118, hi := 15, lo := 0, step := 64, per := 2, cnt := 2, acc := .rw }
def TIME_TB_NS : Fld := { addr := 0x7411C, hi := 29, lo := 0, step := 64, per := 2, cnt := 2, acc := .rw }
def TIME_CORR_LO : Fld := { addr := 0x74120, hi := 31, lo := 0, step := 64, per := 2, cnt := 2, acc := .rw }
def TIME_CORR_HI : Fld := { addr := 0x74124, hi := 31, lo := 0, step := 64, per := 2, cnt := 2, acc := .rw }
def TIME_PUSH : Fld := { addr := 0x74128, hi := 0, lo := 0, step := 64, per := 2, cnt := 2, acc := .wo }
def TIME_OFFSET : Fld := { addr := 0x7412C, hi := 31, lo := 0, step := 64, per := 2, cnt := 2, acc := .ro }
def TIME_MPD : Fld := { addr := 0x74130, hi := 31, lo := 0, step := 64, per := 2, cnt := 2, acc := .ro }
def TIME_MEAS_VALID : Fld := { addr := 0x74134, hi := 31, lo := 31, step := 64, per := 2, cnt := 2, acc := .ro }
def TIME_MPD_VALID : Fld := { addr := 0x74134, hi := 30, lo := 30, step := 64, per := 2, cnt := 2, acc := .ro }
def TIME_MEAS_CNT : Fld := { addr := 0x74138, hi := 31, lo := 0, step := 64, per := 2, cnt := 2, acc := .ro }
def TIME_REJ_CNT : Fld := { addr := 0x7413C, hi := 31, lo := 0, step := 64, per := 2, cnt := 2, acc := .ro }
def blkTIME_0 : List Fld := [TIME_IRQ_PUSH_REJ, TIME_IRQ_TXTS_OVF, TIME_IRQ_TXTS, TIME_IRQ_STEP, TIME_SEC_LO, TIME_SEC_HI, TIME_NS, TIME_FRAC, TIME_TS32, TIME_STEP_CNT, TIME_VALID, TIME_PTP_LOCKED, TIME_SRC, TIME_TS32_NOW, TIME_LAST_STEP_LO, TIME_LAST_STEP_HI, TIME_LAST_STEP_TS32, TIME_LAT_A_TX, TIME_LAT_A_RX, TIME_LAT_B_TX, TIME_LAT_B_RX, TIME_TXTS_CNT, TIME_TXTS_POP, TIME_TXTS_W, TIME_PORT, TIME_TXTS_COOKIE, TIME_TXTS_LOST, TIME_EN, TIME_DOMAIN, TIME_KIND, TIME_TA_SEC_LO, TIME_TA_SEC_HI, TIME_TA_NS, TIME_TB_SEC_LO, TIME_TB_SEC_HI, TIME_TB_NS, TIME_CORR_LO, TIME_CORR_HI, TIME_PUSH, TIME_OFFSET]
def blkTIME_1 : List Fld := [TIME_MPD, TIME_MEAS_VALID, TIME_MPD_VALID, TIME_MEAS_CNT, TIME_REJ_CNT]
def blkTIME : List Fld := blkTIME_0 ++ blkTIME_1

/-! CAL: R366 (chapter 10) -/

def CAL_IRQ_LEAP : Fld := { addr := 0x75010, hi := 3, lo := 3, acc := .w1c }
def CAL_IRQ_RANGE : Fld := { addr := 0x75010, hi := 2, lo := 2, acc := .w1c }
def CAL_IRQ_WRAP : Fld := { addr := 0x75010, hi := 1, lo := 1, acc := .w1c }
def CAL_IRQ_DATE_ERR : Fld := { addr := 0x75010, hi := 0, lo := 0, acc := .w1c }
def CAL_YEAR : Fld := { addr := 0x75040, hi := 27, lo := 16, acc := .ro, rst := 2000 }
def CAL_MONTH : Fld := { addr := 0x75040, hi := 11, lo := 8, acc := .ro, rst := 1 }
def CAL_DAY : Fld := { addr := 0x75040, hi := 4, lo := 0, acc := .ro, rst := 1 }
def CAL_HOUR : Fld := { addr := 0x75044, hi := 20, lo := 16, acc := .ro }
def CAL_MINUTE : Fld := { addr := 0x75044, hi := 13, lo := 8, acc := .ro }
def CAL_SECOND : Fld := { addr := 0x75044, hi := 5, lo := 0, acc := .ro }
def CAL_SET_YEAR : Fld := { addr := 0x75048, hi := 27, lo := 16, acc := .rw, rst := 2000 }
def CAL_SET_MONTH : Fld := { addr := 0x75048, hi := 11, lo := 8, acc := .rw, rst := 1 }
def CAL_SET_DAY : Fld := { addr := 0x75048, hi := 4, lo := 0, acc := .rw, rst := 1 }
def CAL_SET_HOUR : Fld := { addr := 0x7504C, hi := 20, lo := 16, acc := .rw }
def CAL_SET_MINUTE : Fld := { addr := 0x7504C, hi := 13, lo := 8, acc := .rw }
def CAL_SET_SECOND : Fld := { addr := 0x7504C, hi := 5, lo := 0, acc := .rw }
def CAL_SET_GO : Fld := { addr := 0x75050, hi := 0, lo := 0, acc := .wo }
def CAL_LEAP : Fld := { addr := 0x75054, hi := 3, lo := 3, acc := .w1c }
def CAL_RANGE : Fld := { addr := 0x75054, hi := 2, lo := 2, acc := .w1c }
def CAL_CENTURY_WRAP : Fld := { addr := 0x75054, hi := 1, lo := 1, acc := .w1c }
def CAL_DATE_ERR : Fld := { addr := 0x75054, hi := 0, lo := 0, acc := .w1c }
def CAL_AUTO : Fld := { addr := 0x75058, hi := 0, lo := 0, acc := .rw }
def CAL_TAI_UTC : Fld := { addr := 0x7505C, hi := 15, lo := 0, acc := .ro }
def CAL_TAI_UTC_NEXT : Fld := { addr := 0x75060, hi := 15, lo := 0, acc := .rw }
def CAL_TAI_UTC_AT_LO : Fld := { addr := 0x75064, hi := 31, lo := 0, acc := .rw }
def CAL_TAI_UTC_AT_HI : Fld := { addr := 0x75068, hi := 15, lo := 0, acc := .rw }
def CAL_TAI_UTC_ARM : Fld := { addr := 0x7506C, hi := 0, lo := 0, acc := .w1s }
def blkCAL : List Fld := [CAL_IRQ_LEAP, CAL_IRQ_RANGE, CAL_IRQ_WRAP, CAL_IRQ_DATE_ERR, CAL_YEAR, CAL_MONTH, CAL_DAY, CAL_HOUR, CAL_MINUTE, CAL_SECOND, CAL_SET_YEAR, CAL_SET_MONTH, CAL_SET_DAY, CAL_SET_HOUR, CAL_SET_MINUTE, CAL_SET_SECOND, CAL_SET_GO, CAL_LEAP, CAL_RANGE, CAL_CENTURY_WRAP, CAL_DATE_ERR, CAL_AUTO, CAL_TAI_UTC, CAL_TAI_UTC_NEXT, CAL_TAI_UTC_AT_LO, CAL_TAI_UTC_AT_HI, CAL_TAI_UTC_ARM]

/-! NET: R396 (chapter 11) -/

def NET_IRQ_SEQ_GAP : Fld := { addr := 0x80010, hi := 3, lo := 3, pst := 0x8000, cnt := 2, acc := .w1c }
def NET_IRQ_HOST_RX_DROP : Fld := { addr := 0x80010, hi := 2, lo := 2, pst := 0x8000, cnt := 2, acc := .w1c }
def NET_IRQ_LINK_DOWN : Fld := { addr := 0x80010, hi := 1, lo := 1, pst := 0x8000, cnt := 2, acc := .w1c }
def NET_IRQ_LINK_UP : Fld := { addr := 0x80010, hi := 0, lo := 0, pst := 0x8000, cnt := 2, acc := .w1c }
def NET_MC_ALL : Fld := { addr := 0x80040, hi := 9, lo := 9, pst := 0x8000, cnt := 2, acc := .rw }
def NET_AN : Fld := { addr := 0x80040, hi := 8, lo := 8, pst := 0x8000, cnt := 2, acc := .rw, rst := 1 }
def NET_FEC : Fld := { addr := 0x80040, hi := 5, lo := 4, pst := 0x8000, cnt := 2, acc := .rw, rst := 2 }
def NET_SPEED : Fld := { addr := 0x80040, hi := 1, lo := 0, pst := 0x8000, cnt := 2, acc := .rw }
def NET_SPEED_NOW : Fld := { addr := 0x80044, hi := 5, lo := 4, pst := 0x8000, cnt := 2, acc := .ro }
def NET_AN_DONE : Fld := { addr := 0x80044, hi := 2, lo := 2, pst := 0x8000, cnt := 2, acc := .ro }
def NET_FEC_LOCK : Fld := { addr := 0x80044, hi := 1, lo := 1, pst := 0x8000, cnt := 2, acc := .ro }
def NET_UP : Fld := { addr := 0x80044, hi := 0, lo := 0, pst := 0x8000, cnt := 2, acc := .ro }
def NET_MAC_LO : Fld := { addr := 0x80048, hi := 31, lo := 0, pst := 0x8000, cnt := 2, acc := .rw }
def NET_MAC_HI : Fld := { addr := 0x8004C, hi := 15, lo := 0, pst := 0x8000, cnt := 2, acc := .rw }
def NET_IP : Fld := { addr := 0x80050, hi := 31, lo := 0, pst := 0x8000, cnt := 2, acc := .rw }
def NET_RX_FRAMES : Fld := { addr := 0x80054, hi := 31, lo := 0, pst := 0x8000, cnt := 2, acc := .ro }
def NET_RX_FCS_ERR : Fld := { addr := 0x80058, hi := 31, lo := 0, pst := 0x8000, cnt := 2, acc := .ro }
def NET_RX_DROP : Fld := { addr := 0x8005C, hi := 31, lo := 0, pst := 0x8000, cnt := 2, acc := .ro }
def NET_TX_FRAMES : Fld := { addr := 0x80060, hi := 31, lo := 0, pst := 0x8000, cnt := 2, acc := .ro }
def NET_LINK_DOWN_CNT : Fld := { addr := 0x80064, hi := 31, lo := 0, pst := 0x8000, cnt := 2, acc := .ro }
def NET_HOST_RX_DROP : Fld := { addr := 0x80068, hi := 31, lo := 0, pst := 0x8000, cnt := 2, acc := .ro }
def blkNET : List Fld := [NET_IRQ_SEQ_GAP, NET_IRQ_HOST_RX_DROP, NET_IRQ_LINK_DOWN, NET_IRQ_LINK_UP, NET_MC_ALL, NET_AN, NET_FEC, NET_SPEED, NET_SPEED_NOW, NET_AN_DONE, NET_FEC_LOCK, NET_UP, NET_MAC_LO, NET_MAC_HI, NET_IP, NET_RX_FRAMES, NET_RX_FCS_ERR, NET_RX_DROP, NET_TX_FRAMES, NET_LINK_DOWN_CNT, NET_HOST_RX_DROP]

/-! NETR: R397 (chapter 11) -/

def NETR_RING_BASE_LO : Fld := { addr := 0x81040, hi := 31, lo := 5, step := 64, per := 4, pst := 0x8000, cnt := 8, acc := .rw }
def NETR_RING_BASE_HI : Fld := { addr := 0x81044, hi := 31, lo := 0, step := 64, per := 4, pst := 0x8000, cnt := 8, acc := .rw }
def NETR_RING_SLOTS : Fld := { addr := 0x81048, hi := 12, lo := 0, step := 64, per := 4, pst := 0x8000, cnt := 8, acc := .rw, rst := 64 }
def NETR_RING_DB : Fld := { addr := 0x8104C, hi := 31, lo := 0, step := 64, per := 4, pst := 0x8000, cnt := 8, acc := .wo }
def NETR_RING_EXPECT : Fld := { addr := 0x81050, hi := 31, lo := 0, step := 64, per := 4, pst := 0x8000, cnt := 8, acc := .ro }
def NETR_CPL_BASE_LO : Fld := { addr := 0x81054, hi := 31, lo := 4, step := 64, per := 4, pst := 0x8000, cnt := 8, acc := .rw }
def NETR_CPL_BASE_HI : Fld := { addr := 0x81058, hi := 31, lo := 0, step := 64, per := 4, pst := 0x8000, cnt := 8, acc := .rw }
def NETR_CPL_SLOTS : Fld := { addr := 0x8105C, hi := 12, lo := 0, step := 64, per := 4, pst := 0x8000, cnt := 8, acc := .rw, rst := 64 }
def NETR_CPL_WR : Fld := { addr := 0x81060, hi := 12, lo := 0, step := 64, per := 4, pst := 0x8000, cnt := 8, acc := .ro }
def NETR_CPL_RD_SET : Fld := { addr := 0x81064, hi := 12, lo := 0, step := 64, per := 4, pst := 0x8000, cnt := 8, acc := .wo }
def NETR_CPL_RD : Fld := { addr := 0x81068, hi := 12, lo := 0, step := 64, per := 4, pst := 0x8000, cnt := 8, acc := .ro }
def NETR_RING_GAP_CNT : Fld := { addr := 0x8106C, hi := 31, lo := 0, step := 64, per := 4, pst := 0x8000, cnt := 8, acc := .ro }
def NETR_RING_DUP_CNT : Fld := { addr := 0x81070, hi := 31, lo := 0, step := 64, per := 4, pst := 0x8000, cnt := 8, acc := .ro }
def blkNETR : List Fld := [NETR_RING_BASE_LO, NETR_RING_BASE_HI, NETR_RING_SLOTS, NETR_RING_DB, NETR_RING_EXPECT, NETR_CPL_BASE_LO, NETR_CPL_BASE_HI, NETR_CPL_SLOTS, NETR_CPL_WR, NETR_CPL_RD_SET, NETR_CPL_RD, NETR_RING_GAP_CNT, NETR_RING_DUP_CNT]

/-! RXS: R398 (chapter 11) -/

def RXS_IRQ_RX_FMT : Fld := { addr := 0x82010, hi := 2, lo := 2, pst := 0x1000, cnt := 4, acc := .w1c }
def RXS_IRQ_RX_LOST : Fld := { addr := 0x82010, hi := 1, lo := 1, pst := 0x1000, cnt := 4, acc := .w1c }
def RXS_IRQ_RX_RUN : Fld := { addr := 0x82010, hi := 0, lo := 0, pst := 0x1000, cnt := 4, acc := .w1c }
def RXS_STATE : Fld := { addr := 0x82040, hi := 31, lo := 30, step := 32, per := 64, pst := 0x1000, cnt := 256, acc := .ro }
def RXS_PATH_A_UP : Fld := { addr := 0x82040, hi := 29, lo := 29, step := 32, per := 64, pst := 0x1000, cnt := 256, acc := .ro }
def RXS_PATH_B_UP : Fld := { addr := 0x82040, hi := 28, lo := 28, step := 32, per := 64, pst := 0x1000, cnt := 256, acc := .ro }
def RXS_FMT_ERR : Fld := { addr := 0x82040, hi := 3, lo := 3, step := 32, per := 64, pst := 0x1000, cnt := 256, acc := .w1c }
def RXS_LATE : Fld := { addr := 0x82040, hi := 2, lo := 2, step := 32, per := 64, pst := 0x1000, cnt := 256, acc := .w1c }
def RXS_UNDERRUN : Fld := { addr := 0x82040, hi := 1, lo := 1, step := 32, per := 64, pst := 0x1000, cnt := 256, acc := .w1c }
def RXS_STEP : Fld := { addr := 0x82040, hi := 0, lo := 0, step := 32, per := 64, pst := 0x1000, cnt := 256, acc := .w1c }
def RXS_RX_PKTS_A : Fld := { addr := 0x82044, hi := 31, lo := 0, step := 32, per := 64, pst := 0x1000, cnt := 256, acc := .ro }
def RXS_RX_PKTS_B : Fld := { addr := 0x82048, hi := 31, lo := 0, step := 32, per := 64, pst := 0x1000, cnt := 256, acc := .ro }
def RXS_RX_LOST_A : Fld := { addr := 0x8204C, hi := 31, lo := 16, step := 32, per := 64, pst := 0x1000, cnt := 256, acc := .ro }
def RXS_RX_LOST_B : Fld := { addr := 0x8204C, hi := 15, lo := 0, step := 32, per := 64, pst := 0x1000, cnt := 256, acc := .ro }
def RXS_RX_DISCARD : Fld := { addr := 0x82050, hi := 31, lo := 16, step := 32, per := 64, pst := 0x1000, cnt := 256, acc := .ro }
def RXS_RX_DUP : Fld := { addr := 0x82050, hi := 15, lo := 0, step := 32, per := 64, pst := 0x1000, cnt := 256, acc := .ro }
def RXS_RX_LATE : Fld := { addr := 0x82054, hi := 31, lo := 0, step := 32, per := 64, pst := 0x1000, cnt := 256, acc := .ro }
def RXS_RX_UNDERRUN : Fld := { addr := 0x82058, hi := 31, lo := 0, step := 32, per := 64, pst := 0x1000, cnt := 256, acc := .ro }
def RXS_MARGIN_MIN : Fld := { addr := 0x8205C, hi := 15, lo := 0, step := 32, per := 64, pst := 0x1000, cnt := 256, acc := .rc, rst := 65535 }
def blkRXS : List Fld := [RXS_IRQ_RX_FMT, RXS_IRQ_RX_LOST, RXS_IRQ_RX_RUN, RXS_STATE, RXS_PATH_A_UP, RXS_PATH_B_UP, RXS_FMT_ERR, RXS_LATE, RXS_UNDERRUN, RXS_STEP, RXS_RX_PKTS_A, RXS_RX_PKTS_B, RXS_RX_LOST_A, RXS_RX_LOST_B, RXS_RX_DISCARD, RXS_RX_DUP, RXS_RX_LATE, RXS_RX_UNDERRUN, RXS_MARGIN_MIN]

/-! TXS: R399 (chapter 11) -/

def TXS_IRQ_TX_CLIP : Fld := { addr := 0x8A010, hi := 2, lo := 2, pst := 0x1000, cnt := 4, acc := .w1c }
def TXS_IRQ_TX_LATE : Fld := { addr := 0x8A010, hi := 1, lo := 1, pst := 0x1000, cnt := 4, acc := .w1c }
def TXS_IRQ_TX_DROP : Fld := { addr := 0x8A010, hi := 0, lo := 0, pst := 0x1000, cnt := 4, acc := .w1c }
def TXS_STATE : Fld := { addr := 0x8A040, hi := 31, lo := 30, step := 32, per := 64, pst := 0x1000, cnt := 256, acc := .ro }
def TXS_CLIP : Fld := { addr := 0x8A040, hi := 2, lo := 2, step := 32, per := 64, pst := 0x1000, cnt := 256, acc := .w1c }
def TXS_LATE : Fld := { addr := 0x8A040, hi := 1, lo := 1, step := 32, per := 64, pst := 0x1000, cnt := 256, acc := .w1c }
def TXS_DROP : Fld := { addr := 0x8A040, hi := 0, lo := 0, step := 32, per := 64, pst := 0x1000, cnt := 256, acc := .w1c }
def TXS_TX_SEQ : Fld := { addr := 0x8A044, hi := 15, lo := 0, step := 32, per := 64, pst := 0x1000, cnt := 256, acc := .ro }
def TXS_TX_RTP : Fld := { addr := 0x8A048, hi := 31, lo := 0, step := 32, per := 64, pst := 0x1000, cnt := 256, acc := .ro }
def TXS_TX_PKTS : Fld := { addr := 0x8A04C, hi := 31, lo := 0, step := 32, per := 64, pst := 0x1000, cnt := 256, acc := .ro }
def TXS_TX_LATE : Fld := { addr := 0x8A050, hi := 31, lo := 0, step := 32, per := 64, pst := 0x1000, cnt := 256, acc := .ro }
def TXS_TX_LATE_MAX : Fld := { addr := 0x8A054, hi := 15, lo := 0, step := 32, per := 64, pst := 0x1000, cnt := 256, acc := .rc }
def TXS_TX_CLIP : Fld := { addr := 0x8A058, hi := 31, lo := 0, step := 32, per := 64, pst := 0x1000, cnt := 256, acc := .ro }
def TXS_TX_MUTED : Fld := { addr := 0x8A05C, hi := 31, lo := 16, step := 32, per := 64, pst := 0x1000, cnt := 256, acc := .ro }
def TXS_TX_DROP : Fld := { addr := 0x8A05C, hi := 15, lo := 0, step := 32, per := 64, pst := 0x1000, cnt := 256, acc := .ro }
def blkTXS : List Fld := [TXS_IRQ_TX_CLIP, TXS_IRQ_TX_LATE, TXS_IRQ_TX_DROP, TXS_STATE, TXS_CLIP, TXS_LATE, TXS_DROP, TXS_TX_SEQ, TXS_TX_RTP, TXS_TX_PKTS, TXS_TX_LATE, TXS_TX_LATE_MAX, TXS_TX_CLIP, TXS_TX_MUTED, TXS_TX_DROP]

/-! AESRX: R428 (chapter 12) -/

def AESRX_IRQ_CS_CHANGE : Fld := { addr := 0x90010, hi := 3, lo := 3, acc := .w1c }
def AESRX_IRQ_CRC : Fld := { addr := 0x90010, hi := 2, lo := 2, acc := .w1c }
def AESRX_IRQ_LOS : Fld := { addr := 0x90010, hi := 1, lo := 1, acc := .w1c }
def AESRX_IRQ_LOCK : Fld := { addr := 0x90010, hi := 0, lo := 0, acc := .w1c }
def AESRX_LOS_MAP : Fld := { addr := 0x90040, hi := 31, lo := 0, acc := .ro, rst := 4294967295 }
def AESRX_LOCK_MAP : Fld := { addr := 0x90044, hi := 31, lo := 0, acc := .ro }
def AESRX_LOS_EVT : Fld := { addr := 0x90048, hi := 31, lo := 0, acc := .w1c }
def AESRX_CS_EVT : Fld := { addr := 0x9004C, hi := 31, lo := 0, acc := .w1c }
def AESRX_VCXO : Fld := { addr := 0x90100, hi := 5, lo := 4, step := 16, per := 32, cnt := 32, acc := .rw }
def AESRX_FOLLOW : Fld := { addr := 0x90100, hi := 3, lo := 3, step := 16, per := 32, cnt := 32, acc := .rw }
def AESRX_V_ZERO : Fld := { addr := 0x90100, hi := 2, lo := 2, step := 16, per := 32, cnt := 32, acc := .rw }
def AESRX_SYNC_DECL : Fld := { addr := 0x90100, hi := 1, lo := 1, step := 16, per := 32, cnt := 32, acc := .rw }
def AESRX_EN : Fld := { addr := 0x90100, hi := 0, lo := 0, step := 16, per := 32, cnt := 32, acc := .rw }
def AESRX_LOCK : Fld := { addr := 0x90104, hi := 31, lo := 31, step := 16, per := 32, cnt := 32, acc := .ro }
def AESRX_LOS : Fld := { addr := 0x90104, hi := 30, lo := 30, step := 16, per := 32, cnt := 32, acc := .ro, rst := 1 }
def AESRX_MEDIA : Fld := { addr := 0x90104, hi := 29, lo := 29, step := 16, per := 32, cnt := 32, acc := .ro }
def AESRX_BLK : Fld := { addr := 0x90104, hi := 28, lo := 28, step := 16, per := 32, cnt := 32, acc := .ro }
def AESRX_PRO : Fld := { addr := 0x90104, hi := 27, lo := 27, step := 16, per := 32, cnt := 32, acc := .ro }
def AESRX_V_NOW : Fld := { addr := 0x90104, hi := 26, lo := 26, step := 16, per := 32, cnt := 32, acc := .ro }
def AESRX_BLK_SEQ : Fld := { addr := 0x90104, hi := 25, lo := 18, step := 16, per := 32, cnt := 32, acc := .ro }
def AESRX_RATE : Fld := { addr := 0x90104, hi := 17, lo := 0, step := 16, per := 32, cnt := 32, acc := .ro }
def AESRX_PAR_ERR : Fld := { addr := 0x90108, hi := 31, lo := 16, step := 16, per := 32, cnt := 32, acc := .ro }
def AESRX_CRC_ERR : Fld := { addr := 0x90108, hi := 15, lo := 0, step := 16, per := 32, cnt := 32, acc := .ro }
def AESRX_BLK_ERR : Fld := { addr := 0x9010C, hi := 31, lo := 16, step := 16, per := 32, cnt := 32, acc := .ro }
def AESRX_SLIP : Fld := { addr := 0x9010C, hi := 15, lo := 0, step := 16, per := 32, cnt := 32, acc := .ro }
def blkAESRX : List Fld := [AESRX_IRQ_CS_CHANGE, AESRX_IRQ_CRC, AESRX_IRQ_LOS, AESRX_IRQ_LOCK, AESRX_LOS_MAP, AESRX_LOCK_MAP, AESRX_LOS_EVT, AESRX_CS_EVT, AESRX_VCXO, AESRX_FOLLOW, AESRX_V_ZERO, AESRX_SYNC_DECL, AESRX_EN, AESRX_LOCK, AESRX_LOS, AESRX_MEDIA, AESRX_BLK, AESRX_PRO, AESRX_V_NOW, AESRX_BLK_SEQ, AESRX_RATE, AESRX_PAR_ERR, AESRX_CRC_ERR, AESRX_BLK_ERR, AESRX_SLIP]

/-! AESTX: R430 (chapter 12) -/

def AESTX_IRQ_RATE_ERR : Fld := { addr := 0x93010, hi := 0, lo := 0, acc := .w1c }
def AESTX_CS_AUTO : Fld := { addr := 0x93100, hi := 4, lo := 4, step := 16, per := 32, cnt := 32, acc := .rw, rst := 1 }
def AESTX_V_SET : Fld := { addr := 0x93100, hi := 3, lo := 3, step := 16, per := 32, cnt := 32, acc := .rw }
def AESTX_DIV : Fld := { addr := 0x93100, hi := 2, lo := 1, step := 16, per := 32, cnt := 32, acc := .rw }
def AESTX_EN : Fld := { addr := 0x93100, hi := 0, lo := 0, step := 16, per := 32, cnt := 32, acc := .rw }
def AESTX_RUN : Fld := { addr := 0x93104, hi := 31, lo := 31, step := 16, per := 32, cnt := 32, acc := .ro }
def AESTX_RATE_ERR : Fld := { addr := 0x93104, hi := 30, lo := 30, step := 16, per := 32, cnt := 32, acc := .ro }
def AESTX_RATE : Fld := { addr := 0x93104, hi := 17, lo := 0, step := 16, per := 32, cnt := 32, acc := .ro }
def blkAESTX : List Fld := [AESTX_IRQ_RATE_ERR, AESTX_CS_AUTO, AESTX_V_SET, AESTX_DIV, AESTX_EN, AESTX_RUN, AESTX_RATE_ERR, AESTX_RATE]

/-! MADI: R431 (chapter 12) -/

def MADI_IRQ_FRAME_ERR : Fld := { addr := 0x94010, hi := 2, lo := 2, acc := .w1c }
def MADI_IRQ_LOS : Fld := { addr := 0x94010, hi := 1, lo := 1, acc := .w1c }
def MADI_IRQ_LOCK : Fld := { addr := 0x94010, hi := 0, lo := 0, acc := .w1c }
def MADI_V_SET : Fld := { addr := 0x94100, hi := 12, lo := 12, step := 32, per := 4, cnt := 4, acc := .rw }
def MADI_VCXO : Fld := { addr := 0x94100, hi := 11, lo := 10, step := 32, per := 4, cnt := 4, acc := .rw }
def MADI_FOLLOW : Fld := { addr := 0x94100, hi := 9, lo := 9, step := 32, per := 4, cnt := 4, acc := .rw }
def MADI_CS_AUTO : Fld := { addr := 0x94100, hi := 8, lo := 8, step := 32, per := 4, cnt := 4, acc := .rw, rst := 1 }
def MADI_V_ZERO : Fld := { addr := 0x94100, hi := 7, lo := 7, step := 32, per := 4, cnt := 4, acc := .rw }
def MADI_SYNC_DECL : Fld := { addr := 0x94100, hi := 6, lo := 6, step := 32, per := 4, cnt := 4, acc := .rw }
def MADI_TX_DIV : Fld := { addr := 0x94100, hi := 5, lo := 4, step := 32, per := 4, cnt := 4, acc := .rw }
def MADI_FRAME : Fld := { addr := 0x94100, hi := 3, lo := 2, step := 32, per := 4, cnt := 4, acc := .rw }
def MADI_TX_EN : Fld := { addr := 0x94100, hi := 1, lo := 1, step := 32, per := 4, cnt := 4, acc := .rw }
def MADI_RX_EN : Fld := { addr := 0x94100, hi := 0, lo := 0, step := 32, per := 4, cnt := 4, acc := .rw }
def MADI_LOCK : Fld := { addr := 0x94104, hi := 31, lo := 31, step := 32, per := 4, cnt := 4, acc := .ro }
def MADI_LOS : Fld := { addr := 0x94104, hi := 30, lo := 30, step := 32, per := 4, cnt := 4, acc := .ro, rst := 1 }
def MADI_MEDIA : Fld := { addr := 0x94104, hi := 29, lo := 29, step := 32, per := 4, cnt := 4, acc := .ro }
def MADI_FRAME_ERR : Fld := { addr := 0x94104, hi := 28, lo := 28, step := 32, per := 4, cnt := 4, acc := .w1c }
def MADI_TX_RUN : Fld := { addr := 0x94104, hi := 27, lo := 27, step := 32, per := 4, cnt := 4, acc := .ro }
def MADI_RATE_ERR : Fld := { addr := 0x94104, hi := 26, lo := 26, step := 32, per := 4, cnt := 4, acc := .ro }
def MADI_RATE : Fld := { addr := 0x94104, hi := 17, lo := 0, step := 32, per := 4, cnt := 4, acc := .ro }
def MADI_PAR_ERR : Fld := { addr := 0x94108, hi := 31, lo := 16, step := 32, per := 4, cnt := 4, acc := .ro }
def MADI_SYM_ERR : Fld := { addr := 0x94108, hi := 15, lo := 0, step := 32, per := 4, cnt := 4, acc := .ro }
def MADI_SLIP : Fld := { addr := 0x9410C, hi := 15, lo := 0, step := 32, per := 4, cnt := 4, acc := .ro }
def MADI_RX_ACTIVE0 : Fld := { addr := 0x94110, hi := 31, lo := 0, step := 32, per := 4, cnt := 4, acc := .ro }
def MADI_RX_ACTIVE1 : Fld := { addr := 0x94114, hi := 31, lo := 0, step := 32, per := 4, cnt := 4, acc := .ro }
def MADI_TX_CS : Fld := { addr := 0x94200, hi := 31, lo := 0, step := 4, per := 32, cnt := 32, grp := 8, lim := 6, acc := .rw }
def blkMADI : List Fld := [MADI_IRQ_FRAME_ERR, MADI_IRQ_LOS, MADI_IRQ_LOCK, MADI_V_SET, MADI_VCXO, MADI_FOLLOW, MADI_CS_AUTO, MADI_V_ZERO, MADI_SYNC_DECL, MADI_TX_DIV, MADI_FRAME, MADI_TX_EN, MADI_RX_EN, MADI_LOCK, MADI_LOS, MADI_MEDIA, MADI_FRAME_ERR, MADI_TX_RUN, MADI_RATE_ERR, MADI_RATE, MADI_PAR_ERR, MADI_SYM_ERR, MADI_SLIP, MADI_RX_ACTIVE0, MADI_RX_ACTIVE1, MADI_TX_CS]

/-! TDM: R432 (chapter 12) -/

def TDM_IRQ_FS_ERR : Fld := { addr := 0x95010, hi := 2, lo := 2, pst := 0x1000, cnt := 2, acc := .w1c }
def TDM_IRQ_LOS : Fld := { addr := 0x95010, hi := 1, lo := 1, pst := 0x1000, cnt := 2, acc := .w1c }
def TDM_IRQ_RATE_ERR : Fld := { addr := 0x95010, hi := 0, lo := 0, pst := 0x1000, cnt := 2, acc := .w1c }
def TDM_RESTART : Fld := { addr := 0x95100, hi := 22, lo := 22, step := 32, per := 12, pst := 0x1000, cnt := 24, acc := .w1s }
def TDM_MCLK : Fld := { addr := 0x95100, hi := 21, lo := 20, step := 32, per := 12, pst := 0x1000, cnt := 24, acc := .rw }
def TDM_VCXO : Fld := { addr := 0x95100, hi := 19, lo := 18, step := 32, per := 12, pst := 0x1000, cnt := 24, acc := .rw }
def TDM_FOLLOW : Fld := { addr := 0x95100, hi := 17, lo := 17, step := 32, per := 12, pst := 0x1000, cnt := 24, acc := .rw }
def TDM_SYNC_DECL : Fld := { addr := 0x95100, hi := 16, lo := 16, step := 32, per := 12, pst := 0x1000, cnt := 24, acc := .rw }
def TDM_FS_TRACK : Fld := { addr := 0x95100, hi := 15, lo := 15, step := 32, per := 12, pst := 0x1000, cnt := 24, acc := .rw, rst := 1 }
def TDM_DIV : Fld := { addr := 0x95100, hi := 14, lo := 13, step := 32, per := 12, pst := 0x1000, cnt := 24, acc := .rw }
def TDM_SLOTS : Fld := { addr := 0x95100, hi := 12, lo := 8, step := 32, per := 12, pst := 0x1000, cnt := 24, acc := .rw, rst := 8 }
def TDM_BCLK_EDGE : Fld := { addr := 0x95100, hi := 7, lo := 7, step := 32, per := 12, pst := 0x1000, cnt := 24, acc := .rw }
def TDM_FS_POL : Fld := { addr := 0x95100, hi := 6, lo := 6, step := 32, per := 12, pst := 0x1000, cnt := 24, acc := .rw }
def TDM_DELAY : Fld := { addr := 0x95100, hi := 5, lo := 5, step := 32, per := 12, pst := 0x1000, cnt := 24, acc := .rw, rst := 1 }
def TDM_FORMAT : Fld := { addr := 0x95100, hi := 4, lo := 3, step := 32, per := 12, pst := 0x1000, cnt := 24, acc := .rw, rst := 1 }
def TDM_MASTER : Fld := { addr := 0x95100, hi := 2, lo := 2, step := 32, per := 12, pst := 0x1000, cnt := 24, acc := .rw, rst := 1 }
def TDM_TX_EN : Fld := { addr := 0x95100, hi := 1, lo := 1, step := 32, per := 12, pst := 0x1000, cnt := 24, acc := .rw }
def TDM_RX_EN : Fld := { addr := 0x95100, hi := 0, lo := 0, step := 32, per := 12, pst := 0x1000, cnt := 24, acc := .rw }
def TDM_LOCK : Fld := { addr := 0x95104, hi := 31, lo := 31, step := 32, per := 12, pst := 0x1000, cnt := 24, acc := .ro }
def TDM_LOS : Fld := { addr := 0x95104, hi := 30, lo := 30, step := 32, per := 12, pst := 0x1000, cnt := 24, acc := .ro, rst := 1 }
def TDM_MEDIA : Fld := { addr := 0x95104, hi := 29, lo := 29, step := 32, per := 12, pst := 0x1000, cnt := 24, acc := .ro }
def TDM_TX_RUN : Fld := { addr := 0x95104, hi := 28, lo := 28, step := 32, per := 12, pst := 0x1000, cnt := 24, acc := .ro }
def TDM_RATE_ERR : Fld := { addr := 0x95104, hi := 27, lo := 27, step := 32, per := 12, pst := 0x1000, cnt := 24, acc := .ro }
def TDM_BCLK_ERR : Fld := { addr := 0x95104, hi := 26, lo := 26, step := 32, per := 12, pst := 0x1000, cnt := 24, acc := .ro }
def TDM_RATE : Fld := { addr := 0x95104, hi := 17, lo := 0, step := 32, per := 12, pst := 0x1000, cnt := 24, acc := .ro }
def TDM_FS_ERR : Fld := { addr := 0x95108, hi := 31, lo := 16, step := 32, per := 12, pst := 0x1000, cnt := 24, acc := .ro }
def TDM_RX_SLIP : Fld := { addr := 0x95108, hi := 15, lo := 0, step := 32, per := 12, pst := 0x1000, cnt := 24, acc := .ro }
def TDM_TX_SLIP : Fld := { addr := 0x9510C, hi := 15, lo := 0, step := 32, per := 12, pst := 0x1000, cnt := 24, acc := .ro }
def blkTDM : List Fld := [TDM_IRQ_FS_ERR, TDM_IRQ_LOS, TDM_IRQ_RATE_ERR, TDM_RESTART, TDM_MCLK, TDM_VCXO, TDM_FOLLOW, TDM_SYNC_DECL, TDM_FS_TRACK, TDM_DIV, TDM_SLOTS, TDM_BCLK_EDGE, TDM_FS_POL, TDM_DELAY, TDM_FORMAT, TDM_MASTER, TDM_TX_EN, TDM_RX_EN, TDM_LOCK, TDM_LOS, TDM_MEDIA, TDM_TX_RUN, TDM_RATE_ERR, TDM_BCLK_ERR, TDM_RATE, TDM_FS_ERR, TDM_RX_SLIP, TDM_TX_SLIP]

/-! PMUX: R433 (chapter 12) -/

def PMUX_IRQ_PC_VCXO : Fld := { addr := 0x97010, hi := 1, lo := 1, acc := .w1c }
def PMUX_IRQ_SWITCH : Fld := { addr := 0x97010, hi := 0, lo := 0, acc := .w1c }
def PMUX_PENDING : Fld := { addr := 0x97040, hi := 7, lo := 0, acc := .ro }
def PMUX_VCXO_SLEW : Fld := { addr := 0x97080, hi := 31, lo := 16, step := 4, per := 4, cnt := 4, acc := .rw, rst := 64 }
def PMUX_FOLLOW_CAND : Fld := { addr := 0x97080, hi := 3, lo := 1, step := 4, per := 4, cnt := 4, acc := .rw, rst := 7 }
def PMUX_EN : Fld := { addr := 0x97080, hi := 0, lo := 0, step := 4, per := 4, cnt := 4, acc := .rw }
def PMUX_VCXO_MAX : Fld := { addr := 0x97090, hi := 31, lo := 16, step := 4, per := 4, cnt := 4, acc := .rw, rst := 65535 }
def PMUX_VCXO_MIN : Fld := { addr := 0x97090, hi := 15, lo := 0, step := 4, per := 4, cnt := 4, acc := .rw }
def PMUX_RUN : Fld := { addr := 0x970A0, hi := 31, lo := 31, step := 4, per := 4, cnt := 4, acc := .ro }
def PMUX_BOUND : Fld := { addr := 0x970A0, hi := 30, lo := 30, step := 4, per := 4, cnt := 4, acc := .ro }
def PMUX_CODE : Fld := { addr := 0x970A0, hi := 15, lo := 0, step := 4, per := 4, cnt := 4, acc := .ro, rst := 32768 }
def PMUX_VCXO_PC : Fld := { addr := 0x970B0, hi := 3, lo := 0, acc := .w1c }
def PMUX_PULL : Fld := { addr := 0x97200, hi := 17, lo := 16, step := 4, per := 192, cnt := 192, acc := .rw }
def PMUX_FUNC : Fld := { addr := 0x97200, hi := 15, lo := 8, step := 4, per := 192, cnt := 192, acc := .rw }
def PMUX_INDEX : Fld := { addr := 0x97200, hi := 7, lo := 0, step := 4, per := 192, cnt := 192, acc := .rw }
def blkPMUX : List Fld := [PMUX_IRQ_PC_VCXO, PMUX_IRQ_SWITCH, PMUX_PENDING, PMUX_VCXO_SLEW, PMUX_FOLLOW_CAND, PMUX_EN, PMUX_VCXO_MAX, PMUX_VCXO_MIN, PMUX_RUN, PMUX_BOUND, PMUX_CODE, PMUX_VCXO_PC, PMUX_PULL, PMUX_FUNC, PMUX_INDEX]

/-! LANE: R458 (chapter 13) -/

def LANE_IRQ_CHK_LOST : Fld := { addr := 0xA0010, hi := 1, lo := 1, acc := .w1c }
def LANE_IRQ_CDR_LOST : Fld := { addr := 0xA0010, hi := 0, lo := 0, acc := .w1c }
def LANE_CDR_MAP : Fld := { addr := 0xA0040, hi := 13, lo := 0, acc := .ro }
def LANE_PRBS_SEL : Fld := { addr := 0xA0100, hi := 10, lo := 8, step := 32, per := 14, cnt := 14, acc := .rw }
def LANE_ADAPT_FREEZE : Fld := { addr := 0xA0100, hi := 6, lo := 6, step := 32, per := 14, cnt := 14, acc := .rw }
def LANE_RX_INV : Fld := { addr := 0xA0100, hi := 5, lo := 5, step := 32, per := 14, cnt := 14, acc := .rw }
def LANE_PRBS_CLR : Fld := { addr := 0xA0100, hi := 4, lo := 4, step := 32, per := 14, cnt := 14, acc := .w1s }
def LANE_PRBS_CHK : Fld := { addr := 0xA0100, hi := 3, lo := 3, step := 32, per := 14, cnt := 14, acc := .rw }
def LANE_PRBS_GEN : Fld := { addr := 0xA0100, hi := 2, lo := 2, step := 32, per := 14, cnt := 14, acc := .rw }
def LANE_TX_INV : Fld := { addr := 0xA0100, hi := 1, lo := 1, step := 32, per := 14, cnt := 14, acc := .rw }
def LANE_SIG_DET : Fld := { addr := 0xA0104, hi := 31, lo := 31, step := 32, per := 14, cnt := 14, acc := .ro }
def LANE_CDR_LOCK : Fld := { addr := 0xA0104, hi := 30, lo := 30, step := 32, per := 14, cnt := 14, acc := .ro }
def LANE_ADAPT_DONE : Fld := { addr := 0xA0104, hi := 29, lo := 29, step := 32, per := 14, cnt := 14, acc := .ro }
def LANE_BLOCK_LOCK : Fld := { addr := 0xA0104, hi := 28, lo := 28, step := 32, per := 14, cnt := 14, acc := .ro }
def LANE_CHK_LOCK : Fld := { addr := 0xA0104, hi := 27, lo := 27, step := 32, per := 14, cnt := 14, acc := .ro }
def LANE_CTLE : Fld := { addr := 0xA0104, hi := 7, lo := 4, step := 32, per := 14, cnt := 14, acc := .ro }
def LANE_RATE : Fld := { addr := 0xA0104, hi := 3, lo := 0, step := 32, per := 14, cnt := 14, acc := .ro }
def LANE_ERR_LO : Fld := { addr := 0xA0108, hi := 31, lo := 0, step := 32, per := 14, cnt := 14, acc := .ro }
def LANE_ERR_HI : Fld := { addr := 0xA010C, hi := 15, lo := 0, step := 32, per := 14, cnt := 14, acc := .ro }
def LANE_BITS : Fld := { addr := 0xA0110, hi := 31, lo := 0, step := 32, per := 14, cnt := 14, acc := .ro }
def LANE_DFE1 : Fld := { addr := 0xA0114, hi := 30, lo := 24, step := 32, per := 14, cnt := 14, acc := .ro }
def LANE_DFE2 : Fld := { addr := 0xA0114, hi := 23, lo := 18, step := 32, per := 14, cnt := 14, acc := .ro }
def LANE_DFE3 : Fld := { addr := 0xA0114, hi := 17, lo := 12, step := 32, per := 14, cnt := 14, acc := .ro }
def LANE_DFE4 : Fld := { addr := 0xA0114, hi := 11, lo := 6, step := 32, per := 14, cnt := 14, acc := .ro }
def LANE_DFE5 : Fld := { addr := 0xA0114, hi := 5, lo := 0, step := 32, per := 14, cnt := 14, acc := .ro }
def LANE_EYE_H : Fld := { addr := 0xA0118, hi := 25, lo := 16, step := 32, per := 14, cnt := 14, acc := .ro }
def LANE_EYE_W : Fld := { addr := 0xA0118, hi := 5, lo := 0, step := 32, per := 14, cnt := 14, acc := .ro }
def LANE_CHK_RELOCK : Fld := { addr := 0xA011C, hi := 15, lo := 0, step := 32, per := 14, cnt := 14, acc := .ro }
def blkLANE : List Fld := [LANE_IRQ_CHK_LOST, LANE_IRQ_CDR_LOST, LANE_CDR_MAP, LANE_PRBS_SEL, LANE_ADAPT_FREEZE, LANE_RX_INV, LANE_PRBS_CLR, LANE_PRBS_CHK, LANE_PRBS_GEN, LANE_TX_INV, LANE_SIG_DET, LANE_CDR_LOCK, LANE_ADAPT_DONE, LANE_BLOCK_LOCK, LANE_CHK_LOCK, LANE_CTLE, LANE_RATE, LANE_ERR_LO, LANE_ERR_HI, LANE_BITS, LANE_DFE1, LANE_DFE2, LANE_DFE3, LANE_DFE4, LANE_DFE5, LANE_EYE_H, LANE_EYE_W, LANE_CHK_RELOCK]

/-! KZL: R459 (chapter 13) -/

def KZL_IRQ_RTX : Fld := { addr := 0xA1010, hi := 3, lo := 3, pst := 0x1000, cnt := 2, acc := .w1c }
def KZL_IRQ_ALIGN_FAIL : Fld := { addr := 0xA1010, hi := 2, lo := 2, pst := 0x1000, cnt := 2, acc := .w1c }
def KZL_IRQ_DOWN : Fld := { addr := 0xA1010, hi := 1, lo := 1, pst := 0x1000, cnt := 2, acc := .w1c }
def KZL_IRQ_UP : Fld := { addr := 0xA1010, hi := 0, lo := 0, pst := 0x1000, cnt := 2, acc := .w1c }
def KZL_LOOP : Fld := { addr := 0xA1040, hi := 1, lo := 1, pst := 0x1000, cnt := 2, acc := .rw }
def KZL_EN : Fld := { addr := 0xA1040, hi := 0, lo := 0, pst := 0x1000, cnt := 2, acc := .rw, rst := 1 }
def KZL_UP : Fld := { addr := 0xA1044, hi := 31, lo := 31, pst := 0x1000, cnt := 2, acc := .ro }
def KZL_PARTNER_B : Fld := { addr := 0xA1044, hi := 30, lo := 30, pst := 0x1000, cnt := 2, acc := .ro }
def KZL_PARTNER_LINK : Fld := { addr := 0xA1044, hi := 29, lo := 29, pst := 0x1000, cnt := 2, acc := .ro }
def KZL_STATE : Fld := { addr := 0xA1044, hi := 18, lo := 16, pst := 0x1000, cnt := 2, acc := .ro }
def KZL_LAST_FAIL : Fld := { addr := 0xA1044, hi := 11, lo := 8, pst := 0x1000, cnt := 2, acc := .ro }
def KZL_LANE_MAP : Fld := { addr := 0xA1044, hi := 7, lo := 0, pst := 0x1000, cnt := 2, acc := .ro }
def KZL_SKEW : Fld := { addr := 0xA1048, hi := 9, lo := 0, pst := 0x1000, cnt := 2, acc := .ro }
def KZL_DELAY : Fld := { addr := 0xA104C, hi := 23, lo := 0, pst := 0x1000, cnt := 2, acc := .ro }
def KZL_TX_SEQ : Fld := { addr := 0xA1050, hi := 31, lo := 0, pst := 0x1000, cnt := 2, acc := .ro }
def KZL_TX_ACKED : Fld := { addr := 0xA1054, hi := 31, lo := 0, pst := 0x1000, cnt := 2, acc := .ro }
def KZL_RX_EXPECT : Fld := { addr := 0xA1058, hi := 31, lo := 0, pst := 0x1000, cnt := 2, acc := .ro }
def KZL_CRC_ERR : Fld := { addr := 0xA105C, hi := 31, lo := 0, pst := 0x1000, cnt := 2, acc := .ro }
def KZL_GAP : Fld := { addr := 0xA1060, hi := 31, lo := 0, pst := 0x1000, cnt := 2, acc := .ro }
def KZL_DUP : Fld := { addr := 0xA1064, hi := 31, lo := 0, pst := 0x1000, cnt := 2, acc := .ro }
def KZL_RTX : Fld := { addr := 0xA1068, hi := 31, lo := 0, pst := 0x1000, cnt := 2, acc := .ro }
def KZL_TIMEOUT : Fld := { addr := 0xA106C, hi := 31, lo := 0, pst := 0x1000, cnt := 2, acc := .ro }
def KZL_DOWN_CNT : Fld := { addr := 0xA1070, hi := 31, lo := 16, pst := 0x1000, cnt := 2, acc := .ro }
def KZL_ALIGN_FAIL : Fld := { addr := 0xA1070, hi := 15, lo := 0, pst := 0x1000, cnt := 2, acc := .ro }
def KZL_RTX_MAX : Fld := { addr := 0xA1074, hi := 8, lo := 0, pst := 0x1000, cnt := 2, acc := .rc }
def KZL_UP_TIME : Fld := { addr := 0xA1078, hi := 15, lo := 0, pst := 0x1000, cnt := 2, acc := .ro }
def KZL_SMP_OFS : Fld := { addr := 0xA107C, hi := 15, lo := 0, pst := 0x1000, cnt := 2, acc := .ro }
def blkKZL : List Fld := [KZL_IRQ_RTX, KZL_IRQ_ALIGN_FAIL, KZL_IRQ_DOWN, KZL_IRQ_UP, KZL_LOOP, KZL_EN, KZL_UP, KZL_PARTNER_B, KZL_PARTNER_LINK, KZL_STATE, KZL_LAST_FAIL, KZL_LANE_MAP, KZL_SKEW, KZL_DELAY, KZL_TX_SEQ, KZL_TX_ACKED, KZL_RX_EXPECT, KZL_CRC_ERR, KZL_GAP, KZL_DUP, KZL_RTX, KZL_TIMEOUT, KZL_DOWN_CNT, KZL_ALIGN_FAIL, KZL_RTX_MAX, KZL_UP_TIME, KZL_SMP_OFS]

/-! STBY: R487 (chapter 14) -/

def STBY_IRQ_GIVEUP_BLOCKED : Fld := { addr := 0xA8010, hi := 6, lo := 6, acc := .w1c }
def STBY_IRQ_HB_LOST : Fld := { addr := 0xA8010, hi := 5, lo := 5, acc := .w1c }
def STBY_IRQ_INTERLOCK : Fld := { addr := 0xA8010, hi := 4, lo := 4, acc := .w1c }
def STBY_IRQ_IN_STEP : Fld := { addr := 0xA8010, hi := 3, lo := 3, acc := .w1c }
def STBY_IRQ_DIVERGE : Fld := { addr := 0xA8010, hi := 2, lo := 2, acc := .w1c }
def STBY_IRQ_RELEASE : Fld := { addr := 0xA8010, hi := 1, lo := 1, acc := .w1c }
def STBY_IRQ_CLAIM : Fld := { addr := 0xA8010, hi := 0, lo := 0, acc := .w1c }
def STBY_GIVEUP_MASK : Fld := { addr := 0xA8040, hi := 13, lo := 8, acc := .rw, rst := 55 }
def STBY_PAIR : Fld := { addr := 0xA8040, hi := 0, lo := 0, acc := .rw }
def STBY_UNIT_B : Fld := { addr := 0xA8044, hi := 31, lo := 31, acc := .ro }
def STBY_ACTIVE : Fld := { addr := 0xA8044, hi := 30, lo := 30, acc := .ro }
def STBY_LINE : Fld := { addr := 0xA8044, hi := 29, lo := 29, acc := .ro, rst := 1 }
def STBY_HB_IN_OK : Fld := { addr := 0xA8044, hi := 28, lo := 28, acc := .ro }
def STBY_PARTNER_ACTIVE : Fld := { addr := 0xA8044, hi := 27, lo := 27, acc := .ro }
def STBY_PARTNER_READY : Fld := { addr := 0xA8044, hi := 26, lo := 26, acc := .ro }
def STBY_GAVE_UP : Fld := { addr := 0xA8044, hi := 25, lo := 25, acc := .ro }
def STBY_SYNC : Fld := { addr := 0xA8044, hi := 18, lo := 16, acc := .ro }
def STBY_HB_LOST : Fld := { addr := 0xA8048, hi := 8, lo := 8, acc := .w1c }
def STBY_FORCED : Fld := { addr := 0xA8048, hi := 7, lo := 7, acc := .w1c }
def STBY_CLAIM_UNSYNCED : Fld := { addr := 0xA8048, hi := 6, lo := 6, acc := .w1c }
def STBY_GIVEUP_FAILED : Fld := { addr := 0xA8048, hi := 5, lo := 5, acc := .w1c }
def STBY_GIVEUP_BLOCKED : Fld := { addr := 0xA8048, hi := 4, lo := 4, acc := .w1c }
def STBY_DUAL_ACTIVE : Fld := { addr := 0xA8048, hi := 3, lo := 3, acc := .w1c }
def STBY_RELEASED_WHILE_ACTIVE : Fld := { addr := 0xA8048, hi := 2, lo := 2, acc := .w1c }
def STBY_READBACK : Fld := { addr := 0xA8048, hi := 1, lo := 1, acc := .w1c }
def STBY_STUCK_LOW : Fld := { addr := 0xA8048, hi := 0, lo := 0, acc := .w1c }
def STBY_CHK_WINDOWS : Fld := { addr := 0xA804C, hi := 31, lo := 0, acc := .ro }
def STBY_CHK_MISS : Fld := { addr := 0xA8050, hi := 31, lo := 0, acc := .ro }
def STBY_CHK_LOCAL : Fld := { addr := 0xA8054, hi := 31, lo := 0, acc := .ro }
def STBY_CHK_PARTNER : Fld := { addr := 0xA8058, hi := 31, lo := 0, acc := .ro }
def STBY_RESEEDS : Fld := { addr := 0xA805C, hi := 15, lo := 0, acc := .ro }
def STBY_CLAIM_PC : Fld := { addr := 0xA8060, hi := 6, lo := 0, acc := .ro }
def STBY_CLAIM_TS32 : Fld := { addr := 0xA8064, hi := 31, lo := 0, acc := .ro }
def STBY_HANDOVERS : Fld := { addr := 0xA8068, hi := 15, lo := 0, acc := .ro }
def STBY_FORCE : Fld := { addr := 0xA806C, hi := 31, lo := 0, acc := .wo }
def STBY_GIVEUP_CAUSE : Fld := { addr := 0xA8070, hi := 5, lo := 0, acc := .ro }
def STBY_REC_BAD : Fld := { addr := 0xA8074, hi := 15, lo := 0, acc := .ro }
def blkSTBY : List Fld := [STBY_IRQ_GIVEUP_BLOCKED, STBY_IRQ_HB_LOST, STBY_IRQ_INTERLOCK, STBY_IRQ_IN_STEP, STBY_IRQ_DIVERGE, STBY_IRQ_RELEASE, STBY_IRQ_CLAIM, STBY_GIVEUP_MASK, STBY_PAIR, STBY_UNIT_B, STBY_ACTIVE, STBY_LINE, STBY_HB_IN_OK, STBY_PARTNER_ACTIVE, STBY_PARTNER_READY, STBY_GAVE_UP, STBY_SYNC, STBY_HB_LOST, STBY_FORCED, STBY_CLAIM_UNSYNCED, STBY_GIVEUP_FAILED, STBY_GIVEUP_BLOCKED, STBY_DUAL_ACTIVE, STBY_RELEASED_WHILE_ACTIVE, STBY_READBACK, STBY_STUCK_LOW, STBY_CHK_WINDOWS, STBY_CHK_MISS, STBY_CHK_LOCAL, STBY_CHK_PARTNER, STBY_RESEEDS, STBY_CLAIM_PC, STBY_CLAIM_TS32, STBY_HANDOVERS, STBY_FORCE, STBY_GIVEUP_CAUSE, STBY_REC_BAD]

/-! MEM: R523 (chapter 15) -/

def MEM_IRQ_SCRUB_PASS : Fld := { addr := 0xB0010, hi := 2, lo := 2, pst := 0x1000, cnt := 8, acc := .w1c }
def MEM_IRQ_UNCORR : Fld := { addr := 0xB0010, hi := 1, lo := 1, pst := 0x1000, cnt := 8, acc := .w1c }
def MEM_IRQ_CORR : Fld := { addr := 0xB0010, hi := 0, lo := 0, pst := 0x1000, cnt := 8, acc := .w1c }
def MEM_REMAP : Fld := { addr := 0xB0040, hi := 0, lo := 0, pst := 0x1000, cnt := 8, acc := .rw }
def MEM_CORR : Fld := { addr := 0xB0044, hi := 31, lo := 0, pst := 0x1000, cnt := 8, acc := .ro }
def MEM_UNCORR : Fld := { addr := 0xB0048, hi := 31, lo := 0, pst := 0x1000, cnt := 8, acc := .ro }
def MEM_ERR_ADDR : Fld := { addr := 0xB004C, hi := 31, lo := 0, pst := 0x1000, cnt := 8, acc := .ro }
def MEM_VALID : Fld := { addr := 0xB0050, hi := 31, lo := 31, pst := 0x1000, cnt := 8, acc := .ro }
def MEM_ERR_UNCORR : Fld := { addr := 0xB0050, hi := 30, lo := 30, pst := 0x1000, cnt := 8, acc := .ro }
def MEM_BANK : Fld := { addr := 0xB0050, hi := 26, lo := 24, pst := 0x1000, cnt := 8, acc := .ro }
def MEM_MASTER : Fld := { addr := 0xB0050, hi := 21, lo := 16, pst := 0x1000, cnt := 8, acc := .ro }
def MEM_SYNDROME : Fld := { addr := 0xB0050, hi := 7, lo := 0, pst := 0x1000, cnt := 8, acc := .ro }
def MEM_SCRUB_EN : Fld := { addr := 0xB0054, hi := 0, lo := 0, pst := 0x1000, cnt := 8, acc := .rw, rst := 1 }
def MEM_SCRUB_PASSES : Fld := { addr := 0xB0058, hi := 31, lo := 0, pst := 0x1000, cnt := 8, acc := .ro }
def MEM_CONFLICT : Fld := { addr := 0xB005C, hi := 31, lo := 0, pst := 0x1000, cnt := 8, acc := .ro }
def MEM_TAGGED : Fld := { addr := 0xB0060, hi := 0, lo := 0, pst := 0x1000, cnt := 8, acc := .ro, rst := 1 }
def blkMEM : List Fld := [MEM_IRQ_SCRUB_PASS, MEM_IRQ_UNCORR, MEM_IRQ_CORR, MEM_REMAP, MEM_CORR, MEM_UNCORR, MEM_ERR_ADDR, MEM_VALID, MEM_ERR_UNCORR, MEM_BANK, MEM_MASTER, MEM_SYNDROME, MEM_SCRUB_EN, MEM_SCRUB_PASSES, MEM_CONFLICT, MEM_TAGGED]

/-! DRAM: R524 (chapter 15) -/

def DRAM_IRQ_TRAINED : Fld := { addr := 0xB8010, hi := 2, lo := 2, acc := .w1c }
def DRAM_IRQ_UNCORR : Fld := { addr := 0xB8010, hi := 1, lo := 1, acc := .w1c }
def DRAM_IRQ_CORR : Fld := { addr := 0xB8010, hi := 0, lo := 0, acc := .w1c }
def DRAM_READY : Fld := { addr := 0xB8040, hi := 31, lo := 31, acc := .ro }
def DRAM_TRAIN_FAIL : Fld := { addr := 0xB8040, hi := 30, lo := 30, acc := .ro }
def DRAM_DERATE : Fld := { addr := 0xB8040, hi := 29, lo := 29, acc := .ro }
def DRAM_SIZE : Fld := { addr := 0xB8040, hi := 11, lo := 0, acc := .ro, rst := 2048 }
def DRAM_CORR : Fld := { addr := 0xB8044, hi := 31, lo := 0, acc := .ro }
def DRAM_UNCORR : Fld := { addr := 0xB8048, hi := 31, lo := 0, acc := .ro }
def DRAM_ERR_ADDR : Fld := { addr := 0xB804C, hi := 31, lo := 0, acc := .ro }
def DRAM_MASTER : Fld := { addr := 0xB8050, hi := 21, lo := 16, acc := .ro }
def DRAM_UTIL : Fld := { addr := 0xB8054, hi := 9, lo := 0, acc := .ro }
def DRAM_MR4 : Fld := { addr := 0xB8058, hi := 4, lo := 0, acc := .ro }
def blkDRAM : List Fld := [DRAM_IRQ_TRAINED, DRAM_IRQ_UNCORR, DRAM_IRQ_CORR, DRAM_READY, DRAM_TRAIN_FAIL, DRAM_DERATE, DRAM_SIZE, DRAM_CORR, DRAM_UNCORR, DRAM_ERR_ADDR, DRAM_MASTER, DRAM_UTIL, DRAM_MR4]

/-! ARB: R525 (chapter 15) -/

def ARB_IRQ_DECODE : Fld := { addr := 0xB9010, hi := 2, lo := 2, acc := .w1c }
def ARB_IRQ_LOCK_BREAK : Fld := { addr := 0xB9010, hi := 1, lo := 1, acc := .w1c }
def ARB_IRQ_HOLD_CUT : Fld := { addr := 0xB9010, hi := 0, lo := 0, acc := .w1c }
def ARB_MODE : Fld := { addr := 0xB9040, hi := 9, lo := 0, acc := .ro }
def ARB_HOLD_CUT : Fld := { addr := 0xB9044, hi := 31, lo := 0, acc := .ro }
def ARB_LOCK_BREAK : Fld := { addr := 0xB9048, hi := 31, lo := 0, acc := .ro }
def ARB_DECODE_ERR : Fld := { addr := 0xB904C, hi := 31, lo := 0, acc := .ro }
def ARB_DEC_MASTER : Fld := { addr := 0xB9050, hi := 21, lo := 16, acc := .ro }
def ARB_DECODE_ADDR : Fld := { addr := 0xB9054, hi := 31, lo := 0, acc := .ro }
def ARB_CUT_MASTER : Fld := { addr := 0xB9058, hi := 21, lo := 16, acc := .ro }
def ARB_CUT_ARB : Fld := { addr := 0xB9058, hi := 3, lo := 0, acc := .ro }
def ARB_QSEL_A : Fld := { addr := 0xB905C, hi := 9, lo := 6, acc := .wo }
def ARB_QSEL_M : Fld := { addr := 0xB905C, hi := 5, lo := 0, acc := .wo }
def ARB_VALID : Fld := { addr := 0xB9060, hi := 31, lo := 31, acc := .ro }
def ARB_MASKED : Fld := { addr := 0xB9060, hi := 30, lo := 30, acc := .ro }
def ARB_WAITING : Fld := { addr := 0xB9060, hi := 29, lo := 29, acc := .ro }
def ARB_Q_PRI : Fld := { addr := 0xB9060, hi := 26, lo := 24, acc := .ro }
def ARB_Q_PRI_SHADOW : Fld := { addr := 0xB9060, hi := 22, lo := 20, acc := .ro }
def ARB_WAIT_NOW : Fld := { addr := 0xB9060, hi := 15, lo := 0, acc := .ro }
def ARB_Q_GRANTS : Fld := { addr := 0xB9064, hi := 31, lo := 0, acc := .ro }
def ARB_Q_WAITS : Fld := { addr := 0xB9068, hi := 31, lo := 0, acc := .ro }
def ARB_CUTS : Fld := { addr := 0xB906C, hi := 31, lo := 16, acc := .ro }
def ARB_LONGEST : Fld := { addr := 0xB906C, hi := 15, lo := 0, acc := .ro }
def ARB_WIN : Fld := { addr := 0xB9080, hi := 31, lo := 16, step := 8, per := 10, cnt := 10, acc := .ro }
def ARB_QUOTA0 : Fld := { addr := 0xB9080, hi := 15, lo := 8, step := 8, per := 10, cnt := 10, acc := .ro }
def ARB_QUOTA1 : Fld := { addr := 0xB9080, hi := 7, lo := 0, step := 8, per := 10, cnt := 10, acc := .ro }
def ARB_HOLD_MAX : Fld := { addr := 0xB9084, hi := 15, lo := 0, step := 8, per := 10, cnt := 10, acc := .ro }
def ARB_PRI_SHADOW : Fld := { addr := 0xB9100, hi := 31, lo := 0, step := 4, per := 80, cnt := 80, grp := 8, lim := 6, acc := .rw }
def ARB_PRI : Fld := { addr := 0xB9300, hi := 31, lo := 0, step := 4, per := 80, cnt := 80, grp := 8, lim := 6, acc := .ro }
def blkARB : List Fld := [ARB_IRQ_DECODE, ARB_IRQ_LOCK_BREAK, ARB_IRQ_HOLD_CUT, ARB_MODE, ARB_HOLD_CUT, ARB_LOCK_BREAK, ARB_DECODE_ERR, ARB_DEC_MASTER, ARB_DECODE_ADDR, ARB_CUT_MASTER, ARB_CUT_ARB, ARB_QSEL_A, ARB_QSEL_M, ARB_VALID, ARB_MASKED, ARB_WAITING, ARB_Q_PRI, ARB_Q_PRI_SHADOW, ARB_WAIT_NOW, ARB_Q_GRANTS, ARB_Q_WAITS, ARB_CUTS, ARB_LONGEST, ARB_WIN, ARB_QUOTA0, ARB_QUOTA1, ARB_HOLD_MAX, ARB_PRI_SHADOW, ARB_PRI]

/-! OWN: R526 (chapter 15) -/

def OWN_IRQ_PASS_DONE : Fld := { addr := 0xBA010, hi := 0, lo := 0, acc := .w1c }
def OWN_RUNNING : Fld := { addr := 0xBA040, hi := 2, lo := 0, acc := .ro }
def OWN_QUEUED : Fld := { addr := 0xBA044, hi := 7, lo := 0, acc := .ro }
def OWN_PASSES : Fld := { addr := 0xBA048, hi := 31, lo := 0, acc := .ro }
def OWN_UNITS : Fld := { addr := 0xBA04C, hi := 31, lo := 0, acc := .ro }
def OWN_STALLS : Fld := { addr := 0xBA050, hi := 31, lo := 0, acc := .ro }
def OWN_QADDR : Fld := { addr := 0xBA054, hi := 31, lo := 0, acc := .wo }
def OWN_VALID : Fld := { addr := 0xBA058, hi := 31, lo := 31, acc := .ro }
def OWN_TAGGED : Fld := { addr := 0xBA058, hi := 30, lo := 30, acc := .ro }
def OWN_PASS : Fld := { addr := 0xBA058, hi := 29, lo := 29, acc := .ro }
def OWN_PAUSED : Fld := { addr := 0xBA058, hi := 28, lo := 28, acc := .ro }
def OWN_CLASS : Fld := { addr := 0xBA058, hi := 26, lo := 24, acc := .ro }
def OWN_OWNER : Fld := { addr := 0xBA058, hi := 11, lo := 0, acc := .ro }
def OWN_QBASE : Fld := { addr := 0xBA05C, hi := 31, lo := 0, acc := .ro }
def OWN_QSIZE : Fld := { addr := 0xBA060, hi := 20, lo := 0, acc := .ro }
def OWN_QLEFT : Fld := { addr := 0xBA064, hi := 20, lo := 0, acc := .ro }
def blkOWN : List Fld := [OWN_IRQ_PASS_DONE, OWN_RUNNING, OWN_QUEUED, OWN_PASSES, OWN_UNITS, OWN_STALLS, OWN_QADDR, OWN_VALID, OWN_TAGGED, OWN_PASS, OWN_PAUSED, OWN_CLASS, OWN_OWNER, OWN_QBASE, OWN_QSIZE, OWN_QLEFT]

/-! CVU: R527 (chapter 15) -/

def CVU_IRQ_STOP : Fld := { addr := 0xBC010, hi := 0, lo := 0, pst := 0x1000, cnt := 4, acc := .w1c }
def CVU_EN : Fld := { addr := 0xBC040, hi := 31, lo := 31, pst := 0x1000, cnt := 4, acc := .rw }
def CVU_CLAIMED : Fld := { addr := 0xBC040, hi := 30, lo := 30, pst := 0x1000, cnt := 4, acc := .ro }
def CVU_OWNER_MGMT : Fld := { addr := 0xBC040, hi := 29, lo := 29, pst := 0x1000, cnt := 4, acc := .ro }
def CVU_KIND : Fld := { addr := 0xBC040, hi := 27, lo := 26, pst := 0x1000, cnt := 4, acc := .rw }
def CVU_DIR : Fld := { addr := 0xBC040, hi := 25, lo := 24, pst := 0x1000, cnt := 4, acc := .rw }
def CVU_INDEX : Fld := { addr := 0xBC040, hi := 23, lo := 16, pst := 0x1000, cnt := 4, acc := .rw }
def CVU_WIDTH_M1 : Fld := { addr := 0xBC040, hi := 13, lo := 8, pst := 0x1000, cnt := 4, acc := .rw, rst := 31 }
def CVU_REFOUT : Fld := { addr := 0xBC040, hi := 1, lo := 1, pst := 0x1000, cnt := 4, acc := .rw }
def CVU_REFIN : Fld := { addr := 0xBC040, hi := 0, lo := 0, pst := 0x1000, cnt := 4, acc := .rw }
def CVU_POLY_LO : Fld := { addr := 0xBC044, hi := 31, lo := 0, pst := 0x1000, cnt := 4, acc := .rw, rst := 79764919 }
def CVU_POLY_HI : Fld := { addr := 0xBC048, hi := 31, lo := 0, pst := 0x1000, cnt := 4, acc := .rw }
def CVU_INIT_LO : Fld := { addr := 0xBC04C, hi := 31, lo := 0, pst := 0x1000, cnt := 4, acc := .rw, rst := 4294967295 }
def CVU_INIT_HI : Fld := { addr := 0xBC050, hi := 31, lo := 0, pst := 0x1000, cnt := 4, acc := .rw }
def CVU_XOR_LO : Fld := { addr := 0xBC054, hi := 31, lo := 0, pst := 0x1000, cnt := 4, acc := .rw, rst := 4294967295 }
def CVU_XOR_HI : Fld := { addr := 0xBC058, hi := 31, lo := 0, pst := 0x1000, cnt := 4, acc := .rw }
def CVU_WIN_LO : Fld := { addr := 0xBC05C, hi := 31, lo := 0, pst := 0x1000, cnt := 4, acc := .rw }
def CVU_WIN_HI : Fld := { addr := 0xBC060, hi := 31, lo := 0, pst := 0x1000, cnt := 4, acc := .rw, rst := 4294967295 }
def CVU_RESULT_LO : Fld := { addr := 0xBC064, hi := 31, lo := 0, pst := 0x1000, cnt := 4, acc := .ro }
def CVU_RESULT_HI : Fld := { addr := 0xBC068, hi := 31, lo := 0, pst := 0x1000, cnt := 4, acc := .ro }
def CVU_BYTES : Fld := { addr := 0xBC06C, hi := 31, lo := 0, pst := 0x1000, cnt := 4, acc := .ro }
def CVU_ERR : Fld := { addr := 0xBC070, hi := 0, lo := 0, pst := 0x1000, cnt := 4, acc := .w1c }
def blkCVU : List Fld := [CVU_IRQ_STOP, CVU_EN, CVU_CLAIMED, CVU_OWNER_MGMT, CVU_KIND, CVU_DIR, CVU_INDEX, CVU_WIDTH_M1, CVU_REFOUT, CVU_REFIN, CVU_POLY_LO, CVU_POLY_HI, CVU_INIT_LO, CVU_INIT_HI, CVU_XOR_LO, CVU_XOR_HI, CVU_WIN_LO, CVU_WIN_HI, CVU_RESULT_LO, CVU_RESULT_HI, CVU_BYTES, CVU_ERR]

/-! GLOBAL: R542 (chapter 16) -/

def GLOBAL_IRQ_BAD_ACCESS : Fld := { addr := 0x10, hi := 0, lo := 0, acc := .w1c }
def GLOBAL_PART : Fld := { addr := 0x40, hi := 15, lo := 0, acc := .ro, rst := 4132 }
def GLOBAL_REV : Fld := { addr := 0x44, hi := 7, lo := 0, acc := .ro, rst := 177 }
def GLOBAL_UNIT_B : Fld := { addr := 0x48, hi := 0, lo := 0, acc := .ro }
def GLOBAL_QSPI_4B : Fld := { addr := 0x48, hi := 1, lo := 1, acc := .ro }
def GLOBAL_SMB_ADDR : Fld := { addr := 0x48, hi := 3, lo := 2, acc := .ro }
def GLOBAL_DEVICE_ID : Fld := { addr := 0x4C, hi := 31, lo := 16, acc := .ro, rst := 4132 }
def GLOBAL_VENDOR_ID : Fld := { addr := 0x4C, hi := 15, lo := 0, acc := .ro, rst := 8090 }
def GLOBAL_LINK_WIDTH : Fld := { addr := 0x50, hi := 6, lo := 4, acc := .ro }
def GLOBAL_LINK_SPEED : Fld := { addr := 0x50, hi := 2, lo := 0, acc := .ro }
def GLOBAL_UPTIME : Fld := { addr := 0x54, hi := 31, lo := 0, acc := .ro }
def GLOBAL_BAD_ACCESS : Fld := { addr := 0x58, hi := 31, lo := 0, acc := .ro }
def GLOBAL_SCRATCH0 : Fld := { addr := 0x5C, hi := 31, lo := 0, acc := .rws }
def GLOBAL_SCRATCH1 : Fld := { addr := 0x60, hi := 31, lo := 0, acc := .rws }
def blkGLOBAL : List Fld := [GLOBAL_IRQ_BAD_ACCESS, GLOBAL_PART, GLOBAL_REV, GLOBAL_UNIT_B, GLOBAL_QSPI_4B, GLOBAL_SMB_ADDR, GLOBAL_DEVICE_ID, GLOBAL_VENDOR_ID, GLOBAL_LINK_WIDTH, GLOBAL_LINK_SPEED, GLOBAL_UPTIME, GLOBAL_BAD_ACCESS, GLOBAL_SCRATCH0, GLOBAL_SCRATCH1]

/-! INTC: R546 (chapter 16) -/

def INTC_PEND : Fld := { addr := 0x2100, hi := 31, lo := 0, step := 4, per := 8, cnt := 8, acc := .ro }
def INTC_MGMT_EN : Fld := { addr := 0x2200, hi := 31, lo := 0, step := 4, per := 8, cnt := 8, acc := .rw, rst := 4294967295 }
def INTC_MGMT_KP : Fld := { addr := 0x2220, hi := 1, lo := 0, acc := .rw, rst := 3 }
def INTC_MAP_EN0 : Fld := { addr := 0x2400, hi := 7, lo := 7, step := 4, per := 64, cnt := 64, acc := .rw }
def INTC_MAP_EN1 : Fld := { addr := 0x2400, hi := 15, lo := 15, step := 4, per := 64, cnt := 64, acc := .rw }
def INTC_MAP_EN2 : Fld := { addr := 0x2400, hi := 23, lo := 23, step := 4, per := 64, cnt := 64, acc := .rw }
def INTC_MAP_EN3 : Fld := { addr := 0x2400, hi := 31, lo := 31, step := 4, per := 64, cnt := 64, acc := .rw }
def INTC_MAP_VEC0 : Fld := { addr := 0x2400, hi := 5, lo := 0, step := 4, per := 64, cnt := 64, acc := .rw }
def INTC_MAP_VEC1 : Fld := { addr := 0x2400, hi := 13, lo := 8, step := 4, per := 64, cnt := 64, acc := .rw }
def INTC_MAP_VEC2 : Fld := { addr := 0x2400, hi := 21, lo := 16, step := 4, per := 64, cnt := 64, acc := .rw }
def INTC_MAP_VEC3 : Fld := { addr := 0x2400, hi := 29, lo := 24, step := 4, per := 64, cnt := 64, acc := .rw }
def INTC_EN : Fld := { addr := 0x2500, hi := 7, lo := 7, step := 4, per := 4, cnt := 4, acc := .rw }
def INTC_VEC : Fld := { addr := 0x2500, hi := 5, lo := 0, step := 4, per := 4, cnt := 4, acc := .rw }
def INTC_IN_SERVICE : Fld := { addr := 0x2600, hi := 31, lo := 31, step := 4, per := 64, cnt := 64, acc := .ro }
def INTC_HOLDOFF : Fld := { addr := 0x2600, hi := 15, lo := 0, step := 4, per := 64, cnt := 64, acc := .rw }
def INTC_EOI : Fld := { addr := 0x2700, hi := 31, lo := 0, step := 4, per := 2, cnt := 2, acc := .wo }
def blkINTC : List Fld := [INTC_PEND, INTC_MGMT_EN, INTC_MGMT_KP, INTC_MAP_EN0, INTC_MAP_EN1, INTC_MAP_EN2, INTC_MAP_EN3, INTC_MAP_VEC0, INTC_MAP_VEC1, INTC_MAP_VEC2, INTC_MAP_VEC3, INTC_EN, INTC_VEC, INTC_IN_SERVICE, INTC_HOLDOFF, INTC_EOI]

/-! HOSTQ: R556 (chapter 16) -/

def HOSTQ_IRQ_BUS_ERR : Fld := { addr := 0x3010, hi := 8, lo := 8, acc := .w1c }
def HOSTQ_IRQ_GAP : Fld := { addr := 0x3010, hi := 7, lo := 4, acc := .w1c }
def HOSTQ_IRQ_CPL : Fld := { addr := 0x3010, hi := 3, lo := 0, acc := .w1c }
def HOSTQ_EN : Fld := { addr := 0x3040, hi := 0, lo := 0, step := 64, per := 4, cnt := 4, acc := .rw }
def HOSTQ_RING_BASE_LO : Fld := { addr := 0x3044, hi := 31, lo := 6, step := 64, per := 4, cnt := 4, acc := .rw }
def HOSTQ_RING_BASE_HI : Fld := { addr := 0x3048, hi := 31, lo := 0, step := 64, per := 4, cnt := 4, acc := .rw }
def HOSTQ_RING_SLOTS : Fld := { addr := 0x304C, hi := 12, lo := 0, step := 64, per := 4, cnt := 4, acc := .rw, rst := 64 }
def HOSTQ_RING_DB : Fld := { addr := 0x3050, hi := 31, lo := 0, step := 64, per := 4, cnt := 4, acc := .wo }
def HOSTQ_RING_EXPECT : Fld := { addr := 0x3054, hi := 31, lo := 0, step := 64, per := 4, cnt := 4, acc := .ro }
def HOSTQ_CPL_BASE_LO : Fld := { addr := 0x3058, hi := 31, lo := 4, step := 64, per := 4, cnt := 4, acc := .rw }
def HOSTQ_CPL_BASE_HI : Fld := { addr := 0x305C, hi := 31, lo := 0, step := 64, per := 4, cnt := 4, acc := .rw }
def HOSTQ_CPL_SLOTS : Fld := { addr := 0x3060, hi := 12, lo := 0, step := 64, per := 4, cnt := 4, acc := .rw, rst := 64 }
def HOSTQ_CPL_WR : Fld := { addr := 0x3064, hi := 12, lo := 0, step := 64, per := 4, cnt := 4, acc := .ro }
def HOSTQ_CPL_RD_SET : Fld := { addr := 0x3068, hi := 12, lo := 0, step := 64, per := 4, cnt := 4, acc := .wo }
def HOSTQ_CPL_RD : Fld := { addr := 0x306C, hi := 12, lo := 0, step := 64, per := 4, cnt := 4, acc := .ro }
def HOSTQ_RUNNING : Fld := { addr := 0x3070, hi := 31, lo := 31, step := 64, per := 4, cnt := 4, acc := .ro }
def HOSTQ_CPL_WAIT : Fld := { addr := 0x3070, hi := 30, lo := 30, step := 64, per := 4, cnt := 4, acc := .ro }
def HOSTQ_GAP_STOP : Fld := { addr := 0x3070, hi := 29, lo := 29, step := 64, per := 4, cnt := 4, acc := .ro }
def HOSTQ_FETCH_ERR : Fld := { addr := 0x3070, hi := 28, lo := 28, step := 64, per := 4, cnt := 4, acc := .ro }
def HOSTQ_OP_NOW : Fld := { addr := 0x3070, hi := 7, lo := 0, step := 64, per := 4, cnt := 4, acc := .ro }
def HOSTQ_RING_GAP_CNT : Fld := { addr := 0x3074, hi := 31, lo := 0, step := 64, per := 4, cnt := 4, acc := .ro }
def HOSTQ_RING_DUP_CNT : Fld := { addr := 0x3078, hi := 31, lo := 0, step := 64, per := 4, cnt := 4, acc := .ro }
def HOSTQ_RING_DONE_CNT : Fld := { addr := 0x307C, hi := 31, lo := 0, step := 64, per := 4, cnt := 4, acc := .ro }
def HOSTQ_RING_REPLAY : Fld := { addr := 0x3200, hi := 31, lo := 0, step := 4, per := 4, cnt := 4, acc := .wo }
def blkHOSTQ : List Fld := [HOSTQ_IRQ_BUS_ERR, HOSTQ_IRQ_GAP, HOSTQ_IRQ_CPL, HOSTQ_EN, HOSTQ_RING_BASE_LO, HOSTQ_RING_BASE_HI, HOSTQ_RING_SLOTS, HOSTQ_RING_DB, HOSTQ_RING_EXPECT, HOSTQ_CPL_BASE_LO, HOSTQ_CPL_BASE_HI, HOSTQ_CPL_SLOTS, HOSTQ_CPL_WR, HOSTQ_CPL_RD_SET, HOSTQ_CPL_RD, HOSTQ_RUNNING, HOSTQ_CPL_WAIT, HOSTQ_GAP_STOP, HOSTQ_FETCH_ERR, HOSTQ_OP_NOW, HOSTQ_RING_GAP_CNT, HOSTQ_RING_DUP_CNT, HOSTQ_RING_DONE_CNT, HOSTQ_RING_REPLAY]

/-! MODE: R566 (chapter 16) -/

def MODE_IRQ_FORCED : Fld := { addr := 0x1010, hi := 4, lo := 4, acc := .w1c }
def MODE_IRQ_START_DONE : Fld := { addr := 0x1010, hi := 3, lo := 3, acc := .w1c }
def MODE_IRQ_DEGRADED : Fld := { addr := 0x1010, hi := 2, lo := 2, acc := .w1c }
def MODE_IRQ_REFUSED : Fld := { addr := 0x1010, hi := 1, lo := 1, acc := .w1c }
def MODE_IRQ_DONE : Fld := { addr := 0x1010, hi := 0, lo := 0, acc := .w1c }
def MODE_IN_TRANSITION : Fld := { addr := 0x1040, hi := 31, lo := 31, acc := .ro, rst := 1 }
def MODE_START_DONE : Fld := { addr := 0x1040, hi := 30, lo := 30, acc := .ro }
def MODE_START_FAIL : Fld := { addr := 0x1040, hi := 29, lo := 29, acc := .ro }
def MODE_DEGRADED : Fld := { addr := 0x1040, hi := 28, lo := 28, acc := .ro }
def MODE_RATE : Fld := { addr := 0x1040, hi := 13, lo := 12, acc := .ro, rst := 1 }
def MODE_TARGET : Fld := { addr := 0x1040, hi := 10, lo := 8, acc := .ro, rst := 1 }
def MODE_PREV : Fld := { addr := 0x1040, hi := 6, lo := 4, acc := .ro, rst := 1 }
def MODE_MODE : Fld := { addr := 0x1040, hi := 2, lo := 0, acc := .ro, rst := 1 }
def MODE_FULL_CHECK : Fld := { addr := 0x1044, hi := 12, lo := 12, acc := .wo }
def MODE_SET_RATE : Fld := { addr := 0x1044, hi := 10, lo := 10, acc := .wo }
def MODE_SET_RATE_VAL : Fld := { addr := 0x1044, hi := 9, lo := 8, acc := .wo }
def MODE_SET_MODE : Fld := { addr := 0x1044, hi := 3, lo := 3, acc := .wo }
def MODE_SET_MODE_VAL : Fld := { addr := 0x1044, hi := 2, lo := 0, acc := .wo }
def MODE_DONE : Fld := { addr := 0x1048, hi := 31, lo := 31, acc := .ro }
def MODE_BUSY : Fld := { addr := 0x1048, hi := 30, lo := 30, acc := .ro }
def MODE_REQ_MODE : Fld := { addr := 0x1048, hi := 18, lo := 16, acc := .ro }
def MODE_STATUS : Fld := { addr := 0x1048, hi := 7, lo := 0, acc := .ro }
def MODE_TRANS_CNT : Fld := { addr := 0x104C, hi := 31, lo := 0, acc := .ro }
def MODE_LAST_TS32 : Fld := { addr := 0x1050, hi := 31, lo := 0, acc := .ro }
def MODE_FULL : Fld := { addr := 0x1054, hi := 31, lo := 31, acc := .ro }
def MODE_RECORD_USED : Fld := { addr := 0x1054, hi := 30, lo := 30, acc := .ro }
def MODE_STEP : Fld := { addr := 0x1054, hi := 2, lo := 0, acc := .ro }
def MODE_SHED : Fld := { addr := 0x1058, hi := 11, lo := 0, acc := .ro }
def blkMODE : List Fld := [ MODE_IRQ_FORCED, MODE_IRQ_START_DONE, MODE_IRQ_DEGRADED, MODE_IRQ_REFUSED, MODE_IRQ_DONE, MODE_IN_TRANSITION, MODE_START_DONE, MODE_START_FAIL, MODE_DEGRADED, MODE_RATE, MODE_TARGET, MODE_PREV, MODE_MODE, MODE_FULL_CHECK, MODE_SET_RATE, MODE_SET_RATE_VAL, MODE_SET_MODE, MODE_SET_MODE_VAL, MODE_DONE, MODE_BUSY, MODE_REQ_MODE, MODE_STATUS, MODE_TRANS_CNT, MODE_LAST_TS32, MODE_FULL, MODE_RECORD_USED, MODE_STEP, MODE_SHED]

/-! PWR: R606 (chapter 17) -/

def PWR_IRQ_DVFS : Fld := { addr := 0xE0010, hi := 2, lo := 2, acc := .w1c }
def PWR_IRQ_WAKE : Fld := { addr := 0xE0010, hi := 1, lo := 1, acc := .w1c }
def PWR_IRQ_DOM : Fld := { addr := 0xE0010, hi := 0, lo := 0, acc := .w1c }
def PWR_DOM_STATE0 : Fld := { addr := 0xE0040, hi := 31, lo := 0, acc := .ro, rst := 771 }
def PWR_DOM_STATE1 : Fld := { addr := 0xE0044, hi := 1, lo := 0, acc := .ro }
def PWR_IDLE_OFF : Fld := { addr := 0xE0048, hi := 16, lo := 0, acc := .rw }
def PWR_PARK_SRAM0 : Fld := { addr := 0xE004C, hi := 1, lo := 0, acc := .rw }
def PWR_DVFS_REQ : Fld := { addr := 0xE0050, hi := 1, lo := 0, acc := .wo }
def PWR_DVFS_CEIL : Fld := { addr := 0xE0054, hi := 1, lo := 0, acc := .rw }
def PWR_BUSY : Fld := { addr := 0xE0058, hi := 31, lo := 31, acc := .ro }
def PWR_DIV_NOW : Fld := { addr := 0xE0058, hi := 17, lo := 16, acc := .ro }
def PWR_VID_NOW : Fld := { addr := 0xE0058, hi := 9, lo := 8, acc := .ro }
def PWR_STATUS : Fld := { addr := 0xE0058, hi := 7, lo := 0, acc := .ro }
def PWR_WAKE_CNT : Fld := { addr := 0xE005C, hi := 31, lo := 0, acc := .ro }
def PWR_WAKE_MAX : Fld := { addr := 0xE0060, hi := 15, lo := 0, acc := .rc }
def blkPWR : List Fld := [PWR_IRQ_DVFS, PWR_IRQ_WAKE, PWR_IRQ_DOM, PWR_DOM_STATE0, PWR_DOM_STATE1, PWR_IDLE_OFF, PWR_PARK_SRAM0, PWR_DVFS_REQ, PWR_DVFS_CEIL, PWR_BUSY, PWR_DIV_NOW, PWR_VID_NOW, PWR_STATUS, PWR_WAKE_CNT, PWR_WAKE_MAX]

/-! THERM: R607 (chapter 17) -/

def THERM_IRQ_SENSOR : Fld := { addr := 0xE1010, hi := 1, lo := 1, acc := .w1c }
def THERM_IRQ_STATE : Fld := { addr := 0xE1010, hi := 0, lo := 0, acc := .w1c }
def THERM_STATE : Fld := { addr := 0xE1040, hi := 31, lo := 30, acc := .ro }
def THERM_TJ : Fld := { addr := 0xE1040, hi := 15, lo := 0, acc := .ro }
def THERM_TJ_MAX : Fld := { addr := 0xE1044, hi := 15, lo := 0, acc := .rc }
def THERM_SENSOR : Fld := { addr := 0xE1048, hi := 15, lo := 0, step := 4, per := 8, cnt := 8, acc := .ro }
def THERM_ASIDE : Fld := { addr := 0xE1048, hi := 31, lo := 31, step := 4, per := 8, cnt := 8, acc := .ro }
def THERM_SHUTDOWN : Fld := { addr := 0xE1068, hi := 2, lo := 2, acc := .w1c }
def THERM_SHED : Fld := { addr := 0xE1068, hi := 1, lo := 1, acc := .w1c }
def THERM_WARN : Fld := { addr := 0xE1068, hi := 0, lo := 0, acc := .w1c }
def THERM_SHED_SECS : Fld := { addr := 0xE106C, hi := 31, lo := 0, acc := .ro }
def blkTHERM : List Fld := [THERM_IRQ_SENSOR, THERM_IRQ_STATE, THERM_STATE, THERM_TJ, THERM_TJ_MAX, THERM_SENSOR, THERM_ASIDE, THERM_SHUTDOWN, THERM_SHED, THERM_WARN, THERM_SHED_SECS]

/-! SUP: R608 (chapter 17) -/

def SUP_IRQ_OV : Fld := { addr := 0xE2010, hi := 1, lo := 1, acc := .w1c }
def SUP_IRQ_WARN : Fld := { addr := 0xE2010, hi := 0, lo := 0, acc := .w1c }
def SUP_WARN_NOW : Fld := { addr := 0xE2040, hi := 9, lo := 0, acc := .ro }
def SUP_SUPPLY_WARN : Fld := { addr := 0xE2044, hi := 9, lo := 0, acc := .w1c }
def SUP_OV : Fld := { addr := 0xE2048, hi := 9, lo := 0, acc := .w1c }
def SUP_LAST_RAIL : Fld := { addr := 0xE204C, hi := 3, lo := 0, acc := .ro }
def SUP_LAST_DUR : Fld := { addr := 0xE2050, hi := 31, lo := 0, acc := .ro }
def SUP_RESET_CAUSE : Fld := { addr := 0xE2054, hi := 9, lo := 0, acc := .w1c }
def SUP_HOLD_LEFT : Fld := { addr := 0xE2058, hi := 3, lo := 0, acc := .ro }
def SUP_MV : Fld := { addr := 0xE2100, hi := 15, lo := 0, step := 16, per := 10, cnt := 10, acc := .ro }
def SUP_RESET_MV : Fld := { addr := 0xE2104, hi := 31, lo := 16, step := 16, per := 10, cnt := 10, acc := .ro }
def SUP_WARN_MV : Fld := { addr := 0xE2104, hi := 15, lo := 0, step := 16, per := 10, cnt := 10, acc := .ro }
def SUP_OV_MV : Fld := { addr := 0xE2108, hi := 15, lo := 0, step := 16, per := 10, cnt := 10, acc := .ro }
def SUP_WARN_CNT : Fld := { addr := 0xE210C, hi := 31, lo := 0, step := 16, per := 10, cnt := 10, acc := .ro }
def blkSUP : List Fld := [SUP_IRQ_OV, SUP_IRQ_WARN, SUP_WARN_NOW, SUP_SUPPLY_WARN, SUP_OV, SUP_LAST_RAIL, SUP_LAST_DUR, SUP_RESET_CAUSE, SUP_HOLD_LEFT, SUP_MV, SUP_RESET_MV, SUP_WARN_MV, SUP_OV_MV, SUP_WARN_CNT]

/-! FAN: R609 (chapter 17) -/

def FAN_IRQ_FAIL : Fld := { addr := 0xE3010, hi := 1, lo := 1, acc := .w1c }
def FAN_IRQ_PC : Fld := { addr := 0xE3010, hi := 0, lo := 0, acc := .w1c }
def FAN_PC : Fld := { addr := 0xE3040, hi := 1, lo := 0, acc := .w1c }
def FAN_MAX : Fld := { addr := 0xE3100, hi := 25, lo := 16, step := 16, per := 2, cnt := 2, acc := .rw, rst := 1000 }
def FAN_MIN : Fld := { addr := 0xE3100, hi := 9, lo := 0, step := 16, per := 2, cnt := 2, acc := .rw }
def FAN_FAIL : Fld := { addr := 0xE3104, hi := 31, lo := 31, step := 16, per := 2, cnt := 2, acc := .ro }
def FAN_FLOOR : Fld := { addr := 0xE3104, hi := 25, lo := 16, step := 16, per := 2, cnt := 2, acc := .ro }
def FAN_DUTY : Fld := { addr := 0xE3104, hi := 9, lo := 0, step := 16, per := 2, cnt := 2, acc := .ro, rst := 1000 }
def FAN_RPM : Fld := { addr := 0xE3108, hi := 15, lo := 0, step := 16, per := 2, cnt := 2, acc := .ro }
def blkFAN : List Fld := [FAN_IRQ_FAIL, FAN_IRQ_PC, FAN_PC, FAN_MAX, FAN_MIN, FAN_FAIL, FAN_FLOOR, FAN_DUTY, FAN_RPM]

/-! KEY: R610 (chapter 17) -/

def KEY_DATA : Fld := { addr := 0xF00040, hi := 31, lo := 0, acc := .wo }
def KEY_CHECK : Fld := { addr := 0xF00044, hi := 0, lo := 0, acc := .wo }
def KEY_DONE : Fld := { addr := 0xF00048, hi := 0, lo := 0, acc := .wo }
def KEY_AUTH : Fld := { addr := 0xF0004C, hi := 31, lo := 31, acc := .ro }
def KEY_ID : Fld := { addr := 0xF0004C, hi := 8, lo := 8, acc := .ro }
def KEY_STATUS : Fld := { addr := 0xF0004C, hi := 7, lo := 0, acc := .ro }
def KEY_CLEARED : Fld := { addr := 0xF00050, hi := 5, lo := 5, acc := .ro }
def KEY_ERR : Fld := { addr := 0xF00050, hi := 4, lo := 4, acc := .ro }
def KEY_LOADED1 : Fld := { addr := 0xF00050, hi := 1, lo := 1, acc := .ro }
def KEY_LOADED0 : Fld := { addr := 0xF00050, hi := 0, lo := 0, acc := .ro }
def KEY_UID : Fld := { addr := 0xF00054, hi := 31, lo := 0, acc := .ro }
def KEY_CTR0_LO : Fld := { addr := 0xF00058, hi := 31, lo := 0, acc := .ro }
def KEY_CTR0_HI : Fld := { addr := 0xF0005C, hi := 31, lo := 0, acc := .ro }
def KEY_CTR1_LO : Fld := { addr := 0xF00060, hi := 31, lo := 0, acc := .ro }
def KEY_CTR1_HI : Fld := { addr := 0xF00064, hi := 31, lo := 0, acc := .ro }
def KEY_NEW : Fld := { addr := 0xF00080, hi := 31, lo := 0, step := 4, per := 8, cnt := 8, acc := .wo }
def KEY_WRAP_GO : Fld := { addr := 0xF000A0, hi := 31, lo := 31, acc := .wo }
def KEY_WRAP_SLOT : Fld := { addr := 0xF000A0, hi := 0, lo := 0, acc := .wo }
def KEY_WRAPPED : Fld := { addr := 0xF000A4, hi := 31, lo := 0, step := 4, per := 10, cnt := 10, acc := .ro }
def KEY_LIC_FEAT : Fld := { addr := 0xF00100, hi := 31, lo := 0, step := 4, per := 8, cnt := 8, acc := .ro }
def blkKEY : List Fld := [KEY_DATA, KEY_CHECK, KEY_DONE, KEY_AUTH, KEY_ID, KEY_STATUS, KEY_CLEARED, KEY_ERR, KEY_LOADED1, KEY_LOADED0, KEY_UID, KEY_CTR0_LO, KEY_CTR0_HI, KEY_CTR1_LO, KEY_CTR1_HI, KEY_NEW, KEY_WRAP_GO, KEY_WRAP_SLOT, KEY_WRAPPED, KEY_LIC_FEAT]

/-! PROV: R611 (chapter 17) -/

def PROV_IRQ_FLASH : Fld := { addr := 0xF01010, hi := 1, lo := 1, acc := .w1c }
def PROV_IRQ_COMMIT : Fld := { addr := 0xF01010, hi := 0, lo := 0, acc := .w1c }
def PROV_ACTIVE_SLOT : Fld := { addr := 0xF01040, hi := 31, lo := 31, acc := .ro }
def PROV_DEFAULT : Fld := { addr := 0xF01040, hi := 30, lo := 30, acc := .ro }
def PROV_FW_SLOT : Fld := { addr := 0xF01040, hi := 29, lo := 29, acc := .ro }
def PROV_UNKNOWN : Fld := { addr := 0xF01040, hi := 15, lo := 0, acc := .ro }
def PROV_GEN : Fld := { addr := 0xF01044, hi := 31, lo := 0, acc := .ro }
def PROV_SRC_ADDR : Fld := { addr := 0xF01048, hi := 31, lo := 0, acc := .rw, rst := 268435456 }
def PROV_COMMIT : Fld := { addr := 0xF0104C, hi := 0, lo := 0, acc := .wo }
def PROV_DONE : Fld := { addr := 0xF01050, hi := 31, lo := 31, acc := .ro }
def PROV_STATUS : Fld := { addr := 0xF01050, hi := 7, lo := 0, acc := .ro }
def PROV_FLASH_ADDR : Fld := { addr := 0xF01054, hi := 31, lo := 0, acc := .rw }
def PROV_FLASH_SRC : Fld := { addr := 0xF01058, hi := 31, lo := 0, acc := .rw, rst := 268435456 }
def PROV_FLASH_CMD : Fld := { addr := 0xF0105C, hi := 1, lo := 0, acc := .wo }
def blkPROV : List Fld := [PROV_IRQ_FLASH, PROV_IRQ_COMMIT, PROV_ACTIVE_SLOT, PROV_DEFAULT, PROV_FW_SLOT, PROV_UNKNOWN, PROV_GEN, PROV_SRC_ADDR, PROV_COMMIT, PROV_DONE, PROV_STATUS, PROV_FLASH_ADDR, PROV_FLASH_SRC, PROV_FLASH_CMD]

/-! FLT: R639 (chapter 18) -/

def FLT_IRQ_FENCE_DONE : Fld := { addr := 0xD0010, hi := 3, lo := 3, acc := .w1c }
def FLT_IRQ_RETIRE : Fld := { addr := 0xD0010, hi := 2, lo := 2, acc := .w1c }
def FLT_IRQ_TEST : Fld := { addr := 0xD0010, hi := 1, lo := 1, acc := .w1c }
def FLT_IRQ_SEVERE : Fld := { addr := 0xD0010, hi := 0, lo := 0, acc := .w1c }
def FLT_PROV_ERR : Fld := { addr := 0xD0040, hi := 1, lo := 1, acc := .w1c }
def FLT_COMPAT : Fld := { addr := 0xD0040, hi := 0, lo := 0, acc := .ro }
def FLT_TIME : Fld := { addr := 0xD0044, hi := 31, lo := 0, acc := .ro }
def FLT_PULSE : Fld := { addr := 0xD0048, hi := 31, lo := 31, acc := .ro }
def FLT_PIN : Fld := { addr := 0xD0048, hi := 30, lo := 30, acc := .ro }
def FLT_LEVEL : Fld := { addr := 0xD0048, hi := 0, lo := 0, acc := .rw }
def FLT_RUNNING : Fld := { addr := 0xD004C, hi := 2, lo := 0, acc := .ro }
def FLT_QUEUED : Fld := { addr := 0xD004C, hi := 15, lo := 8, acc := .ro }
def FLT_PASS : Fld := { addr := 0xD0050, hi := 31, lo := 0, acc := .ro }
def FLT_FAIL : Fld := { addr := 0xD0054, hi := 31, lo := 0, acc := .ro }
def FLT_FENCE_UNIT : Fld := { addr := 0xD0060, hi := 31, lo := 0, acc := .rw }
def FLT_FENCE_EPOCH : Fld := { addr := 0xD0064, hi := 31, lo := 0, acc := .rw }
def FLT_FENCE_GO : Fld := { addr := 0xD0068, hi := 0, lo := 0, acc := .wo }
def FLT_DONE : Fld := { addr := 0xD006C, hi := 31, lo := 31, acc := .ro }
def FLT_STATUS : Fld := { addr := 0xD006C, hi := 1, lo := 0, acc := .ro }
def FLT_WDT : Fld := { addr := 0xD0070, hi := 15, lo := 0, acc := .rw }
def FLT_WDT_KICK : Fld := { addr := 0xD0074, hi := 0, lo := 0, acc := .wo }
def blkFLT : List Fld := [FLT_IRQ_FENCE_DONE, FLT_IRQ_RETIRE, FLT_IRQ_TEST, FLT_IRQ_SEVERE, FLT_PROV_ERR, FLT_COMPAT, FLT_TIME, FLT_PULSE, FLT_PIN, FLT_LEVEL, FLT_RUNNING, FLT_QUEUED, FLT_PASS, FLT_FAIL, FLT_FENCE_UNIT, FLT_FENCE_EPOCH, FLT_FENCE_GO, FLT_DONE, FLT_STATUS, FLT_WDT, FLT_WDT_KICK]

/-! FLTS: R641 (chapter 18) -/

def FLTS_SEVERE : Fld := { addr := 0xD2040, hi := 31, lo := 0, step := 4, per := 8, cnt := 8, acc := .w1c }
def FLTS_SE_RETIRED0 : Fld := { addr := 0xD2080, hi := 31, lo := 0, acc := .ro }
def FLTS_SE_RETIRED1 : Fld := { addr := 0xD2084, hi := 1, lo := 0, acc := .ro }
def FLTS_LANE_RETIRED0 : Fld := { addr := 0xD2088, hi := 31, lo := 0, acc := .ro }
def FLTS_LANE_RETIRED1 : Fld := { addr := 0xD208C, hi := 31, lo := 0, acc := .ro }
def FLTS_LANE_RETIRED2 : Fld := { addr := 0xD2090, hi := 7, lo := 0, acc := .ro }
def FLTS_SERDES_RETIRED : Fld := { addr := 0xD2094, hi := 13, lo := 0, acc := .ro }
def FLTS_SPARES_LEFT : Fld := { addr := 0xD2098, hi := 17, lo := 16, acc := .ro, rst := 2 }
def FLTS_BC_RETIRED : Fld := { addr := 0xD2098, hi := 1, lo := 0, acc := .ro }
def FLTS_DRAM_BAD : Fld := { addr := 0xD20A0, hi := 8, lo := 0, acc := .ro }
def FLTS_PORT_RETIRED : Fld := { addr := 0xD20B0, hi := 31, lo := 0, step := 4, per := 4, cnt := 4, acc := .ro }
def FLTS_TOTAL : Fld := { addr := 0xD2100, hi := 31, lo := 8, step := 4, per := 256, cnt := 256, acc := .ro }
def FLTS_IN_WINDOW : Fld := { addr := 0xD2100, hi := 7, lo := 0, step := 4, per := 256, cnt := 256, acc := .ro }
def blkFLTS : List Fld := [FLTS_SEVERE, FLTS_SE_RETIRED0, FLTS_SE_RETIRED1, FLTS_LANE_RETIRED0, FLTS_LANE_RETIRED1, FLTS_LANE_RETIRED2, FLTS_SERDES_RETIRED, FLTS_SPARES_LEFT, FLTS_BC_RETIRED, FLTS_DRAM_BAD, FLTS_PORT_RETIRED, FLTS_TOTAL, FLTS_IN_WINDOW]

/-! BIST: R643 (chapter 18) -/

def BIST_IRQ_DONE : Fld := { addr := 0xD4010, hi := 0, lo := 0, acc := .w1c }
def BIST_GO : Fld := { addr := 0xD4040, hi := 0, lo := 0, acc := .wo }
def BIST_DONE : Fld := { addr := 0xD4044, hi := 31, lo := 31, acc := .ro }
def BIST_BUSY : Fld := { addr := 0xD4044, hi := 30, lo := 30, acc := .ro }
def BIST_KIND : Fld := { addr := 0xD4044, hi := 17, lo := 16, acc := .ro }
def BIST_STATUS : Fld := { addr := 0xD4044, hi := 7, lo := 0, acc := .ro }
def BIST_FAIL_MAP : Fld := { addr := 0xD4048, hi := 16, lo := 0, acc := .ro }
def BIST_NOW_SEC_LO : Fld := { addr := 0xD404C, hi := 31, lo := 0, acc := .rw }
def BIST_VALID : Fld := { addr := 0xD4050, hi := 31, lo := 31, acc := .rw }
def BIST_NOW_SEC_HI : Fld := { addr := 0xD4050, hi := 15, lo := 0, acc := .rw }
def BIST_FOUND : Fld := { addr := 0xD4054, hi := 31, lo := 31, acc := .ro }
def BIST_GOOD : Fld := { addr := 0xD4054, hi := 30, lo := 30, acc := .ro }
def BIST_YOUNG : Fld := { addr := 0xD4054, hi := 29, lo := 29, acc := .ro }
def BIST_USED : Fld := { addr := 0xD4054, hi := 28, lo := 28, acc := .ro }
def BIST_REC_SEQ : Fld := { addr := 0xD4054, hi := 15, lo := 0, acc := .ro }
def BIST_REC_AGE : Fld := { addr := 0xD4058, hi := 31, lo := 0, acc := .ro }
def blkBIST : List Fld := [BIST_IRQ_DONE, BIST_GO, BIST_DONE, BIST_BUSY, BIST_KIND, BIST_STATUS, BIST_FAIL_MAP, BIST_NOW_SEC_LO, BIST_VALID, BIST_NOW_SEC_HI, BIST_FOUND, BIST_GOOD, BIST_YOUNG, BIST_USED, BIST_REC_SEQ, BIST_REC_AGE]

/-! MARCH: R644 (chapter 18) -/

def MARCH_IRQ_FAIL : Fld := { addr := 0xD5010, hi := 1, lo := 1, acc := .w1c }
def MARCH_IRQ_DONE : Fld := { addr := 0xD5010, hi := 0, lo := 0, acc := .w1c }
def MARCH_PRESERVE : Fld := { addr := 0xD5040, hi := 31, lo := 31, acc := .rw, rst := 1 }
def MARCH_ALG : Fld := { addr := 0xD5040, hi := 25, lo := 24, acc := .rw, rst := 1 }
def MARCH_BG : Fld := { addr := 0xD5040, hi := 17, lo := 16, acc := .rw, rst := 1 }
def MARCH_GROUP : Fld := { addr := 0xD5040, hi := 10, lo := 8, acc := .rw }
def MARCH_BANK_MASK : Fld := { addr := 0xD5040, hi := 7, lo := 0, acc := .rw }
def MARCH_GO : Fld := { addr := 0xD5044, hi := 0, lo := 0, acc := .wo }
def MARCH_DONE : Fld := { addr := 0xD5048, hi := 31, lo := 31, acc := .ro }
def MARCH_BUSY : Fld := { addr := 0xD5048, hi := 30, lo := 30, acc := .ro }
def MARCH_PAUSED : Fld := { addr := 0xD5048, hi := 29, lo := 29, acc := .ro }
def MARCH_STATUS : Fld := { addr := 0xD5048, hi := 7, lo := 0, acc := .ro }
def MARCH_FAIL_CNT : Fld := { addr := 0xD504C, hi := 31, lo := 0, acc := .ro }
def MARCH_FIFO_CNT : Fld := { addr := 0xD5050, hi := 6, lo := 0, acc := .ro }
def MARCH_FIFO_VALID : Fld := { addr := 0xD5054, hi := 31, lo := 31, acc := .rc }
def MARCH_FIFO_BANK : Fld := { addr := 0xD5054, hi := 21, lo := 16, acc := .rc }
def MARCH_FIFO_ROW : Fld := { addr := 0xD5054, hi := 9, lo := 0, acc := .rc }
def blkMARCH : List Fld := [MARCH_IRQ_FAIL, MARCH_IRQ_DONE, MARCH_PRESERVE, MARCH_ALG, MARCH_BG, MARCH_GROUP, MARCH_BANK_MASK, MARCH_GO, MARCH_DONE, MARCH_BUSY, MARCH_PAUSED, MARCH_STATUS, MARCH_FAIL_CNT, MARCH_FIFO_CNT, MARCH_FIFO_VALID, MARCH_FIFO_BANK, MARCH_FIFO_ROW]

/-! REP: R645 (chapter 18) -/

def REP_IRQ_REPAIR_FAIL : Fld := { addr := 0xD6010, hi := 1, lo := 1, acc := .w1c }
def REP_IRQ_FUSE_DONE : Fld := { addr := 0xD6010, hi := 0, lo := 0, acc := .w1c }
def REP_FUSE_LEFT : Fld := { addr := 0xD6040, hi := 8, lo := 0, acc := .ro }
def REP_FUSE_GO : Fld := { addr := 0xD6044, hi := 0, lo := 0, acc := .wo }
def REP_DONE : Fld := { addr := 0xD6048, hi := 31, lo := 31, acc := .ro }
def REP_BUSY : Fld := { addr := 0xD6048, hi := 30, lo := 30, acc := .ro }
def REP_STATUS : Fld := { addr := 0xD6048, hi := 7, lo := 0, acc := .ro }
def REP_SOFT_CNT : Fld := { addr := 0xD604C, hi := 10, lo := 0, acc := .ro }
def REP_WITHHELD : Fld := { addr := 0xD6050, hi := 10, lo := 0, acc := .ro }
def REP_FUSED : Fld := { addr := 0xD6100, hi := 31, lo := 16, step := 4, per := 64, cnt := 64, acc := .ro }
def REP_SOFT : Fld := { addr := 0xD6100, hi := 15, lo := 0, step := 4, per := 64, cnt := 64, acc := .ro }
def blkREP : List Fld := [REP_IRQ_REPAIR_FAIL, REP_IRQ_FUSE_DONE, REP_FUSE_LEFT, REP_FUSE_GO, REP_DONE, REP_BUSY, REP_STATUS, REP_SOFT_CNT, REP_WITHHELD, REP_FUSED, REP_SOFT]

/-! AESB: R429 (chapter 12) -/

def AESB_RX_CS : Fld := { addr := 0x91040, hi := 31, lo := 0, step := 4, per := 384, cnt := 384, acc := .ro }
def AESB_RX_U : Fld := { addr := 0x91800, hi := 31, lo := 0, step := 4, per := 384, cnt := 384, acc := .ro }
def AESB_TX_CS : Fld := { addr := 0x92040, hi := 31, lo := 0, step := 4, per := 384, cnt := 384, acc := .rw }
def AESB_TX_U : Fld := { addr := 0x92800, hi := 31, lo := 0, step := 4, per := 384, cnt := 384, acc := .rw }
def blkAESB : List Fld := [AESB_RX_CS, AESB_RX_U, AESB_TX_CS, AESB_TX_U]

/-! FLTC: R640 (chapter 18) -/

def FLTC_ESC : Fld := { addr := 0xD1100, hi := 31, lo := 31, step := 4, per := 256, cnt := 256, acc := .ro }
def FLTC_C320 : Fld := { addr := 0xD1100, hi := 30, lo := 30, step := 4, per := 256, cnt := 256, acc := .ro }
def FLTC_N : Fld := { addr := 0xD1100, hi := 23, lo := 16, step := 4, per := 256, cnt := 256, acc := .ro }
def FLTC_W : Fld := { addr := 0xD1100, hi := 15, lo := 0, step := 4, per := 256, cnt := 256, acc := .ro }
def blkFLTC : List Fld := [FLTC_ESC, FLTC_C320, FLTC_N, FLTC_W]

/-! FLTL: R642 (chapter 18) -/

def FLTL_LOG_WR : Fld := { addr := 0xD3040, hi := 5, lo := 0, acc := .ro }
def FLTL_LOG : Fld := { addr := 0xD3800, hi := 31, lo := 0, step := 4, per := 512, cnt := 512, acc := .ro }
def blkFLTL : List Fld := [FLTL_LOG_WR, FLTL_LOG]

/-! INR: R131 (chapter 03) -/

def INR_OVERRUN : Fld := { addr := 0x500000, hi := 0, lo := 0, step := 32, per := 2048, cnt := 2048, acc := .rc }
def INR_SAT : Fld := { addr := 0x500000, hi := 1, lo := 1, step := 32, per := 2048, cnt := 2048, acc := .rc }
def INR_DLY_MISS : Fld := { addr := 0x500000, hi := 2, lo := 2, step := 32, per := 2048, cnt := 2048, acc := .rc }
def INR_FREQ_CLAMP : Fld := { addr := 0x500000, hi := 3, lo := 3, step := 32, per := 2048, cnt := 2048, acc := .rc }
def INR_PC_AM_CEIL : Fld := { addr := 0x500000, hi := 4, lo := 4, step := 32, per := 2048, cnt := 2048, acc := .rc }
def INR_INS_DRY : Fld := { addr := 0x500000, hi := 5, lo := 5, step := 32, per := 2048, cnt := 2048, acc := .rc }
def INR_RETRY : Fld := { addr := 0x500000, hi := 6, lo := 6, step := 32, per := 2048, cnt := 2048, acc := .rc }
def INR_TAG : Fld := { addr := 0x500004, hi := 11, lo := 0, step := 32, per := 2048, cnt := 2048, acc := .ro }
def INR_GATE_GR : Fld := { addr := 0x500008, hi := 15, lo := 0, step := 32, per := 2048, cnt := 2048, acc := .ro }
def INR_COMP_GR : Fld := { addr := 0x500008, hi := 31, lo := 16, step := 32, per := 2048, cnt := 2048, acc := .ro }
def INR_AM : Fld := { addr := 0x50000C, hi := 15, lo := 0, step := 32, per := 2048, cnt := 2048, acc := .ro }
def INR_SE : Fld := { addr := 0x500010, hi := 5, lo := 0, step := 32, per := 2048, cnt := 2048, acc := .ro }
def blkINR : List Fld := [INR_OVERRUN, INR_SAT, INR_DLY_MISS, INR_FREQ_CLAMP, INR_PC_AM_CEIL, INR_INS_DRY, INR_RETRY, INR_TAG, INR_GATE_GR, INR_COMP_GR, INR_AM, INR_SE]

/-! OUTR: R131 (chapter 03) -/

def OUTR_OVERRUN : Fld := { addr := 0x510000, hi := 0, lo := 0, step := 64, per := 1024, cnt := 1024, acc := .rc }
def OUTR_SAT : Fld := { addr := 0x510000, hi := 1, lo := 1, step := 64, per := 1024, cnt := 1024, acc := .rc }
def OUTR_DLY_MISS : Fld := { addr := 0x510000, hi := 2, lo := 2, step := 64, per := 1024, cnt := 1024, acc := .rc }
def OUTR_FREQ_CLAMP : Fld := { addr := 0x510000, hi := 3, lo := 3, step := 64, per := 1024, cnt := 1024, acc := .rc }
def OUTR_PC_LG_DEPTH : Fld := { addr := 0x510000, hi := 4, lo := 4, step := 64, per := 1024, cnt := 1024, acc := .rc }
def OUTR_PC_LG_LOCKED : Fld := { addr := 0x510000, hi := 5, lo := 5, step := 64, per := 1024, cnt := 1024, acc := .rc }
def OUTR_LG_FULL : Fld := { addr := 0x510000, hi := 6, lo := 6, step := 64, per := 1024, cnt := 1024, acc := .rc }
def OUTR_RETRY : Fld := { addr := 0x510000, hi := 7, lo := 7, step := 64, per := 1024, cnt := 1024, acc := .rc }
def OUTR_LIM_GR : Fld := { addr := 0x510004, hi := 15, lo := 0, step := 64, per := 1024, cnt := 1024, acc := .ro }
def OUTR_SE : Fld := { addr := 0x510008, hi := 5, lo := 0, step := 64, per := 1024, cnt := 1024, acc := .ro }
def OUTR_NOTCH_STATE : Fld := { addr := 0x510010, hi := 31, lo := 30, step := 4, per := 16384, cnt := 16384, grp := 16, lim := 12, acc := .ro }
def OUTR_NOTCH_DEPTH : Fld := { addr := 0x510010, hi := 29, lo := 24, step := 4, per := 16384, cnt := 16384, grp := 16, lim := 12, acc := .ro }
def OUTR_NOTCH_FREQ : Fld := { addr := 0x510010, hi := 23, lo := 0, step := 4, per := 16384, cnt := 16384, grp := 16, lim := 12, acc := .ro }
def blkOUTR : List Fld := [OUTR_OVERRUN, OUTR_SAT, OUTR_DLY_MISS, OUTR_FREQ_CLAMP, OUTR_PC_LG_DEPTH, OUTR_PC_LG_LOCKED, OUTR_LG_FULL, OUTR_RETRY, OUTR_LIM_GR, OUTR_SE, OUTR_NOTCH_STATE, OUTR_NOTCH_DEPTH, OUTR_NOTCH_FREQ]

/-! RPT: R131 (chapter 03) -/

def RPT_AM_MEMBERS : Fld := { addr := 0x520000, hi := 6, lo := 0, step := 4, per := 16, cnt := 16, acc := .ro }
def RPT_EVT_IN : Fld := { addr := 0x520100, hi := 31, lo := 0, step := 4, per := 64, cnt := 64, acc := .rc }
def RPT_EVT_OUT : Fld := { addr := 0x520200, hi := 31, lo := 0, step := 4, per := 32, cnt := 32, acc := .rc }
def blkRPT : List Fld := [RPT_AM_MEMBERS, RPT_EVT_IN, RPT_EVT_OUT]

end Sys2Proof.Machine.Reg

namespace Sys2Proof.Machine

/-- The blocks by page (R540): first page, last page, the fields of its tables. -/
def regBlocks : List (Nat × Nat × List Fld) :=
  [(0x000, 0x000, Reg.blkGLOBAL),
   (0x001, 0x001, Reg.blkMODE),
   (0x002, 0x002, Reg.blkINTC),
   (0x003, 0x003, Reg.blkHOSTQ),
   (0x010, 0x031, Reg.blkSE),
   (0x040, 0x040, Reg.blkFAB),
   (0x041, 0x041, Reg.blkFABB),
   (0x042, 0x042, Reg.blkFABX),
   (0x043, 0x043, Reg.blkFABE),
   (0x044, 0x044, Reg.blkFABL),
   (0x045, 0x045, Reg.blkFABG),
   (0x046, 0x046, Reg.blkMTR),
   (0x047, 0x047, Reg.blkEYE),
   (0x050, 0x050, Reg.blkSCN),
   (0x051, 0x051, Reg.blkSCNC),
   (0x052, 0x052, Reg.blkSLOT),
   (0x053, 0x053, Reg.blkSCNQ),
   (0x054, 0x054, Reg.blkEPH),
   (0x060, 0x063, Reg.blkRCONV),
   (0x064, 0x064, Reg.blkPATCH),
   (0x070, 0x070, Reg.blkHEL),
   (0x071, 0x071, Reg.blkHELLOG),
   (0x074, 0x074, Reg.blkTIME),
   (0x075, 0x075, Reg.blkCAL),
   (0x080, 0x080, Reg.blkNET),
   (0x081, 0x081, Reg.blkNETR),
   (0x082, 0x085, Reg.blkRXS),
   (0x088, 0x088, Reg.blkNET),
   (0x089, 0x089, Reg.blkNETR),
   (0x08A, 0x08D, Reg.blkTXS),
   (0x090, 0x090, Reg.blkAESRX),
   (0x091, 0x092, Reg.blkAESB),
   (0x093, 0x093, Reg.blkAESTX),
   (0x094, 0x094, Reg.blkMADI),
   (0x095, 0x096, Reg.blkTDM),
   (0x097, 0x097, Reg.blkPMUX),
   (0x0A0, 0x0A0, Reg.blkLANE),
   (0x0A1, 0x0A2, Reg.blkKZL),
   (0x0A8, 0x0A8, Reg.blkSTBY),
   (0x0B0, 0x0B7, Reg.blkMEM),
   (0x0B8, 0x0B8, Reg.blkDRAM),
   (0x0B9, 0x0B9, Reg.blkARB),
   (0x0BA, 0x0BA, Reg.blkOWN),
   (0x0BC, 0x0BF, Reg.blkCVU),
   (0x0C0, 0x0C1, Reg.blkBC),
   (0x0D0, 0x0D0, Reg.blkFLT),
   (0x0D1, 0x0D1, Reg.blkFLTC),
   (0x0D2, 0x0D2, Reg.blkFLTS),
   (0x0D3, 0x0D3, Reg.blkFLTL),
   (0x0D4, 0x0D4, Reg.blkBIST),
   (0x0D5, 0x0D5, Reg.blkMARCH),
   (0x0D6, 0x0D6, Reg.blkREP),
   (0x0E0, 0x0E0, Reg.blkPWR),
   (0x0E1, 0x0E1, Reg.blkTHERM),
   (0x0E2, 0x0E2, Reg.blkSUP),
   (0x0E3, 0x0E3, Reg.blkFAN),
   (0x500, 0x50F, Reg.blkINR),
   (0x510, 0x51F, Reg.blkOUTR),
   (0x520, 0x520, Reg.blkRPT),
   (0xF00, 0xF00, Reg.blkKEY),
   (0xF01, 0xF01, Reg.blkPROV)]

end Sys2Proof.Machine
end

