-- ==== Sys2Proof/Machine/ResetValues.lean ====
section
/-! DEFINITION. What a register word reads as before anything has written it: the common header (R534, R540), the register
tables, and the values that the boot state gives (R574, R592, R614). -/

namespace Sys2Proof.Machine

/-- The instance of a field whose word stands at this byte offset. -/
def fldIdx? (f : Fld) (a : Nat) : Option Nat :=
  if a < f.addr then none
  else
    let d := a - f.addr
    let pg := if f.pst = 0 then 0 else d / f.pst
    let r := if f.pst = 0 then d else d % f.pst
    let k := if f.step = 0 then 0 else r / f.step
    if (if f.step = 0 then r else r % f.step) ≠ 0 then none
    else if f.per ≤ k then none
    else
      let i := pg * f.per + k
      if i < f.cnt ∧ i % f.grp < f.lim then some i else none

/-- The byte offset of instance `i` of a field. -/
def fldAt (f : Fld) (i : Nat) : Nat := f.addr + f.pst * (i / f.per) + f.step * (i % f.per)

/-- The width of a field. -/
def fldWidth (f : Fld) : Nat := f.hi + 1 - f.lo

/-- The fields of the block whose tables hold this page. -/
def fieldsOfPage (page : Nat) : List Fld :=
  match regBlocks.find? (fun b => b.1 ≤ page && page ≤ b.2.1) with
  | some b => b.2.2
  | none => []

/-- The fields of the register tables in one word. -/
def fieldsAt (a : Nat) : List Fld :=
  if a < 0x1000000 ∧ a % 4 = 0 then (fieldsOfPage (a / 4096)).filter (fun f => (fldIdx? f a).isSome) else []

/-- BLOCK of a page's header (R540); none where the page has no header. -/
def blockOf (page : Nat) : Option Nat :=
  if page = 0 then some 1 else if page = 1 then some 2 else if page = 2 then some 3 else if page = 3 then some 4
  else if 0x10 ≤ page ∧ page ≤ 0x31 then some 0x10
  else if 0x40 ≤ page ∧ page ≤ 0x47 then some 0x20
  else if 0x50 ≤ page ∧ page ≤ 0x53 then some 0x21
  else if page = 0x54 then some 0x22
  else if 0x60 ≤ page ∧ page ≤ 0x63 then some 0x23
  else if page = 0x64 then some 0x24
  else if page = 0x70 ∨ page = 0x71 then some 0x30
  else if page = 0x74 then some 0x31
  else if page = 0x75 then some 0x32
  else if (0x80 ≤ page ∧ page ≤ 0x85) ∨ (0x88 ≤ page ∧ page ≤ 0x8D) then some 0x40
  else if 0x90 ≤ page ∧ page ≤ 0x93 then some 0x41
  else if page = 0x94 then some 0x42
  else if page = 0x95 ∨ page = 0x96 then some 0x43
  else if page = 0x97 then some 0x44
  else if page = 0xA0 then some 0x45
  else if page = 0xA1 ∨ page = 0xA2 then some 0x46
  else if page = 0xA8 then some 0x47
  else if 0xB0 ≤ page ∧ page ≤ 0xB7 then some 0x50
  else if page = 0xB8 then some 0x51
  else if page = 0xB9 then some 0x52
  else if page = 0xBA then some 0x53
  else if 0xBC ≤ page ∧ page ≤ 0xBF then some 0x54
  else if page = 0xC0 ∨ page = 0xC1 then some 0x11
  else if 0xD0 ≤ page ∧ page ≤ 0xD3 then some 0x60
  else if page = 0xD4 then some 0x61
  else if page = 0xD5 then some 0x62
  else if page = 0xD6 then some 0x63
  else if 0xE0 ≤ page ∧ page ≤ 0xE3 then some (0x70 + (page - 0xE0))
  else if page = 0xF00 then some 0x74
  else if page = 0xF01 then some 0x75
  else none

/-- INSTANCE of a page's header (R540). -/
def instanceOf (page : Nat) : Nat :=
  if 0x10 ≤ page ∧ page ≤ 0x31 then page - 0x10
  else if 0x40 ≤ page ∧ page ≤ 0x47 then page - 0x40
  else if 0x50 ≤ page ∧ page ≤ 0x53 then page - 0x50
  else if 0x60 ≤ page ∧ page ≤ 0x63 then page - 0x60
  else if page = 0x71 then 1
  else if 0x80 ≤ page ∧ page ≤ 0x8D then page - 0x80
  else if 0x90 ≤ page ∧ page ≤ 0x93 then page - 0x90
  else if page = 0x96 then 1
  else if page = 0xA2 then 1
  else if 0xB0 ≤ page ∧ page ≤ 0xB7 then page - 0xB0
  else if 0xBC ≤ page ∧ page ≤ 0xBF then page - 0xBC
  else if page = 0xC1 then 1
  else if 0xD0 ≤ page ∧ page ≤ 0xD3 then page - 0xD0
  else 0

/-- Do RW, RWS and W1S writes to this page pass the scene staging gate (R33, R540)? -/
def gated (page : Nat) : Bool :=
  (0x10 ≤ page && page ≤ 0x31) || (0x40 ≤ page && page ≤ 0x47) || (0x60 ≤ page && page ≤ 0x64) ||
  (0x80 ≤ page && page ≤ 0x85) || (0x88 ≤ page && page ≤ 0x8D) || (0x90 ≤ page && page ≤ 0x97) ||
  (0xA0 ≤ page && page ≤ 0xA2) || page == 0xA8 || page == 0xC0 || page == 0xC1

/-- The first page of the unit that a page describes: the one home of the unit's PG_STAT and PG_EPOCH (R48).
DESIGN CHOICE (log entry 16). -/
def unitPage (page : Nat) : Nat :=
  if 0x40 ≤ page ∧ page ≤ 0x47 then 0x40
  else if 0x50 ≤ page ∧ page ≤ 0x53 then 0x50
  else if 0x60 ≤ page ∧ page ≤ 0x63 then 0x60
  else if page = 0x71 then 0x70
  else if 0x80 ≤ page ∧ page ≤ 0x85 then 0x80
  else if 0x88 ≤ page ∧ page ≤ 0x8D then 0x88
  else if 0x90 ≤ page ∧ page ≤ 0x93 then 0x90
  else if 0xD0 ≤ page ∧ page ≤ 0xD3 then 0xD0
  else page

/-- Header words before anything has written them (R534): PG_ID, PG_CAP, PG_CTRL, PG_STAT (SPARE on the two spare strip
engines, R174) and PG_EPOCH. -/
def headerReset (page off : Nat) : Nat :=
  match blockOf page with
  | none => 0
  | some b =>
    if off = 0x00 then b * 0x10000 + instanceOf page * 0x100 + 1
    else if off = 0x04 then (if page = 0x30 ∨ page = 0x31 then 1 else 0)
    else if off = 0x08 then 1
    else if off = 0x0C then (if page = 0x30 ∨ page = 0x31 then 0x20 else 0)
    else if off = 0x24 then 1
    else 0

/-- Thresholds of R592 in mV: reset, warning, overvoltage; VDD_CORE for the level of VID 0b00. -/
def railLimits : Nat → Nat × Nat × Nat
  | 0 => (680, 715, 800) | 1 => (730, 765, 850) | 2 => (730, 765, 850) | 3 => (780, 815, 900)
  | 4 => (1100, 1150, 1260) | 5 => (1640, 1720, 1890) | 6 => (1620, 1710, 1890) | 7 => (2970, 3135, 3465)
  | 8 => (450, 475, 525) | 9 => (950, 1000, 1100) | _ => (0, 0, 0)

/-- HOLD_MAX unless provisioned otherwise (R525): 24 fc for SRAM, 64 for DRAM, 16 for the parameter bus. DESIGN CHOICE (log entry 12). -/
def holdMaxDefault (a : Nat) : Nat := if a < 8 then 24 else if a = 8 then 64 else 16

/-- Priority words with every master ID up to 0x2B at priority 4 (R573, R525). DESIGN CHOICE (log entry 12). -/
def priDefault (k : Nat) : Nat := if k < 5 then 0x44444444 else 0x4444

/-- The engine that runs a strip at RATE96 before anything moves it (R86). -/
def strip96Engine (out : Bool) (n : Nat) : Nat := if out then (if n < 512 then n / 16 else 0) else (if n < 1024 then n / 32 else 0)

/-- Reset values that the register tables give by reference: R592, R614, R573, R86, the fuses.
DESIGN CHOICE (log entry 11). DESIGN CHOICE (log entry 12). -/
def specialReset (a : Nat) : Nat :=
  let page := a / 4096
  let off := a % 4096
  if page = 0xE2 ∧ 0x100 ≤ off ∧ off < 0x1A0 then
    let r := (off - 0x100) / 16
    if off % 16 = 4 then (railLimits r).1 * 0x10000 + (railLimits r).2.1
    else if off % 16 = 8 then (railLimits r).2.2 else 0
  else if page = 0xD1 ∧ 0x100 ≤ off ∧ off < 0x500 ∧ off % 4 = 0 then faultDefaultWord ((off - 0x100) / 4)
  else if page = 0xB9 then
    if 0x84 ≤ off ∧ off < 0xD0 ∧ off % 8 = 4 then holdMaxDefault ((off - 0x84) / 8)
    else if 0x300 ≤ off ∧ off < 0x440 ∧ off % 32 < 24 then priDefault (off % 32 / 4)
    else 0
  else if page = 0xD6 ∧ off = 0x40 then 256
  else if 0x500 ≤ page ∧ page ≤ 0x50F ∧ a % 32 = 0x10 then strip96Engine false ((a - 0x500000) / 32)
  else if 0x510 ≤ page ∧ page ≤ 0x51F ∧ a % 64 = 8 then strip96Engine true ((a - 0x510000) / 64)
  else 0

/-- What a register word reads as before anything has written it. -/
def resetNat (a : Nat) : Nat :=
  if a < 0x1000000 then
    let page := a / 4096
    if 0x100 ≤ page ∧ page ≤ 0x8FF ∧ ¬(0x500 ≤ page ∧ page ≤ 0x520) then paramReset a
    else
      (if a % 4096 < 0x28 ∧ ¬(0x500 ≤ page ∧ page ≤ 0x520) then headerReset page (a % 4096) else 0) +
      specialReset a + ((fieldsAt a).map (fun f => f.rst * 2 ^ f.lo)).sum
  else if 0x4000000 ≤ a then 0x8000
  -- copies of a word for one plane (R285, R350)
  else ((fieldsAt (a % 0x1000000)).map (fun f => f.rst * 2 ^ f.lo)).sum

/-- `resetNat` as a register word. -/
def resetWord (a : Nat) : Word := BitVec.ofNat 32 (resetNat a)

end Sys2Proof.Machine
end

