-- ==== Sys2Proof/Machine/Ops.lean ====
section
/-! DEFINITION. The named operations over the registers, the clock and the counters that every meaning is built from. -/

namespace Sys2Proof.Machine

/-! ## Register words and fields (R13, R14) -/

/-- The word stored at a register key. -/
def State.word (s : State) (a : Nat) : Word := tget (resetWord a) s.regs a

/-- Store a register word. -/
def State.setWord (s : State) (a : Nat) (v : Word) : State :=
  { s with regs := tput (resetWord a) s.regs a v }

/-- The value of a field of instance `i`. -/
def State.get (s : State) (f : Fld) (i : Nat := 0) : Nat := bits (s.word (fldAt f i)).toNat f.hi f.lo

/-- Store a field of instance `i`, other bits of its word unchanged. -/
def State.put (s : State) (f : Fld) (i : Nat) (v : Nat) : State :=
  s.setWord (fldAt f i) (BitVec.ofNat 32 (withBits (s.word (fldAt f i)).toNat f.hi f.lo v))

/-- A one-bit field, or whether a field is nonzero. -/
def State.getB (s : State) (f : Fld) (i : Nat := 0) : Bool := s.get f i != 0

/-- Store a one-bit field. -/
def State.putB (s : State) (f : Fld) (i : Nat) (b : Bool) : State := s.put f i b.toNat

/-- Count in a field, saturating at its width. -/
def State.count (s : State) (f : Fld) (i : Nat := 0) (n : Nat := 1) : State :=
  s.put f i (satInc (fldWidth f) (s.get f i) n)

/-- Count in a field, wrapping at its width. -/
def State.countWrap (s : State) (f : Fld) (i : Nat := 0) : State := s.put f i (s.get f i + 1)

/-- Keep the largest value in a field, saturated to its width. -/
def State.keepMax (s : State) (f : Fld) (i : Nat) (v : Nat) : State :=
  if s.get f i < v then s.put f i (min v (2 ^ fldWidth f - 1)) else s

/-- Set bit `b` of a bit-map field. -/
def State.setBitOf (s : State) (f : Fld) (i b : Nat) (v : Bool) : State := s.put f i (withBit (s.get f i) b v)

/-- Bit `n` of a map of 32-bit words. -/
def State.mapBit (s : State) (f : Fld) (n : Nat) : Bool := bit (s.get f (n / 32)) (n % 32)

/-- Set bit `n` of a map of 32-bit words. -/
def State.setMapBit (s : State) (f : Fld) (n : Nat) (v : Bool) : State := s.setBitOf f (n / 32) (n % 32) v

/-- Raise an interrupt source bit: set a one-bit W1C field of PG_IRQ_STAT. -/
def State.irq (s : State) (f : Fld) (i : Nat := 0) : State := s.put f i 1

/-! ## Parts of the state -/

/-- Change the clk part of the state. -/
def State.modClk (s : State) (f : Clk → Clk) : State := { s with clk := f s.clk }

/-- Change the ptp part of the state. -/
def State.modPtp (s : State) (f : PtpClk → PtpClk) : State := { s with ptp := f s.ptp }

/-- Change the flt part of the state. -/
def State.modFlt (s : State) (f : Flt → Flt) : State := { s with flt := f s.flt }

/-- Change the mem part of the state. -/
def State.modMem (s : State) (f : Mem → Mem) : State := { s with mem := f s.mem }

/-- Change the host part of the state. -/
def State.modHost (s : State) (f : HostIf → HostIf) : State := { s with host := f s.host }

/-- Change the mode part of the state. -/
def State.modMode (s : State) (f : ModeSt → ModeSt) : State := { s with mode := f s.mode }

/-- Change the mgmt part of the state. -/
def State.modMgmt (s : State) (f : Mgmt → Mgmt) : State := { s with mgmt := f s.mgmt }

/-- Change the pwr part of the state. -/
def State.modPwr (s : State) (f : Power → Power) : State := { s with pwr := f s.pwr }

/-! ## The common header (R534) -/

namespace Hdr

/-- PG_CTRL[2]. -/
def FREEZE : Fld := { addr := 0x008, hi := 2, lo := 2, pst := 4096, cnt := 4096, acc := .rw }
/-- PG_STAT[2]. -/
def RETIRED : Fld := { addr := 0x00C, hi := 2, lo := 2, pst := 4096, cnt := 4096, acc := .ro }
/-- PG_STAT[1]. -/
def FENCED : Fld := { addr := 0x00C, hi := 1, lo := 1, pst := 4096, cnt := 4096, acc := .ro }
/-- PG_STAT[4] of SE and BC pages (R174, R176). -/
def RUNNING : Fld := { addr := 0x00C, hi := 4, lo := 4, pst := 4096, cnt := 4096, acc := .ro }
/-- PG_STAT[5] of SE pages: SPARE; of BC pages: HALTED. -/
def SPARE : Fld := { addr := 0x00C, hi := 5, lo := 5, pst := 4096, cnt := 4096, acc := .ro }
/-- PG_STAT[6] of SE pages. -/
def PROG_VALID : Fld := { addr := 0x00C, hi := 6, lo := 6, pst := 4096, cnt := 4096, acc := .ro }
/-- PG_IRQ_STAT. -/
def IRQ_STAT : Fld := { addr := 0x010, hi := 31, lo := 0, pst := 4096, cnt := 4096, acc := .w1c }
/-- PG_IRQ_EN. -/
def IRQ_EN : Fld := { addr := 0x014, hi := 31, lo := 0, pst := 4096, cnt := 4096, acc := .rw }
/-- PG_ERR_CNT. -/
def ERR_CNT : Fld := { addr := 0x018, hi := 31, lo := 0, pst := 4096, cnt := 4096, acc := .ro }
/-- PG_PROGRESS BUSY. -/
def BUSY : Fld := { addr := 0x01C, hi := 31, lo := 31, pst := 4096, cnt := 4096, acc := .ro }
/-- PG_PROGRESS PERCENT. -/
def PERCENT : Fld := { addr := 0x01C, hi := 30, lo := 24, pst := 4096, cnt := 4096, acc := .ro }
/-- PG_PROGRESS POSITION. -/
def POSITION : Fld := { addr := 0x01C, hi := 23, lo := 0, pst := 4096, cnt := 4096, acc := .ro }
/-- PG_EPOCH. -/
def EPOCH : Fld := { addr := 0x024, hi := 31, lo := 0, pst := 4096, cnt := 4096, acc := .ro, rst := 1 }

end Hdr

/-- Count an error in PG_ERR_CNT of a page (R534). DEDUCED (log entry 18). -/
def State.pageErr (s : State) (page : Nat) (n : Nat := 1) : State := s.count Hdr.ERR_CNT page n

/-- The state epoch of the unit a page describes (R48). -/
def State.epoch (s : State) (page : Nat) : Nat := s.get Hdr.EPOCH (unitPage page)

/-- A state change of a unit increments its epoch, from 0xFFFF_FFFF to 1 (R46). -/
def State.bumpEpoch (s : State) (page : Nat) : State :=
  let e := s.epoch page
  s.put Hdr.EPOCH (unitPage page) (if e + 1 < 2 ^ 32 then e + 1 else 1)

/-- Report the progress of a page's long operation (R539): busy, position, out of a total. -/
def State.progress (s : State) (page : Nat) (busy : Bool) (pos total : Nat) : State :=
  let pct := if total = 0 then 100 else min 100 (pos * 100 / total)
  ((s.putB Hdr.BUSY page busy).put Hdr.PERCENT page pct).put Hdr.POSITION page pos

/-- End a page's long operation without completing it: BUSY clears, PERCENT keeps its value (R539). -/
def State.progressStop (s : State) (page : Nat) : State := s.putB Hdr.BUSY page false

/-! ## Mode fields (R566) -/

/-- The present mode: 0 PARK, 1 START, 2 MAINT, 3 FOLLOW, 4 SHOW, 5 HOLD. -/
def State.opMode (s : State) : Nat := s.get Reg.MODE_MODE

/-- The rate mode: 0 RATE48, 1 RATE96, 2 RATE192. -/
def State.rate (s : State) : Nat := s.get Reg.MODE_RATE

/-- The internal sample rate in Hz (R9). -/
def rateHz (r : Nat) : Nat := if r = 0 then 48000 else if r = 1 then 96000 else 192000

/-- Active input strips of a rate mode (R9). -/
def inStrips (r : Nat) : Nat := if r = 0 then 2048 else if r = 1 then 1024 else 512

/-- Active buses, and active output strips, of a rate mode (R9). -/
def numBuses (r : Nat) : Nat := if r = 0 then 1024 else if r = 1 then 512 else 256

/-- The exact sample period in root edges (R31). -/
def periodEdges (r : Nat) : Nat := if r = 0 then 62500 else if r = 1 then 31250 else 15625

/-- The shortest sample period in cc of a rate mode under a CCLK divider (R31, R32). -/
def shortestPeriod (r div : Nat) : Nat := periodEdges r / div

/-! ## Time (R30, R31, R344 to R351, R615) -/

/-- The exact position, from device reset, of the boundary that begins the present period (R31). -/
def Clk.boundaryEdge (c : Clk) : Nat := c.ref + c.pos

/-- The CCLK edge at or before a position counted from the reference boundary (R31). -/
def Clk.cclkFloor (c : Clk) (p : Nat) : Nat := c.ref + p / c.div * c.div

/-- Seconds in the range of SEC (48 bits), in thirds of a nanosecond. -/
def ptpModulus : Nat := 2 ^ 48 * 3000000000

/-- The PTP clock at a root edge, in thirds of a nanosecond (R345). -/
def PtpClk.thirdsAt (p : PtpClk) (edge : Nat) : Nat :=
  if p.run then (p.base + 2 * ((edge - p.at0) / 2)) % ptpModulus else p.base

/-- The PTP clock now, in thirds of a nanosecond. -/
def State.thirds (s : State) : Nat := s.ptp.thirdsAt s.clk.now

/-- SEC, NS and FRAC of a time in thirds of a nanosecond (R344, R345). -/
def secOf (t : Nat) : Nat := t / 3000000000
def nsOf (t : Nat) : Nat := t % 3000000000 / 3
def fracOf (t : Nat) : Nat := t % 3 * 65536 / 3

/-- TS32 of a time in thirds of a nanosecond (R351). -/
def ts32Of (t : Nat) : Nat := t / 3 % 2 ^ 32

/-- TS32 now. -/
def State.ts32 (s : State) : Nat := ts32Of s.thirds

/-- FLT_TIME: whole µs since reset, wrapping (R615, R639). -/
def State.fltTime (s : State) : Nat := s.clk.now / 3000 % 2 ^ 32

/-- Let time pass up to a root edge. DESIGN CHOICE (log entry 3). -/
def State.advanceTo (s : State) (edge : Nat) : State :=
  { s with clk := { s.clk with now := max s.clk.now edge } }

/-- Root edges per µs and per ms at the nominal root frequency (R26). -/
def usEdges : Nat := 3000
def msEdges : Nat := 3000000

/-! ## Free values -/

/-- Draw a free value: the spec leaves it open, nothing constrains it. DESIGN CHOICE (log entry 6). DESIGN CHOICE (log entry 9). -/
def State.draw (s : State) : Nat × State := (Config.freeValue s.free, { s with free := s.free + 1 })

/-- The outcome of a command that takes effect. -/
def ok (s : State) : Out := .next s

/-- Store a field, instance 0. -/
def State.put0 (s : State) (f : Fld) (v : Nat) : State := s.put f 0 v

end Sys2Proof.Machine
end

