-- ==== Sys2Proof/Machine/Moves.lean ====
section
/-! DEFINITION. Parameter words in use: what a word is worth at the present sample while moves run on it (R255, R256, R273). -/

namespace Sys2Proof.Machine

/-- The register key of the word a move names. -/
def targetKey (t : MoveTarget) : Nat := if t.kind = 1 then xpKey t.addr else t.addr

/-- The block of words that change as one with a target (R102). -/
def targetBlock (t : MoveTarget) : Nat := if t.kind = 1 then xpKey t.addr else wordBlock t.addr

/-- Index of the present sample period, counted from the reference boundary. -/
def State.idx (s : State) : Nat := s.clk.idx

/-- The committed moves in flight on a word, oldest first. -/
def State.runsOn (s : State) (key : Nat) : List RunMove := s.scn.runs.filter (fun r => targetKey r.target == key)

/-- Is a committed gain or switch ramp running at this sample? -/
def State.ramping (s : State) (r : RunMove) : Bool :=
  (r.rule == rRampLin || r.rule == rRampDb) && decide (s.idx < r.first + r.dur)

/-- Is a HOLD_MUTE before its silent sample, with a change of value due there (R96, R273)? -/
def State.beforeSilence (s : State) (r : RunMove) : Bool :=
  r.rule == rHoldMute && !r.mute && decide (s.idx < r.first + r.dur)

/-- The word in use: the value in the parameter window, but for a HOLD_MUTE before its silent sample and a deferred
crossfade, which still hold the earlier value (R255, R273). -/
def State.inUse (s : State) (key : Nat) : Nat :=
  match (s.runsOn key).find? (fun r => s.beforeSilence r || r.defer) with
  | some r => r.old
  | none => (s.word key).toNat

/-- A running crossfade pair on a word (R101). -/
def State.pairOn (s : State) (key : Nat) : Option RunMove :=
  (s.runsOn key).find? (fun r => r.rule == rXfade && !r.defer && decide (s.idx < r.first + r.dur))

/-- The word that the old copy of a pair uses. -/
def State.oldInUse (s : State) (key : Nat) : Nat := match s.pairOn key with
  | some r => r.old
  | none => s.inUse key

/-- The pair that runs on a block of words, by the first of its words that has one: samples done and length. -/
def State.blockPair (s : State) (keys : List Nat) : Option (Nat × Nat) :=
  match keys.findSome? s.pairOn with
  | some r => some (s.idx - r.first, r.dur)
  | none => none

/-- The gain of a GAIN16 word at the present sample (R255). -/
def State.gainNow (s : State) (key : Nat) : GainVal :=
  match (s.runsOn key).find? s.ramping with
  | some r =>
    let k := s.idx - r.first
    if r.rule = rRampDb then rampDb r.start (gain16 r.value) k r.dur else rampLin r.start (gain16 r.value) k r.dur
  | none => gain16 (s.inUse key)

/-- A switch word as a gain: 0 off, 1 on. -/
def switchVal (v : Nat) : GainVal := .lin (v % 2) 1

/-- The position of a switch at the present sample, 0 to 1, as a fraction (R93: a ramp runs through the values between). -/
def State.switchNow (s : State) (key : Nat) : Nat × Nat :=
  match (s.runsOn key).find? s.ramping with
  | some r => gainLin (rampLin r.start (switchVal r.value) (s.idx - r.first) r.dur)
  | none => (s.inUse key % 2, 1)

/-- Product of fractions. -/
def mulFrac (a b : Nat × Nat) : Nat × Nat := if b.1 = b.2 then a else if a.1 = a.2 then b else (a.1 * b.1, a.2 * b.2)

/-- 1 minus a fraction. -/
def oneMinus (a : Nat × Nat) : Nat × Nat := (a.2 - a.1, a.2)

/-- The multiplier of a polarity word: 1 minus twice the switch position, with its sign (R99: a ramp passes through zero). -/
def polarity (q : Nat × Nat) : (Nat × Nat) × Bool :=
  if 2 * q.1 ≤ q.2 then ((q.2 - 2 * q.1, q.2), false) else ((2 * q.1 - q.2, q.2), true)

/-- The dip multiplier of one HOLD_MUTE move at the present sample (R255). -/
def State.dipOf (s : State) (r : RunMove) : Nat × Nat :=
  if r.rule = rHoldMute ∧ r.first ≤ s.idx then dipMul r.dur (s.idx - r.first) r.mulN r.mulD else (1, 1)

/-- Keep the first of the moves that dip one block together (R102: the block dips once). -/
def dedupDips : List (Nat × Nat) → List RunMove → List RunMove
  | _, [] => []
  | seen, r :: rs =>
    let key := (targetBlock r.target, r.first)
    if seen.contains key then dedupDips seen rs else r :: dedupDips (key :: seen) rs

/-- The product of the dips of every HOLD_MUTE move whose word is in the list of keys selected. -/
def State.dips (s : State) (sel : Nat → Bool) : Nat × Nat :=
  (dedupDips [] (s.scn.runs.filter (fun r => r.rule == rHoldMute && sel (targetKey r.target)))).foldl
    (fun m r => mulFrac m (s.dipOf r)) (1, 1)

/-- The crossfade of two copies at sample k of n (R101). -/
def xfadeWord (old new : Word) (k n : Nat) : Word :=
  satWord (roundHalfEven (old.toInt * ((n - k : Nat) : Int) + new.toInt * (k : Int)) n)

/-! ## Addresses of parameter words -/

/-- Word of input strip n. -/
def inWord (n off : Nat) : Nat := 0x200000 + 512 * n + off

/-- Word of output strip n. -/
def outWord (n off : Nat) : Nat := 0x300000 + 512 * n + off

/-- Patch entry of input strip n. -/
def patchWord (n : Nat) : Nat := 0x100000 + 4 * n

/-- Entry of conversion lane m. -/
def laneWord (m : Nat) : Nat := 0x102000 + 4 * m

/-- Bus words. -/
def busTarget (b : Nat) : Nat := 0x400000 + 8 * b
def busCasc (b : Nat) : Nat := 0x400004 + 8 * b

/-- Words of an express route. -/
def expWord (r off : Nat) : Nat := 0x404000 + 16 * r + off

/-- Egress patch entry of destination d. -/
def egrWord (d : Nat) : Nat := 0x408000 + 4 * d

/-- Word of an RX or TX stream entry. -/
def rxWord (i w : Nat) : Nat := 0x600000 + 32 * i + 4 * w
def txWord (i w : Nat) : Nat := 0x602000 + 32 * i + 4 * w

/-- Word of an Automix group. -/
def amWord (g off : Nat) : Nat := 0x110000 + 16 * g + off

/-- TICK durations in samples (R91). -/
def tickSamples (t hz : Nat) : Nat := t * hz / 192000

/-- The present internal rate in Hz. -/
def State.hz (s : State) : Nat := rateHz s.rate

/-- Register keys, among those that differ from reset, in a range. -/
def State.keysIn (s : State) (lo hi : Nat) : List Nat := (s.regs.filter (fun p => lo ≤ p.1 && p.1 < hi)).map (·.1)

/-- Distinct elements of a list, first occurrences kept. -/
def distinct (l : List Nat) : List Nat := l.foldl (fun a x => if a.contains x then a else a ++ [x]) []

/-- Change the dp part of the state. -/
def State.modDp (s : State) (f : Data → Data) : State := { s with dp := f s.dp }

/-- Change the scn part of the state. -/
def State.modScn (s : State) (f : Scn → Scn) : State := { s with scn := f s.scn }

/-- Change the eph part of the state. -/
def State.modEph (s : State) (f : Eph → Eph) : State := { s with eph := f s.eph }

end Sys2Proof.Machine
end

