-- ==== Sys2Proof/Machine/Mirror.lean ====
section
/-! DEFINITION. What an active engine sends its standby over the mirror link (R447, R467, R469, R485, R486): records, one to a frame. -/

namespace Sys2Proof.Machine

/-- A link's state. -/
def State.link (s : State) (k : Nat) : Kzl := tget {} s.kzl k
def State.setLink (s : State) (k : Nat) (f : Kzl → Kzl) : State := { s with kzl := tmod {} s.kzl k f }

/-- Queue a sequenced frame on a link (R448). -/
def State.kzlQueue (s : State) (k typ : Nat) (payload : List Byte) : State :=
  if s.getB Reg.KZL_UP k then s.setLink k fun x => { x with queue := x.queue ++ [{ typ := typ, payload := payload }] } else s

/-- This engine is active, and its partner is in FOLLOW over an UP mirror link (R467). -/
def State.partnerFollows (s : State) : Bool :=
  s.getB Reg.STBY_PAIR && s.getB Reg.STBY_ACTIVE && s.getB Reg.KZL_UP 1 && s.stby.pMode == 3

/-- The partner is in CONFIRMING or IN_STEP (R469). -/
def State.lockstep (s : State) : Bool := s.partnerFollows && (s.stby.pSync == 3 || s.stby.pSync == 4)

/-- Send one record (R485): RTYPE, the sample to which it refers, and its body words. -/
def State.sendRecord (s : State) (typ sample : Nat) (body : List Nat) : State :=
  s.kzlQueue 1 2 (wordBytes ((typ % 256 * 2 ^ 24 + body.length % 256 * 2 ^ 16 + sample % 65536) :: body))

/-- STATUS (R486), sent every sample period and on any change. DEDUCED (log entry 75). -/
def State.sendStatus (s : State) : State :=
  if !s.getB Reg.STBY_PAIR then s
  else s.sendRecord 1 s.idx
    [s.get Reg.STBY_ACTIVE + 2 * s.stby.giveup.isSome.toNat + 4 * s.get Reg.STBY_GAVE_UP + 16 * s.opMode +
       256 * s.get Reg.STBY_SYNC, s.epoch 0xA8]

/-- The record of a move (R252). -/
def moveWords (m : SMove) : List Nat :=
  [m.target.kind * 2 ^ 28 + m.target.addr, m.value, m.rule * 2 ^ 28 + m.dur, m.tag]

/-- MOVE: an admitted move of a slot or of the live lane (16); its Meridian where it is in flight, else 0 (R486). The standby has not
staged it yet (R469). -/
def State.mirrorMove (s : State) (lane meridian : Nat) (m : SMove) : State :=
  if s.partnerFollows then
    let s := { s with stby := { s.stby with staged := s.stby.staged.filter (· != lane) } }
    s.sendRecord 2 s.idx ((lane % 32 + meridian % 65536 * 65536) :: moveWords m)
  else s

/-- SLOT: 1 ADMIT, 2 ABORT, 3 COMMIT at a sample, 4 STAGED. -/
def State.mirrorSlot (s : State) (op lane sample : Nat) : State :=
  if s.partnerFollows then s.sendRecord 3 sample [op + 16 * lane] else s

/-- A measured decision (R467): taken at once by an engine alone; by an active engine with a partner in FOLLOW, sent and taken at
S + 4; in FOLLOW left to the active engine. DEDUCED (log entry 54). -/
def State.measured (s : State) (kind index v0 v1 : Nat) (now : State → State) : State :=
  if s.opMode = 3 then s
  else if s.partnerFollows then
    let at' := s.idx + 4
    let s := s.sendRecord 4 at' [kind + 256 * index, v0, v1]
    { s with stby := { s.stby with
        meas := s.stby.meas ++ [{ sample := at' % 65536, kind := kind, index := index, v0 := v0, v1 := v1 }] } }
  else now s

end Sys2Proof.Machine
end

