-- ==== Sys2Proof/Machine/Sources.lean ====
section
/-! DEFINITION. Ingress sources and egress destinations: where each ID lies, its class and its rate (R67, R68, R239, R242,
R403, R404). -/

namespace Sys2Proof.Machine

/-- Change the ports part of the state. -/
def State.modPorts (s : State) (f : Ports → Ports) : State := { s with ports := f s.ports }

/-- Change the net part of the state. -/
def State.modNet (s : State) (f : Net → Net) : State := { s with net := f s.net }

/-! ## Heliostat as the rest of the engine sees it -/

/-- Heliostat is LOCKED. -/
def State.helLocked (s : State) : Bool := s.get Reg.HEL_STATE == 2

/-- The candidate selected, 15 for none. -/
def State.helSel (s : State) : Nat := s.get Reg.HEL_SEL

/-- The PTP domain that Heliostat is locked to (R68, R359). -/
def State.mediaDomain (s : State) : Option Nat :=
  if s.helLocked && s.helSel < 2 then some (s.get Reg.TIME_DOMAIN s.helSel) else none

/-- The receiver designated as AES11 candidate: PARAM of its provisioning word (R334). -/
def State.aes11Port (s : State) : Nat := bits (s.get Reg.HEL_PROV_C0 4) 20 16

/-! ## Stream entries -/

/-- A word of an RX or TX stream entry as it stands in the parameter window. -/
def State.rxw (s : State) (i w : Nat) : Nat := (s.word (rxWord i w)).toNat
def State.txw (s : State) (i w : Nat) : Nat := (s.word (txWord i w)).toNat

/-- Fields of word 6 (R375). -/
def w6Base (v : Nat) : Nat := bits v 26 16
def w6Ptime (v : Nat) : Nat := bits v 13 12
def w6Rate (v : Nat) : Nat := rateHz (bits v 9 8)
def w6Count (v : Nat) : Nat := bits v 6 0
def w6Bytes (v : Nat) : Nat := if bit v 7 then 2 else 3

/-- Samples per channel of a packet (R308, R372). -/
def packetSamples (w6 : Nat) : Nat :=
  let p := w6Ptime w6
  w6Rate w6 / 48000 * (if p = 0 then 6 else if p = 1 then 12 else if p = 2 then 16 else 48)

/-- The stream enabled (of a direction's table) whose channels contain an ID. -/
def State.streamOf (s : State) (tx : Bool) (id : Nat) : Option Nat :=
  (distinct ((s.keysIn (if tx then 0x602000 else 0x600000) (if tx then 0x604000 else 0x602000)).map
    (fun k => k % 0x2000 / 32))).find? (fun i =>
      let w0 := if tx then s.txw i 0 else s.rxw i 0
      let w6 := if tx then s.txw i 6 else s.rxw i 6
      bit w0 31 && w6Base w6 ≤ id && id < w6Base w6 + w6Count w6)

/-- Audio streams run and outputs are driven in SHOW, HOLD and FOLLOW while the data plane runs (R370, R427, R561). -/
def State.audioMode (s : State) : Bool := s.mode.running && (s.opMode == 3 || s.opMode == 4 || s.opMode == 5)

/-! ## Local ports -/

/-- The receiver of a source ID and the channel in it; receivers as in `PortRx`. -/
def rxPortOf (id : Nat) : Option (Nat × Nat) :=
  if 0x800 ≤ id ∧ id < 0x840 then some ((id - 0x800) / 2, id % 2)
  else if 0x840 ≤ id ∧ id < 0x940 then some (32 + (id - 0x840) / 64, (id - 0x840) % 64)
  else if 0x940 ≤ id ∧ id < 0xC40 then some (36 + (id - 0x940) / 32, (id - 0x940) % 32)
  else none

/-- The source IDs of a receiver's channel. -/
def rxSource (port ch : Nat) : Nat :=
  if port < 32 then 0x800 + 2 * port + ch else if port < 36 then 0x840 + 64 * (port - 32) + ch
  else 0x940 + 32 * (port - 36) + ch

/-- State of a receiver and of a transmitter. -/
def State.rxp (s : State) (p : Nat) : PortRx := tget {} s.ports.rx p
def State.setRxp (s : State) (p : Nat) (f : PortRx → PortRx) : State :=
  s.modPorts fun x => { x with rx := tmod {} x.rx p f }
def State.txp (s : State) (p : Nat) : PortTx := tget {} s.ports.tx p
def State.setTxp (s : State) (p : Nat) (f : PortTx → PortTx) : State :=
  s.modPorts fun x => { x with tx := tmod {} x.tx p f }

/-! ## The pin mux (R424 to R426) -/

/-- FUNC and INDEX of a ball as one word. -/
def State.ballWord (s : State) (n : Nat) : Nat := 256 * s.get Reg.PMUX_FUNC n + s.get Reg.PMUX_INDEX n

/-- The function that holds a ball now: the outgoing one up to its frame boundary, none while the ball is held or the incoming
one has not yet had its first frame (R426). -/
def State.ballNow (s : State) (n : Nat) : Nat := match s.ports.balls.find? (·.ball == n) with
  | some b => if b.step = 0 then b.old else 0
  | none => s.ballWord n

/-- The balls that a function word stands on, by register and by running switches. -/
def State.ballsListed (s : State) : List Nat :=
  ((s.keysIn 0x097200 0x097500).map (fun k => (k - 0x097200) / 4)) ++ s.ports.balls.map (·.ball)

/-- Does a function instance hold a ball now? -/
def State.onBall (s : State) (func idx : Nat) : Bool := s.ballsListed.any (fun n => s.ballNow n == 256 * func + idx)

/-- Choose between the three kinds of port. -/
def byPort {α : Type} (p : Nat) (a m t : Nat → α) : α :=
  if p < 32 then a p else if p < 36 then m (p - 32) else t (p - 36)

/-- The field of a receiver (or transmitter) among those of the three kinds of page, with its instance. -/
def State.portFld (s : State) (p : Nat) (a m t : Fld) : Nat :=
  if p < 32 then s.get a p else if p < 36 then s.get m (p - 32) else s.get t (p - 36)

/-- Store a field of a receiver or a transmitter. -/
def State.putPortFld (s : State) (p : Nat) (a m t : Fld) (v : Nat) : State :=
  if p < 32 then s.put a p v else if p < 36 then s.put m (p - 32) v else s.put t (p - 36) v

/-- Count in a field of a receiver or a transmitter. -/
def State.countPortFld (s : State) (p : Nat) (a m t : Fld) : State :=
  if p < 32 then s.count a p else if p < 36 then s.count m (p - 32) else s.count t (p - 36)

/-- Status and control of a receiver. DEDUCED (log entry 80). -/
def State.rxLock (s : State) (p : Nat) : Bool := s.portFld p Reg.AESRX_LOCK Reg.MADI_LOCK Reg.TDM_LOCK != 0
def State.rxLos (s : State) (p : Nat) : Bool := s.portFld p Reg.AESRX_LOS Reg.MADI_LOS Reg.TDM_LOS != 0
def State.rxMedia (s : State) (p : Nat) : Bool :=
  s.portFld p Reg.AESRX_MEDIA Reg.MADI_MEDIA Reg.TDM_MEDIA != 0 ||
  -- the AES11 candidate that Heliostat has selected (R403)
  (s.helLocked && s.helSel == 4 && p == s.aes11Port && s.rxLock p) ||
  -- a source that ramps down after loss of signal keeps its class (R407)
  ((s.rxp p).ramp.isSome && (s.rxp p).media)
def State.rxEn (s : State) (p : Nat) : Bool := s.portFld p Reg.AESRX_EN Reg.MADI_RX_EN Reg.TDM_RX_EN != 0
def State.rxDecl (s : State) (p : Nat) : Bool :=
  s.portFld p Reg.AESRX_SYNC_DECL Reg.MADI_SYNC_DECL Reg.TDM_SYNC_DECL != 0
def State.rxFollow (s : State) (p : Nat) : Bool := s.portFld p Reg.AESRX_FOLLOW Reg.MADI_FOLLOW Reg.TDM_FOLLOW != 0
def State.rxVcxo (s : State) (p : Nat) : Nat := s.portFld p Reg.AESRX_VCXO Reg.MADI_VCXO Reg.TDM_VCXO
def State.rxRate (s : State) (p : Nat) : Nat :=
  if (s.rxp p).ramp.isSome then (s.rxp p).rate else s.portFld p Reg.AESRX_RATE Reg.MADI_RATE Reg.TDM_RATE

/-- A TDM port with MASTER = 1 is clocked INTERNAL (R401). -/
def State.tdmMaster (s : State) (q : Nat) : Bool := s.getB Reg.TDM_MASTER q

/-- Slots of a TDM port's framing (R416). -/
def State.tdmSlots (s : State) (q : Nat) : Nat := if s.get Reg.TDM_FORMAT q = 0 then 2 else s.get Reg.TDM_SLOTS q

/-- Channels of a MADI framing (R413). -/
def State.madiSlots (s : State) (p : Nat) : Nat :=
  let f := s.get Reg.MADI_FRAME p
  if f = 0 then 64 else if f = 1 then 56 else 32

/-- Channels that a receiver carries. -/
def State.rxChannels (s : State) (p : Nat) : Nat := byPort p (fun _ => 2) s.madiSlots s.tdmSlots

/-- Frame rate of an INTERNAL port with divider code `div`. -/
def State.divRate (s : State) (div : Nat) : Nat := s.hz / 2 ^ div

/-- RATE_ERR of a receiver's direction: a master TDM port whose rate R402 forbids. -/
def State.rxRateErr (s : State) (p : Nat) : Bool := decide (36 ≤ p) && s.getB Reg.TDM_RATE_ERR (p - 36)

/-- Is a receiver clocked from the media clock (R68, R401, R403)? -/
def State.rxClocked (s : State) (p : Nat) : Bool :=
  byPort p (fun _ => s.rxMedia p) (fun _ => s.rxMedia p) (fun q => s.tdmMaster q || s.rxMedia p)

/-- Class by rate of a media-clocked source (R68): 1 SYNC, 2 SYNC_RATIO, 3 ASYNC. -/
def classByRate (rate hz : Nat) : Nat :=
  if rate = hz then 1
  else if (rate * 4 = hz ∨ rate * 2 = hz ∨ rate = 2 * hz ∨ rate = 4 * hz) ∧ 32000 ≤ rate ∧ rate ≤ 192000 then 2
  else 3

/-- The class of a source: 0 ABSENT, 1 SYNC, 2 SYNC_RATIO, 3 ASYNC (R68, R404). -/
def State.srcClassOwn (s : State) (id : Nat) : Nat :=
  if id < 0x800 then
    match s.streamOf false id with
    | none => 0
    | some i =>
      if !s.audioMode || s.get Reg.RXS_STATE i != 2 then 0
      else if s.mediaDomain == some (bits (s.rxw i 0) 7 0) then classByRate (w6Rate (s.rxw i 6)) s.hz else 3
  else match rxPortOf id with
  | none => 0
  | some (p, ch) =>
    let gone := (s.rxLos p || !s.rxLock p) && (s.rxp p).ramp.isNone
    if !s.rxEn p || s.rxChannels p ≤ ch || gone || s.rxRateErr p then 0
    else if s.rxClocked p && 48000 ≤ s.rxRate p then classByRate (s.rxRate p) s.hz else 3

/-- The class in use: while engines run as a pair, what the active engine has decided (R467). -/
def State.srcClass (s : State) (id : Nat) : Nat :=
  match (if s.opMode = 3 || s.partnerFollows then tget none s.stby.classes id else none) with
  | some c => c
  | none => s.srcClassOwn id

/-- Nominal rate of a source in Hz, from its configuration (PATCH page). -/
def State.srcRate (s : State) (id : Nat) : Nat :=
  if id < 0x800 then (match s.streamOf false id with | some i => w6Rate (s.rxw i 6) | none => 0)
  else match rxPortOf id with
  | none => 0
  | some (p, _) => if !s.rxEn p then 0 else s.rxRate p

/-! ## Egress destinations -/

/-- How a destination takes samples: at the internal rate, decimated by 2 or 4, or not at all (R242). -/
inductive DestClock where
  | same | by2 | by4 | silent
  deriving DecidableEq, Repr

/-- Clocking of a media-clocked destination at a rate (R242). -/
def destByRate (rate hz : Nat) : DestClock :=
  if rate = hz then .same else if rate * 2 = hz then .by2 else if rate * 4 = hz then .by4 else .silent

/-- The transmitter of a destination ID and the slot in it. -/
def txPortOf (d : Nat) : Option (Nat × Nat) := rxPortOf d

/-- Is a transmitter enabled, and at what frame rate does it run, if it is clocked from the media clock? -/
def State.txRate (s : State) (p : Nat) : Option Nat :=
  byPort p
    (fun t => if s.getB Reg.AESTX_EN t && !s.getB Reg.AESTX_RATE_ERR t then some (s.divRate (s.get Reg.AESTX_DIV t)) else none)
    (fun m => if s.getB Reg.MADI_TX_EN m && !s.getB Reg.MADI_RATE_ERR m then some (s.divRate (s.get Reg.MADI_TX_DIV m)) else none)
    (fun q =>
      if !s.getB Reg.TDM_TX_EN q || s.getB Reg.TDM_RATE_ERR q then none
      else if s.tdmMaster q then some (s.divRate (s.get Reg.TDM_DIV q))
      else if s.getB Reg.TDM_MEDIA q then some (s.get Reg.TDM_RATE q) else none)

/-- How a destination takes samples (R238, R242). -/
def State.destClock (s : State) (d : Nat) : DestClock :=
  if d < 0x800 then
    match s.streamOf true d with
    | some i => destByRate (w6Rate (s.txw i 6)) s.hz
    | none => .silent
  else if 0xC40 ≤ d ∧ d < 0xC80 then .same
  else match txPortOf d with
  | none => .silent
  | some (p, _) => match s.txRate p with
    | some f => destByRate f s.hz
    | none => .silent

end Sys2Proof.Machine
end

