-- ==== Sys2Proof/Machine/Crc.lean ====
section
/-! DEFINITION. The CRC of the check-value units (R522) and the parameter sets the engine itself uses (R202, R286, R445). -/

namespace Sys2Proof.Machine

/-- The low `n` bits of a number in reverse order. -/
def reflect : Nat → Nat → Nat
  | 0, _ => 0
  | n + 1, x => (x % 2) * 2 ^ n + reflect n (x / 2)

/-- One bit of R522: shift the register and fold the polynomial in. -/
def crcBit (w poly : Nat) (reg : Nat) (b : Nat) : Nat :=
  let top := (reg / 2 ^ (w - 1) % 2) ^^^ (b % 2)
  let r := reg * 2 % 2 ^ w
  if top = 1 then r ^^^ (poly % 2 ^ w) else r

/-- The bits of a byte, most significant first, `n` of them. -/
def crcBits (w poly : Nat) : Nat → Nat → Nat → Nat
  | 0, _, reg => reg
  | n + 1, b, reg => crcBits w poly n b (crcBit w poly reg (b / 2 ^ n))

/-- One byte of R522. -/
def crcByte (w poly : Nat) (refin : Bool) (reg : Nat) (b : Byte) : Nat :=
  crcBits w poly 8 (if refin then reflect 8 b.toNat else b.toNat) reg

/-- Feed a list of bytes. The register is taken apart after each byte so that Lean's kernel computes it before it goes on. -/
def crcFeed (w poly : Nat) (refin : Bool) : Nat → List Byte → Nat
  | reg, [] => reg
  | reg, b :: r =>
    match crcByte w poly refin reg b with
    | 0 => crcFeed w poly refin 0 r
    | n + 1 => crcFeed w poly refin (n + 1) r

theorem crcFeed_cons (w poly reg : Nat) (refin : Bool) (b : Byte) (r : List Byte) :
    crcFeed w poly refin reg (b :: r) = crcFeed w poly refin (crcByte w poly refin reg b) r := by
  simp only [crcFeed]
  split <;> simp_all

/-- The final value of R522. -/
def crcFinal (w : Nat) (refout : Bool) (xor reg : Nat) : Nat :=
  (if refout then reflect w reg else reg) ^^^ (xor % 2 ^ w)

/-- CRC-32 with the parameters of R202. -/
def crc32 (bs : List Byte) : Nat :=
  crcFinal 32 true 0xFFFFFFFF (crcFeed 32 0x04C11DB7 true 0xFFFFFFFF bs)

/-- CRC-32C of Kaztal frames and pair checks (R445, R472). -/
def crc32c (bs : List Byte) : Nat :=
  crcFinal 32 true 0xFFFFFFFF (crcFeed 32 0x1EDC6F41 true 0xFFFFFFFF bs)

/-- CRC-64 of scene images (R286). -/
def crc64 (bs : List Byte) : Nat :=
  crcFinal 64 true 0xFFFFFFFFFFFFFFFF (crcFeed 64 0x42F0E1EBA9EA3693 true 0xFFFFFFFFFFFFFFFF bs)

end Sys2Proof.Machine
end

