-- ==== Sys2Proof/Machine/Domains.lean ====
section
/-! DEFINITION. Power domains as an access meets them (R541, R582, R583): states, wakes, and pages that are dark. -/

namespace Sys2Proof.Machine

/-- The state code of a power domain (R582): 3 is ON. DEDUCED (log entry 15). -/
def State.domState (s : State) (d : Nat) : Nat :=
  if d < 16 then bits (s.get Reg.PWR_DOM_STATE0) (2 * d + 1) (2 * d) else s.get Reg.PWR_DOM_STATE1

/-- The power domain that a page lies in (R582); the parameter window lies with the scene engine. -/
def pageDomain (page : Nat) : Nat :=
  if 0x10 ≤ page ∧ page ≤ 0x20 then 1
  else if 0x21 ≤ page ∧ page ≤ 0x31 then 2
  else if 0x40 ≤ page ∧ page ≤ 0x75 then 3
  else if 0x80 ≤ page ∧ page ≤ 0x8F then 12
  else if 0x90 ≤ page ∧ page ≤ 0x97 then 13
  else if page = 0xA1 ∨ page = 0xA2 ∨ page = 0xA8 then 14
  else if 0xB0 ≤ page ∧ page ≤ 0xB7 then 4 + (page - 0xB0)
  else if page = 0xB8 then 15
  else if 0xB9 ≤ page ∧ page ≤ 0xBF then 3
  else if page = 0xC0 ∨ page = 0xC1 then 16
  else if 0x100 ≤ page ∧ page ≤ 0x8FF then 3
  else 0

/-- Store a domain's state: 0 OFF, 1 RETAIN, 2 changing, 3 ON (R606). -/
def State.setDom (s : State) (d v : Nat) : State :=
  let s := if s.domState d = v then s else s.irq Reg.PWR_IRQ_DOM
  if d < 16 then s.put0 Reg.PWR_DOM_STATE0 (withBits (s.get Reg.PWR_DOM_STATE0) (2 * d + 1) (2 * d) v)
  else s.put0 Reg.PWR_DOM_STATE1 v

/-- Wake times in µs (R582). -/
def wakeUs (retain : Bool) (d : Nat) : Nat :=
  if d = 3 then 60 else if 4 ≤ d ∧ d ≤ 11 then (if retain then 10 else 120) else if d = 12 ∨ d = 14 then 50
  else if d = 13 then 30 else if d = 15 then 80 else 40

/-- A domain begins to wake on demand (R583). -/
def State.wakeStart (s : State) (d : Nat) : State :=
  if s.domState d = 3 ∨ s.domState d = 2 then s
  else
    let due := s.clk.now + wakeUs (s.domState d == 1) d * usEdges
    (s.setDom d 2).modPwr fun p => { p with waking := tput 0 p.waking d due }

/-- A waking domain is ready (R583). DESIGN CHOICE (log entry 14). -/
def State.wakeDone (s : State) (d : Nat) (us : Nat) : State :=
  let s := (s.setDom d 3).modPwr fun p => { p with waking := tput 0 p.waking d 0 }
  ((s.count Reg.PWR_WAKE_CNT).keepMax Reg.PWR_WAKE_MAX 0 us).irq Reg.PWR_IRQ_WAKE

/-- An access to a page whose domain is off stalls until the domain is ready (R541, R583); the always-on domain never is. -/
def State.wakeFor (s : State) (page : Nat) : State :=
  let d := pageDomain page
  if d = 0 ∨ s.domState d = 3 then s
  else
    let us := wakeUs (s.domState d == 1) d
    let s := s.wakeStart d
    (s.advanceTo (tget 0 s.pwr.waking d)).wakeDone d us

/-- Does a page answer nothing at all: its domain is off in PARK (R541)? DEDUCED (log entry 24). -/
def State.pageDark (s : State) (page : Nat) : Bool := s.opMode == 0 && s.domState (pageDomain page) != 3 && pageDomain page != 0

/-- An access to a register of a page: in PARK a page whose domain is off takes none; elsewhere the domain wakes (R541). -/
def State.atPage (s : State) (page : Nat) (f : State → Out) : Out := if s.pageDark page then ok s else f (s.wakeFor page)

end Sys2Proof.Machine
end

