-- ==== Sys2Proof/Machine/FaultLog.lean ====
section
/-! DEFINITION. Raising a fault source: stamp, windows and severity, the targeted test it starts, the event log (R613 to R621,
R626, R642). -/

namespace Sys2Proof.Machine

/-! The fault sources that other chapters cite by name (R614). -/

namespace Src

def SE_MEM_ECC (e : Nat) : Nat := e
def SE_GATHER (e : Nat) : Nat := 0x22 + e
def SRAM_UNCORR (g : Nat) : Nat := 0x44 + g
def FAB_LANE (l : Nat) : Nat := 0x4C + l
def LANE_FAULT (l : Nat) : Nat := 0x94 + l
def SE_LOGIC : Nat := 0xA2
def SE_ILLEGAL : Nat := 0xA3
def EVENT_LATENCY : Nat := 0xA4
def STRIP_OVERRUN : Nat := 0xA5
def BC_MEM_ECC : Nat := 0xA6
def BC_LOGIC : Nat := 0xA7
def BC_OVERRUN : Nat := 0xA8
def BC_DOUBLE_TRAP : Nat := 0xA9
def FAB_OVERRUN : Nat := 0xAA
def FAB_MEM_ECC : Nat := 0xAB
def SCN_MEM_ECC : Nat := 0xAC
def RCONV_MEM_ECC : Nat := 0xAD
def DRAM_UNCORR : Nat := 0xAE
def LOCK_BREAK : Nat := 0xAF
def ARB_HOLD : Nat := 0xB0
def XBAR_PARITY : Nat := 0xB1
def NET_BUF_ECC : Nat := 0xB2
def PORT_CHANNEL : Nat := 0xB3
def KZL_FAIL : Nat := 0xB4
def STBY_DIVERGE : Nat := 0xB5
def INTERLOCK_FAULT : Nat := 0xB6
def VIEW_MISMATCH : Nat := 0xB7
def PCIE_ERR : Nat := 0xB8
def PROV_INVALID : Nat := 0xB9
def DVFS_FAULT : Nat := 0xBA
def THERM_SENSOR : Nat := 0xBB
def FAN_FAIL : Nat := 0xBC
def MGMT_MEM_ECC : Nat := 0xBD
def MGMT_WDT : Nat := 0xBE
def BIST_FAIL : Nat := 0xBF
def REPAIR_FAIL : Nat := 0xC0
end Src

/-- The 32-bit unit ID of R613. -/
def unitWord (u : UnitId) : Nat := u.page % 2 ^ 12 * 2 ^ 16 + u.index % 2 ^ 16

/-- The unit ID that a word spells (R613). -/
def unitOfWord (w : Nat) : UnitId := { page := bits w 27 16, index := bits w 15 0 }

/-- Units without an epoch and a fence of their own: summing lanes, SERDES lanes, port channels, rows, DRAM bursts,
paths (R613). -/
def isSubUnit (u : UnitId) : Bool :=
  (u.page == 0x40 && u.index != 0) || u.page == 0xA0 || u.page == 0x90 || u.page == 0x93 || u.page == 0x94 ||
  u.page == 0x95 || u.page == 0x96 || (0xB0 ≤ u.page && u.page ≤ 0xB9)

/-- Is the unit fenced or retired? DEDUCED (log entry 43). -/
def State.unitDown (s : State) (u : UnitId) : Bool :=
  if isSubUnit u then s.flt.retired.contains u
  else s.getB Hdr.FENCED (unitPage u.page) || s.getB Hdr.RETIRED (unitPage u.page)

/-- Outcomes of the event log (R626, R642). -/
def logNone : Nat := 0
def logPass : Nat := 1
def logFail : Nat := 2
def logMerged : Nat := 3
/-- DEDUCED (log entry 44). -/
def logEscalated : Nat := 4

/-- Write one entry of the event log (R642): word 3 is written last. -/
def State.logEvent (s : State) (stamp ts32 src outcome : Nat) (retry retired severe : Bool) (u : UnitId) (addr : Word)
    (testTicks : Nat) : State :=
  let w := s.get Reg.FLTL_LOG_WR
  let n := s.flt.logSeq % 2 ^ 16
  let lg (i v : Nat) (t : State) : State := t.put Reg.FLTL_LOG (8 * w + i) v
  let s := lg 0 stamp (lg 1 ts32 (lg 4 (unitWord u) (lg 5 (s.epoch u.page) (lg 6 addr.toNat (lg 7 (testTicks % 2 ^ 16) s)))))
  let s := lg 2 (src * 2 ^ 24 + outcome * 2 ^ 20 + retry.toNat * 2 ^ 18 + retired.toNat * 2 ^ 17 + severe.toNat * 2 ^ 16) s
  let s := lg 3 (n * 2 ^ 16) s
  (s.put0 Reg.FLTL_LOG_WR (w + 1)).modFlt fun f => { f with logSeq := f.logSeq + 1 }

/-- The FAULT_N pulse starts, or restarts its 1 ms (R619). -/
def State.faultPulse (s : State) : State := (s.put0 Reg.FLT_PULSE 1).put0 Reg.FLT_PIN 1

/-- Count an event of a source in its window and say whether it makes the source severe (R616, R618). -/
def State.countSource (s : State) (src : Nat) : State × Bool :=
  let s := s.count Reg.FLTS_TOTAL src
  if s.getB Reg.FLT_COMPAT then (s, s.getB Reg.FLTC_C320 src)
  else
    let now := s.fltTime
    let w := tget {} s.flt.wins src
    let n := s.get Reg.FLTC_N src
    let age := (now + 2 ^ 32 - w.t0) % 2 ^ 32
    if w.opened && age < 1000 * s.get Reg.FLTC_W src then
      let c := s.get Reg.FLTS_IN_WINDOW src + 1
      (s.put Reg.FLTS_IN_WINDOW src (min c 255), c == n)
    else
      let s := s.modFlt fun f => { f with wins := tput {} f.wins src { opened := true, t0 := now } }
      (s.put Reg.FLTS_IN_WINDOW src 1, n == 1)

/-- Show how many targeted tests run and wait (R639). -/
def State.showTests (s : State) : State :=
  let r := (s.flt.tests.filter (·.running)).length
  (s.put0 Reg.FLT_RUNNING r).put0 Reg.FLT_QUEUED (s.flt.tests.length - r)

/-- Is the unit under a targeted test or queued for one: it is suspended (R621)? DEDUCED (log entry 43). -/
def State.suspended (s : State) (u : UnitId) : Bool := s.flt.tests.any (·.unit == u)

/-- Raise a fault source for a unit (R615 to R621, R626). -/
def State.raise (s : State) (src : Nat) (u : UnitId) (addr : Word := 0) : State :=
  if s.unitDown u && src != Src.VIEW_MISMATCH then s
  else
    let (s, severe) := s.countSource src
    let s := if severe then ((s.setMapBit Reg.FLTS_SEVERE src true).irq Reg.FLT_IRQ_SEVERE).faultPulse else s
    let esc := severe && s.getB Reg.FLTC_ESC src
    match faultTest src u.index with
    | none => s.logEvent s.fltTime s.ts32 src logNone false false severe u addr 0
    | some k =>
      if s.suspended u then
        let s := s.modFlt fun f =>
          { f with tests := f.tests.map fun t => if t.unit == u then { t with esc := t.esc || esc } else t }
        s.logEvent s.fltTime s.ts32 src logMerged false false severe u addr 0
      else
        let running := (s.flt.tests.filter (·.running)).length < 4
        let t : FltTest := { unit := u, src := src, kind := k, stamp := s.fltTime, ts32 := s.ts32, addr := addr,
                             esc := esc, severe := severe, running := running, since := s.clk.now,
                             begun := s.clk.now }
        (s.modFlt fun f => { f with tests := f.tests ++ [t] }).showTests

/-- FAULT_EVENT (R615): a source event at its unit. Reserved source numbers are never raised (R614). -/
def execFaultEvent (src : Nat) (unit : UnitId) (addr : Word) (s : State) : Out :=
  ok (if src ≤ 0xC0 then s.raise src unit addr else s)

/-- FAULT_N_PULSE_END (R619): the pin follows FLT_OUT.LEVEL again. -/
def execFaultNPulseEnd (s : State) : Out :=
  ok (if s.getB Reg.FLT_PULSE then (s.put0 Reg.FLT_PULSE 0).put0 Reg.FLT_PIN (s.get Reg.FLT_LEVEL) else s)

end Sys2Proof.Machine
end

