-- ==== Sys2Proof/Machine/Substrate.lean ====
section
/-! DEFINITION. The memory substrate: address decode, SRAM and DRAM accesses, arbiters, locks, scrub, owner tags and dark frame,
check-value units (R489 to R528), and the fence of R39. -/

namespace Sys2Proof.Machine

/-! ## Address decode (R489 to R492, R495) -/

/-- Where a request goes. -/
inductive Target where
  | sram (off : Nat)
  | dram (off : Nat)
  | regs (off : Nat)
  | rom (off : Nat)
  | hostMem (addr : Nat)
  | none
  deriving DecidableEq, Repr

/-- Bytes an access moves. -/
def accLen : MemAcc → Nat
  | .read n => n
  | .lockRead n => n
  | .write d => d.length

/-- Is the access a write? -/
def accIsWrite : MemAcc → Bool
  | .write _ => true
  | _ => false

/-- May a master reach host memory with H = 1, for reading or writing (R491)? -/
def hostPath (master : Nat) (wr : Bool) : Bool :=
  if wr then master == 0x22 || master == 0x25 else master == 0x23 || master == 0x25

/-- Decode a request of R489 to its target; `none` where no path or no address exists (R491, R492). The last byte must
lie in the target as well. -/
def State.target (s : State) (master : Nat) (host : Bool) (addr : Nat) (acc : MemAcc) : Target :=
  let last := addr + (accLen acc - 1)
  let wr := accIsWrite acc
  let romReader := master == 0x28 || master == 0x29 || master == 0x2A
  if 0x2B < master || s.flt.paths.contains master then .none
  else if host then (if hostPath master wr then .hostMem addr else .none)
  else if last ≤ 0xFFFF then
    if !romReader then .none
    else if s.getB Reg.MEM_REMAP then .sram addr
    else if wr then .none else .rom addr
  else if 0x08000000 ≤ addr ∧ last ≤ 0x0800FFFF then
    if romReader && !wr then .rom (addr - 0x08000000) else .none
  else if 0x10000000 ≤ addr ∧ last ≤ 0x13FFFFFF then .sram (addr - 0x10000000)
  else if 0x20000000 ≤ addr ∧ last ≤ 0x20FFFFFF then
    if master == 0x27 || master == 0x2A then .regs (addr - 0x20000000) else .none
  else if 0x80000000 ≤ addr ∧ last ≤ 0xFFFFFFFF then .dram (addr - 0x80000000)
  else .none

/-- Bank 0 to 63 of an SRAM offset: 8 × group + address bits [7:5] (R496). -/
def sramBank (off : Nat) : Nat := off / 0x800000 * 8 + off / 32 % 8

/-- Row of an SRAM offset: address bits [22:13] (R496). -/
def sramRow (off : Nat) : Nat := off % 0x800000 / 0x2000

/-- The unit ID of the SRAM row that holds an offset (R613). -/
def rowUnit (off : Nat) : UnitId :=
  { page := 0xB0 + off / 0x800000, index := 1024 * (off / 32 % 8) + sramRow off }

/-- Beats of 32 bytes that a burst of `n` bytes from an offset takes (R498). -/
def beats (off n : Nat) : Nat := if n = 0 then 0 else (off + n - 1) / 32 - off / 32 + 1

/-- The arbiter of a target (R507): SRAM groups 0 to 7, DRAM 8; none for round-robin targets. -/
def targetArb : Target → Option Nat
  | .sram o => some (o / 0x800000)
  | .dram _ => some 8
  | _ => none

/-! ## Storage -/

/-- Read bytes of SRAM; an unwritten byte reads 0. -/
def State.sramRead (s : State) (off n : Nat) : List Byte := tgets 0 s.mem.sram off n

/-- Write bytes of SRAM. -/
def State.sramWrite (s : State) (off : Nat) (d : List Byte) : State :=
  s.modMem fun m => { m with sram := tputs 0 m.sram off d }

/-- Read bytes of DRAM; a listed bad burst returns 0 without an access (R625). -/
def State.dramRead (s : State) (off n : Nat) : List Byte :=
  (tgets 0 s.mem.dram off n).zipIdx.map fun (b, i) => if s.flt.badDram.contains ((off + i) / 64) then 0 else b

/-- Write bytes of DRAM; writes to a listed bad burst are dropped (R625). -/
def State.dramWrite (s : State) : Nat → List Byte → State
  | _, [] => s
  | off, b :: r =>
    let s := if s.flt.badDram.contains (off / 64) then s
             else s.modMem fun m => { m with dram := tput 0 m.dram off b }
    s.dramWrite (off + 1) r

/-- The response a master receives (R494). DESIGN CHOICE (log entry 7). -/
def State.respond (s : State) (master addr : Nat) (err : Bool) (data : List Byte) : State :=
  s.modMem fun m => { m with resp := tput none m.resp master (some { addr := addr, err := err, data := data }) }

/-- The write toward host memory of a master, discarded while Bus Master Enable is 0, the link is down or in D3hot
(R533); answers whether it went out. DESIGN CHOICE (log entry 7). -/
def State.hostWrite (s : State) (addr : Nat) (d : List Byte) : State × Bool :=
  if s.host.busMaster && s.host.linkUp && !s.host.d3hot then
    (s.modHost fun h => { h with mem := tputs 0 h.mem addr d }, true)
  else (s, false)

/-- Do host reads complete without an error (R533)? DESIGN CHOICE (log entry 7). -/
def State.hostReadable (s : State) : Bool := s.host.busMaster && s.host.linkUp && !s.host.d3hot

/-- Count and record a decode error (R492). DEDUCED (log entry 25). -/
def State.decodeError (s : State) (master addr : Nat) : State :=
  ((((s.count Reg.ARB_DECODE_ERR).put0 Reg.ARB_DEC_MASTER master).put0 Reg.ARB_DECODE_ADDR addr).irq Reg.ARB_IRQ_DECODE)

/-! ## Check-value units (R519 to R522) -/

/-- Copies of latched words for a plane stand above the register file (R350, R520). DESIGN CHOICE (log entry 16). -/
def planeKey (p : Plane) (a : Nat) : Nat := match p with
  | .host => a + 0x1000000
  | .mgmt => a + 0x2000000

/-- WIDTH of a check-value unit. -/
def State.cvuWidth (s : State) (u : Nat) : Nat := s.get Reg.CVU_WIDTH_M1 u + 1

/-- Feed bytes to one running unit. -/
def State.cvuFeed (s : State) (u : Nat) (d : List Byte) : State :=
  let w := s.cvuWidth u
  let poly := s.get Reg.CVU_POLY_LO u + 2 ^ 32 * s.get Reg.CVU_POLY_HI u
  let refin := s.getB Reg.CVU_REFIN u
  s.modMem fun m =>
    { m with cvu := tmod {} m.cvu u fun c =>
        { reg := crcFeed w poly refin c.reg d, bytes := satInc 32 c.bytes d.length } }

/-- The result of a unit as the final value of the bytes fed so far (R520, R522). -/
def State.cvuResult (s : State) (u : Nat) : Nat :=
  let xor := s.get Reg.CVU_XOR_LO u + 2 ^ 32 * s.get Reg.CVU_XOR_HI u
  crcFinal (s.cvuWidth u) (s.getB Reg.CVU_REFOUT u) xor (tget {} s.mem.cvu u).reg

/-- Feed every running unit whose source matches: KIND, INDEX and a test of DIR (R519). -/
def State.cvuTap (s : State) (kind index : Nat) (dirOk : Nat → Bool) (d : List Byte) : State :=
  forRange (fun u s =>
    if s.getB Reg.CVU_EN u && s.get Reg.CVU_KIND u == kind && s.get Reg.CVU_INDEX u == index
        && dirOk (s.get Reg.CVU_DIR u) then s.cvuFeed u d else s) 0 4 s

/-- The bytes of granted beats whose beat address lies in a unit's window (R519, KIND 0). -/
def windowBytes (lo hi addr : Nat) (d : List Byte) : List Byte :=
  (d.zipIdx.filter fun (_, i) =>
    let beat := (addr + i) / 32 * 32
    lo ≤ max beat addr && max beat addr ≤ hi).map (·.1)

/-- Feed the units that watch a master's port (R519, KIND 0); an errored beat only sets ERR. -/
def State.cvuBus (s : State) (master addr : Nat) (wr err : Bool) (d : List Byte) : State :=
  forRange (fun u s =>
    if s.getB Reg.CVU_EN u && s.get Reg.CVU_KIND u == 0 && s.get Reg.CVU_INDEX u == master
        && (let k := s.get Reg.CVU_DIR u; k == 2 || k == wr.toNat) then
      let b := windowBytes (s.get Reg.CVU_WIN_LO u) (s.get Reg.CVU_WIN_HI u) addr d
      if err then (if b.isEmpty then s else s.put Reg.CVU_ERR u 1) else s.cvuFeed u b
    else s) 0 4 s

/-- Load a unit's register with INIT and clear its byte count (R520). -/
def State.cvuLoad (s : State) (u : Nat) : State :=
  let init := s.get Reg.CVU_INIT_LO u + 2 ^ 32 * s.get Reg.CVU_INIT_HI u
  s.modMem fun m => { m with cvu := tput {} m.cvu u { reg := init % 2 ^ s.cvuWidth u, bytes := 0 } }

/-- May a plane write a unit's page now (R520, R521)? -/
def State.cvuWritable (s : State) (p : Plane) (u : Nat) : Bool :=
  !s.getB Reg.CVU_CLAIMED u &&
  (!s.getB Reg.CVU_EN u || s.getB Reg.CVU_OWNER_MGMT u == (p == .mgmt))

/-- A write to a unit's control word (R520, R521, R527). -/
def State.cvuCtrl (s : State) (p : Plane) (u : Nat) (v : Nat) : State :=
  if !s.cvuWritable p u then s
  else
    let was := s.getB Reg.CVU_EN u
    let kind := bits v 27 26
    let on := bit v 31 && kind != 2
    let s := if kind == 2 then s.pageErr (0xBC + u) else s
    let s := ((s.put Reg.CVU_KIND u kind).put Reg.CVU_DIR u (bits v 25 24)).put Reg.CVU_INDEX u (bits v 23 16)
    let s := ((s.put Reg.CVU_WIDTH_M1 u (bits v 13 8)).put Reg.CVU_REFOUT u (bits v 1 1)).put Reg.CVU_REFIN u (bits v 0 0)
    let s := s.putB Reg.CVU_EN u on
    let s := if was == on then s else s.bumpEpoch (0xBC + u)
    if on then (s.putB Reg.CVU_OWNER_MGMT u (p == .mgmt)).cvuLoad u
    else if was then s.irq Reg.CVU_IRQ_STOP u else s

/-- The value a read of a register returns to its plane. -/
def State.setRead (s : State) (p : Plane) (v : Nat) : State :=
  s.modHost fun h => match p with
    | .host => { h with readHost := [BitVec.ofNat 32 v], abortHost := false }
    | .mgmt => { h with readMgmt := [BitVec.ofNat 32 v], abortMgmt := false }

/-- A read of a register of a page: in PARK a page whose domain is off reads 0 (R541). -/
def State.readAt (s : State) (p : Plane) (page : Nat) (f : State → Out) : Out :=
  if s.pageDark page then ok (s.setRead p 0) else f (s.wakeFor page)

/-- A read of CVU_RESULT_LO latches CVU_RESULT_HI and CVU_BYTES for the reading plane (R520). -/
def State.cvuReadLo (s : State) (p : Plane) (u : Nat) : State :=
  let r := s.cvuResult u
  let hi := if s.cvuWidth u ≤ 32 then 0 else r / 2 ^ 32
  let s := s.setWord (planeKey p (fldAt Reg.CVU_RESULT_HI u)) (BitVec.ofNat 32 hi)
  let s := s.setWord (planeKey p (fldAt Reg.CVU_BYTES u)) (BitVec.ofNat 32 (tget {} s.mem.cvu u).bytes)
  s.setRead p (r % 2 ^ 32)

/-- CVU_ENABLE (R520): a write of the control word arms the unit with INIT, or stops it. -/
def execCvuEnable (p : Plane) (u : Nat) (v : Word) (s : State) : Out := s.atPage (0xBC + u) fun s =>
  ok (if u < 4 then s.cvuCtrl p u v.toNat else s)

/-- CVU_RESULT_LO_READ (R520). -/
def execCvuResultLoRead (p : Plane) (u : Nat) (s : State) : Out := s.readAt p (0xBC + u) fun s =>
  ok (if u < 4 then s.cvuReadLo p u else s)

/-! ## Owner tags and the dark frame (R514 to R518, R526) -/

/-- Owner tag classes of R514. -/
def clsFree : Nat := 0
def clsStream : Nat := 1
def clsStrip : Nat := 2
def clsStage : Nat := 3
def clsBridge : Nat := 4

/-- Does a buffer or pass hold this interconnect address? -/
def holdsAddr (base size a : Nat) : Bool := base ≤ a && a < base + size

/-- Show the passes (R518, R526). -/
def State.showPasses (s : State) : State :=
  let r := (s.mem.passes.filter (·.running)).length
  let s := (s.put0 Reg.OWN_RUNNING r).put0 Reg.OWN_QUEUED (s.mem.passes.length - r)
  match s.mem.passes.find? (·.running) with
  | some p => s.progress 0xBA true (p.done / 256) (p.size / 256)
  | none => if s.mem.passes.isEmpty then s else s.putB Hdr.BUSY 0xBA true

/-- A buffer changes owner and is queued for zeroing (R515). -/
def State.retag (s : State) (base size cls owner : Nat) : State :=
  let b : Buf := { base := base, size := size, cls := cls, owner := owner }
  let p : Pass := { base := base, size := size, cls := cls, owner := owner }
  (s.modMem fun m =>
    { m with bufs := m.bufs.filter (·.base != base) ++ [b], passes := m.passes.filter (·.base != base) ++ [p] }).showPasses

/-- Is a region free, inside one group of 1 to 7 and aligned (R514)? -/
def State.placeable (s : State) (base size : Nat) : Bool :=
  0x10800000 ≤ base && base + size ≤ 0x14000000 && base % 256 == 0 &&
  (base / 0x800000 == (base + size - 1) / 0x800000) &&
  s.mem.bufs.all fun b => b.cls == clsFree || b.base + b.size ≤ base || base + size ≤ b.base

/-- The engine allocates a tagged buffer by itself (R514); where, the spec does not fix. A place that does not fit is
replaced by the first that does. DESIGN CHOICE (log entry 61). -/
def State.allocBuf (s : State) (size cls owner : Nat) : State :=
  let want := 0x10800000 + 256 * (Config.bufferPlace s.free % 0x38000)
  let s := { s with free := s.free + 1 }
  let cands := [want] ++ (List.range 7).map (fun g => 0x10800000 + g * 0x800000) ++
    s.mem.bufs.map (fun b => b.base + b.size)
  match cands.find? (fun c => s.placeable c size) with
  | some base => s.retag base size cls owner
  | none => s

/-- Buffers of an owner return to FREE (R515). -/
def State.freeBufs (s : State) (cls owner : Nat) : State :=
  forEach (fun (b : Buf) s => s.retag b.base b.size clsFree 0)
    (s.mem.bufs.filter fun b => b.cls == cls && b.owner == owner) s

/-- Buffers of an owner go to a new owner (R39, R515). -/
def State.moveBufs (s : State) (cls owner owner' : Nat) : State :=
  forEach (fun (b : Buf) s => s.retag b.base b.size cls owner')
    (s.mem.bufs.filter fun b => b.cls == cls && b.owner == owner) s

/-- A pass that a running unit waits on: its new owner is a strip engine, a stream or a port, or an access waits on it
(R517). -/
def passUrgent (p : Pass) : Bool := p.waited || p.cls == clsStrip || p.cls == clsStream

/-- May this pass run now: thermal shedding and supply warnings hold back passes that no running unit waits on
(R517, R593), and one pass runs at a time in a group (R516)? -/
def State.passMayRun (s : State) (p : Pass) : Bool :=
  let held := 2 ≤ s.get Reg.THERM_STATE || s.get Reg.SUP_WARN_NOW != 0
  (!held || passUrgent p) &&
  !(s.mem.passes.any fun q => q.running && q.base / 0x800000 == p.base / 0x800000)

/-- A pass is PAUSED (R517). -/
def State.passPaused (s : State) (p : Pass) : Bool :=
  !p.running && (2 ≤ s.get Reg.THERM_STATE || s.get Reg.SUP_WARN_NOW != 0) && !passUrgent p

/-- DARK_FRAME_PASS_START (R516, R517): the earliest waiting pass of its group begins. -/
def execDarkFramePassStart (base : Nat) (s : State) : Out :=
  match s.mem.passes.find? (fun p => p.base == base && !p.running) with
  | none => ok s
  | some p =>
    let earlier := s.mem.passes.find? (fun q => q.base / 0x800000 == p.base / 0x800000 && !s.passPaused q)
    if s.passMayRun p && (earlier.map (·.base) == some p.base) then
      ok (s.modMem fun m =>
        { m with passes := m.passes.map fun q => if q.base == base then { q with running := true } else q }).showPasses
    else ok s

/-- Zero an interconnect range of SRAM. -/
def State.zeroSram (s : State) (base size : Nat) : State :=
  s.modMem fun m =>
    { m with sram := m.sram.filter fun c => c.1 < base - 0x10000000 || base - 0x10000000 + size ≤ c.1 }

/-- DARK_FRAME_COMPLETE (R39, R516): the buffer reads zero and stalled accesses of the new owner proceed. DESIGN CHOICE (log entry 3). -/
def execDarkFrameComplete (base : Nat) (s : State) : Out :=
  match s.mem.passes.find? (fun p => p.base == base && p.running) with
  | none => ok s
  | some p =>
    let s := s.zeroSram p.base p.size
    let s := s.progress 0xBA true (p.size / 256) (p.size / 256)
    let s := s.modMem fun m => { m with passes := m.passes.filter (·.base != base) }
    let s := ((s.count Reg.OWN_PASSES).count Reg.OWN_UNITS 0 (p.size / 256)).irq Reg.OWN_IRQ_PASS_DONE
    ok (if s.mem.passes.isEmpty then s.showPasses.putB Hdr.BUSY 0xBA false else s.showPasses)

/-! ## Snapshots of queries (R84) -/

/-- Keys of the selected items. -/
def qRconv : Nat := 0
def qPatch : Nat := 1
def qFabXp : Nat := 2
def qFabSrc : Nat := 3
def qScn : Nat := 4
def qArb : Nat := 5
def qOwn : Nat := 6
def qSe (e : Nat) : Nat := 16 + e
def qBc (c : Nat) : Nat := 64 + c

/-- Select an item to snapshot: VALID reads 0 until the snapshot completes (R84). -/
def State.select (s : State) (q item : Nat) (valid : Fld) : State :=
  { (s.put0 valid 0) with sel := tput 0 s.sel q (item + 1) }

/-- The selected item, if a snapshot is due. -/
def State.selected (s : State) (q : Nat) : Option Nat :=
  match tget 0 s.sel q with
  | 0 => none
  | n + 1 => some n

/-- The snapshot is complete. -/
def State.selDone (s : State) (q : Nat) : State := { s with sel := tput 0 s.sel q 0 }

/-- OWN_QADDR (R526). -/
def execOwnQaddr (v : Word) (s : State) : Out := s.atPage 0xBA fun s => ok (s.select qOwn v.toNat Reg.OWN_VALID)

/-- Fill the OWN snapshot (R526). -/
def State.snapOwn (s : State) (a : Nat) : State :=
  let s := match s.mem.bufs.find? (fun b => holdsAddr b.base b.size a) with
    | some b =>
      let s := ((s.put0 Reg.OWN_TAGGED 1).put0 Reg.OWN_CLASS b.cls).put0 Reg.OWN_OWNER b.owner
      (s.put0 Reg.OWN_QBASE b.base).put0 Reg.OWN_QSIZE b.size
    | none =>
      let s := ((s.put0 Reg.OWN_TAGGED 0).put0 Reg.OWN_CLASS 0).put0 Reg.OWN_OWNER 0
      (s.put0 Reg.OWN_QBASE 0).put0 Reg.OWN_QSIZE 0
  let s := match s.mem.passes.find? (fun p => holdsAddr p.base p.size a) with
    | some p =>
      ((s.put0 Reg.OWN_PASS 1).putB Reg.OWN_PAUSED 0 (s.passPaused p)).put0 Reg.OWN_QLEFT (p.size - p.done)
    | none => ((s.put0 Reg.OWN_PASS 0).put0 Reg.OWN_PAUSED 0).put0 Reg.OWN_QLEFT 0
  s.put0 Reg.OWN_VALID 1

/-! ## Arbiters (R507 to R513) -/

/-- Is the arbiter in SHADOW mode (R511)? -/
def State.shadow (s : State) (a : Nat) : Bool := bit (s.get Reg.ARB_MODE) a

/-- Priority of a master in the priority words of an arbiter (R525). -/
def State.priOf (s : State) (f : Fld) (a master : Nat) : Nat :=
  s.get f (8 * a + master / 8) / 2 ^ (4 * (master % 8)) % 8

/-- Index of the counters of an arbiter and a master. -/
def cntKey (a master : Nat) : Nat := 64 * a + master

/-- The wait of a request in fc: since it was raised (R507). -/
def State.waitOf (s : State) (r : Req) : Nat := (s.clk.now - r.since) / 4

/-- Masked by quota in the present window (R508). -/
def State.quotaMasked (s : State) (a master : Nat) : Bool :=
  let p := s.priOf Reg.ARB_PRI a master
  let n := (tget {} s.mem.cnt (cntKey a master)).inWin
  let q := if p = 0 then s.get Reg.ARB_QUOTA0 a else if p = 1 then s.get Reg.ARB_QUOTA1 a else 0
  q != 0 && q ≤ n

/-- fc left until the window of an arbiter ends (R508); 0 where no window is provisioned. -/
def State.windowLeft (s : State) (a : Nat) : Nat :=
  let w := s.get Reg.ARB_WIN a
  if w = 0 then 0 else w - s.clk.now / 4 % w

/-- Must this request wait whatever its rank: a fenced master (R39), a bank locked by another (R499), a buffer under a
pass (R516), a row under test (R622), DRAM before training (R505)? -/
def State.blocked (s : State) (a : Nat) (r : Req) : Bool :=
  s.mem.masked.contains r.master ||
  (a == 8 && !s.getB Reg.DRAM_READY) ||
  (a < 8 &&
    let off := r.addr - 0x10000000
    let n := beats off (accLen r.access)
    ((List.range n).any fun i => s.mem.locks.any fun l => l.master != r.master && l.bank == sramBank (off + 32 * i)) ||
    (s.mem.passes.any fun p => holdsAddr p.base p.size r.addr) ||
    (s.flt.tests.any fun t => t.kind == .row && t.unit == rowUnit off) ||
    (match r.access with
     | .lockRead _ => s.mem.locks.any fun l => l.bank == sramBank off
     | _ => false))

/-- Ranking of R507: lower priority value, then the longer wait, then the lower master ID. -/
def State.ranksBefore (s : State) (a : Nat) (x y : Req) : Bool :=
  let px := s.priOf Reg.ARB_PRI a x.master
  let py := s.priOf Reg.ARB_PRI a y.master
  px < py || (px == py && (s.waitOf y < s.waitOf x || (s.waitOf x == s.waitOf y && x.master < y.master)))

/-- Insertion into the ranking. -/
def rankInsert (le : Req → Req → Bool) (r : Req) : List Req → List Req
  | [] => [r]
  | x :: t => if le r x then r :: x :: t else x :: rankInsert le r t

/-- Requests of an arbiter. -/
def State.reqsOf (s : State) (a : Nat) : List Req := (s.mem.reqs.filter (·.1 == a)).map (·.2)

/-- The requests that may be granted, best first. -/
def State.ranked (s : State) (a : Nat) : List Req :=
  ((s.reqsOf a).filter fun r => !s.blocked a r && !s.quotaMasked a r.master).foldl
    (fun l r => rankInsert (s.ranksBefore a) r l) []

/-- Record a memory error of a group (R500). -/
def State.memError (s : State) (off master : Nat) (uncorr : Bool) (syn : Nat) : State :=
  let g := off / 0x800000
  let s := if uncorr then (s.count Reg.MEM_UNCORR g).irq Reg.MEM_IRQ_UNCORR g
           else (s.count Reg.MEM_CORR g).irq Reg.MEM_IRQ_CORR g
  let s := (s.put Reg.MEM_ERR_ADDR g (0x10000000 + off)).put Reg.MEM_VALID g 1
  let s := (s.putB Reg.MEM_ERR_UNCORR g uncorr).put Reg.MEM_BANK g (off / 32 % 8)
  let s := (s.put Reg.MEM_MASTER g master).put Reg.MEM_SYNDROME g syn
  if uncorr then s.raise (Src.SRAM_UNCORR g) (rowUnit off) (BitVec.ofNat 32 (0x10000000 + off)) else s

/-- A DRAM access finds a link ECC error (R505). -/
def State.dramError (s : State) (off master : Nat) (uncorr : Bool) : State :=
  if uncorr then
    let s := ((s.count Reg.DRAM_UNCORR).irq Reg.DRAM_IRQ_UNCORR).put0 Reg.DRAM_ERR_ADDR off
    (s.put0 Reg.DRAM_MASTER master).raise Src.DRAM_UNCORR { page := 0xB8, index := 0 } (BitVec.ofNat 32 off)
  else (s.count Reg.DRAM_CORR).irq Reg.DRAM_IRQ_CORR

/-- Does the ECC finding fail the beat? -/
def Ecc.fails : Ecc → Bool
  | .uncorrectable _ => true
  | _ => false

/-- Perform an access on SRAM or DRAM, all of it or its first `n` bytes; a fenced master's writes are discarded (R41).
Bytes past `n` get an error response (R509). DESIGN CHOICE (log entry 70). -/
def State.perform (s : State) (r : Req) (n : Nat) (ecc : Ecc) : State :=
  let isSram := r.addr < 0x80000000
  let off := if isSram then r.addr - 0x10000000 else r.addr - 0x80000000
  let cut := n < accLen r.access
  match r.access with
  | .write d =>
    let d' := d.take n
    if isSram && s.mem.broken.contains (r.master, sramBank off) then
      -- the completing write of a broken lock is discarded and gets an error response (R503)
      (s.modMem fun m => { m with broken := m.broken.filter (· != (r.master, sramBank off)) }).respond r.master r.addr true []
    else
      let s := if isSram then s.sramWrite off d' else s.dramWrite off d'
      let s := s.modMem fun m =>
        { m with locks := m.locks.filter fun l => !(isSram && l.master == r.master && l.bank == sramBank off) }
      (s.cvuBus r.master r.addr true cut d').respond r.master r.addr cut []
  | _ =>
    let data := (if isSram then s.sramRead off n else s.dramRead off n)
    let s := match ecc with
      | .clean => s
      | .corrected syn => if isSram then s.memError off r.master false syn else s.dramError off r.master false
      | .uncorrectable syn => if isSram then s.memError off r.master true syn else s.dramError off r.master true
    let bad := cut || (match ecc with | .uncorrectable _ => true | _ => false)
    let s := match r.access with
      | .lockRead _ =>
        let l : Lock := { bank := sramBank off, master := r.master, addr := r.addr, since := s.clk.now }
        if isSram && !bad then s.modMem fun m => { m with locks := m.locks ++ [l] } else s
      | _ => s
    (s.cvuBus r.master r.addr false bad data).respond r.master r.addr bad (if bad then [] else data)

/-- Count a grant in its window and, in COUNTERS mode, for its requester (R508, R511). -/
def State.countGrant (s : State) (a : Nat) (r : Req) : State :=
  let shadow := s.shadow a
  let w := s.waitOf r
  s.modMem fun m =>
    { m with cnt := tmod {} m.cnt (cntKey a r.master) fun c =>
        { c with inWin := c.inWin + 1, grants := if shadow then c.grants else satInc 32 c.grants 1,
                 longest := if shadow then c.longest else max c.longest (min w 65535) } }

/-- Remove the first request of a master from an arbiter. -/
def dropReq (a master : Nat) : List (Nat × Req) → List (Nat × Req)
  | [] => []
  | q :: t => if q.1 == a && q.2.master == master then t else q :: dropReq a master t

/-- The finder hint of a request (R510): bursts ahead, at least the fc left in the window where it is masked. -/
def State.hintOf (s : State) (a : Nat) (granted ahead : List Req) (r : Req) : Nat :=
  let load := (granted ++ ahead).foldl (fun n q => n + beats q.addr (accLen q.access)) 0
  min 1023 (if s.quotaMasked a r.master then max load (s.windowLeft a) else load)

/-- Mark the losers of an arbitration and send their hints (R510, R511). -/
def State.sendHints (s : State) (a : Nat) (granted : List Req) : State :=
  let rank := s.ranked a
  let shadow := s.shadow a
  s.modMem fun m =>
    let losers := m.reqs.filter (·.1 == a)
    { m with
      cnt := losers.foldl (fun c q =>
        if q.2.lost || shadow then c else tmod {} c (cntKey a q.2.master) fun k => { k with waits := satInc 32 k.waits 1 }) m.cnt
      reqs := m.reqs.map fun q =>
        if q.1 == a then
          (q.1, { q.2 with lost := true, hint := s.hintOf a granted (rank.filter fun x => s.ranksBefore a x q.2) q.2 })
        else q }

/-- Grants of one fc: the best request, and on an SRAM group the next on port 1 (R498). -/
def State.grantees (s : State) (a : Nat) : List Req := (s.ranked a).take (if a < 8 then 2 else 1)

/-- Serve the grantees. DESIGN CHOICE (log entry 70). -/
def State.serve (s : State) (a : Nat) (ecc : Ecc) : List Req → State
  | [] => s
  | r :: t =>
    let s := s.countGrant a r
    let s := s.modMem fun m => { m with reqs := dropReq a r.master m.reqs }
    (s.perform r (accLen r.access) ecc).serve a .clean t

/-- ARB_GRANT (R498, R507, R508, R510): one fc of one arbiter. DESIGN CHOICE (log entry 70). -/
def execArbGrant (a : Nat) (ecc : Ecc) (s : State) : Out :=
  let g := s.grantees a
  let conflict := match g with
    | [x, y] => sramBank (x.addr - 0x10000000) == sramBank (y.addr - 0x10000000)
    | _ => false
  let s := if conflict then s.count Reg.MEM_CONFLICT a else s
  ok ((s.serve a ecc g).sendHints a g)

/-- ARB_WINDOW_END (R508): a new quota window of an arbiter begins. -/
def execArbWindowEnd (a : Nat) (s : State) : Out :=
  ok (s.modMem fun m =>
    { m with cnt := (List.range 64).foldl (fun c k =>
        if (tget {} c (64 * a + k)).inWin = 0 then c else tmod {} c (64 * a + k) fun x => { x with inWin := 0 }) m.cnt })

/-- HOLD_CUT (R509): the best request is granted and cut off after the beats that fit in HOLD_MAX. -/
def execHoldCut (a : Nat) (n : Nat) (s : State) : Out :=
  match s.ranked a with
  | [] => ok s
  | r :: _ =>
    if beats r.addr (accLen r.access) ≤ n then ok s
    else
      let s := s.countGrant a r
      let s := s.modMem fun m =>
        { m with reqs := dropReq a r.master m.reqs,
                 cnt := tmod {} m.cnt (cntKey a r.master) fun c => { c with cuts := satInc 16 c.cuts 1 } }
      let s := s.perform r (min (accLen r.access) (32 * n - r.addr % 32)) .clean
      let s := ((s.count Reg.ARB_HOLD_CUT).put0 Reg.ARB_CUT_MASTER r.master).put0 Reg.ARB_CUT_ARB a
      ok ((s.irq Reg.ARB_IRQ_HOLD_CUT).raise Src.ARB_HOLD { page := 0xB9, index := r.master } (BitVec.ofNat 32 r.addr))

/-- Raise a request at its arbiter; an access to a buffer under a pass waits and is counted (R507, R516). -/
def State.raiseReq (s : State) (a master addr : Nat) (acc : MemAcc) : State :=
  let stalled := s.mem.passes.any fun p => holdsAddr p.base p.size addr
  let s := if stalled then s.count Reg.OWN_STALLS else s
  s.modMem fun m =>
    { m with reqs := m.reqs ++ [(a, { master := master, access := acc, addr := addr, since := s.clk.now })],
             passes := m.passes.map fun p => if holdsAddr p.base p.size addr then { p with waited := true } else p }

/-- May a lock request be raised: SRAM only, one bank, one lock per master (R502)? -/
def State.lockAllowed (s : State) (master addr n : Nat) : Bool :=
  0x10000000 ≤ addr && addr + (n - 1) ≤ 0x13FFFFFF && beats addr n ≤ 1 &&
  !(s.mem.locks.any fun l => l.master == master)

/-- LOCK_READ (R502): a locking read is granted, or gets an error response and takes no lock. -/
def execLockRead (master addr n : Nat) (s : State) : Out :=
  if !s.lockAllowed master addr n || s.flt.paths.contains master || 0x2B < master then ok (s.respond master addr true [])
  else
    let r : Req := { master := master, access := .lockRead n, addr := addr, since := s.clk.now }
    let a := (addr - 0x10000000) / 0x800000
    if s.blocked a r then ok (s.raiseReq a master addr (.lockRead n))
    else ok ((s.countGrant a r).perform r n .clean)

/-- LOCK_BREAK (R503): a lock held in its 65th fc is broken. -/
def execLockBreak (bank : Nat) (s : State) : Out :=
  match s.mem.locks.find? (·.bank == bank) with
  | none => ok s
  | some l =>
    let s := s.advanceTo (l.since + 4 * 64)
    let s := s.modMem fun m => { m with locks := m.locks.filter (·.bank != bank), broken := m.broken ++ [(l.master, bank)] }
    let s := ((s.count Reg.ARB_LOCK_BREAK).put0 Reg.ARB_CUT_MASTER l.master).put0 Reg.ARB_CUT_ARB (bank / 8)
    ok ((s.irq Reg.ARB_IRQ_LOCK_BREAK).raise Src.LOCK_BREAK { page := 0xB9, index := l.master } (BitVec.ofNat 32 l.addr))

/-- SCRUB_STEP (R501): a bank reads and corrects its next word. -/
def execScrubStep (bank : Nat) (ecc : Ecc) (s : State) : Out :=
  let g := bank / 8
  let held := 2 ≤ s.get Reg.THERM_STATE || s.get Reg.SUP_WARN_NOW != 0
  if held || !s.getB Reg.MEM_SCRUB_EN g || 64 ≤ bank then ok s
  else
    let w := tget 0 s.mem.scrub bank
    let off := g * 0x800000 + w * 256 + bank % 8 * 32
    let s := match ecc with
      | .clean => s
      | .corrected syn => s.memError off 0x3F false syn
      | .uncorrectable syn => s.memError off 0x3F true syn
    let w' := (w + 1) % 32768
    let s := s.modMem fun m => { m with scrub := tput 0 m.scrub bank w' }
    -- the pass of a group completes when its last bank wraps
    let wrapped := w' == 0 && ((List.range 8).all fun b => tget 0 s.mem.scrub (8 * g + b) == 0)
    ok (if wrapped then (s.count Reg.MEM_SCRUB_PASSES g).irq Reg.MEM_IRQ_SCRUB_PASS g else s)

/-- A write to REMAP (R495): management bus only, ignored and counted while a Bridge core runs. -/
def State.remapWrite (s : State) (p : Plane) (v : Nat) : State :=
  if p != .mgmt then s
  else if s.getB Hdr.RUNNING 0xC0 || s.getB Hdr.RUNNING 0xC1 then s.pageErr 0xB0
  else s.put0 Reg.MEM_REMAP (v % 2)

/-- REMAP (R495). -/
def execRemap (p : Plane) (v : Word) (s : State) : Out := s.atPage 0xB0 fun s => ok (s.remapWrite p v.toNat)

/-- A write to PG_COMMIT of the ARB page (R511 to R513, R538): the shadow takes effect for every SHADOW arbiter. -/
def State.arbCommit (s : State) (p : Plane) (v : Nat) : State :=
  if p != .mgmt || v != 1 then s
  else forRange (fun i s =>
    if i % 8 < 6 && s.shadow (i / 8) then s.put Reg.ARB_PRI i (s.get Reg.ARB_PRI_SHADOW i) else s) 0 80 s

/-- ARB_COMMIT (R511, R512). -/
def execArbCommit (p : Plane) (v : Word) (s : State) : Out := s.atPage 0xB9 fun s => ok (s.arbCommit p v.toNat)

/-- A write to a shadow priority word (R511, R513, R525): bits of IDs above 0x2B stay 0. -/
def State.shadowWrite (s : State) (p : Plane) (i v : Nat) : State :=
  if p == .mgmt && s.shadow (i / 8) then
    s.put Reg.ARB_PRI_SHADOW i (v &&& (if i % 8 < 5 then 0x77777777 else 0x7777)) else s

/-- ARB_QSEL (R525). -/
def execArbQsel (v : Word) (s : State) : Out := s.atPage 0xB9 fun s => ok (s.select qArb (bits v.toNat 9 0) Reg.ARB_VALID)

/-- Fill the ARB snapshot (R525). -/
def State.snapArb (s : State) (item : Nat) : State :=
  let a := item / 64
  let m := item % 64
  let c := tget {} s.mem.cnt (cntKey a m)
  let waiting := (s.reqsOf a).find? (·.master == m)
  let s := ((s.putB Reg.ARB_MASKED 0 (s.quotaMasked a m)).putB Reg.ARB_WAITING 0 waiting.isSome).put0 Reg.ARB_Q_PRI
    (s.priOf Reg.ARB_PRI a m)
  let s := s.put0 Reg.ARB_Q_PRI_SHADOW (if s.shadow a then s.priOf Reg.ARB_PRI_SHADOW a m else s.priOf Reg.ARB_PRI a m)
  let s := s.put0 Reg.ARB_WAIT_NOW (match waiting with | some r => min 65535 (s.waitOf r) | none => 0)
  let sh := s.shadow a
  let s := (s.put0 Reg.ARB_Q_GRANTS (if sh then 0 else c.grants)).put0 Reg.ARB_Q_WAITS (if sh then 0 else c.waits)
  ((s.put0 Reg.ARB_CUTS c.cuts).put0 Reg.ARB_LONGEST (if sh then 0 else c.longest)).put0 Reg.ARB_VALID 1

/-! ## The fence (R38 to R41) -/

/-- Master IDs of a unit (R491). -/
def unitMasters (page : Nat) : List Nat :=
  if 0x10 ≤ page ∧ page ≤ 0x31 then [page - 0x10]
  else if page = 0x40 then [0x22]
  else if page = 0x60 then [0x24]
  else if page = 0xC0 then [0x28]
  else if page = 0xC1 then [0x29]
  else []

/-- Units that a fence can take (R625, R630): PCIe lanes cannot. -/
def fenceable (u : UnitId) : Bool :=
  (u.index == 0 && ((0x10 ≤ u.page && u.page ≤ 0x31) || u.page == 0xC0 || u.page == 0xC1 || u.page == 0x40 ||
    u.page == 0x60 || u.page == 0x80 || u.page == 0x88)) ||
  (u.page == 0xA0 && u.index < 14 && !(2 ≤ u.index && u.index ≤ 5)) || (u.page == 0x90 && u.index < 32) || (u.page == 0x93 && u.index < 32) || (u.page == 0x94 && u.index < 8) ||
  ((u.page == 0x95 || u.page == 0x96) && (u.index < 12 || (16 ≤ u.index && u.index < 28)))

/-- The lowest idle spare strip engine (R206): SPARE set, neither fenced nor retired. -/
def State.idleSpare (s : State) : Option Nat :=
  [32, 33].find? fun e =>
    s.getB Hdr.SPARE (0x10 + e) && !s.getB Hdr.FENCED (0x10 + e) && !s.getB Hdr.RETIRED (0x10 + e)

/-- STREAM owners of a port channel (R514). -/
def portStreamOwner (u : UnitId) : Option Nat :=
  if u.page = 0x90 then some (0x300 + u.index)
  else if u.page = 0x93 then some (0x300 + 32 + u.index)
  else if u.page = 0x94 then some (0x300 + 64 + u.index % 4)
  else if u.page = 0x95 then some (0x300 + 68 + u.index % 16)
  else if u.page = 0x96 then some (0x300 + 80 + u.index % 16)
  else none

/-- The buffers of a fenced unit go to their new owner and are zeroed (R39 at fc 2): a strip engine's to the spare that
takes its strips, every other's to FREE. -/
def State.fenceBufs (s : State) (u : UnitId) : State :=
  if 0x10 ≤ u.page ∧ u.page ≤ 0x31 then
    match s.idleSpare with
    | some e => s.moveBufs clsStrip (u.page - 0x10) e
    | none => s.freeBufs clsStrip (u.page - 0x10)
  else if u.page = 0xC0 ∨ u.page = 0xC1 then s.freeBufs clsBridge (0x500 + (u.page - 0xC0))
  else match portStreamOwner u with
    | some o => s.freeBufs clsStream o
    | none => s

/-- The fence of R39 on a unit: requests masked, grants revoked, locks broken without a count (R503), PG_STAT[1] set, the
epoch incremented once, buffers reassigned. `retire` adds retirement in the same change (R47). DEDUCED (log entry 43). -/
def State.fence (s : State) (u : UnitId) (retire : Bool) : State :=
  let ms := unitMasters u.page
  let s := s.advanceTo (s.clk.now + 4)
  let s := s.modMem fun m =>
    { m with masked := m.masked ++ ms.filter (fun k => !m.masked.contains k)
             broken := m.broken ++ (m.locks.filter fun l => ms.contains l.master).map (fun l => (l.master, l.bank))
             locks := m.locks.filter fun l => !ms.contains l.master }
  let s := if isSubUnit u then s.modFlt fun f => { f with retired := f.retired ++ [u] }
           else
             let s := s.put Hdr.FENCED (unitPage u.page) 1
             if retire then s.put Hdr.RETIRED (unitPage u.page) 1 else s
  let s := if 0x10 ≤ u.page ∧ u.page ≤ 0x31 then s.put Hdr.RUNNING u.page 0
           else if u.page = 0xC0 ∨ u.page = 0xC1 then (s.put Hdr.RUNNING u.page 0).put Hdr.SPARE u.page 1 else s
  let s := s.bumpEpoch u.page
  let s := s.fenceBufs u
  s.modFlt fun f => { f with resched := f.resched ++ [u] }

end Sys2Proof.Machine
end

