-- ==== Sys2Proof/Machine/Fabric.lean ====
section
/-! DEFINITION. The mix fabric: tags and offsets (R228 to R231), tiers (R217), budget and reservation (R221 to R225), bus
sums (R216) and the cascade (R233, R234). -/

namespace Sys2Proof.Machine

/-! ## Sources -/

/-- Bus and source of a crosspoint ID (R214). -/
def xpBus (id : Nat) : Nat := id / 4096
def xpSrc (id : Nat) : Nat := id % 4096

/-- Is a fabric source active in a rate mode (R66, R213)? -/
def srcActiveAt (r src : Nat) : Bool :=
  if src < 0x800 then src < inStrips r else if src < 0xC00 then src - 0x800 < numBuses r else src < 0xC40

/-- Samples of lookahead of an input strip (R91, R116). -/
def State.lookahead (s : State) (n : Nat) : Nat := tickSamples (s.inUse (inWord n 0x9C)) s.hz

/-- The conversion lane that feeds an input strip. -/
def State.laneOf (s : State) (n : Nat) : Option Nat :=
  let p := s.inUse (patchWord n)
  if bits p 13 12 = 2 then some (bits p 23 14) else none

/-- Group delay of a strip's source path (R78). -/
def State.pathDelay (s : State) (n : Nat) : Nat := match s.laneOf n with
  | some m => if bit (s.inUse (laneWord m)) 13 then 48 else 16
  | none => 0

/-- Latency tag of an input strip (R116). -/
def State.stripTag (s : State) (n : Nat) : Nat := s.pathDelay n + s.inUse (inWord n 0xB0) % 2 + s.lookahead n

/-- Latency target of a bus in use. -/
def State.busT (s : State) (b : Nat) : Nat := s.inUse (busTarget b)

/-- The output strip that feeds the send of a Bridge channel through the egress patch (R228, R232). -/
def State.sendFeeder (s : State) (c : Nat) : Option Nat :=
  let v := s.inUse (egrWord (0xC40 + c))
  if v < 0x400 then some v else none

/-- Latency tag of a fabric source (R228). -/
def State.tagOf (s : State) (src : Nat) : Nat :=
  if !srcActiveAt s.rate src then 0
  else if src < 0x800 then s.stripTag src
  else if src < 0xC00 then s.busT (src - 0x800)
  else match s.sendFeeder (src - 0xC00) with
    | some n => s.busT n + 3
    | none => 0

/-- The words that enter the tag of a fabric source (R223). -/
def State.tagKeys (s : State) (src : Nat) : List Nat :=
  if src < 0x800 then
    [inWord src 0x9C, inWord src 0xB0, patchWord src] ++ (match s.laneOf src with | some m => [laneWord m] | none => [])
  else if src < 0xC00 then [busTarget (src - 0x800)]
  else [egrWord (0xC40 + (src - 0xC00))]

/-! ## Crosspoints -/

/-- Do both ends of a crosspoint take part in a rate mode (R215)? -/
def xpEndsAt (r id : Nat) : Bool := srcActiveAt r (xpSrc id) && decide (xpBus id < numBuses r)

/-- Is a crosspoint active (R215)? -/
def State.xpActive (s : State) (id : Nat) : Bool :=
  xpEndsAt s.rate id && (s.inUse (xpKey id) != 0x8000 || (s.runsOn (xpKey id)).any s.ramping)

/-- Every crosspoint that may be active: its word is not off, or a move is in flight on it. -/
def State.xpListed (s : State) : List Nat :=
  distinct ((s.keysIn 0x4000000 0x4400000).map (· - 0x4000000) ++
    ((s.scn.runs.filter (·.target.kind == 1)).map (·.target.addr)))

/-- The active crosspoints. -/
def State.xps (s : State) : List Nat := s.xpListed.filter s.xpActive

/-- Is a bus summed across the cascade now (R221, R233)? -/
def State.casced (s : State) (b : Nat) : Bool := s.getB Reg.FAB_EN && s.inUse (busCasc b) % 2 == 1 && b < numBuses s.rate

/-- The buses summed across the cascade. -/
def State.cascBuses (s : State) : List Nat :=
  (distinct ((s.keysIn 0x400000 0x402000).map (fun k => (k - 0x400000) / 8) ++
    ((s.scn.runs.filter (fun r => r.target.kind == 0 && 0x400000 ≤ r.target.addr && r.target.addr < 0x402000)).map
      (fun r => (r.target.addr - 0x400000) / 8)))).filter s.casced

/-- The offset that a crosspoint's tags ask for (R228, R233); negative where the source is late. -/
def State.wantOffset (s : State) (id : Nat) : Int :=
  (s.busT (xpBus id) : Int) - (if s.casced (xpBus id) then 4 else 0) - s.tagOf (xpSrc id)

/-- The running tag change of a crosspoint, while it keeps its old offset or ramps (R230). -/
def State.tagRun (s : State) (id : Nat) : Option TagRun :=
  match s.dp.tagRuns.find? (·.1 == id) with
  | some (_, t) => if s.idx ≤ t.last ∨ (t.ramp ∧ s.idx ≤ t.last + 32) then some t else none
  | none => none

/-- The offset in effect (R228 to R230). -/
def State.offset (s : State) (id : Nat) : Nat := match s.tagRun id with
  | some t => if s.idx ≤ t.last then t.old else (s.wantOffset id).toNat
  | none => (s.wantOffset id).toNat

/-- Is a crosspoint under a tag ramp now (R230)? -/
def State.inTagRamp (s : State) (id : Nat) : Bool := match s.tagRun id with
  | some t => t.ramp && decide (t.last < s.idx)
  | none => false

/-- The tag ramp's multiplier (R230). -/
def State.tagMul (s : State) (id : Nat) : Nat × Nat := match s.tagRun id with
  | some t => if t.ramp ∧ t.last < s.idx then riseMul (s.idx - t.last - 1) 32 else (1, 1)
  | none => (1, 1)

/-- Rules that ramp a crosspoint (R221). -/
def rampRule (r : Nat) : Bool := r == rRampLin || r == rRampDb || r == rHoldMute

/-- The sample after a move's last affected one (R256). -/
def runEnd (r : RunMove) : Nat :=
  if r.rule = rHoldMute then r.first + 2 * r.dur + 1
  else if r.rule = rStep then r.first + 1 else r.first + r.dur

/-- Is a crosspoint under the ramp of a move now? -/
def State.xpRamping (s : State) (id : Nat) : Bool :=
  (s.runsOn (xpKey id)).any (fun r => rampRule r.rule && decide (s.idx < runEnd r))

/-- Lane-cycles of a crosspoint in the present period (R221). -/
def State.xpCost (s : State) (id : Nat) : Nat :=
  if !s.xpActive id then (if s.xpRamping id && xpEndsAt s.rate id then 2 else 0)
  else if s.xpRamping id || s.inTagRamp id then 2 else 1

/-- Lane-cycles of the present period (R221). -/
def State.fabCost (s : State) : Nat := (s.xpListed.map s.xpCost).sum + 2 * s.cascBuses.length

/-! ## Tiers (R217, R218) -/

/-- Tier of a bus over a list of active crosspoints; above 3 where the chain is too long or closes on itself. -/
def tierOf : Nat → List Nat → Nat → Nat
  | 0, _, _ => 1
  | k + 1, act, b =>
    ((act.filter (fun id => xpBus id == b && 0x800 ≤ xpSrc id && xpSrc id < 0xC00)).map
      (fun id => tierOf k act (xpSrc id - 0x800) + 1)).foldl max 1

/-- Tier of a bus over a list of active crosspoints. -/
def busTier (act : List Nat) (b : Nat) : Nat := tierOf 4 act b

/-- Tiers in use: k of R222. -/
def tiersUsed (act : List Nat) : Nat := ((distinct (act.map xpBus)).map (busTier act)).foldl max 1

/-! ## Budget and reservation (R222 to R225) -/

/-- The budget of a rate mode and a CCLK divider for k tiers (R222). -/
def State.budgetAt (s : State) (r div k : Nat) : Nat := s.get Reg.FAB_LANES * shortestPeriod r div - 576 * (k - 1)

/-- Moves that are staged and not committed, as the admission of R261 counts them: those of every admitted slot and of the
live lane. -/
def State.stagedMoves (s : State) : List SMove :=
  (s.scn.slots.filter (fun p => let st := s.get Reg.SLOT_STATE p.1; 2 ≤ st && st ≤ 4)).flatMap (fun p => p.2.moves) ++
  s.scn.live.map (·.1)

/-- Reserved cost of a crosspoint (R223), against a list of staged moves. -/
def State.xpReserve (s : State) (staged : List SMove) (id : Nat) : Nat :=
  if !xpEndsAt s.rate id then 0
  else
    let mine := staged.filter (fun m => m.target.kind == 1 && m.target.addr == id)
    let keys := s.tagKeys (xpSrc id)
    let tagMoves := staged.any (fun m => m.rule == rHoldMute && keys.contains (targetKey m.target)) ||
      s.scn.runs.any (fun r => r.rule == rHoldMute && keys.contains (targetKey r.target))
    if mine.any (fun m => rampRule m.rule) || s.xpRamping id then 2
    else if s.xpActive id && (tagMoves || (s.tagRun id).isSome) then 2
    else (mine.map (fun m => if m.value % 65536 = 0x8000 then 0 else 1)).foldl max (s.xpCost id)

/-- The reservation R (R223), against a list of staged moves. -/
def State.reservation (s : State) (staged : List SMove) : Nat :=
  let ids := distinct (s.xpListed ++ (staged.filter (·.target.kind == 1)).map (·.target.addr))
  let casc := distinct (s.cascBuses ++ (staged.filter (fun m => m.target.kind == 0 && m.target.addr % 8 == 4 &&
    0x400000 ≤ m.target.addr && m.target.addr < 0x402000 && m.value % 2 == 1)).map (fun m => (m.target.addr - 0x400000) / 8))
  (ids.map (s.xpReserve staged)).sum + (if s.getB Reg.FAB_EN then 2 * casc.length else 0)

/-- The crosspoints active now, or made active by a staged move (R261). -/
def State.unionActive (s : State) (staged : List SMove) : List Nat :=
  distinct (s.xps ++ ((staged.filter (fun m => m.target.kind == 1 && m.value % 65536 != 0x8000 &&
    xpEndsAt s.rate m.target.addr)).map (·.target.addr)))

/-- The reservation recomputed for another rate mode, ramps at their targets (R225). -/
def State.reservationAt (s : State) (r : Nat) : Nat :=
  let staged := s.stagedMoves
  let ids := distinct (s.xpListed ++ (staged.filter (·.target.kind == 1)).map (·.target.addr))
  let cost := fun id =>
    if !xpEndsAt r id then 0
    else
      let mine := staged.filter (fun m => m.target.kind == 1 && m.target.addr == id)
      if mine.any (fun m => rampRule m.rule) then 2
      else (mine.map (fun m => if m.value % 65536 = 0x8000 then 0 else 1)).foldl max
        (if (s.word (xpKey id)).toNat = 0x8000 then 0 else 1)
  (ids.map cost).sum + (if s.getB Reg.FAB_EN then 2 * (s.cascBuses.filter (· < numBuses r)).length else 0)

/-- Tiers over the crosspoints that a rate mode would hold active. -/
def State.tiersAt (s : State) (r : Nat) : Nat :=
  tiersUsed ((s.xpListed.filter (fun id => xpEndsAt r id && (s.word (xpKey id)).toNat != 0x8000)))

/-! ## Tag changes (R230, R231) -/

/-- Does a HOLD_MUTE reach its silent sample in the present period on one of these words? -/
def State.silentNow (s : State) (keys : List Nat) : Bool :=
  s.scn.runs.any (fun r => r.rule == rHoldMute && !r.mute && r.first + r.dur == s.idx && keys.contains (targetKey r.target))

/-- Periods between a source sample and the fabric period that can first read it (R300): 1 for a strip's result. -/
def srcLag (src : Nat) : Nat := if src < 0x800 then 1 else 0

/-- Take a source's tag for the present period: where it changes, every active crosspoint that reads the source keeps its old
offset until the sample at which the tag changed has been read (R230). -/
def State.takeTag (src : Nat) (s : State) : State :=
  let old := tget 0 s.dp.tags src
  let new := s.tagOf src
  if old = new then s
  else
    let ramp := s.silentNow (s.tagKeys src)
    let mine := s.xps.filter (fun id => xpSrc id == src)
    let dOld := fun id => ((s.busT (xpBus id) : Int) - (if s.casced (xpBus id) then 4 else 0) - old).toNat
    let runs := mine.map (fun id => (id, ({ old := dOld id, last := s.idx + srcLag src + dOld id, ramp := ramp } : TagRun)))
    s.modDp fun d => { d with tags := tput 0 d.tags src new,
                              tagRuns := d.tagRuns.filter (fun t => !mine.contains t.1) ++ runs }

/-- Take every source's tag for the present period and drop the tag changes that have ended. -/
def State.takeTags (s : State) : State :=
  let srcs := distinct (s.xps.map xpSrc ++ s.dp.tags.map (·.1))
  let s := forEach State.takeTag srcs s
  s.modDp fun d => { d with tagRuns := d.tagRuns.filter (fun t => (s.tagRun t.1).isSome) }

/-! ## Bus sums (R216, R220, R227, R233, R234) -/

/-- The history of a source, newest first. -/
def State.history (s : State) (src : Nat) : List Word := tget [] s.dp.hist src

/-- Add the newest sample of a source to its ring of 4,096. -/
def State.pushHist (s : State) (src : Nat) (x : Word) : State :=
  s.modDp fun d => { d with hist := tmod [] d.hist src (fun l => (x :: l).take 4096) }

/-- One contribution: coefficient times history sample, exact (R216, R670). -/
def State.contribution (s : State) (id : Nat) : Int :=
  let g := gainLin (s.gainNow (xpKey id))
  let m := mulFrac (s.dips (· == xpKey id)) (s.tagMul id)
  let c : Int := fabCoef (g.1 * m.1) (g.2 * m.2)
  c * ((s.history (xpSrc id)).getD (s.offset id) 0).toInt

/-- The 72-bit saturating sum of a bus's contributions (R154, R216). -/
def State.busAcc (s : State) (ids : List Nat) : Int := ids.foldl (fun a id => satTo 72 (a + s.contribution id)) 0

/-- Count a sticky bit of a bus map and raise its page's interrupt on the first setting. -/
def State.stickyBus (s : State) (map irq : Fld) (b : Nat) : State :=
  if s.mapBit map b then s else (s.setMapBit map b true).irq irq

/-- The partner's partial for the present period's bus sample, taken as 0 where it has not come (R234). DEDUCED (log entry 78). -/
def State.partnerPartial (s : State) (b : Nat) : Word × State :=
  if !s.getB Reg.FAB_UP || s.getB Reg.FAB_RATE_MISMATCH || s.mapBit Reg.FAB_CASC_ABSENT b then (0, s)
  else
    match tget none s.dp.casc (4096 * b + (s.idx + 4092) % 4096) with
    | some x =>
      let m := riseMul s.dp.cascK 32
      (scaleWord x m.1 m.2, s.modDp fun d => { d with casc := tput none d.casc (4096 * b + (s.idx + 4092) % 4096) none })
    | none => (0, s.count Reg.FAB_CASC_MISS)

/-- Write one bus back (R216, R220, R226, R227, R233). DEDUCED (log entry 78). -/
def State.writeBus (unwritten : List Nat) (act : List Nat) (b : Nat) (s : State) : State :=
  let prev := tget 0 s.dp.bus b
  let ids := act.filter (fun id => xpBus id == b)
  let dip := s.dips (fun k => k == busTarget b || k == busCasc b)
  let (x, s) :=
    if unwritten.contains b then (prev, s)
    else if s.mapBit Reg.FAB_BUS_SHED b then (0, s)
    else if s.casced b then
      let own := satWord (roundShift (s.busAcc ids) 28)
      let s := if overflows 32 (roundShift (s.busAcc ids) 28) then s.stickyBus Reg.FABL_BUS_SAT Reg.FABL_IRQ_BUS_SAT b else s
      let s := s.pushHist (4096 + b) own
      let (p, s) := s.partnerPartial b
      let sum := ((s.history (4096 + b)).getD 4 0).toInt + p.toInt
      let y := roundHalfEven (sum * dip.1) dip.2
      (satWord y, if overflows 32 y then s.stickyBus Reg.FABL_BUS_SAT Reg.FABL_IRQ_BUS_SAT b else s)
    else
      let y := roundHalfEven (s.busAcc ids * dip.1) (2 ^ 28 * dip.2)
      (satWord y, if overflows 32 y then s.stickyBus Reg.FABL_BUS_SAT Reg.FABL_IRQ_BUS_SAT b else s)
  (s.pushHist (0x800 + b) x).modDp fun d => { d with bus := tput 0 d.bus b x }

/-- Show where the offsets of a bus are clamped (R229). -/
def State.showShort (act : List Nat) (b : Nat) (s : State) : State :=
  let short := act.any (fun id => xpBus id == b && s.wantOffset id < 0)
  let s := s.setMapBit Reg.FABL_SHORT_NOW b short
  if short then s.stickyBus Reg.FABL_SHORT Reg.FABL_IRQ_ALIGN_SHORT b else s

/-- The work of the fabric in the present period: every bus of tier 1, then 2, then 3 (R217); cost and tier reports. -/
def State.runFabric (s : State) (unwritten : List Nat) : State :=
  let s := s.takeTags
  let act := s.xps
  let buses := distinct (act.map xpBus ++ s.cascBuses ++ s.dp.bus.map (·.1))
  let tierBuses := fun t => buses.filter (fun b => busTier act b == t)
  let s := forEach (State.writeBus unwritten act) (tierBuses 1 ++ tierBuses 2 ++ tierBuses 3) s
  let s := forEach (State.showShort act) buses s
  let fed := distinct (act.map xpBus)
  let nTier := fun t => (fed.filter (fun b => busTier act b == t)).length
  let s := s.put0 Reg.FABB_COST_NOW s.fabCost
  let s := s.keepMax Reg.FABB_COST_MAX 0 s.fabCost
  let ramp := act.filter (fun id => s.xpRamping id || s.inTagRamp id)
  let s := s.put0 Reg.FABB_XP_RAMP ramp.length
  let s := s.put0 Reg.FABB_XP_STATIC (act.length - ramp.length)
  let s := s.put0 Reg.FABX_TAGRAMP_CNT (act.filter s.inTagRamp).length
  let s := s.put0 Reg.FABB_TIERS (tiersUsed act)
  let s := s.put0 Reg.FABB_TIER2_BUSES (nTier 2)
  let s := s.put0 Reg.FABB_TIER3_BUSES (nTier 3)
  s.put0 Reg.FABB_TIER1_BUSES (nTier 1)

/-- The buses whose BUS_CASC is 1. -/
def State.cascWords (s : State) : List Nat :=
  distinct (((s.keysIn 0x400000 0x402000).map (fun k => (k - 0x400000) / 8)).filter fun b => s.inUse (busCasc b) % 2 == 1)

/-- Show the budget, the reservation, the period of the present rate mode and divider, and the number of cascade buses. -/
def State.showBudget (s : State) : State :=
  let s := s.put0 Reg.FABB_RESERVED (s.reservation s.stagedMoves)
  let s := s.put0 Reg.FABB_PERIOD_CC (shortestPeriod s.rate s.clk.div)
  let s := s.put0 Reg.FAB_CASC_BUSES s.cascWords.length
  s.put0 Reg.FABB_BUDGET (if s.mode.running then s.budgetAt s.rate s.clk.div (tiersUsed s.xps) else 0)

/-- Show the active strips and buses of the present rate mode (R66, R81). DEDUCED (log entry 94). -/
def State.showRate (s : State) : State :=
  let s := s.put0 Reg.FAB_IN_ACTIVE (inStrips s.rate)
  ((s.put0 Reg.FAB_BUS_ACTIVE (numBuses s.rate)).put0 Reg.PATCH_STRIPS (inStrips s.rate)).showBudget

/-! ## Lane retirement (R226) and queries -/

/-- Shed buses from the highest index downward until the static cost fits, passing over those that would free nothing. -/
def State.shedBuses : Nat → State → State
  | 0, s => s
  | b + 1, s =>
    let live := s.xps.filter (fun id => !s.mapBit Reg.FAB_BUS_SHED (xpBus id))
    let casc := s.cascBuses.filter (fun c => !s.mapBit Reg.FAB_BUS_SHED c)
    let cost := live.length + 2 * casc.length
    let frees := live.any (fun id => xpBus id == b) || casc.contains b
    if cost ≤ s.budgetAt s.rate s.clk.div (tiersUsed s.xps) then s
    else if frees then
      let s := (s.setMapBit Reg.FAB_BUS_SHED b true).count Reg.FAB_BUS_SHED_CNT
      State.shedBuses b ((s.irq Reg.FAB_IRQ_BUS_SHED).put0 Reg.MODE_DEGRADED 1)
    else State.shedBuses b s

/-- The first boundary after a summing lane's retirement, where R exceeds B: crosspoint ramps end at their targets, and
buses are shed until the static cost fits (R226). -/
def State.fitBudget (s : State) : State :=
  if s.reservation s.stagedMoves ≤ s.budgetAt s.rate s.clk.div (tiersUsed s.xps) then s
  else
    let s := s.modScn fun x => { x with runs := x.runs.filter (fun r => !(r.target.kind == 1 && rampRule r.rule)) }
    let s := s.modDp fun d => { d with tagRuns := [] }
    s.shedBuses 1024

/-- Snapshot of a crosspoint (page 0x042). -/
def State.snapXp (s : State) (id : Nat) : State :=
  let s := s.putB Reg.FABX_ACTIVE 0 (s.xpActive id)
  let s := s.putB Reg.FABX_RAMPING 0 (s.xpRamping id)
  let s := s.putB Reg.FABX_TAG_RAMP 0 (s.inTagRamp id)
  let s := s.putB Reg.FABX_SHORT 0 (s.xpActive id && s.wantOffset id < 0)
  let s := s.put0 Reg.FABX_OFFSET (s.offset id)
  let s := s.put0 Reg.FABX_GAIN_TARGET (s.word (xpKey id)).toNat
  let s := s.put0 Reg.FABX_GAIN_NOW (toGain16 (s.gainNow (xpKey id)))
  let left := ((s.runsOn (xpKey id)).map (fun r => runEnd r - s.idx)).foldl max 0
  let tag := match s.tagRun id with
    | some t => if t.ramp ∧ t.last < s.idx then t.last + 33 - s.idx else 0
    | none => 0
  s.put0 Reg.FABX_RAMP_LEFT (min 8191 (max left tag))

/-- Snapshot of a fabric source (page 0x044). -/
def State.snapSrc (s : State) (src : Nat) : State :=
  let act := s.xps
  let isBus := decide (0x800 ≤ src ∧ src < 0xC00) && srcActiveAt s.rate src
  let s := s.put0 Reg.FABL_TIER (if isBus then busTier act (src - 0x800) else 0)
  let s := s.put0 Reg.FABL_TAG (s.tagOf src)
  s.put0 Reg.FABL_FAN_OUT ((act.filter (fun id => xpSrc id == src)).length)

end Sys2Proof.Machine
end

