-- ==== Sys2Proof/Machine/GiveUp.lean ====
section
/-! DEFINITION. Giving up control on a fence (R478). -/

namespace Sys2Proof.Machine

/-- Set a bit of STBY_FAULT, with its interrupt (R487). -/
def State.stbyFault (s : State) (f : Fld) : State := (s.put0 f 1).irq Reg.STBY_IRQ_INTERLOCK

/-- The partner is ready to take over: IN_STEP by its last STATUS, HB_IN present, KZL1 UP (R478). -/
def State.partnerReady (s : State) : Bool :=
  s.stby.statusAt.isSome && s.stby.pSync == 4 && s.getB Reg.STBY_HB_IN_OK && s.getB Reg.KZL_UP 1

/-- This engine holds the active role of a pair and has not begun to give it up. -/
def State.holdsRole (s : State) : Bool := s.getB Reg.STBY_PAIR && s.getB Reg.STBY_ACTIVE && s.stby.giveup.isNone

/-- A give-up begins: STATUS with GIVEUP goes out (R479). `cause` is the bit of GIVEUP_MASK, 0 for a planned give-up (R560).
DEDUCED (log entry 55). -/
def State.giveUpStart (s : State) (cause : Nat) : State :=
  let now := s.clk.now
  let s := s.put0 Reg.STBY_GIVEUP_CAUSE cause
  let seq := s.get Reg.KZL_TX_SEQ 1 + (s.link 1).queue.length
  ({ s with stby := { s.stby with giveup := some (cause, now), giveSeq := seq % 2 ^ 32 } }).sendStatus

/-- An event of R478: the engine gives up, or keeps the role DEGRADED where the partner is not ready (R58). -/
def State.giveUpFor (s : State) (k : Nat) : State :=
  if !s.holdsRole || !bit (s.get Reg.STBY_GIVEUP_MASK) k then s
  else if s.partnerReady then s.giveUpStart (2 ^ k)
  else
    let s := (s.stbyFault Reg.STBY_GIVEUP_BLOCKED).irq Reg.STBY_IRQ_GIVEUP_BLOCKED
    (s.put0 Reg.MODE_DEGRADED 1).irq Reg.MODE_IRQ_DEGRADED

/-- Strip engines fenced, with strips that have not moved yet. -/
def State.homeless (s : State) : Nat :=
  (s.flt.resched.filter fun u => 0x10 ≤ u.page && u.page ≤ 0x31 &&
    s.get Reg.SE_IN_STRIPS (u.page - 0x10) + s.get Reg.SE_OUT_STRIPS (u.page - 0x10) != 0).length

/-- Spare engines that stand idle. -/
def State.idleSpares (s : State) : Nat :=
  ([32, 33].filter fun e =>
    s.getB Hdr.SPARE (0x10 + e) && !s.getB Hdr.FENCED (0x10 + e) && !s.getB Hdr.RETIRED (0x10 + e)).length

/-- Show the idle spares (R641). -/
def State.showSpares (s : State) : State :=
  if s.get Reg.FLTS_SPARES_LEFT = s.idleSpares then s else s.put0 Reg.FLTS_SPARES_LEFT s.idleSpares

/-- The event of R478 that a unit's fence is. -/
def State.giveUpOn (s : State) (u : UnitId) : State :=
  if 0x10 ≤ u.page ∧ u.page ≤ 0x31 then (if s.idleSpares < s.homeless then s.giveUpFor 0 else s)
  else if u.page = 0xC0 ∨ u.page = 0xC1 then s.giveUpFor 2
  else if 0x90 ≤ u.page ∧ u.page ≤ 0x96 then s.giveUpFor 3
  else if u.page = 0x60 ∨ (u.page = 0x40 ∧ u.index = 0) then s.giveUpFor 4
  else if u.page = 0x80 ∨ u.page = 0x88 then s.giveUpFor 5
  else s

/-- Fence a unit, with retirement or without, and give up control where R478 says so. -/
def State.fenceOut (s : State) (u : UnitId) (retire : Bool) : State := ((s.fence u retire).showSpares).giveUpOn u

end Sys2Proof.Machine
end

