-- ==== Sys2Proof/Machine/Express.lean ====
section
/-! DEFINITION. Egress buffers (R298, R420, R562) and the express lane (R236 to R238, R309, R310). -/

namespace Sys2Proof.Machine

/-! ## Egress buffer writes -/

/-- The multiplier of the output ramps at an egress buffer write (R81, R561, R562): destinations 0x000 to 0xC3F. -/
def State.egressMul (s : State) (d : Nat) : Nat × Nat :=
  if 0xC40 ≤ d then (1, 1) else mulFrac (s.mode.outGain, 64) (s.mode.holdGain, 64)

/-- Is a destination slot 0 of a TDM port that is not the master of its clocks? -/
def State.slaveSlot0 (s : State) (d : Nat) : Option Nat := match txPortOf d with
  | some (p, 0) => if 36 ≤ p && !s.tdmMaster (p - 36) then some (p - 36) else none
  | _ => none

/-- Write a sample to the egress buffer of a destination: two frames; a third discards the oldest, which a slave TDM port counts
(R420). -/
def State.pushEgress (s : State) (d : Nat) (x : Word) : State :=
  let m := s.egressMul d
  let q := tget [] s.dp.egress d
  let full := 2 ≤ q.length
  let s := match s.slaveSlot0 d with
    | some t => if full then s.count Reg.TDM_TX_SLIP t else s
    | none => s
  let y := scaleWord x m.1 m.2
  s.modDp fun k => { k with egress := tput [] k.egress d ((q ++ [y]).drop (if full then 1 else 0)), egrNow := tput 0 k.egrNow d y }

/-! ## Express routes -/

/-- Source and destination of a route in use. -/
def State.expSrc (s : State) (r : Nat) : Nat := bits (s.inUse (expWord r 0)) 11 0
def State.expDst (s : State) (r : Nat) : Nat := bits (s.inUse (expWord r 0)) 23 12

/-- The routes that are on. -/
def State.routes (s : State) : List Nat :=
  (distinct ((s.keysIn 0x404000 0x405000 ++
    (s.scn.runs.filter (fun r => r.target.kind == 0 && 0x404000 ≤ r.target.addr && r.target.addr < 0x405000)).map (·.target.addr)).map
      (fun k => (k - 0x404000) / 16))).filter (fun r => s.expSrc r != 0xFFF)

/-- May a route pass audio (R238)? -/
def State.expOpen (s : State) (r : Nat) : Bool := s.srcClass (s.expSrc r) == 1 && s.destClock (s.expDst r) == .same

/-- A route is silent under R238: its bit of FAB_EXP_DERR, and the ramp that follows. -/
def State.expShut (s : State) (r : Nat) : State :=
  let s := if s.mapBit Reg.FABE_EXP_DERR r then s else (s.setMapBit Reg.FABE_EXP_DERR r true).irq Reg.FABE_IRQ_EXP_DERR
  s.modDp fun d => { d with exp := tput none d.exp r (some 0) }

/-- A sample landed in an ingress buffer passes a route (R237, R309): gain, ramps and mute in one product, rounded and saturated
as in R216. DEDUCED (log entry 63). -/
def State.expPass (x : Word) (r : Nat) (s : State) : State :=
  if !s.expOpen r then s.expShut r
  else
    let g := gainLin (s.gainNow (expWord r 4))
    let mute := oneMinus (s.switchNow (expWord r 8))
    let dip := s.dips (fun k => k == expWord r 0 || k == expWord r 4 || k == expWord r 8)
    let k := tget none s.dp.exp r
    let back := match k with
      | some n => riseMul n 32
      | none => (1, 1)
    let m := mulFrac (mulFrac g mute) (mulFrac dip back)
    let y := satWord (roundShift ((fabCoef m.1 m.2 : Int) * x.toInt) 28)
    let next := match k with
      | some n => if 31 ≤ n then none else some (n + 1)
      | none => none
    let at' := s.clk.now + 38 * s.clk.div
    s.modDp fun d => { d with exp := tput none d.exp r next, expFly := d.expFly ++ [(at', s.expDst r, y)] }

/-- Every route of a source takes a sample as it lands (R237). DEDUCED (log entry 63). -/
def State.express (s : State) (src : Nat) (x : Word) : State :=
  if !s.mode.running then s else forEach (State.expPass x) (s.routes.filter (fun r => s.expSrc r == src)) s

/-- The express samples that have reached their egress buffers by now. -/
def State.expressDue (s : State) : State :=
  let due := s.dp.expFly.filter (fun f => f.1 ≤ s.clk.now)
  let s := s.modDp fun d => { d with expFly := d.expFly.filter (fun f => s.clk.now < f.1) }
  forEach (fun f s => s.pushEgress f.2.1 f.2.2) due s

/-- A destination in the present period receives silence from a route that may not pass (R238). -/
def State.expSilence (s : State) : State :=
  let s := forEach (fun r s => if s.expOpen r then s else (s.expShut r).pushEgress (s.expDst r) 0) s.routes s
  s.put0 Reg.FABE_EXP_ACTIVE s.routes.length

end Sys2Proof.Machine
end

