-- ==== Sys2Proof/Machine/Rconv.lean ====
section
/-! DEFINITION. The Rate Converter's lanes (R73 to R80) and the landing of samples in the ingress buffers (R296, R297, R420). -/

namespace Sys2Proof.Machine

/-- State of a conversion lane. -/
def State.lane (s : State) (m : Nat) : Lane := tget {} s.dp.lanes m
def State.setLane (s : State) (m : Nat) (f : Lane → Lane) : State := s.modDp fun d => { d with lanes := tmod {} d.lanes m f }

/-- Fields of a lane entry (R73). -/
def laneEn (e : Nat) : Bool := bit e 12
def laneSrc (e : Nat) : Nat := bits e 11 0
def laneFilt (e : Nat) : Nat := bits e 13 13
/-- Group delay of a filter set (R74). -/
def filtDelay (filt : Nat) : Nat := if filt = 1 then 48 else 16

/-- Lanes that may do something: a word or a state is listed. -/
def State.listedLanes (s : State) : List Nat :=
  distinct ((s.keysIn 0x102000 0x103000).map (fun k => (k - 0x102000) / 4) ++ s.dp.lanes.map (·.1))

/-- A lane changes state (R75, R77): maps, counts and interrupts of pages 0x060 to 0x063. -/
def State.laneTo (s : State) (m st : Nat) : State :=
  let was := (s.lane m).state
  let s := s.setLane m fun l => { l with state := st, ramp := 0, acqAt := s.clk.now }
  let s := s.setMapBit Reg.RCONV_LOCKED m (st == 2)
  let s := if was = 2 then s.put0 Reg.RCONV_LOCKED_CNT (s.get Reg.RCONV_LOCKED_CNT - 1) else s
  let s := if was = 1 then s.put0 Reg.RCONV_ACQ_CNT (s.get Reg.RCONV_ACQ_CNT - 1) else s
  if st = 2 then (s.put0 Reg.RCONV_LOCKED_CNT (s.get Reg.RCONV_LOCKED_CNT + 1)).irq Reg.RCONV_IRQ_LOCK
  else if st = 1 then s.put0 Reg.RCONV_ACQ_CNT (s.get Reg.RCONV_ACQ_CNT + 1)
  else if st = 3 then (s.setMapBit Reg.RCONV_UNLOCK m true).irq Reg.RCONV_IRQ_UNLOCK
  else if st = 4 then (s.setMapBit Reg.RCONV_RANGE m true).irq Reg.RCONV_IRQ_RANGE
  else s

/-- Exact ratio of a synchronous source × 2^28, to nearest (R76). DEDUCED (log entry 81). -/
def exactRatio (rate hz : Nat) : Nat := (roundHalfEven (rate * 2 ^ 28) hz).toNat

/-- A lane's measured ratio and rate (R76, R80). DEDUCED (log entry 81). -/
def State.laneRatio (s : State) (m ratio rate : Nat) : State :=
  s.setLane m fun l => { l with ratio := ratio, rate := rate, backK := 0, keep := false }

/-- A decision on a lane's state (R75): `v` is the measured rate on entering or leaving RANGE, and whether input is present on
entering UNLOCK. -/
def State.laneSt (s : State) (m st v : Nat) : State :=
  (s.laneTo m st).setLane m fun l =>
    if st = 1 then { l with fill := 0, keep := false, rate := v }
    else if st = 3 then { l with input := v != 0 }
    else if st = 4 then { l with rate := v }
    else { l with backK := 0 }

/-- A lane locks on a ratio. -/
def State.laneLock (s : State) (m ratio rate : Nat) : State :=
  let s := s.measured 0 m ratio rate fun s => s.laneRatio m ratio rate
  s.measured 1 m 2 0 fun s => s.laneSt m 2 0

/-- LANE_LOCK (R76): a lane in ACQUIRE meets its lock criterion. A synchronous source needs its filter history full, and its
ratio is exact; an asynchronous source needs 20 ms of ACQUIRE and brings its measured ratio, or a kept ratio and a full
history (R80). DESIGN CHOICE (log entry 5). DEDUCED (log entry 81). -/
def execLaneLock (m ratio rate : Nat) (s : State) : Out :=
  let l := s.lane m
  let cls := s.srcClass (laneSrc l.entry)
  let full := filtDelay (laneFilt l.entry) ≤ l.fill
  if l.state ≠ 1 then ok s
  else if cls = 1 ∨ cls = 2 then
    if full then ok (s.laneLock m (exactRatio (s.srcRate (laneSrc l.entry)) s.hz) (s.srcRate (laneSrc l.entry))) else ok s
  else if cls = 3 then
    if l.keep && full then ok (s.laneLock m l.ratio l.rate)
    else if s.clk.now - l.acqAt < 20 * msEdges then ok s
    else ok (s.laneLock m ratio rate)
  else ok s

/-- LANE_UNLOCK (R75): a locked lane has seen no input for 3 nominal periods, or a ratio step of more than 1,000 ppm. -/
def execLaneUnlock (m : Nat) (input : Bool) (s : State) : Out :=
  ok (if (s.lane m).state = 2 then s.measured 1 m 3 input.toNat fun s => s.laneSt m 3 input.toNat else s)

/-- LANE_UNLOCK_RAMP_END (R75): with the 64-sample ramp of UNLOCK over, ACQUIRE is entered once input is present. -/
def execLaneUnlockRampEnd (m : Nat) (s : State) : Out :=
  let l := s.lane m
  if l.state = 3 ∧ 64 ≤ l.ramp ∧ l.input then ok ((s.laneTo m 1).setLane m fun l => { l with fill := 0, keep := false }) else ok s

/-- RANGE_ENTER (R75): an enabled lane measures its input outside 31.5 to 194.0 kHz. -/
def execRangeEnter (m rate : Nat) (s : State) : Out :=
  let l := s.lane m
  ok (if laneEn l.entry ∧ l.state ≠ 0 ∧ l.state ≠ 4 ∧ (rate < 31500 ∨ 194000 < rate) then
      s.measured 1 m 4 rate fun s => s.laneSt m 4 rate
    else s)

/-- RANGE_EXIT (R75). -/
def execRangeExit (m rate : Nat) (s : State) : Out :=
  ok (if (s.lane m).state = 4 ∧ 31500 ≤ rate ∧ rate ≤ 194000 then s.measured 1 m 1 rate fun s => s.laneSt m 1 rate else s)

/-- A lane takes the entry in use where it has changed (R75, R79, R80). -/
def State.takeEntry (m : Nat) (s : State) : State :=
  let l := s.lane m
  let e := s.inUse (laneWord m)
  let dip := (s.runsOn (laneWord m)).find? (fun r => r.rule == rHoldMute && r.first + r.dur == s.idx)
  let s := match dip with
    | some r => s.setLane m fun l => { l with back := r.dur, backK := 0 }
    | none => s
  if e = l.entry then
    (match dip with
     | some _ => if laneEn e then (s.laneTo m 1).setLane m fun l => { l with fill := 0, keep := true } else s
     | none => s)
  else
    let s := s.setLane m fun l => { l with entry := e, fill := 0 }
    if !laneEn e then (s.laneTo m 0).setLane m fun l => { l with back := 0 }
    else if laneEn l.entry && laneSrc l.entry == laneSrc e then
      (s.laneTo m 1).setLane m fun l => { l with keep := true, hist := 0 }
    else (s.laneTo m 1).setLane m fun l => { l with keep := false, hist := 0, ratio := 0, rate := 0, input := false }

/-- Feed a sample to a lane's filter history (R74: the arithmetic is not fixed). -/
def State.feedLane (x : Word) (m : Nat) (s : State) : State :=
  s.setLane m fun l => { l with hist := Config.laneNext (laneFilt l.entry) l.ratio l.hist x, fill := l.fill + 1, input := true }

/-- A lane's work in the present period (R75): its output sample and its ramps. -/
def State.runLane (m : Nat) (s : State) : State :=
  let s := s.takeEntry m
  let l := s.lane m
  let s := if l.state ≠ 0 ∧ s.srcClass (laneSrc l.entry) = 1 then s.feedLane (tget {} s.dp.src (laneSrc l.entry)).cur m else s
  let l := s.lane m
  let x := Config.laneOut (laneFilt l.entry) l.ratio l.hist
  let y : Word :=
    if l.state = 2 then (if 64 ≤ l.ramp then x else let m := riseMul l.ramp 64; scaleWord x m.1 m.2)
    else if l.state = 3 ∧ l.ramp < 64 then (let m := fallMul l.ramp 64; scaleWord x m.1 m.2)
    else 0
  s.setLane m fun l =>
    let done := l.state == 2 && decide (l.back ≤ l.backK + 1)
    { l with out := y, ramp := min 64 (l.ramp + 1), back := if done then 0 else l.back,
             backK := if done then 0 else if l.state = 2 then l.backK + 1 else l.backK }

/-! ## Landing (R296, R297) -/

/-- The exact position, from device reset, of the next boundary; `none` before the first is placed. -/
def State.nextBoundary (s : State) : Nat := s.clk.cclkFloor (s.clk.pos + periodEdges s.rate)

/-- A sample lands: it passes the express routes of its source, waits in the ingress buffer for its boundary, and feeds the lanes
that read an asynchronous or rate-related source. -/
def State.land (s : State) (src : Nat) (x : Word) : State :=
  let s := s.express src x
  let s := s.modDp fun d =>
    { d with src := tmod {} d.src src fun i =>
      { i with queue := (i.queue ++ [(s.clk.now, x)]).drop (if s.mode.running then 0 else i.queue.length - 3) } }
  let cls := s.srcClass src
  let lanes := s.listedLanes.filter (fun m => let l := s.lane m; laneEn l.entry && laneSrc l.entry == src)
  let s := if cls = 1 then s else forEach (State.feedLane x) lanes s
  forEach (fun m s => if (s.lane m).state = 3 ∧ 64 ≤ (s.lane m).ramp then
      (s.laneTo m 1).setLane m fun l => { l with fill := 0, keep := false, input := true } else s) lanes s

/-- Is a source read at the internal rate, by a DIRECT patch or a lane, so that R420 counts its slips? -/
def State.countSlip (s : State) (src : Nat) : State := match rxPortOf src with
  | some (p, 0) => s.countPortFld p Reg.AESRX_SLIP Reg.MADI_SLIP Reg.TDM_RX_SLIP
  | _ => s

/-- Latch one source at a boundary (R297, R420): the newest sample landed at least 64 cc before it; with two new frames the
older is discarded, with none the previous sample repeats; either counts a slip. -/
def State.latchOne (edge : Nat) (src : Nat) (s : State) : State :=
  let i := tget {} s.dp.src src
  let due := i.queue.filter (fun q => q.1 + 64 * s.clk.div ≤ edge)
  let rest := i.queue.filter (fun q => edge < q.1 + 64 * s.clk.div)
  let cls := s.srcClass src
  let cur := match due.getLast? with
    | some q => q.2
    | none => i.cur
  let slip := cls == 1 && ((i.had && due.isEmpty) || 2 ≤ due.length)
  let s := if slip then s.countSlip src else s
  s.modDp fun d =>
    { d with src := tput {} d.src src { queue := rest, cur := if cls = 0 then 0 else cur, had := i.had || !due.isEmpty } }

/-- Latch every source at a boundary. -/
def State.latchAll (s : State) (edge : Nat) : State := forEach (State.latchOne edge) (s.dp.src.map (·.1)) s

/-- Snapshot of a lane (page 0x060). -/
def State.snapLane (s : State) (m : Nat) : State :=
  let l := s.lane m
  let e := s.inUse (laneWord m)
  let s := s.put0 Reg.RCONV_SRC (laneSrc e)
  let s := s.put0 Reg.RCONV_CLASS (s.srcClass (laneSrc e))
  let s := s.put0 Reg.RCONV_DELAY (if laneEn e then filtDelay (laneFilt e) else 0)
  let s := s.put0 Reg.RCONV_STATE l.state
  let s := s.put0 Reg.RCONV_QRATIO l.ratio
  s.put0 Reg.RCONV_QRATE l.rate

/-- Snapshot of a source (page 0x064). -/
def State.snapPatch (s : State) (src : Nat) : State :=
  (s.put0 Reg.PATCH_RATE (s.srcRate src)).put0 Reg.PATCH_CLASS (s.srcClass src)

end Sys2Proof.Machine
end

