-- ==== Sys2Proof/Machine/Strip.lean ====
section
/-! DEFINITION. The vendor strip (R86 to R139): one period of an input strip and of an output strip. The samples that the spec
leaves to the microcode (R671) come from the opaque functions of Config. -/

namespace Sys2Proof.Machine

/-- State of an input strip and of an output strip. -/
def State.inStrip (s : State) (n : Nat) : Strip := tget {} s.dp.ins n
def State.outStrip (s : State) (n : Nat) : Strip := tget {} s.dp.outs n

/-- Change a strip's state. -/
def State.setStrip (s : State) (out : Bool) (n : Nat) (f : Strip → Strip) : State :=
  s.modDp fun d =>
    if out then { d with outs := tmod {} d.outs n (fun t => { f t with live := true }) }
    else { d with ins := tmod {} d.ins n (fun t => { f t with live := true }) }

/-! ## Reports (R131, R132) -/

/-- The engine that runs a strip. -/
def State.stripEngine (s : State) (out : Bool) (n : Nat) : Nat := if out then s.get Reg.OUTR_SE n else s.get Reg.INR_SE n

/-- Set a bit of a strip's RC report word: its event bit and the engine's strip-event interrupt follow (R131, R132). -/
def State.stripEvent (s : State) (out : Bool) (n : Nat) (f : Fld) : State :=
  let s := s.put f n 1
  let s := if out then s.setMapBit Reg.RPT_EVT_OUT n true else s.setMapBit Reg.RPT_EVT_IN n true
  s.irq Reg.SE_IRQ_STRIP_EVT (s.stripEngine out n)

/-- Set a bit of a strip's report where a condition holds. -/
def State.stripEventIf (s : State) (c : Bool) (out : Bool) (n : Nat) (f : Fld) : State :=
  if c then s.stripEvent out n f else s

/-! ## Blocks of a strip -/

/-- A strip at work: its state, the state of the machine, and what its report will show. -/
structure Work where
  st  : Strip
  m   : State
  /-- a move to memory or an insert send saturated -/
  sat : Bool := false
  /-- an enabled section was clamped (R92) -/
  clamp : Bool := false

/-- A state cell of a block. 0 stands for a block that is disabled and has no history. DESIGN CHOICE (log entry 91). -/
def Work.cell (w : Work) (k : Nat) : Nat := tget 0 w.st.cells k
def Work.setCell (w : Work) (k v : Nat) : Work := { w with st := { w.st with cells := tput 0 w.st.cells k v } }

/-- The state of an enabled block; one that was disabled starts from a history the spec leaves open. DESIGN CHOICE (log entry 91). -/
def Work.seed (w : Work) (k : Nat) : Work :=
  if w.cell k ≠ 0 then w else let (v, m) := w.m.draw; ({ w with m := m }).setCell k (v + 1)

/-- Word A with its frequency clamped to 0.45 Fs (R92). -/
def clampA (a hz : Nat) : Nat := withBits a 23 0 (min (bits a 23 0) (45 * hz))

/-- One copy of a filter section (R100, R101): a disabled copy passes through. -/
def Work.secCopy (w : Work) (k a b : Nat) (x : Word) : Word × Work :=
  let hz := w.m.hz
  if !bit a 31 then (x, w.setCell k 0)
  else
    let w := w.seed k
    let a' := clampA a hz
    let st := w.cell k - 1
    (Config.sectionOut a' b hz st x, { w.setCell k (Config.sectionNext a' b hz st x + 1) with clamp := w.clamp || a' != a })

/-- A filter section, as a pair while a crossfade runs on it (R101). DESIGN CHOICE (log entry 51). -/
def Work.section (w : Work) (base off : Nat) (x : Word) : Word × Work :=
  let ka := base + off
  let kb := ka + 4
  match w.m.blockPair [ka, kb] with
  | none => w.secCopy off (w.m.inUse ka) (w.m.inUse kb) x
  | some (k, n) =>
    let w := if k = 0 then w.setCell (off + 512) (w.cell off) else w
    let (old, w) := w.secCopy (off + 512) (w.m.oldInUse ka) (w.m.oldInUse kb) x
    let (new, w) := w.secCopy off (w.m.inUse ka) (w.m.inUse kb) x
    (xfadeWord old new k n, w)

/-- A run of `n` filter sections, 8 bytes apart. -/
def Work.sections (w : Work) (base off : Nat) : Nat → Word → Word × Work
  | 0, x => (x, w)
  | n + 1, x =>
    let (y, w) := w.section base off x
    w.sections base (off + 8) n y

/-- One copy of a dynamics block (R104, R105): a disabled copy passes the audio through. Answers the audio and the signal that
the block's output detector would follow. -/
def Work.dynCopy (w : Work) (k : Nat) (words : List Nat) (key det audio : Word) : (Word × Word) × Work :=
  if words.headD 0 % 2 = 0 then ((audio, det), w.setCell k 0)
  else
    let w := w.seed k
    let hz := w.m.hz
    let st := w.cell k - 1
    ((Config.dynOut words hz st key audio, Config.dynOut words hz st key det),
     w.setCell k (Config.dynNext words hz st key audio + 1))

/-- A dynamics block, as a pair while a crossfade runs on one of its words (R107). DESIGN CHOICE (log entry 51). -/
def Work.dyn (w : Work) (base : Nat) (offs : List Nat) (key det audio : Word) : (Word × Word) × Work :=
  let keys := offs.map (base + ·)
  let cell := offs.headD 0
  match w.m.blockPair keys with
  | none => w.dynCopy cell (keys.map w.m.inUse) key det audio
  | some (k, n) =>
    let w := if k = 0 then w.setCell (cell + 512) (w.cell cell) else w
    let ((a, p), w) := w.dynCopy (cell + 512) (keys.map w.m.oldInUse) key det audio
    let ((b, q), w) := w.dynCopy cell (keys.map w.m.inUse) key det audio
    ((xfadeWord a b k n, xfadeWord p q k n), w)

/-- Attenuation of a dynamics block now, in 0.01 dB. -/
def Work.gr (w : Work) (base : Nat) (offs : List Nat) : Nat :=
  let words := offs.map (fun o => w.m.inUse (base + o))
  if words.headD 0 % 2 = 0 then 0 else Config.dynGr words (w.cell (offs.headD 0) - 1)

/-- A gain stage (R668) with its saturation noted. -/
def Work.gain (w : Work) (g : Nat × Nat) (neg : Bool) (x : Word) : Word × Work :=
  (gainStage x g.1 g.2 neg, { w with sat := w.sat || gainStageSat x g.1 g.2 neg })

/-! ## Delay lines (R111 to R113) -/

/-- Ring of a strip's delay line: DRAM offset and samples (R111). -/
def delayRing (out : Bool) (r n : Nat) : Nat × Nat :=
  let len := (if out then 32768 else 131072) * 2 ^ r
  ((if out then 0x40000000 else 0) + n * len * 4, len)

/-- Write a sample of a delay line at the present period's position. -/
def State.ringWrite (s : State) (out : Bool) (n : Nat) (x : Word) : State :=
  let (base, len) := delayRing out s.rate n
  s.dramWrite (base + s.idx % len * 4) (leBytes 4 x.toNat)

/-- Read a delay line `d` samples back. -/
def State.ringRead (s : State) (out : Bool) (n d : Nat) : Word :=
  let (base, len) := delayRing out s.rate n
  BitVec.ofNat 32 (ofLeBytes (s.dramRead (base + (s.idx + len - d % len) % len * 4) 4))

/-- The delay line of a strip: write the input, read the tap, as a pair under a crossfade; a late or uncorrectable fetch uses
the previous delayed sample (R112, R113). -/
def Work.delay (w : Work) (out : Bool) (n key : Nat) (late : Bool) (x : Word) : Word × Work :=
  let m := w.m.ringWrite out n x
  let tap := fun v => let d := tickSamples v m.hz; if d = 0 then x else m.ringRead out n d
  let w := { w with m := m, st := { w.st with dlyIn := x } }
  if late && (m.inUse key != 0) then
    (w.st.dlyOut, { w with m := m.stripEvent out n (if out then Reg.OUTR_DLY_MISS else Reg.INR_DLY_MISS) })
  else
    let y := match m.pairOn key with
      | some r => xfadeWord (tap (m.oldInUse key)) (tap (m.inUse key)) (m.idx - r.first) r.dur
      | none => tap (m.inUse key)
    (y, { w with st := { w.st with dlyOut := y } })

/-! ## Inserts (R108 to R110) -/

/-- Does a Bridge channel run dry now (R110)? -/
def State.bridgeDry (s : State) (c : Nat) : Bool :=
  (tget {} s.bc (c / 32)).dry || !bit (s.get Reg.BC_CHAN_LOADED (c / 32)) (c % 32)

/-- The insert of an input strip where it is active at point `p` (R98, R108, R110): the signal is sent, and the strip continues
with the return of the previous period. -/
def Work.insert (w : Work) (n p : Nat) (x : Word) : Word × Work :=
  let v := w.m.inUse (inWord n 0xB0)
  if v % 2 = 0 ∨ bits v 2 1 ≠ p then (x, w)
  else
    let c := bits v 13 8
    let (snd, sat) := egress24 x
    let dry := w.m.bridgeDry c
    let back := if dry then w.st.send else tget 0 w.m.dp.rets c
    let m := w.m.stripEventIf dry false n Reg.INR_INS_DRY
    (ingress24 back, { w with m := m, sat := w.sat || sat, st := { w.st with send := snd } })

/-! ## Automix gain of a member (R128, R130) -/

/-- The gain between two updates: linear from the old to the new value over the update interval. -/
def amBetween (t : Strip) : Int × Nat :=
  if t.amN ≤ t.amK then t.amNew
  else
    let (p, pd) := t.amOld
    let (q, qd) := t.amNew
    (p * qd * ((t.amN - t.amK : Nat) : Int) + q * pd * (t.amK : Int), pd * qd * t.amN)

/-- The Automix gain at the present sample (R130). -/
def State.amGain (s : State) (n : Nat) (t : Strip) : Int × Nat :=
  let w := (s.word (inWord n 0xC8)).toNat
  let goal := if w % 2 = 1 then amBetween t else (0, 1)
  match (s.runsOn (inWord n 0xC8)).find? s.ramping with
  | some r =>
    let (a, ad) := gainDb r.start
    let (b, bd) := goal
    let k : Int := ((s.idx - r.first + 1 : Nat) : Int)
    (a * bd * r.dur + (b * ad - a * bd) * k, ad * bd * r.dur)
  | none => goal

/-! ## Dips and fades (R97, R79, R135) -/

/-- The multiplier of a lane's move on the strips it feeds (R79): the dip to silence, silence until LOCKED, the return. -/
def State.laneMul (s : State) (m : Nat) : Nat × Nat :=
  let l := s.lane m
  let down := (s.runsOn (laneWord m)).filter (fun r => r.rule == rHoldMute && decide (s.idx ≤ r.first + r.dur))
  let d := down.foldl (fun a r => mulFrac a (s.dipOf r)) (1, 1)
  if l.back = 0 then d else if l.state ≠ 2 then (0, 1) else mulFrac d (riseMul l.backK l.back)

/-- The dips of R97 on an input strip's result. -/
def State.inDip (s : State) (n : Nat) : Nat × Nat :=
  let d := s.dips (fun k => (inWord n 0 ≤ k && k < inWord n 512 && k != inWord n 0xBC) || k == patchWord n)
  match s.laneOf n with
  | some m => mulFrac d (s.laneMul m)
  | none => d

/-- The ramps at a strip's level stage: the fall before a shedding, the ramp-in after misses, a migration or a program load. -/
def fadeMul (t : Strip) : Nat × Nat :=
  if 0 < t.mute then (0, 1)
  else if 0 < t.fall then fallMul (32 - t.fall) 32
  else if 0 < t.fade then riseMul (32 - t.fade) 32 else (1, 1)

/-- Let a strip's own ramps advance by a sample. -/
def tickFades (t : Strip) : Strip :=
  if 0 < t.mute then { t with mute := t.mute - 1 }
  else if 0 < t.fall then { t with fall := t.fall - 1 }
  else { t with fade := t.fade - 1 }

/-- The substitute of a missed sample (R135): the previous one, halved toward zero on each further miss. DEDUCED (log entry 62). -/
def missed (x : Word) (misses : Nat) : Word := if misses = 0 then x else toWord (x.toInt.tdiv 2)

/-- Offsets of the dynamics blocks' words. -/
def gateWords : List Nat := [0x60, 0x64, 0x68, 0x6C, 0x70, 0x74, 0x78, 0x7C]
def compWords : List Nat := [0x80, 0x84, 0x88, 0x8C, 0x90, 0x94]
def limWords : List Nat := [0x90, 0x94, 0x98, 0x9C]

/-- The gate's key (R106): the key strip's signal at its insert point 1 in the previous period, or the strip's own signal. -/
def State.gateKey (s : State) (n : Nat) (own : Word) : Word :=
  let v := s.inUse (inWord n 0x60)
  let k := bits v 15 4
  if bit v 2 && k != n && decide (k < inStrips s.rate) then (s.inStrip k).point1 else own

/-! ## The input strip (R98) -/

/-- One period of an input strip. -/
def State.runIn (lateFetch : List Nat) (n : Nat) (s : State) : State :=
  let base := inWord n 0
  let w : Work := { st := s.inStrip n, m := s }
  let (pol, neg) := polarity (s.switchNow (base + 4))
  let (x, w) := w.gain (mulFrac (gainLin (s.gainNow base)) pol) neg w.st.feed
  let postTrim := x
  let (x, w) := w.insert n 0 x
  let (x, w) := w.sections base 0x10 2 x
  let (x, w) := w.sections base 0x20 8 x
  let postEq := x
  let (x, w) := w.insert n 1 x
  let la := s.lookahead n
  let line := (x :: w.st.look).take 385
  let key := s.gateKey n x
  let w := { w with st := { w.st with look := line, point1 := x } }
  let ((a, det), w) := w.dyn base gateWords key x (line.getD la 0)
  let (d1, w) := w.section base 0xA0 det
  let (d2, w) := w.section base 0xA8 d1
  let ((x, _), w) := w.dyn base compWords d2 det a
  let (x, w) := if s.inUse (base + 0x80) % 2 = 1 then w.gain (gainLin (s.gainNow (base + 0x98))) false x else (x, w)
  let postDyn := x
  let (x, w) := w.insert n 2 x
  let amEn := (s.word (base + 0xC8)).toNat % 2 == 1
  let w := if amEn then
      w.setCell 0xC8 (Config.levelNext (s.inUse (amWord (bits (s.inUse (base + 0xC8)) 7 4) 8)) s.hz (w.cell 0xC8) x)
    else w.setCell 0xC8 0
  let (x, w) := w.delay false n (base + 0xB8) (lateFetch.contains n) x
  let postDelay := x
  let am := s.amGain n w.st
  let (x, w) := w.gain (gainLin (.db am.1 am.2)) false x
  let lvl := mulFrac (gainLin (s.gainNow (base + 8))) (oneMinus (s.switchNow (base + 0xC)))
  let fade := mulFrac (s.inDip n) (fadeMul w.st)
  let postLevel := gainStage x lvl.1 lvl.2 false
  let (res, w) := w.gain (lvl.1 * fade.1, lvl.2 * fade.2) false x
  let taps := [postTrim, postEq, postDyn, postDelay, postLevel]
  let doMul := mulFrac (mulFrac (gainLin (s.gainNow (base + 0xC0))) (oneMinus (s.switchNow (base + 0xC4))))
    (mulFrac fade (s.dips (· == base + 0xBC)))
  let (dout, w) := w.gain doMul false (taps.getD (s.inUse (base + 0xBC)) 0)
  let m := (w.m.put Reg.INR_GATE_GR n (min 65535 (w.gr base gateWords))).put Reg.INR_COMP_GR n (min 65535 (w.gr base compWords))
  let m := m.put Reg.INR_AM n (toGain16 (.db am.1 am.2))
  let m := m.put Reg.INR_TAG n (s.stripTag n)
  let m := (m.stripEventIf w.sat false n Reg.INR_SAT).stripEventIf w.clamp false n Reg.INR_FREQ_CLAMP
  m.setStrip false n fun _ => tickFades
    { w.st with taps := taps, res := res, dout := dout, miss := 0, amNow := am, amK := w.st.amK + 1 }

/-! ## The output strip (R118) -/

/-- Loop Guard's notch sections (R118, R123), twelve in order. -/
def Work.notches (w : Work) (n : Nat) : Nat → Word → Word × Work
  | 0, x => (x, w)
  | k + 1, x =>
    let i := 11 - k
    let q := 12 * n + i
    let (y, w) :=
      if w.m.get Reg.OUTR_NOTCH_STATE q = 0 then (x, w)
      else
        let t := tget {} w.st.notches i
        let f := w.m.get Reg.OUTR_NOTCH_FREQ q
        let d := w.m.get Reg.OUTR_NOTCH_DEPTH q
        let st := w.cell (1024 + i)
        (Config.notchOut f t.src d t.k w.m.hz st x,
         { w.setCell (1024 + i) (Config.notchNext f t.src d t.k w.m.hz st x) with
           st := { (w.setCell (1024 + i) (Config.notchNext f t.src d t.k w.m.hz st x)).st with
             notches := tput {} w.st.notches i { t with k := min 64 (t.k + 1) } } })
    w.notches n k y

/-- A notch that has glided out to depth 0 is freed (R122, R125). -/
def State.freeNotches (n : Nat) (s : State) : State :=
  forRange (fun i s =>
    let q := 12 * n + i
    if s.get Reg.OUTR_NOTCH_STATE q ≠ 0 ∧ s.get Reg.OUTR_NOTCH_DEPTH q = 0 ∧ 64 ≤ (tget {} (s.outStrip n).notches i).k then
      ((s.put Reg.OUTR_NOTCH_STATE q 0).put Reg.OUTR_NOTCH_FREQ q 0).setStrip true n fun t =>
        { t with notches := tput {} t.notches i {} }
    else s) 0 12 s

/-- One period of an output strip on the bus sample of the period before. -/
def State.runOut (lateFetch : List Nat) (n : Nat) (s : State) : State :=
  let base := outWord n 0
  let w : Work := { st := s.outStrip n, m := s }
  let bus := tget 0 s.dp.bus n
  let (pol, neg) := polarity (s.switchNow (base + 8))
  let (x, w) := w.gain pol neg bus
  let (x, w) := w.sections base 0x10 16 x
  let postEq := x
  let (x, w) := w.notches n 12 x
  let ((x, _), w) := w.dyn base limWords x x x
  let postLim := x
  let (x, w) := w.delay true n (base + 0xA0) (lateFetch.contains (2048 + n)) x
  let lvl := mulFrac (gainLin (s.gainNow base)) (oneMinus (s.switchNow (base + 4)))
  let dip := mulFrac (s.dips (fun k => base ≤ k && k < base + 512)) (fadeMul w.st)
  let (res, w) := w.gain (lvl.1 * dip.1, lvl.2 * dip.2) false x
  let m := w.m.put Reg.OUTR_LIM_GR n (min 65535 (w.gr base limWords))
  let m := (m.stripEventIf w.sat true n Reg.OUTR_SAT).stripEventIf w.clamp true n Reg.OUTR_FREQ_CLAMP
  let m := m.setStrip true n fun _ => tickFades { w.st with taps := [bus, postEq, postLim, res], res := res, miss := 0 }
  m.freeNotches n

/-! ## Missing a period (R135, R112) -/

/-- A strip that has not delivered its result: substitution, reports, delay line. DEDUCED (log entry 62). -/
def State.missStrip (out : Bool) (n : Nat) (s : State) : State :=
  let t := if out then s.outStrip n else s.inStrip n
  let x := missed t.dlyIn t.miss
  let s := s.ringWrite out n x
  let s := s.stripEvent out n (if out then Reg.OUTR_OVERRUN else Reg.INR_OVERRUN)
  let e := s.stripEngine out n
  let s := (s.irq Reg.SE_IRQ_OVERRUN e).raise Src.STRIP_OVERRUN { page := 0x10 + e }
  s.setStrip out n fun t =>
    { t with dlyIn := x, res := missed t.res t.miss, dout := missed t.dout t.miss, miss := t.miss + 1,
             fade := if 1 ≤ t.miss then 32 else t.fade }

/-! ## The feed of an input strip (R69, R71) -/

/-- Take the source of an input strip's next period, after the lanes have worked. -/
def State.feedStrip (n : Nat) (s : State) : State :=
  let p := s.inUse (patchWord n)
  let kind := bits p 13 12
  if kind = 1 then
    let src := bits p 11 0
    if 0xC40 ≤ src then s.setStrip false n fun t => { t with feed := 0 }
    else if s.srcClass src = 1 then
      let x := (tget {} s.dp.src src).cur
      s.setStrip false n fun t =>
        let m := riseMul t.dirK 32
        { t with feed := if 32 ≤ t.dirK then x else scaleWord x m.1 m.2, dirK := min 32 (t.dirK + 1) }
    else
      let s := if s.mapBit Reg.PATCH_DERR n then s else (s.setMapBit Reg.PATCH_DERR n true).irq Reg.PATCH_IRQ_DERR
      s.setStrip false n fun t => { t with feed := 0, dirK := 0 }
  else if kind = 2 then s.setStrip false n fun t => { t with feed := (s.lane (bits p 23 14)).out }
  else s.setStrip false n fun t => { t with feed := 0 }

/-- Does a strip receive silence under R71? -/
def State.derr (s : State) (n : Nat) : Bool :=
  let p := s.inUse (patchWord n)
  bits p 13 12 == 1 && decide (bits p 11 0 < 0xC40) && s.srcClass (bits p 11 0) != 1

/-! ## Which strips run -/

/-- Input strips with a word, a patch entry or a state of their own; every other delivers exact silence. -/
def State.listedIns (s : State) : List Nat :=
  (distinct (s.dp.ins.map (·.1) ++ (s.keysIn 0x100000 0x102000).map (fun k => (k - 0x100000) / 4) ++
    (s.keysIn 0x200000 0x300000).map (fun k => (k - 0x200000) / 512))).filter (· < inStrips s.rate)

/-- Output strips with a word, a state or a bus sample. -/
def State.listedOuts (s : State) : List Nat :=
  (distinct (s.dp.outs.map (·.1) ++ (s.keysIn 0x300000 0x380000).map (fun k => (k - 0x300000) / 512) ++
    s.dp.bus.map (·.1))).filter (· < numBuses s.rate)

end Sys2Proof.Machine
end

