-- ==== Sys2Proof/Machine/Scene.lean ====
section
/-! DEFINITION. The scene engine (R252 to R276): records, receipt, admission, slots, triggers and the commit at a Meridian. -/

namespace Sys2Proof.Machine

/-! ## Status codes (R260) -/

namespace Scs
def OK : Nat := 0x00
def SLOTS_FULL : Nat := 0x40
def SLOT_STATE : Nat := 0x41
def SCN_FULL : Nat := 0x42
def MOVE_INVALID : Nat := 0x43
def FAB_BUDGET : Nat := 0x44
def FAB_TIER : Nat := 0x45
def CONFLICT : Nat := 0x46
def DUP_TARGET : Nat := 0x47
def SUPPLY_HOLD : Nat := 0x48
def SCN_MODE : Nat := 0x49
def EPH_FULL : Nat := 0x4A
def EPH_PAST : Nat := 0x4B
def LATE : Nat := 0x4C
def IMG_CHECK : Nat := 0x4D
def IMG_HEADER : Nat := 0x4E
def IMG_PROG : Nat := 0x4F
def IMG_BUSY : Nat := 0x50
def IMG_CVU_BUSY : Nat := 0x51
def IMG_BUS_ERR : Nat := 0x52
def BAD_ARG : Nat := 0x53
end Scs

/-! ## Registers of data-plane pages as targets (R33, R253) -/

/-- The bits of a data-plane page's word that a move writes: fields RW, RWS and W1S, FREEZE and SOFT_RESET of PG_CTRL, and
PG_IRQ_EN. -/
def regWriteMask (a : Nat) : Nat :=
  if !gated (a / 4096) then 0
  else if a % 4096 = 0x008 then 0x6
  else if a % 4096 = 0x014 then 0xFFFFFFFF
  else (((fieldsAt a).filter (fun f => f.acc == .rw || f.acc == .rws || f.acc == .w1s)).map
    (fun f => (2 ^ fldWidth f - 1) * 2 ^ f.lo)).sum

/-- The value of a field within the word a move would write. -/
def movedField (f : Fld) (v : Nat) : Nat := bits v f.hi f.lo

/-- Is a word the instance `i` of a field's word? -/
def atWord (f : Fld) (a : Nat) : Bool := (fldIdx? f a).isSome

/-- Is a word the word of instance `i` of a field? -/
def atWordOf (f : Fld) (i a : Nat) : Bool := fldAt f i == a

/-- Is a word one of a field? -/
def atField (f : Fld) (a : Nat) : Bool := (fldIdx? f a).isSome

/-- May a move write this value to a register of a data-plane page, alone (MOVE_INVALID otherwise): the refusals that the
owning chapters state (R243, R249, R421, R425, R430 to R433)? -/
def State.regMoveOk (s : State) (a v : Nat) : Bool :=
  if atField Reg.MTR_SLOTS a then okUpto 2 1024 (movedField Reg.MTR_SLOTS v)
  else if atField Reg.EYE_SEL_KT a then
    let k := movedField Reg.EYE_SEL_KT v
    okMeter (k * 2 ^ 24) && k % 16 ≤ 4
  else if atField Reg.EYE_MODE a then movedField Reg.EYE_MODE v != 3 && movedField Reg.EYE_BLOCKS v != 0
  else if atField Reg.EYE_SLOTS a then decide (2 ≤ movedField Reg.EYE_SLOTS v)
  else if atField Reg.AESTX_DIV a then movedField Reg.AESTX_DIV v != 3
  else if atField Reg.MADI_TX_DIV a then movedField Reg.MADI_TX_DIV v != 3 && movedField Reg.MADI_FRAME v != 3
  else if atField Reg.TDM_DIV a then
    movedField Reg.TDM_MCLK v != 3 && movedField Reg.TDM_DIV v != 3 && movedField Reg.TDM_FORMAT v != 3 &&
    [2, 4, 8, 16, 32].contains (movedField Reg.TDM_SLOTS v) &&
    !(movedField Reg.TDM_FOLLOW v == 1 && movedField Reg.TDM_MASTER v == 1)
  else if atField Reg.PMUX_FOLLOW_CAND a then [2, 3, 7].contains (movedField Reg.PMUX_FOLLOW_CAND v)
  else if atField Reg.PMUX_FUNC a then
    let f := movedField Reg.PMUX_FUNC v
    let i := movedField Reg.PMUX_INDEX v
    let range := if f = 0 then 256 else if f ≤ 2 then 32 else if f ≤ 4 then 4 else if f ≤ 9 then 24 else 4
    decide (f ≤ 0x0C) && decide (i < range) && movedField Reg.PMUX_PULL v != 3 && !(f == 9 && !s.tdmMaster i)
  else if atField Reg.LANE_PRBS_SEL a then decide (movedField Reg.LANE_PRBS_SEL v ≤ 4)
  else if atField Reg.NET_FEC a then movedField Reg.NET_FEC v != 3 && decide (movedField Reg.NET_SPEED v ≤ 1)
  else true

/-- Does a move on a register need MAINT (R440, R454), or START or MAINT (R461)? -/
def State.needsMaint (s : State) (a v : Nat) : Bool :=
  (s.opMode != 1 && s.opMode != 2 && atField Reg.STBY_PAIR a && movedField Reg.STBY_PAIR v != s.get Reg.STBY_PAIR) ||
  s.opMode != 2 &&
  ((atField Reg.LANE_PRBS_GEN a && (movedField Reg.LANE_PRBS_GEN v == 1 || movedField Reg.LANE_PRBS_CHK v == 1)) ||
   (atField Reg.KZL_LOOP a && movedField Reg.KZL_LOOP v == 1))

/-! ## Records and receipt (R252 to R254, R259) -/

/-- A move record: its four words. -/
structure Rec where
  w0 : Nat
  w1 : Nat
  w2 : Nat
  w3 : Nat

/-- The record of four words; missing words read 0. -/
def recOf (l : List Nat) : Rec := { w0 := l.getD 0 0, w1 := l.getD 1 0, w2 := l.getD 2 0, w3 := l.getD 3 0 }

/-- The move of a register write under STEP. -/
def liveRec (a v : Nat) : Rec := { w0 := 0x20000000 + a, w1 := v, w2 := 0x10000000, w3 := 0 }

/-- The stream entry checks of R376 that refuse with MOVE_INVALID: a move that sets EN = 1 on an entry whose fields, with the
staged words beside it, are out of range. -/
def State.streamOk (a v : Nat) (look : Nat → Nat) : Bool :=
  let tx := decide (0x602000 ≤ a)
  if !(decide (0x600000 ≤ a) && decide (a < 0x604000)) || a % 32 != 0 || !bit v 31 then true
  else
    let w4 := look (a + 16)
    let w6 := look (a + 24)
    let w2 := look (a + 8)
    decide (1 ≤ w6Count w6) && decide (w6Count w6 ≤ 64) && decide (w6Base w6 + w6Count w6 ≤ 2048) &&
    decide (w6Count w6 * packetSamples w6 * w6Bytes w6 ≤ 1440) && (tx || decide (bits w4 14 0 ≤ 20000)) &&
    (!tx || !(bits v 30 29 == 2) || w2 == 0 || decide (0xE0000000 ≤ w2 ∧ w2 < 0xF0000000))

/-- The move that a record states, or none where it breaks R252 to R254 or R90. `look` gives the words beside the target as
they would stand. -/
def State.parseMove (s : State) (look : Nat → Nat) (r : Rec) : Option SMove :=
  let kind := bits r.w0 31 28
  let addr := bits r.w0 23 0
  let rule := bits r.w2 31 28
  let dur := bits r.w2 23 0
  let tag := bits r.w3 15 0
  if bits r.w0 27 24 ≠ 0 ∨ bits r.w2 27 24 ≠ 0 ∨ bits r.w3 31 16 ≠ 0 ∨ 5 < rule then none
  else if kind = 0 then
    match paramAt addr with
    | none => none
    | some p =>
      let v := r.w1 &&& p.mask
      if !p.ok v || !State.streamOk addr v look then none
      else match resolveRule p.cls rule dur with
      | none => none
      | some (ru, d) =>
        let owed := if decide (0x200000 ≤ addr) && decide (addr < 0x380000) then deriveCost p.cls
          else if 0x110000 ≤ addr ∧ addr < 0x110100 then (if addr % 16 = 0 then 12 else 4) else 0
        some { target := { kind := 0, addr := addr }, value := v, rule := ru, dur := d, tag := tag, derive := owed }
  else if kind = 1 then
    let v := r.w1 % 65536
    if 2 ^ 22 ≤ addr ∨ 0xC40 ≤ xpSrc addr ∨ !xpParam.ok v then none
    else match resolveRule xpParam.cls rule dur with
    | none => none
    | some (ru, d) => some { target := { kind := 1, addr := addr }, value := v, rule := ru, dur := d, tag := tag }
  else if kind = 2 then
    if addr % 4 ≠ 0 ∨ regWriteMask addr = 0 ∨ 1 < rule ∨ !s.regMoveOk addr r.w1 then none
    else some { target := { kind := 2, addr := addr }, value := r.w1 &&& regWriteMask addr, rule := rStep, dur := 0, tag := tag }
  else none

/-- Moves in flight (R256): staged, uncommitted live, and committed. -/
def State.inFlight (s : State) : Nat :=
  (s.scn.slots.map (fun p => p.2.moves.length)).sum + s.scn.live.length + s.scn.runs.length

/-- Is host and manager staging refused in the present mode (R270)? -/
def State.stagingOff (s : State) : Bool := s.opMode == 0 || s.opMode == 3 || match s.mode.trans with
  | .shutdown _ => true
  | _ => false

/-- Is the strip, or the group's member, that a move's derivation runs on active and running (R134, R257, R270, R272)?
DESIGN CHOICE (log entry 83). -/
def State.derives (s : State) (m : SMove) : Bool :=
  let a := m.target.addr
  m.target.kind == 0 && s.mode.running &&
  (if 0x200000 ≤ a ∧ a < 0x300000 then
      decide ((a - 0x200000) / 512 < inStrips s.rate) && !s.dp.shed.contains ((a - 0x200000) / 512)
   else if 0x300000 ≤ a ∧ a < 0x380000 then
      decide ((a - 0x300000) / 512 < numBuses s.rate) && !s.dp.shed.contains (2048 + (a - 0x300000) / 512)
   else if 0x110000 ≤ a ∧ a < 0x110100 then s.get Reg.RPT_AM_MEMBERS ((a - 0x110000) / 16) != 0
   else false)

/-- Receipt of one move into the slot `lane` (0 to 15) or the live lane (16): the status of R259, and the move where it is
kept. DEDUCED (log entry 82). -/
def State.checkReceipt (s : State) (lane : Nat) (r : Rec) : Nat × Option SMove :=
  let mine := if lane = 16 then s.scn.live.map (·.1) else (tget {} s.scn.slots lane).moves
  let look := fun k => match mine.find? (fun m => m.target.kind == 0 && m.target.addr == k) with
    | some m => m.value
    | none => (s.word k).toNat
  if s.stagingOff then (Scs.SCN_MODE, none)
  else if bits r.w0 31 28 = 2 ∧ s.needsMaint (bits r.w0 23 0) r.w1 then (Scs.SCN_MODE, none)
  else match s.parseMove look r with
  | none => (Scs.MOVE_INVALID, none)
  | some m =>
    let m := if s.derives m then m else { m with derive := 0 }
    if s.pwr.hold then (Scs.SUPPLY_HOLD, none)
    else if 65536 ≤ s.inFlight then (Scs.SCN_FULL, none)
    else if lane ≠ 16 ∧ mine.any (fun x => x.target == m.target) then (Scs.DUP_TARGET, none)
    else (Scs.OK, some m)

/-! ## Admission (R261) -/

/-- Every value a word has or may take: its value, the value in use, and its staged values. -/
def State.values (s : State) (staged : List SMove) (key : Nat) : List Nat :=
  (s.word key).toNat :: s.inUse key :: (staged.filter (fun m => targetKey m.target == key)).map (·.value)

/-- Keys of a range of words, those listed and those staged. -/
def State.keysOr (s : State) (staged : List SMove) (lo hi : Nat) : List Nat :=
  distinct (s.keysIn lo hi ++ (staged.filter (fun m => m.target.kind != 1 && lo ≤ m.target.addr && m.target.addr < hi)).map
    (·.target.addr))

/-- Does some word of a range other than `self`, in either state, satisfy `p`? -/
def State.other (s : State) (staged : List SMove) (self lo hi : Nat) (p : Nat → Nat → Bool) : Bool :=
  (s.keysOr staged lo hi).any (fun k => k != self && (s.values staged k).any (p k))

/-- The refusals with CONFLICT of the owning chapters (R109, R127, R232, R235, R241, R376, R421, R425). `staged` holds every
staged move, those of the transaction among them. -/
def State.conflict (s : State) (staged : List SMove) (m : SMove) : Bool :=
  let a := m.target.addr
  let v := m.value
  if m.target.kind = 0 then
    if 0x200000 ≤ a ∧ a < 0x300000 ∧ a % 512 = 0xB0 then
      v % 2 == 1 &&
      (s.other staged a 0x200000 0x300000 (fun k x => k % 512 == 0xB0 && x % 2 == 1 && bits x 13 8 == bits v 13 8) ||
       (s.values staged (egrWord (0xC40 + bits v 13 8))).any (· != 0xFFF))
    else if 0x200000 ≤ a ∧ a < 0x300000 ∧ a % 512 = 0xC8 then
      let strips := (s.keysOr staged 0x200000 0x300000).filter (fun k => k % 512 == 0xC8 &&
        (k == a || (s.values staged k).any (fun x => x % 2 == 1 && bits x 7 4 == bits v 7 4)))
      v % 2 == 1 && decide (64 < (distinct (a :: strips)).length)
    else if 0x408000 ≤ a ∧ a < 0x40B200 then
      let d := (a - 0x408000) / 4
      v != 0xFFF &&
      (s.other staged 0 0x404000 0x405000 (fun k x => k % 16 == 0 && bits x 11 0 != 0xFFF && bits x 23 12 == d) ||
       (decide (0xC40 ≤ d) &&
        (decide (0x400 ≤ v) ||
         s.other staged 0 0x200000 0x300000 (fun k x => k % 512 == 0xB0 && x % 2 == 1 && bits x 13 8 == d - 0xC40))))
    else if 0x404000 ≤ a ∧ a < 0x405000 ∧ a % 16 = 0 then
      bits v 11 0 != 0xFFF &&
      (s.other staged a 0x404000 0x405000 (fun k x => k % 16 == 0 && bits x 11 0 != 0xFFF && bits x 23 12 == bits v 23 12) ||
       (decide (bits v 23 12 < 0xC80) && (s.values staged (egrWord (bits v 23 12))).any (· != 0xFFF)))
    else if 0x600000 ≤ a ∧ a < 0x604000 then
      let base := a / 32 * 32
      let lo := if a < 0x602000 then 0x600000 else 0x602000
      let en := (s.values staged base).any (fun x => bit x 31)
      let enNow := bit (s.word base).toNat 31 || staged.any (fun x => x.target.kind == 0 && x.target.addr == base && x != m && bit x.value 31)
      if a ≠ base ∨ !bit v 31 then (if a = base then false else en && bit (s.word base).toNat 31) || (a != base && false)
      else if enNow then true
      else
        let look := fun k => match (staged.filter (fun x => x.target.kind == 0 && x.target.addr == k)).getLast? with
          | some x => x.value
          | none => (s.word k).toNat
        let w6 := look (base + 24)
        let units := fun w => w6Count w * (w6Rate w / 48000)
        let others := (distinct ((s.keysOr staged lo (lo + 0x2000)).map (fun k => k / 32 * 32))).filter (fun k =>
          k != base && (s.values staged k).any (fun x => bit x 31))
        let overlap := others.any (fun k =>
          let o6 := look (k + 24)
          w6Base w6 < w6Base o6 + w6Count o6 && w6Base o6 < w6Base w6 + w6Count w6)
        let pool := (others.map (fun k => units (look (k + 24)))).sum + units w6
        let same := a < 0x602000 && others.any (fun k =>
          let p := bits v 30 29
          let q := bits (look k) 30 29
          (p == q || p == 2 || q == 2) && look (base + 4) == look (k + 4) &&
          bits (look (base + 16)) 31 16 == bits (look (k + 16)) 31 16 &&
          bit v 28 == bit (look k) 28 && (!bit v 28 || look (base + 12) == look (k + 12)))
        overlap || decide (2048 < pool) || same
    else false
  else if m.target.kind = 2 then
    if atField Reg.FAB_LINK a then movedField Reg.FAB_LINK v == 1 && s.getB Reg.STBY_PAIR
    else if atField Reg.PMUX_FUNC a then
      let f := movedField Reg.PMUX_FUNC v
      f != 0 && s.other staged a 0x097200 0x097500
        (fun _ x => movedField Reg.PMUX_FUNC x == f && movedField Reg.PMUX_INDEX x == movedField Reg.PMUX_INDEX v)
    else
      let bind : Nat → Nat → Option Nat := fun k x =>
        if atField Reg.AESRX_FOLLOW k then (if movedField Reg.AESRX_FOLLOW x = 1 then some (movedField Reg.AESRX_VCXO x) else none)
        else if atField Reg.MADI_FOLLOW k then (if movedField Reg.MADI_FOLLOW x = 1 then some (movedField Reg.MADI_VCXO x) else none)
        else if atField Reg.TDM_FOLLOW k then (if movedField Reg.TDM_FOLLOW x = 1 then some (movedField Reg.TDM_VCXO x) else none)
        else none
      match bind a v with
      | none => false
      | some o => s.other staged a 0x090000 0x097000 (fun k x => bind k x == some o)
  else false

/-- Admission of moves beside the moves already staged (R218, R224, R261): the first refusal in the order FAB_TIER, FAB_BUDGET,
CONFLICT. DEDUCED (log entry 82). -/
def State.admission (s : State) (staged new : List SMove) : Nat :=
  let all := staged ++ new
  let act := s.unionActive all
  let rNew := s.reservation all
  let rOld := s.reservation staged
  let ramps := new.any (fun m => m.target.kind == 1 && rampRule m.rule)
  if (new.any (fun m => m.target.kind == 1)) && decide (3 < tiersUsed act) then Scs.FAB_TIER
  else if s.budgetAt s.rate s.clk.div (tiersUsed act) < rNew ∧ (rOld < rNew ∨ ramps) then Scs.FAB_BUDGET
  else if new.any (s.conflict all) then Scs.CONFLICT else Scs.OK

/-- Count a refusal with FAB_BUDGET (R224). DEDUCED (log entry 82). -/
def State.countRefusal (s : State) (st : Nat) : State :=
  if st = Scs.FAB_BUDGET then (s.count Reg.FABB_REFUSED).irq Reg.FABB_IRQ_REFUSED else s

/-! ## Slots (R258, R264) -/

/-- A slot's internal state. -/
def State.slot (s : State) (i : Nat) : Slot := tget {} s.scn.slots i
def State.setSlot (s : State) (i : Nat) (f : Slot → Slot) : State := s.modScn fun x => { x with slots := tmod {} x.slots i f }
def State.slotState (s : State) (i : Nat) : Nat := s.get Reg.SLOT_STATE i

/-- Members of an Automix group (R126). -/
def State.amMembers (s : State) (g : Nat) : List Nat :=
  ((s.keysIn 0x200000 0x300000).filter (fun k => k % 512 == 0xC8 && (let v := (s.word k).toNat; v % 2 == 1 && bits v 7 4 == g))).map
    (fun k => (k - 0x200000) / 512) |>.filter (· < inStrips s.rate)

/-- The engines that derive a move: that of its strip, or every engine that runs a member of its group (R134). -/
def State.deriveEngines (s : State) (m : SMove) : List Nat :=
  let a := m.target.addr
  if a < 0x200000 then distinct ((s.amMembers ((a - 0x110000) / 16)).map (s.stripEngine false))
  else if a < 0x300000 then [s.stripEngine false ((a - 0x200000) / 512)]
  else [s.stripEngine true ((a - 0x300000) / 512)]

/-- Derivation cc that an engine owes to moves: the words of a section, or of a dynamics block, are derived once (R134, R263). -/
def State.deriveOwed (s : State) (ms : List SMove) (e : Nat) : Nat :=
  let mine := (ms.filter (fun m => m.derive != 0 && (s.deriveEngines m).contains e)).map fun m => (wordBlock m.target.addr, m.derive)
  ((distinct (mine.map (·.1))).map fun b => ((mine.filter (·.1 == b)).map (·.2)).foldl max 0).sum

/-- Show what a slot holds: moves, moves staged, and the derivation cc the busiest engine owes (R263, R292). -/
def State.showSlot (i : Nat) (s : State) : State :=
  let ms := (s.slot i).moves
  let live := (s.scn.runs.filter (·.slot == i)).length
  let s := s.put Reg.SLOT_MOVES i (ms.length + live)
  let s := s.put Reg.SLOT_STAGED i ((ms.filter (·.derive == 0)).length + live)
  s.put Reg.SLOT_DERIVE_LEFT i (((List.range 34).map (s.deriveOwed ms)).foldl max 0)

/-- Show the totals of page 0x050. -/
def State.showScn (s : State) : State :=
  let n := s.inFlight
  let s := (s.put0 Reg.SCN_INFLIGHT n).keepMax Reg.SCN_INFLIGHT_MAX 0 n
  let s := s.put0 Reg.SCN_SLOTS_USED ((List.range 16).filter (fun i => s.slotState i != 0)).length
  let s := s.putB Reg.SCN_FOLLOW_MIRROR 0 (s.opMode == 3)
  let s := s.putB Reg.SCN_MODE_OK 0 (!s.stagingOff)
  let s := s.putB Reg.SCN_SUPPLY_HOLD 0 s.pwr.hold
  s.put0 Reg.FABB_RESERVED (s.reservation s.stagedMoves)

/-- Owner ID of a slot's staging buffer (R514). -/
def stageOwner (i : Nat) : Nat := 0x400 + i

/-- Size of a buffer that the spec gives none for. -/
def openSize (owner : Nat) : Nat := 256 * (Config.bufferUnits owner % 4096 + 1)

/-- Drop the Ephemeris entries that a test selects, and show the counts (R277). -/
def State.ephDrop (s : State) (p : EphEntry → Bool) : State :=
  let s := s.modEph fun e => { e with entries := e.entries.filter (fun x => !p x) }
  let isNet := fun (x : EphEntry) => match x.kind with | .netLaunch _ _ => true | _ => false
  let s := (s.put0 Reg.EPH_USED s.eph.entries.length).put0 Reg.EPH_NET_USED (s.eph.entries.filter isNet).length
  s.putB Reg.EPH_EMPTY 0 s.eph.entries.isEmpty

/-- Is an entry the COMMIT entry of a slot? -/
def isCommitOf (i : Nat) (x : EphEntry) : Bool := match x.kind with
  | .commit j => i == j
  | _ => false

/-- A slot ends without committing and becomes FREE (R264): status in its report, its moves released, its COMMIT entry
removed. IRQ_REFUSED follows a status other than OK. DEDUCED (log entry 82). -/
def State.endSlot (s : State) (i status : Nat) : State :=
  let s := if okUpto 2 4 (s.slotState i) then s.mirrorSlot 2 i s.idx else s
  let s := (s.put Reg.SLOT_STATUS i status).put Reg.SLOT_STATE i 0
  let s := s.setSlot i fun _ => {}
  let s := s.ephDrop (isCommitOf i)
  let s := s.freeBufs clsStage (stageOwner i)
  let s := if status ≠ 0 then s.irq Reg.SCN_IRQ_REFUSED else s
  (s.showSlot i).showScn

/-- A slot whose moves are all staged leaves DERIVING: ARMED with a trigger, READY under HOLD (R258). -/
def State.settleSlot (s : State) (i : Nat) : State :=
  if s.slotState i = 2 ∧ (s.slot i).moves.all (·.derive == 0) then
    (s.put Reg.SLOT_STATE i (if s.get Reg.SLOT_TRIG i = 3 then 3 else 4)).irq Reg.SCN_IRQ_READY
  else s

/-- Keep a received move in a slot, or record its failure (R259). -/
def State.slotReceive (s : State) (i : Nat) (r : Rec) : Nat × State :=
  let (st, m) := s.checkReceipt i r
  let t := s.slot i
  let s := match m with
    | some m => s.setSlot i fun t => { t with moves := t.moves ++ [m], seen := t.seen + 1 }
    | none =>
      let s := if t.failed = 0 then
          (s.put Reg.SLOT_BAD_INDEX i t.seen).put Reg.SLOT_BAD_TAG i (bits r.w3 15 0) else s
      s.setSlot i fun t => { t with failed := if t.failed = 0 then st else t.failed, seen := t.seen + 1 }
  (st, (s.showSlot i).showScn)

/-- Receive records into a slot, to the first failure; answers its status and index. -/
def State.slotReceiveAll (s : State) (i idx : Nat) : List Rec → (Nat × Nat) × State
  | [] => ((0, 0), s)
  | r :: rs =>
    let (st, s) := s.slotReceive i r
    if st ≠ 0 then ((st, idx), s) else s.slotReceiveAll i (idx + 1) rs

/-! ## The Meridian (R254 to R257, R267, R268, R273, R274) -/

/-- A move about to commit: its slot (16 for the live lane) and the move. -/
structure Due where
  slot : Nat
  move : SMove
  deriving Repr

/-- Of moves in order of effect, the later one on each word wins (R268). -/
def laterWins : List Due → List Due
  | [] => []
  | d :: ds => if ds.any (fun x => x.move.target == d.move.target) then laterWins ds else d :: laterWins ds

/-- The enable word of a section, a dynamics block or a delay, and its enable test (R257). -/
def blockEnable (a : Nat) : Option (Nat × (Nat → Bool)) :=
  let o := a % 512
  if 0x200000 ≤ a ∧ a < 0x300000 then
    if wordBlock a ≠ a ∨ (0x10 ≤ o ∧ o < 0x60) ∨ (0xA0 ≤ o ∧ o < 0xB0) ∨ o = 0x60 ∨ o = 0x80 then
      let b := wordBlock a
      if b % 512 = 0x60 ∨ b % 512 = 0x80 then some (b, fun v => v % 2 == 1) else some (b, fun v => bit v 31)
    else if o = 0xB8 then some (a, fun v => v != 0)
    else none
  else if 0x300000 ≤ a ∧ a < 0x380000 then
    if 0x10 ≤ o ∧ o < 0x90 then some (wordBlock a, fun v => bit v 31)
    else if 0x90 ≤ o ∧ o < 0xA0 then some (wordBlock a, fun v => v % 2 == 1)
    else if o = 0xA0 then some (a, fun v => v != 0)
    else none
  else none

/-- Is the strip, bus or crosspoint of a move inactive in the present rate mode (R66, R215, R257)? -/
def State.inactiveTarget (s : State) (t : MoveTarget) : Bool :=
  let a := t.addr
  if t.kind = 1 then !xpEndsAt s.rate a
  else if t.kind = 0 then
    if 0x200000 ≤ a ∧ a < 0x300000 then decide (inStrips s.rate ≤ (a - 0x200000) / 512)
    else if 0x300000 ≤ a ∧ a < 0x380000 then decide (numBuses s.rate ≤ (a - 0x300000) / 512)
    else if 0x100000 ≤ a ∧ a < 0x102000 then decide (inStrips s.rate ≤ (a - 0x100000) / 4)
    else if 0x400000 ≤ a ∧ a < 0x402000 then decide (numBuses s.rate ≤ (a - 0x400000) / 8)
    else false
  else false

/-- The rule and duration a committing move runs under, among the moves that commit with it (R102, R130, R257, R270). -/
def State.ruling (s : State) (step : Bool) (due : List Due) (m : SMove) : Nat × Nat :=
  let b := targetBlock m.target
  let mates := (due.filter (fun d => d.move.target.kind == m.target.kind && targetBlock d.move.target == b)).map (·.move)
  let longest := fun r => ((mates.filter (·.rule == r)).map (·.dur)).foldl max 0
  let off := match (if m.target.kind = 0 then blockEnable m.target.addr else none) with
    | some (key, en) =>
      let new := match mates.find? (fun x => x.target.addr == key) with
        | some x => x.value
        | none => (s.word key).toNat
      !en (s.word key).toNat && !en new
    | none => false
  let amKeeps := m.target.kind == 0 && decide (0x200000 ≤ m.target.addr) && decide (m.target.addr < 0x300000) &&
    m.target.addr % 512 == 0xC8 && (s.word m.target.addr).toNat == m.value
  if step || s.inactiveTarget m.target || off || amKeeps then (rStep, 0)
  else if mates.any (·.rule == rHoldMute) then (rHoldMute, longest rHoldMute)
  else if mates.any (·.rule == rXfade) then (rXfade, longest rXfade)
  else (m.rule, m.dur)

/-- The gain in effect at the last sample before the Meridian, from which a ramp starts (R255). -/
def State.startGain (s : State) (t : MoveTarget) : GainVal :=
  let before : State := { s with clk := { s.clk with idx := s.clk.idx - 1 } }
  let key := targetKey t
  if t.kind = 1 then before.gainNow key
  else match paramAt t.addr with
  | some p => match p.cls with
    | .gain => before.gainNow key
    | .switch => let q := before.switchNow key; .lin q.1 q.2
    | .amMember => let g := (s.inStrip ((t.addr - 0x200000) / 512)).amNow; .db g.1 g.2
    | _ => .off
  | none => .off

/-- What a move that commits now does to the moves in flight on its block, and the run it becomes (R273). The last `fresh` runs began
at this same Meridian: the moves of one Meridian act on their block as one change, and none of them meets another (R102). -/
def State.meet (s : State) (slot rule dur fresh : Nat) (m : SMove) : State :=
  let b := targetBlock m.target
  let key := targetKey m.target
  let now := s.idx
  let before : State := { s with clk := { s.clk with idx := now - 1 } }
  let mine := fun (r : RunMove) => r.target.kind == m.target.kind && targetBlock r.target == b
  let held := s.scn.runs.length - fresh
  let runs := s.scn.runs.take held
  let pairs := runs.filter (fun r => mine r && r.rule == rXfade && !r.defer && decide (now < runEnd r))
  let dips := runs.filter (fun r => mine r && r.rule == rHoldMute)
  let early := dips.find? (fun r => decide (now ≤ r.first + r.dur))
  let late := dips.find? (fun r => decide (r.first + r.dur < now) && decide (now < runEnd r))
  let old := before.inUse key
  let base : RunMove := { target := m.target, slot := slot, rule := rule, dur := dur, old := old, value := m.value,
                          start := s.startGain m.target, first := now }
  let keepDips := fun (r : RunMove) => r.rule == rHoldMute
  let (kept, run) :=
    if rule = rXfade then
      match (pairs.map runEnd).foldl max 0 with
      | 0 => (runs.filter (fun r => !mine r || keepDips r), base)
      | e => (runs.filter (fun r => !mine r || keepDips r || (r.rule == rXfade && !r.defer)), { base with first := e, defer := true })
    else if rule = rHoldMute then
      match early, late with
      | some r, _ => (runs.map (fun x => if mine x && x.rule == rHoldMute && targetKey x.target == key
            then { x with value := m.value } else x), { base with first := r.first, dur := r.dur, mulN := r.mulN, mulD := r.mulD })
      | none, some r =>
        let d := before.dipOf r
        (runs.filter (fun x => !mine x), { base with mulN := d.1, mulD := d.2 })
      | none, none => (runs.filter (fun x => !mine x || (x.rule == rXfade && !x.defer)), base)
    else (runs.filter (fun r => !mine r || keepDips r), base)
  let kept := if rule = rHoldMute then kept
    else kept.map (fun r => if mine r && r.rule == rHoldMute && targetKey r.target == key && decide (now ≤ r.first + r.dur)
      then { r with mute := true } else r)
  let s := s.modScn fun x => { x with runs := kept ++ x.runs.drop held ++ [run] }
  if run.defer && slot < 16 then s.put Reg.SLOT_XF_DEFER slot 1 else s

/-- Store the value of a committing move in its word (R255, R253). -/
def State.storeMove (s : State) (m : SMove) : State :=
  let key := targetKey m.target
  let old := (s.word key).toNat
  if m.target.kind = 2 then
    let mask := if key % 4096 = 0x008 then 0x4 else regWriteMask key
    let w1s := (((fieldsAt key).filter (·.acc == .w1s)).map (fun f => (2 ^ fldWidth f - 1) * 2 ^ f.lo)).sum
    let kept := old - (old &&& mask)
    s.setWord key (BitVec.ofNat 32 (kept + ((m.value &&& mask) ||| (old &&& w1s))))
  else s.setWord key (BitVec.ofNat 32 m.value)

/-- Commit one move, after `fresh` others of the same Meridian. -/
def State.commitMove (step : Bool) (due : List Due) (d : Due) (fresh : Nat) (s : State) : State :=
  let (rule, dur) := s.ruling step due d.move
  if step then s.modScn fun x => { x with runs := x.runs.filter (fun r => targetKey r.target != targetKey d.move.target) }
  else s.meet d.slot rule dur fresh d.move

/-- Commit moves, in order of effect, at the present sample; `step` where every move acts as STEP on the parameter pages
(R270). Answers the moves that took effect. -/
def State.commitAll (s : State) (step : Bool) (all : List Due) : State × List SMove :=
  let due := laterWins all
  let s := forEach (fun (p : Due × Nat) s => State.commitMove step due p.1 p.2 s) due.zipIdx s
  let s := forEach (fun d s => s.storeMove d.move) due s
  (s, due.map (·.move))

/-- A LIVE slot becomes FREE at the boundary at which the last of its moves leaves flight: at its end, superseded there, or without
having begun (R256, R264, R268, R273). -/
def State.freeLive (s : State) : State :=
  forRange (fun i s =>
    if s.slotState i = 5 then
      let s := s.showSlot i
      if s.scn.runs.any (·.slot == i) then s
      else ((s.put Reg.SLOT_STATE i 0).irq Reg.SCN_IRQ_FREE).freeBufs clsStage (stageOwner i)
    else s) 0 16 s

/-- The moves whose last affected sample has passed leave flight (R256). A pair that ran under a dip ends at the dip's silent
sample (R273). -/
def State.leaveFlight (s : State) : State :=
  let now := s.idx
  let silent := fun (r : RunMove) => r.rule == rXfade && s.scn.runs.any (fun h => h.rule == rHoldMute &&
    h.target.kind == r.target.kind && targetBlock h.target == targetBlock r.target && decide (r.first < h.first) &&
    h.first + h.dur == now)
  (s.modScn fun x => { x with runs := x.runs.filter (fun r => r.defer || (decide (now < runEnd r) && !silent r)) }).freeLive

/-- Insert a slot in order of attachment. -/
def slotInsert (p : Nat × Slot) : List (Nat × Slot) → List (Nat × Slot)
  | [] => [p]
  | q :: l => if p.2.order < q.2.order then p :: q :: l else q :: slotInsert p l

/-- The slots marked at the cutoff, in order of attachment (R268). -/
def State.dueSlots (s : State) : List (Nat × Slot) :=
  (s.scn.slots.filter (fun p => p.2.commit.any (· ≤ s.idx))).foldl (fun l p => slotInsert p l) []

/-- The commit at a boundary (R267, R268): slots in order of attachment, the live lane last. Answers the moves that took effect. -/
def State.meridian (s : State) : State × List SMove :=
  let slots := s.dueSlots
  let liveDue := (s.scn.live.filter (fun p => p.2.any (· ≤ s.idx))).map (·.1)
  let due := slots.flatMap (fun p => p.2.moves.map (fun m => ({ slot := p.1, move := m } : Due))) ++
    liveDue.map (fun m => { slot := 16, move := m })
  let (s, done) := s.commitAll false due
  let s := forEach (fun p s =>
    let s := (s.put Reg.SLOT_STATE p.1 5).put Reg.SLOT_MERIDIAN p.1 s.ts32
    let s := if p.2.missed then ((s.put Reg.SLOT_LATE p.1 1).count Reg.SCN_LATE_CNT).irq Reg.SCN_IRQ_LATE else s
    let s := s.setSlot p.1 fun _ => {}
    (s.irq Reg.SCN_IRQ_COMMIT).showSlot p.1) slots s
  let s := s.count Reg.SCN_LIVE_CNT 0 liveDue.length
  let s := s.modScn fun x => { x with live := x.live.filter (fun p => !p.2.any (· ≤ s.idx)) }
  let s := if s.scn.live.isEmpty && !liveDue.isEmpty then s.freeBufs clsStage 0x410 else s
  (s.freeLive.showScn, done)

/-! ## Trigger attachment (R266, R269, R277, R279) -/

/-- TRIG fields (R284). -/
def trigKind (t : Nat) : Nat := bits t 1 0

/-- Is TRIG with its time arguments well formed (R284)? -/
def trigOk (t a2 a3 : Nat) : Bool :=
  bit t 3 == false && bits t 31 7 == 0 && !(trigKind t == 1 && (decide (2 ^ 16 ≤ a2) || decide (1000000000 ≤ a3)))

/-- A stated time in thirds of a nanosecond: seconds low, seconds high, nanoseconds. -/
def statedTime (a1 a2 a3 : Nat) : Nat := ((a1 + 2 ^ 32 * a2) * 1000000000 + a3) * 3

/-- The cutoff of a boundary: the last FCLK edge at or before 128 fc before it (R266). -/
def State.cutoff (s : State) (edge : Nat) : Nat := s.clk.ref + (edge - 512 - s.clk.ref) / 4 * 4

/-- Is the cutoff of the boundary S_T of a time at or before now (R269)? -/
def State.pastTime (s : State) (t : Nat) : Bool :=
  let next := s.nextBoundary
  let edge := if s.cutoff next ≤ s.clk.now then next else s.clk.cclkFloor s.clk.pos
  decide (t ≤ s.ptp.thirdsAt edge)

/-- Insert an Ephemeris entry in order of time, after entries of equal time (R277, R278). -/
def ephInsert (e : EphEntry) : List EphEntry → List EphEntry
  | [] => [e]
  | x :: xs => if e.time < x.time then e :: x :: xs else x :: ephInsert e xs

/-- Insert an entry and show the counts. -/
def State.ephAdd (s : State) (e : EphEntry) : State :=
  (s.modEph fun x => { x with entries := ephInsert e x.entries }).ephDrop (fun _ => false)

/-- Is there room for a COMMIT or CUE_OUT entry (R277)? -/
def State.ephRoom (s : State) : Bool :=
  decide ((s.eph.entries.filter (fun x => match x.kind with | .netLaunch _ _ => false | _ => true)).length < 3840)

/-- Attach a trigger to a slot. Answers the status; where it is refused, the slot stays as under HOLD. -/
def State.attach (s : State) (i trig time : Nat) : Nat × State :=
  let k := trigKind trig
  let late := bit trig 2
  let past := k == 1 && s.pastTime time
  if past ∧ late then (Scs.EPH_PAST, (s.count Reg.EPH_REFUSED))
  else if k = 1 ∧ !past ∧ !s.ephRoom then
    (Scs.EPH_FULL, ((s.count Reg.EPH_REFUSED).irq Reg.EPH_IRQ_FULL))
  else
    let s := (s.put Reg.SLOT_TRIG i k).putB Reg.SLOT_LATE_ABORT i late
    if k = 3 then (0, s)
    else
      let n := s.scn.orders + 1
      let s := s.modScn fun x => { x with orders := n }
      let s := s.setSlot i fun t =>
        { t with order := n, fired := k == 0 || past, missed := past, cue := bits trig 5 4, edge := bits trig 6 6 }
      let s := if past then s.put Reg.SLOT_LATE i 1 else s
      let s := if k = 1 ∧ !past then s.ephAdd { time := time, kind := .commit i, handle := 0 } else s
      (0, s)

/-! ## The live lane (R275, R276) -/

/-- Report a refused live move (R276). DEDUCED (log entry 18). -/
def State.liveRefused (s : State) (st : Nat) (r : Rec) : State :=
  let s := (s.count Reg.SCN_LIVE_REFUSED).pageErr 0x50
  let s := (s.put0 Reg.SCN_STATUS st).put0 Reg.SCN_TARGET (bits r.w0 23 0)
  (s.put0 Reg.SCN_LAST_TKIND (bits r.w0 31 28)).irq Reg.SCN_IRQ_LIVE_REFUSED

/-- A live move: receipt, admission alone against the state without the move it replaces, staging (R275). Answers the status,
and the moves committed at once in START and MAINT (R270). DEDUCED (log entry 82). -/
def State.liveMove (s : State) (r : Rec) : Nat × State × List SMove :=
  let (st, m) := s.checkReceipt 16 r
  match m with
  | none => (st, s.liveRefused st r, [])
  | some m =>
    let replaced := s.scn.live.filter (fun p => p.1.target == m.target)
    let bare := s.modScn fun x => { x with live := x.live.filter (fun p => p.1.target != m.target) }
    let st := bare.admission bare.stagedMoves [m]
    if st ≠ 0 then (st, (s.countRefusal st).liveRefused st r, [])
    else
      let bare := if replaced.isEmpty then bare else bare.count Reg.SCN_LIVE_MERGED 0 replaced.length
      if s.opMode = 1 ∨ s.opMode = 2 then
        let (s, done) := bare.commitAll true [{ slot := 16, move := m }]
        (0, (s.count Reg.SCN_LIVE_CNT).showScn, done)
      else
        let s := if bare.scn.live.isEmpty then bare.allocBuf (openSize 0x410) clsStage 0x410 else bare
        let s := (s.modScn fun x => { x with live := x.live ++ [(m, none)] }).mirrorMove 16 0 m
        (0, s.showScn, [])

/-- Receive records into the live lane, to the first failure. -/
def State.liveAll (s : State) (idx : Nat) (done : List SMove) : List Rec → (Nat × Nat) × State × List SMove
  | [] => ((0, 0), s, done)
  | r :: rs =>
    let (st, s, d) := s.liveMove r
    if st ≠ 0 then ((st, idx), s, done ++ d) else s.liveAll (idx + 1) (done ++ d) rs

end Sys2Proof.Machine
end

