-- ==== Sys2Proof/Machine/Ephemeris.lean ====
section
/-! DEFINITION. The Ephemeris and the cue lines (R277 to R283, R294). -/

namespace Sys2Proof.Machine

/-! ## Copies of a plane (R285, R350) -/

/-- A field of a plane's own copy of a word. -/
def State.getP (s : State) (p : Plane) (f : Fld) (i : Nat := 0) : Nat :=
  bits (s.word (planeKey p (fldAt f i))).toNat f.hi f.lo

/-- Store a field of a plane's own copy of a word. -/
def State.putP (s : State) (p : Plane) (f : Fld) (i : Nat) (v : Nat) : State :=
  let k := planeKey p (fldAt f i)
  s.setWord k (BitVec.ofNat 32 (withBits (s.word k).toNat f.hi f.lo v))

/-! ## Insertion and removal -/

/-- The lowest handle that no entry holds. DEDUCED (log entry 64). -/
def State.freeHandle (s : State) : Nat :=
  ((List.range 4096).find? (fun h => !(s.eph.entries.any (·.handle == h)))).getD 0

/-- Does an entry drive a cue output? -/
def isCueOut (x : EphEntry) : Bool := match x.kind with
  | .cueOut _ _ _ => true
  | _ => false

/-- A handle for a new CUE_OUT entry: the spec does not say which; a free value, moved to a handle not in use. DEDUCED (log entry 64). -/
def State.newHandle (s : State) : Nat × State :=
  let (v, s) := s.draw
  let h := v % 4096
  (if s.eph.entries.any (fun x => isCueOut x && x.handle == h) then s.freeHandle else h, s)

/-- EPH_PUSH (R279, R294): the CUE_OUT entry held in the plane's copy of 0x060 to 0x06C is inserted or refused. DEDUCED (log entry 64). -/
def execEphPush (p : Plane) (v : Word) (s : State) : Out := s.atPage 0x54 fun s =>
  if v.toNat % 2 = 0 then ok s
  else
    let ns := s.getP p Reg.EPH_W3
    let t := statedTime (s.getP p Reg.EPH_W1) (s.getP p Reg.EPH_W2) ns
    let done := fun (s : State) (st h : Nat) =>
      ((s.putP p Reg.EPH_STATUS 0 st).putP p Reg.EPH_HANDLE 0 h).putP p Reg.EPH_DONE 0 1
    if s.getP p Reg.EPH_KIND ≠ 2 ∨ s.getP p Reg.EPH_WIDTH = 0 ∨ 1000000000 ≤ ns then ok (done s Scs.BAD_ARG 0)
    else if !s.ephRoom then ok (done ((s.count Reg.EPH_REFUSED).irq Reg.EPH_IRQ_FULL) Scs.EPH_FULL 0)
    else if t < s.thirds + 512 then ok (done (s.count Reg.EPH_REFUSED) Scs.EPH_PAST 0)
    else
      let (h, s) := s.newHandle
      let k := EphKind.cueOut (s.getP p Reg.EPH_LINE) (s.getP p Reg.EPH_POL == 1) (s.getP p Reg.EPH_WIDTH)
      ok (done (s.ephAdd { time := t, kind := k, handle := h }) 0 h)

/-- EPH_CANCEL (R281): a CUE_OUT entry that has not fired is removed; any other handle is ignored. -/
def execEphCancel (v : Word) (s : State) : Out := s.atPage 0x54 fun s =>
  ok (s.ephDrop (fun x => isCueOut x && x.handle == v.toNat % 4096))

/-! ## Firing (R278, R280) -/

/-- The root edge at which the PTP clock reaches a time, where it has not passed it. -/
def State.edgeOf (s : State) (t : Nat) : Nat :=
  if t ≤ s.thirds then s.clk.now else s.ptp.at0 + (t - s.ptp.base + 1) / 2 * 2

/-- An entry leaves the Ephemeris and is counted; one that fires after its time is counted as well (R280). -/
def State.ephFired (s : State) (x : EphEntry) : State :=
  let s := (s.ephDrop (· == x)).count Reg.EPH_FIRED
  if x.passed then (s.count Reg.EPH_STEPPED).irq Reg.EPH_IRQ_STEP else s

/-- A COMMIT entry fires its slot's trigger; one that a step passed is late (R269, R280). -/
def State.fireCommit (s : State) (i : Nat) (x : EphEntry) : State :=
  (s.ephFired x).setSlot i fun t => { t with fired := true, missed := t.missed || x.passed }

/-- The level of a cue output from its running pulses (R281): that of the pulse that began later, else the idle level. -/
def State.driveLine (s : State) (line : Nat) : State :=
  let ps := s.eph.pulses.filter (·.line == line)
  let level := match ps.getLast? with
    | some p => !p.pol
    | none => tget false s.eph.idle line
  s.modEph fun e => { e with lines := tput false e.lines line level }

/-- A pulse begins: it merges with a running pulse of the same line and POL (R281). -/
def State.startPulse (s : State) (line : Nat) (pol : Bool) (width : Nat) : State :=
  let stop := s.clk.now + width * usEdges
  let same := s.eph.pulses.any (fun p => p.line == line && p.pol == pol)
  let s := s.modEph fun e =>
    if same then
      { e with pulses := e.pulses.map fun p => if p.line == line && p.pol == pol then { p with stop := max p.stop stop } else p }
    else { e with pulses := e.pulses ++ [{ line := line, pol := pol, start := s.clk.now, stop := stop }] }
  s.driveLine line

/-- A CUE_OUT entry fires (R281). -/
def State.fireCueOut (s : State) (x : EphEntry) : State :=
  match x.kind with
  | .cueOut line pol width => ((s.ephFired x).irq Reg.EPH_IRQ_CUE_OUT).startPulse line pol width
  | _ => s

/-- EPH_COMMIT_FIRE (R278): the COMMIT entry of a slot fires at the cutoff of its boundary S_T, the coming one. -/
def execEphCommitFire (slot : Nat) (s : State) : Out :=
  match s.eph.entries.find? (isCommitOf slot) with
  | none => ok s
  | some x =>
    if x.passed || decide (s.ptp.thirdsAt s.nextBoundary < x.time) then ok s
    else ok ((s.advanceTo (s.cutoff s.nextBoundary)).fireCommit slot x)

/-- CUE_OUT_FIRE (R278, R281): the earliest CUE_OUT entry fires at its time. -/
def execCueOutFire (handle : Nat) (s : State) : Out :=
  match s.eph.entries.find? isCueOut with
  | none => ok s
  | some x =>
    if x.handle ≠ handle ∨ x.passed ∨ !s.ptp.run then ok s
    else ok ((s.advanceTo (s.edgeOf x.time)).fireCueOut x)

/-- CUE_OUT_PULSE_END (R281): the pulse of a line that ends first ends; the line takes the level of the pulse still running, or
the inactive level of the one that ended. -/
def execCueOutPulseEnd (line : Nat) (s : State) : Out :=
  let ps := s.eph.pulses.filter (·.line == line)
  match ps with
  | [] => ok s
  | p :: r =>
    let q := r.foldl (fun a b => if b.stop < a.stop then b else a) p
    let s := s.advanceTo q.stop
    let s := s.modEph fun e => { e with pulses := e.pulses.filter (· != q), idle := tput false e.idle line q.pol }
    ok (s.driveLine line)

/-! ## Cue inputs (R282, R283) -/

/-- CUE_EDGE_CONFIRM (R282, R283): an edge on a cue input is confirmed; it fires the CUE triggers attached to it. A line
without a ball sees a held level (R425). -/
def execCueEdgeConfirm (line : Nat) (level : Bool) (s : State) : Out :=
  if 4 ≤ line || !s.onBall 0x0A line then ok s
  else
    let s := s.setBitOf Reg.SCNQ_CUE_LEVEL 0 line level
    if !s.getB Reg.SCNQ_CUE_EN line then ok s
    else
      let s := (s.count Reg.SCNQ_CUE_CNT line).setBitOf Reg.SCNQ_IRQ_CUE_EDGE 0 line true
      let edge := if level then 0 else 1
      let hits := below 16 fun i =>
        let t := s.slot i
        let st := s.slotState i
        s.get Reg.SLOT_TRIG i == 2 && (st == 2 || st == 4) && !t.fired && t.cue == line && t.edge == edge
      if hits.isEmpty then ok (s.count Reg.SCNQ_CUE_IDLE)
      else ok (forEach (fun i s => s.setSlot i fun t => { t with fired := true }) hits s)

/-- EPH_NEXT_SEC_LO_READ (R294): the earliest entry's time is read as one. -/
def execEphNextSecLoRead (p : Plane) (s : State) : Out := s.readAt p 0x54 fun s =>
  match s.eph.entries with
  | [] => ok ((((s.putP p Reg.EPH_NEXT_SEC_HI 0 0).putP p Reg.EPH_NEXT_NS 0 0).putP p Reg.EPH_EMPTY 0 1).setRead p 0)
  | x :: _ =>
    let sec := secOf x.time
    let s := (s.putP p Reg.EPH_NEXT_SEC_HI 0 (sec / 2 ^ 32)).putP p Reg.EPH_NEXT_NS 0 (nsOf x.time)
    ok ((s.putP p Reg.EPH_EMPTY 0 0).setRead p (sec % 2 ^ 32))

end Sys2Proof.Machine
end

