-- ==== Sys2Proof/Machine/PtpTime.lean ====
section
/-! DEFINITION. Network time: the PTP clock's steps, the servos, the TX timestamp FIFO and the show calendar (R341 to R367). -/

namespace Sys2Proof.Machine

/-! ## The show calendar (R360 to R364) -/

/-- A date and a time of day. -/
structure Civil where
  year   : Nat
  month  : Nat
  day    : Nat
  hour   : Nat
  minute : Nat
  second : Nat
  deriving DecidableEq, Repr

/-- Leap years of 2000 to 2199 (R360). -/
def leapYear (y : Nat) : Bool := y % 4 == 0 && y != 2100

/-- Days of a month (R360). -/
def monthDays (y m : Nat) : Nat :=
  if m = 2 then (if leapYear y then 29 else 28) else if m = 4 ∨ m = 6 ∨ m = 9 ∨ m = 11 then 30 else 31

/-- Is a date and time one the calendar holds (R362)? -/
def Civil.ok (c : Civil) : Bool :=
  decide (2000 ≤ c.year ∧ c.year ≤ 2199 ∧ 1 ≤ c.month ∧ c.month ≤ 12 ∧ 1 ≤ c.day ∧ c.day ≤ monthDays c.year c.month ∧
    c.hour ≤ 23 ∧ c.minute ≤ 59 ∧ c.second ≤ 59)

/-- One second later, and whether the century wraps (R360, R361). -/
def Civil.tick (c : Civil) : Civil × Bool :=
  if c.second < 59 then ({ c with second := c.second + 1 }, false)
  else if c.minute < 59 then ({ c with minute := c.minute + 1, second := 0 }, false)
  else if c.hour < 23 then ({ c with hour := c.hour + 1, minute := 0, second := 0 }, false)
  else
    let c := { c with hour := 0, minute := 0, second := 0 }
    if c.day < monthDays c.year c.month then ({ c with day := c.day + 1 }, false)
    else if c.month < 12 then ({ c with month := c.month + 1, day := 1 }, false)
    else if c.year < 2199 then ({ c with year := c.year + 1, month := 1, day := 1 }, false)
    else ({ c with year := 2000, month := 1, day := 1 }, true)

/-- The month and day of a day of a year, counted from 0. -/
def monthOf (y : Nat) : Nat → Nat → Nat → Nat × Nat
  | 0, m, d => (m, d + 1)
  | k + 1, m, d => if d < monthDays y m then (m, d + 1) else monthOf y k (m + 1) (d - monthDays y m)

/-- The year of a day counted from 1 January of year `y`, and the day of that year. -/
def yearOf : Nat → Nat → Nat → Nat × Nat
  | 0, y, d => (y, d)
  | k + 1, y, d =>
    let n := if leapYear y then 366 else 365
    if d < n then (y, d) else yearOf k (y + 1) (d - n)

/-- Seconds from 1970-01-01 to 2000-01-01, and to the end of 2199. -/
def sec2000 : Nat := 946684800
def sec2200 : Nat := 7258118400

/-- The civil time of a count of seconds from 1970-01-01, where the calendar holds it (R363). -/
def civilOf (t : Int) : Option Civil :=
  if t < sec2000 ∨ (sec2200 : Int) ≤ t then none
  else
    let n := t.toNat - sec2000
    let (y, d) := yearOf 200 2000 (n / 86400)
    let (m, dd) := monthOf y 12 1 d
    some { year := y, month := m, day := dd, hour := n % 86400 / 3600, minute := n % 3600 / 60, second := n % 60 }

/-- The calendar. -/
def State.calendar (s : State) : Civil :=
  { year := s.get Reg.CAL_YEAR, month := s.get Reg.CAL_MONTH, day := s.get Reg.CAL_DAY,
    hour := s.get Reg.CAL_HOUR, minute := s.get Reg.CAL_MINUTE, second := s.get Reg.CAL_SECOND }

/-- Show a date and time in the calendar. -/
def State.setCalendar (s : State) (c : Civil) : State :=
  let s := ((s.put0 Reg.CAL_YEAR c.year).put0 Reg.CAL_MONTH c.month).put0 Reg.CAL_DAY c.day
  ((s.put0 Reg.CAL_HOUR c.hour).put0 Reg.CAL_MINUTE c.minute).put0 Reg.CAL_SECOND c.second

/-- Load the UTC of SEC minus TAI-UTC (R363); answers whether the load applied. DEDUCED (log entry 20). -/
def State.calAutoLoad (s : State) : State × Bool :=
  match civilOf ((secOf s.thirds : Int) - sx 16 (s.get Reg.CAL_TAI_UTC)) with
  | some c => (s.setCalendar c, true)
  | none => ((s.put0 Reg.CAL_RANGE 1).irq Reg.CAL_IRQ_RANGE, false)

/-- The SEC at which an armed TAI-UTC change applies. -/
def State.taiAt (s : State) : Nat := s.get Reg.CAL_TAI_UTC_AT_LO + 2 ^ 32 * s.get Reg.CAL_TAI_UTC_AT_HI

/-- An armed change applies (R364). -/
def State.taiApply (s : State) : State :=
  let s := (s.put0 Reg.CAL_TAI_UTC (s.get Reg.CAL_TAI_UTC_NEXT)).put0 Reg.CAL_TAI_UTC_ARM 0
  (s.put0 Reg.CAL_LEAP 1).irq Reg.CAL_IRQ_LEAP

/-- The calendar counts one second on. -/
def State.calTick (s : State) : State :=
  let (c, wrap) := s.calendar.tick
  let s := s.setCalendar c
  if wrap then (s.put0 Reg.CAL_CENTURY_WRAP 1).irq Reg.CAL_IRQ_WRAP else s

/-- SECONDS_CARRY (R344, R360 to R364): SEC increments; an accepted set is shown, a due TAI-UTC change applies, AUTO loads, or the
calendar counts on. -/
def execSecondsCarry (s : State) : Out :=
  if !s.ptp.run then ok s
  else
    let s := s.advanceTo (s.edgeOf ((secOf s.thirds + 1) * 3000000000))
    let s := s.modPtp fun p => { p with secSeen := secOf s.thirds }
    let due := s.getB Reg.CAL_TAI_UTC_ARM && decide (s.taiAt ≤ secOf s.thirds)
    let s := if due then s.taiApply else s
    let load := s.getB Reg.CAL_AUTO && (due || s.ptp.calLoad)
    let set := s.ptp.calSet
    let s := s.modPtp fun p => { p with calSet := none, calLoad := if load then false else p.calLoad }
    let (s, done) := if load then s.calAutoLoad else (s, false)
    if done then ok s
    else match set with
    | some (y, m, d, h, mi, sc) =>
      ok (s.setCalendar { year := y, month := m, day := d, hour := h, minute := mi, second := sc })
    | none => ok s.calTick

/-- CAL_SET_GO (R362). -/
def execCalSetGo (v : Word) (s : State) : Out := s.atPage 0x75 fun s =>
  if v.toNat % 2 = 0 then ok s
  else
    let c : Civil :=
      { year := s.get Reg.CAL_SET_YEAR, month := s.get Reg.CAL_SET_MONTH, day := s.get Reg.CAL_SET_DAY,
        hour := s.get Reg.CAL_SET_HOUR, minute := s.get Reg.CAL_SET_MINUTE, second := s.get Reg.CAL_SET_SECOND }
    if c.ok then
      ok ((s.put0 Reg.CAL_AUTO 0).modPtp fun p =>
        { p with calSet := some (c.year, c.month, c.day, c.hour, c.minute, c.second), calLoad := false })
    else ok ((s.put0 Reg.CAL_DATE_ERR 1).irq Reg.CAL_IRQ_DATE_ERR)

/-- CAL_TAI_UTC_ARM (R364): W1S. -/
def execCalTaiUtcArm (v : Word) (s : State) : Out := s.atPage 0x75 fun s =>
  ok (if v.toNat % 2 = 1 then s.put0 Reg.CAL_TAI_UTC_ARM 1 else s)

/-- CAL_DATE_READ (R366): the read latches CAL_TIME for the reading plane. -/
def execCalDateRead (p : Plane) (s : State) : Out := s.readAt p 0x75 fun s =>
  let k := planeKey p (fldAt Reg.CAL_HOUR 0)
  ok ((s.setWord k (s.word (fldAt Reg.CAL_HOUR 0))).setRead p (s.word (fldAt Reg.CAL_YEAR 0)).toNat)

/-! ## Reading the time (R350) -/

/-- TIME_STAT as it stands (R347, R365). -/
def State.timeStat (s : State) : Nat :=
  let ptp := s.helLocked && decide (s.helSel < 2)
  s.ptp.valid.toNat * 2 ^ 31 + ptp.toNat * 2 ^ 30 + (if ptp then s.helSel else 0xF) * 2 ^ 16

/-- TIME_SEC_LO_READ (R350): the other time words are latched for the reading plane, taken in the same tick. -/
def execTimeSecLoRead (p : Plane) (s : State) : Out := s.readAt p 0x74 fun s =>
  let t := s.thirds
  let latch := fun (f : Fld) (v : Nat) (s : State) => s.setWord (planeKey p (fldAt f 0)) (BitVec.ofNat 32 v)
  let s := latch Reg.TIME_SEC_HI (secOf t / 2 ^ 32) (latch Reg.TIME_NS (nsOf t) (latch Reg.TIME_FRAC (fracOf t) s))
  let s := latch Reg.TIME_TS32 (ts32Of t) (latch Reg.TIME_STEP_CNT (s.ptp.steps % 2 ^ 32) s)
  ok ((latch Reg.TIME_VALID s.timeStat s).setRead p (secOf t % 2 ^ 32))

/-! ## Steps (R348, R349) -/

/-- The next base-grid boundary's grid point strictly after now (R311, R346). -/
def State.nextGrid (s : State) : Nat := s.clk.ref + ((s.clk.now - s.clk.ref) / 62500 + 1) * 62500

/-- Whole base periods that remove an offset of n/65536 ns, ties toward zero (R348). -/
def stepPeriods (off : Int) : Int :=
  -- offset × 3 thirds per ns over 62,500 thirds per base period
  let num := 3 * off.natAbs
  let den := 65536 * 62500
  let q := num / den + (if den < 2 * (num % den) then 1 else 0)
  if off < 0 then (q : Int) else -(q : Int)

/-- The words of a TIME record (R486). -/
def timeWords (t : Nat) : List Nat := [secOf t % 2 ^ 32, secOf t / 2 ^ 32, t % 3000000000]

/-- TIME: a standby takes a step at the same base-grid boundary (R467). -/
def State.mirrorStep (s : State) (n : Int) : State :=
  if !s.partnerFollows then s
  else
    let grid := (s.clk.pos / 62500 + 1) * 62500
    let at' := s.clk.idx + (grid - s.clk.pos) / periodEdges s.rate
    let t := (((s.ptp.thirdsAt (s.clk.ref + grid) : Int) + n * 62500) % (ptpModulus : Int)).toNat
    s.sendRecord 8 at' (timeWords t)

/-- Decide a step on a servo's offset; a step of zero is no step (R348). -/
def State.decideStep (s : State) (x : Nat) : State :=
  let off := if x = 0 then s.ptp.servoA.offset else s.ptp.servoB.offset
  let n := stepPeriods off
  if n = 0 then s else (s.modPtp fun p => { p with step := some n }).mirrorStep n

/-- An entry that a step from `pre` to `post` thirds passes (R280); NET_LAUNCH entries move with the step (R386). -/
def passedBy (pre post : Nat) (x : EphEntry) : Bool :=
  decide (pre < x.time) && match x.kind with
    | .commit _ => decide (x.time ≤ post)
    | .cueOut _ _ _ => decide (x.time < post)
    | .netLaunch _ _ => false

/-- Move a time by a step. -/
def moveTime (pre post t : Nat) : Nat := t + post - pre

/-- Mark the entries that a step passes; after a backward step entries wait for their time (R280). -/
def State.ephStep (s : State) (pre post : Nat) : State :=
  let mark := fun (x : EphEntry) => match x.kind with
    | .netLaunch _ _ => { x with time := moveTime pre post x.time }
    | _ =>
      if pre < post then { x with passed := x.passed || passedBy pre post x }
      else { x with passed := x.passed && decide (x.time < post) }
  s.modEph fun e => { e with entries := (e.entries.map mark).foldl (fun l x => ephInsert x l) [] }

/-! ### Network streams at a step (R381, R386) -/

/-- Latch time of a media index, in thirds of a nanosecond (R307, R379). -/
def rxLatch (w4 w6 m : Nat) : Nat := m * 3000000000 / w6Rate w6 + 3000 * bits w4 14 0

/-- The end of the media indices whose latch time is at or before a time. -/
def rxDueEnd (w4 w6 t : Nat) : Nat :=
  let o := 3000 * bits w4 14 0
  if t < o then 0 else (t - o) * w6Rate w6 / 3000000000 + 1

/-- The span that the RX pool holds: 21.33 ms (R374, R379). -/
def rxSpan : Nat := 63990000

/-- Is an RX stream clocked from the media clock (R68)? -/
def State.rxMediaStream (s : State) (i : Nat) : Bool := s.mediaDomain == some (bits (s.rxw i 0) 7 0)

/-- Enabled streams of a direction. -/
def State.streams (s : State) (tx : Bool) : List Nat :=
  (distinct ((s.keysIn (if tx then 0x602000 else 0x600000) (if tx then 0x604000 else 0x602000)).map
    (fun k => k % 0x2000 / 32))).filter (fun i => bit (if tx then s.txw i 0 else s.rxw i 0) 31)

/-- An RX stream at a step from `pre` to `post` (R381): latch times follow the new clock. -/
def State.rxStep (pre post i : Nat) (s : State) : State :=
  if s.get Reg.RXS_STATE i ≠ 2 then s
  else
    let s := s.put Reg.RXS_STEP i 1
    if !s.rxMediaStream i then s
    else
      let lt := rxLatch (s.rxw i 4) (s.rxw i 6)
      let e := rxDueEnd (s.rxw i 4) (s.rxw i 6) post
      s.modNet fun n => { n with rx := tmod {} n.rx i fun x =>
        { x with buf := x.buf.filter (fun b => post ≤ lt b.1 && decide (lt b.1 ≤ post + rxSpan)),
                 done := x.done.map (fun d => if pre < post then max d e else e) } }

/-- The ports move every launch by the step, and the next packet begun carries the marker (R385, R386). -/
def State.txStep (pre post i : Nat) (s : State) : State :=
  s.modNet fun n => { n with tx := tmod {} n.tx i fun x =>
    { x with marker := true, launch := moveTime pre post x.launch,
             ready := x.ready.map fun p => { p with launch := moveTime pre post p.launch } } }

/-- The network ports at a step of the PTP clock. -/
def State.netStep (s : State) (pre post : Nat) : State :=
  forEach (State.txStep pre post) (s.streams true) (forEach (State.rxStep pre post) (s.streams false) s)

/-- The clock steps by `n` base periods now. DEDUCED (log entry 65). -/
def State.stepBy (s : State) (n : Int) : State :=
    let pre := s.thirds
    let post := (((pre : Int) + n * 62500) % (ptpModulus : Int)).toNat
    let moved : Int := n * 62500 * 65536 / 3
    let s := s.modPtp fun p =>
      { p with base := post, at0 := s.clk.now, step := none, steps := p.steps + 1, secSeen := secOf post,
               servoA := { p.servoA with offset := p.servoA.offset + moved },
               servoB := { p.servoB with offset := p.servoB.offset + moved } }
    let c := unsx 48 n
    let s := (s.put0 Reg.TIME_LAST_STEP_LO (c % 2 ^ 32)).put0 Reg.TIME_LAST_STEP_HI (c / 2 ^ 32)
    let s := (s.put0 Reg.TIME_LAST_STEP_TS32 (ts32Of post)).irq Reg.TIME_IRQ_STEP
    let s := (s.ephStep pre post).netStep pre post
    let due := s.getB Reg.CAL_TAI_UTC_ARM && decide (pre < post) && decide (secOf pre < s.taiAt ∧ s.taiAt ≤ secOf post)
    let s := if due then s.taiApply else s
    if s.getB Reg.CAL_AUTO then s.calAutoLoad.1 else s

/-- PTP_STEP (R348, R349): the decided step takes effect at the base-grid boundary. DEDUCED (log entry 65). -/
def execPtpStep (s : State) : Out := match s.ptp.step with
  | none => ok s
  | some n => ok (if s.ptp.run then (s.advanceTo s.nextGrid).stepBy n else s)

/-! ## The TX timestamp FIFO (R354, R355) -/

/-- Show the head of the FIFO. -/
def State.showTxts (s : State) : State :=
  let s := s.put0 Reg.TIME_TXTS_CNT s.ptp.txts.length
  let (ws, port, cookie) := match s.ptp.txts with
    | [] => ([], 0, 0)
    | t :: _ => (t.words, t.port, t.cookie)
  let s := forRange (fun i s => s.put Reg.TIME_TXTS_W i (ws.getD i 0).toNat) 0 4 s
  (s.put0 Reg.TIME_PORT port).put0 Reg.TIME_TXTS_COOKIE cookie

/-- The timestamp record of a time in thirds of a nanosecond (R354). -/
def State.stampRecord (s : State) (port : Nat) (valid : Bool) (t : Nat) : List Word :=
  let t := if valid then t else 0
  [BitVec.ofNat 32 (secOf t), BitVec.ofNat 32 (valid.toNat * 2 ^ 31 + port * 2 ^ 16 + secOf t / 2 ^ 32 % 2 ^ 16),
   BitVec.ofNat 32 (nsOf t), BitVec.ofNat 32 (s.ptp.steps % 2 ^ 16 * 2 ^ 16 + fracOf t)]

/-- A TX timestamp enters the FIFO, or is lost where it is full (R355). -/
def State.pushTxts (s : State) (port cookie : Nat) (words : List Word) : State :=
  if 64 ≤ s.ptp.txts.length then (s.count Reg.TIME_TXTS_LOST).irq Reg.TIME_IRQ_TXTS_OVF
  else
    ((s.modPtp fun p => { p with txts := p.txts ++ [{ words := words, port := port, cookie := cookie }] }).showTxts).irq
      Reg.TIME_IRQ_TXTS

/-- TIME_TXTS_POP (R355): management bus only. -/
def execTimeTxtsPop (p : Plane) (v : Word) (s : State) : Out := s.atPage 0x74 fun s =>
  ok (if p == .mgmt ∧ v.toNat % 2 = 1 then (s.modPtp fun q => { q with txts := q.txts.tail }).showTxts else s)

end Sys2Proof.Machine
end

