-- ==== Sys2Proof/Machine/Heliostat.lean ====
section
/-! DEFINITION. Heliostat: candidates, monitors, states and selection, the trim (R311 to R340), and the PTP servos that are two
of its candidates (R356 to R359). -/

namespace Sys2Proof.Machine

/-- Root edges of a second and of a measurement interval. -/
def secEdges : Nat := 3000000000
def instEdges : Nat := 375000000

/-- Reject reasons of R320. -/
def rejActivity : Nat := 0
def rejFreq : Nat := 1
def rejRange : Nat := 2
def rejSource : Nat := 3
def rejProv : Nat := 4
def rejAcqTimeout : Nat := 5

/-- States of R321. -/
def helFreerun : Nat := 0
def helAcquire : Nat := 1
def helLock : Nat := 2
def helHoldover : Nat := 3

/-- Change the hel part of the state. -/
def State.modHel (s : State) (f : Hel → Hel) : State := { s with hel := f s.hel }

/-- A candidate. -/
def State.cand (s : State) (c : Nat) : HelCand := tget {} s.hel.cands c
def State.setCand (s : State) (c : Nat) (f : HelCand → HelCand) : State :=
  s.modHel fun h => { h with cands := tmod {} h.cands c f }

/-! ## Provisioning (R334) -/

/-- Do an enabled candidate's words keep the rules of R334? -/
def helWordsOk (c c0 c1 : Nat) : Bool :=
  let param := bits c0 23 16
  let p := bits c1 31 16
  let q := bits c1 15 0
  bits c0 29 27 == 0 && bits c0 15 0 == 0 &&
  (if c < 2 then decide (-7 ≤ sx 8 param ∧ sx 8 param ≤ 1)
   else (if c = 4 then decide (param ≤ 31) else if c = 7 then param == 0 else decide (param ≤ 1)) &&
     decide (1 ≤ p ∧ 1 ≤ q ∧ q ≤ 48000 * p ∧ 48000 * p ≤ 50000000 * q))

/-- C0 and C1 of a candidate as loaded. -/
def State.helC0 (s : State) (c : Nat) : Nat := s.get Reg.HEL_PROV_C0 c
def State.helC1 (s : State) (c : Nat) : Nat := s.get Reg.HEL_PROV_C1 c

/-- Is a candidate enabled by provisioning? -/
def State.candEn (s : State) (c : Nat) : Bool := bit (s.helC0 c) 31 && helWordsOk c (s.helC0 c) (s.helC1 c)
def State.candPull (s : State) (c : Nat) : Bool := bit (s.helC0 c) 30
def State.candPrio (s : State) (c : Nat) : Nat := bits (s.helC0 c) 26 24

/-- The global fields in force: a field outside its range is replaced (R334). -/
def State.helWtr (s : State) : Nat := let v := bits (s.get Reg.HEL_PROV_G0) 31 16; if v ≤ 600 then v else 0
def State.helHoldoff (s : State) : Nat := let v := bits (s.get Reg.HEL_PROV_G0) 15 4; if v ≤ 3600 then v else 60
def State.helWclkSel (s : State) : Nat := let v := bits (s.get Reg.HEL_PROV_G1) 13 12; if v ≤ 2 then v else 0
def State.helPullPpm (s : State) : Nat := let v := bits (s.get Reg.HEL_PROV_G1) 7 0; if 1 ≤ v ∧ v ≤ 20 then v else 5

/-- Do the global words break R334? -/
def helGlobalsErr (g0 g1 : Nat) : Bool :=
  decide (600 < bits g0 31 16) || decide (3600 < bits g0 15 4) || bits g0 3 0 != 0 || bits g1 13 12 == 3 ||
  decide (bits g1 7 0 < 1 ∨ 20 < bits g1 7 0) || bits g1 31 14 != 0 || bits g1 11 10 != 0

/-- A candidate's nominal period in root edges, a fraction (R312). -/
def State.nomPeriod (s : State) (c : Nat) : Nat × Nat :=
  if c < 2 then
    let k := sx 8 (bits (s.helC0 c) 23 16)
    if 0 ≤ k then (secEdges * 2 ^ k.toNat, 1) else (secEdges, 2 ^ (-k).toNat)
  else (62500 * bits (s.helC1 c) 15 0, max 1 (bits (s.helC1 c) 31 16))

/-- Three nominal periods after an event, at the PCLK edge at which they expire (R313). -/
def State.lossEdge (s : State) (c : Nat) : Nat :=
  let (n, d) := s.nomPeriod c
  ((s.cand c).last + (3 * n + d - 1) / d + 7) / 8 * 8

/-! ## History and the event log (R336, R337) -/

/-- Write one entry of the event log. -/
def State.helLog (s : State) (kind frm goal cand reason : Nat) : State :=
  let w := s.get Reg.HELLOG_LOG_WR
  let q := s.get Reg.HELLOG_LOG_SEQ
  let s := s.put Reg.HELLOG_LOG_TS w s.ts32
  let s := s.put Reg.HELLOG_LOG_EVT w (kind * 2 ^ 28 + frm * 2 ^ 26 + goal * 2 ^ 24 + cand * 2 ^ 20 + reason * 2 ^ 16 + q)
  (s.put0 Reg.HELLOG_LOG_WR (w + 1)).put0 Reg.HELLOG_LOG_SEQ (q + 1)

/-- The present state. -/
def State.helState (s : State) : Nat := s.get Reg.HEL_STATE

/-- A candidate is rejected (R318 to R320): PENDING, or ABSENT without activity. -/
def State.helReject (s : State) (c reason : Nat) : State :=
  let s := s.put Reg.HEL_STATUS c (if (s.cand c).since.isSome && s.candEn c then 1 else 0)
  let s := ((s.put Reg.HEL_QUAL_CNT c 0).put Reg.HEL_LAST_REJ c reason).count Reg.HEL_REJ_CNT c
  let s := s.setCand c fun x => { x with compl := false }
  ((s.setBitOf Reg.HEL_REJ 0 c true).irq Reg.HEL_IRQ_REJECT).helLog 2 s.helState s.helState c reason

/-- A candidate is accepted (R317). -/
def State.helAccept (s : State) (c : Nat) : State :=
  let s := (s.put Reg.HEL_STATUS c 2).count Reg.HEL_ACC_CNT c
  let s := s.setCand c fun x => { x with accAt := s.clk.now }
  ((s.setBitOf Reg.HEL_ACC 0 c true).irq Reg.HEL_IRQ_ACCEPT).helLog 1 s.helState s.helState c 0

/-! ## Reference frequency, trim, holdover frequency (R315, R321, R327, R333) -/

/-- The trim now: it slews in ACQUIRE toward the acquired candidate's RAW at 4,000 ppb per second (R321). DEDUCED (log entry 79). -/
def State.trimNow (s : State) : Int :=
  let t := s.hel.trim
  if s.helState = helAcquire then
    let goal := max (-100000) (min 100000 (sx 32 (s.get Reg.HEL_CAND_RAW s.helSel)))
    let d : Int := (4000 * (s.clk.now - s.hel.trimAt) / secEdges : Nat)
    if t ≤ goal then min goal (t + d) else max goal (t - d)
  else t

/-- Hold the trim as it is now. -/
def State.takeTrim (s : State) : State :=
  let t := s.trimNow
  (s.modHel fun h => { h with trim := t, trimAt := s.clk.now }).put0 Reg.HEL_TRIM (unsx 32 t)

/-- The holdover frequency from the records, a sum and a count; the trim where fewer than 8 exist (R323, R327). -/
def State.holdFreq (s : State) : Int × Nat :=
  let r := s.hel.records
  if r.length < 8 then (s.trimNow, 1) else (r.foldl (· + ·) 0, r.length)

/-- Show the holdover frequency and its history (R327). -/
def State.showHold (s : State) : State :=
  let h := if s.helState = helHoldover then s.hel.hold else if s.hel.records.length < 8 then (0, 1) else s.holdFreq
  (s.put0 Reg.HEL_HOLD (unsx 32 (roundHalfEven h.1 h.2))).put0 Reg.HEL_HIST_SECS (s.hel.records.length / 8)

/-! ## States and selection (R321 to R326) -/

/-- Candidates in order of priority, among those a test selects (R322). -/
def State.candsBy (s : State) (p : Nat → Bool) : List Nat :=
  (List.range 8).flatMap fun prio => below 8 fun c => p c && s.candPrio c == prio

/-- Is a candidate eligible for acquisition (R321)? -/
def State.eligible (s : State) (c : Nat) : Bool :=
  s.candEn c && s.candPull c && (s.cand c).meas && s.getB Reg.HEL_IN_RANGE c &&
  (match (s.cand c).since with
   | some t => decide (t + 2 * secEdges ≤ s.clk.now)
   | none => false)

/-- Show which candidates are eligible. -/
def State.showEligible (s : State) : State := forRange (fun c s => s.putB Reg.HEL_ELIGIBLE c (s.eligible c)) 0 8 s

/-- A transition, or a switch of the selected candidate (R322, R336). -/
def State.helGoto (s : State) (new cand reason : Nat) (switch : Bool) : State :=
  let old := s.helState
  let s := s.takeTrim
  let hold := s.holdFreq
  let s := if switch then
      (((s.helLog 3 old new cand 0).put0 Reg.HEL_SWITCH 1).irq Reg.HEL_IRQ_SWITCH).count Reg.HEL_SWITCH_CNT
    else
      (((s.helLog 0 old new cand (if new = helHoldover then reason else 0)).setBitOf Reg.HEL_ENTERED 0 new true).irq
        Reg.HEL_IRQ_STATE).count Reg.HEL_TRANS_CNT
  let s := (s.put0 Reg.HEL_STATE new).put0 Reg.HEL_SEL (if new = helAcquire ∨ new = helLock then cand else 0xF)
  let s := s.modHel fun h =>
    { h with since := if switch then h.since else s.clk.now, far := 0,
             trim := if new = helFreerun then 0 else h.trim,
             records := if new = helFreerun then [] else h.records,
             hold := if new = helHoldover then hold else h.hold }
  let s := s.put0 Reg.HEL_TRIM (unsx 32 s.hel.trim)
  let s := if new = helLock ∧ cand < 2 then (s.modPtp fun p => { p with valid := true }).decideStep cand else s
  let s := if new = helLock ∧ cand = 7 then (s.put0 Reg.HEL_PHASE_ERR 0).put0 Reg.HEL_PHASE_ALIGNED 1 else s
  s.showHold

/-- The state transition and selection on the statuses that result: at most one (R322, R324, R325). -/
def State.helDecide (s : State) : State :=
  let acc := s.candsBy fun c => s.get Reg.HEL_STATUS c == 2
  let el := s.candsBy s.eligible
  let st := s.helState
  let c := s.helSel
  let age := s.clk.now - s.hel.since
  let acquire := fun (s : State) => match el with
    | e :: _ => s.helGoto helAcquire e 0 false
    | [] => s
  let s := if !(List.range 8).any s.candEn then (if st = helFreerun then s else s.helGoto helFreerun 0xF 0 false)
    else if st = helFreerun ∨ st = helHoldover then
      match acc with
      | a :: _ => s.helGoto helLock a 0 false
      | [] =>
        if st = helFreerun ∨ s.helHoldoff * secEdges ≤ age then acquire s else s
    else if st = helAcquire then
      match acc with
      | a :: _ => s.helGoto helLock a 0 false
      | [] =>
        if !s.candEn c then s.helGoto helHoldover c rejProv false
        else if (s.cand c).since.isNone then s.helGoto helHoldover c (s.cand c).why false
        else if (s.cand c).meas && !s.getB Reg.HEL_IN_RANGE c then s.helGoto helHoldover c rejRange false
        else if 30 * secEdges ≤ age then (s.put0 Reg.HEL_ACQ_TIMEOUT 1).helGoto helHoldover c rejAcqTimeout false
        else s
    else
      if s.get Reg.HEL_STATUS c ≠ 2 then
        match acc with
        | a :: _ => s.helGoto helLock a 0 true
        | [] => s.helGoto helHoldover c (s.get Reg.HEL_LAST_REJ c) false
      else if s.helWtr = 0 then s
      else
        let better := acc.takeWhile (· != c)
        match better.find? (fun a => decide ((s.cand a).accAt + s.helWtr * secEdges ≤ s.clk.now)) with
        | some a => if s.candPrio a < s.candPrio c then s.helGoto helLock a 0 true else s
        | none => s
  s.showEligible

/-- Does Heliostat run (R329)? -/
def State.helRuns (s : State) : Bool := s.opMode != 0

/-! ## Activity (R311, R313) -/

/-- An activity event of a candidate: it becomes active, and PENDING where it was ABSENT and is enabled. -/
def State.helActivity (s : State) (c : Nat) : State :=
  let first := (s.cand c).since.isNone
  let s := s.setCand c fun x => { x with last := s.clk.now, since := if first then some s.clk.now else x.since }
  let s := if first then s.put Reg.HEL_ACTIVE c 1 else s
  if s.helRuns && s.candEn c && s.get Reg.HEL_STATUS c == 0 then s.put Reg.HEL_STATUS c 1 else s

/-- A candidate loses activity (R313, R318, R319, R325 step 1). -/
def State.helLose (s : State) (c reason : Nat) : State :=
  if (s.cand c).since.isNone then s
  else
    let s := s.setCand c fun x => { x with since := none, compl := false, meas := false, why := reason }
    let s := (((s.put Reg.HEL_ACTIVE c 0).put Reg.HEL_IN_RANGE c 0).put Reg.HEL_CAND_OFS c 0).put Reg.HEL_CAND_RAW c 0
    if !s.helRuns then s.put Reg.HEL_STATUS c 0
    else
      let s := if s.get Reg.HEL_STATUS c = 2 then s.helReject c reason
               else (s.put Reg.HEL_STATUS c 0).put Reg.HEL_QUAL_CNT c 0
      s.helDecide

/-- ACTIVITY_EVENT (R313, R314): an edge or a frame start of a candidate. -/
def execActivityEvent (c : Nat) (s : State) : Out := ok (if c < 8 then s.helActivity c else s)

/-- ACTIVITY_LOSS (R313): three nominal periods have passed without an event, or the source declares its fault. -/
def execActivityLoss (c : Nat) (declared : Bool) (s : State) : Out :=
  if 8 ≤ c ∨ (s.cand c).since.isNone then ok s
  else if declared then ok (s.helLose c rejSource)
  else ok ((s.advanceTo (s.lossEdge c)).helLose c rejActivity)

/-! ## Measurement instants (R314, R317 to R319, R325, R327, R331, R333, R348) -/

/-- The mean of F_ref over the interval that ends now, in thousandths of a ppb (R315). DEDUCED (log entry 79). -/
def State.frefMean (s : State) (raw : Option Int) : Int :=
  let st := s.helState
  if st = helFreerun then 0
  else if st = helAcquire then
    let d := s.trimNow - s.hel.trim
    1000 * s.hel.trim + 1000 * d - d * d.natAbs
  else if st = helLock then 1000 * raw.getD s.hel.trim
  else roundHalfEven (1000 * s.hel.hold.1) s.hel.hold.2

/-- OFS: a frequency against the mean F_ref of the last second, both in ppb, to nearest (R314). -/
def helOfs (raw : Int) (means : List Int) : Int :=
  let n := means.length
  let sum := means.foldl (· + ·) 0
  let f : Int := 1000 * n
  roundHalfEven ((raw * f - sum) * 1000000000) (1000000000 * f + sum).toNat

/-- The monitors' values at an instant (R314): a candidate active for 1 s and enabled has a measurement. DEDUCED (log entry 79). -/
def State.helMeasure (s : State) (raw : List (Option Int)) : State :=
  forRange (fun c s =>
    let long := match (s.cand c).since with
      | some t => decide (t + secEdges ≤ s.clk.now)
      | none => false
    match (if long && s.candEn c then raw.getD c none else none) with
    | some r =>
      let s := s.setCand c fun x => { x with meas := true }
      let s := s.putB Reg.HEL_IN_RANGE c (decide (r.natAbs ≤ 100000))
      (s.put Reg.HEL_CAND_RAW c (unsx 32 r)).put Reg.HEL_CAND_OFS c (unsx 32 (helOfs r s.hel.means))
    | none =>
      let s := s.setCand c fun x => { x with meas := false }
      (s.put Reg.HEL_CAND_RAW c 0).put Reg.HEL_CAND_OFS c 0) 0 8 s

/-- Rejections at an instant, in candidate order (R318, R319). -/
def State.helRejects (s : State) : State :=
  forRange (fun c s =>
    if s.get Reg.HEL_STATUS c ≠ 2 ∨ !(s.cand c).meas then s
    else
      let raw := sx 32 (s.get Reg.HEL_CAND_RAW c)
      let ofs := sx 32 (s.get Reg.HEL_CAND_OFS c)
      let (h, n) := s.holdFreq
      if 100000 < raw.natAbs then s.helReject c rejRange
      else if s.helState = helLock ∧ s.helSel = c then
        (if 10000 * n < (raw * n - h).natAbs then s.helReject c rejFreq else s)
      else if 10000 < ofs.natAbs then s.helReject c rejFreq else s) 0 8 s

/-- Accepts at an instant, in candidate order (R317). -/
def State.helAccepts (s : State) : State :=
  forRange (fun c s =>
    if s.get Reg.HEL_STATUS c ≠ 1 then s
    else if !(s.cand c).meas then (s.put Reg.HEL_QUAL_CNT c 0).setCand c fun x => { x with compl := false }
    else
      let raw := sx 32 (s.get Reg.HEL_CAND_RAW c)
      let ofs := sx 32 (s.get Reg.HEL_CAND_OFS c)
      if 2000 < ofs.natAbs ∨ 100000 < raw.natAbs then
        (s.put Reg.HEL_QUAL_CNT c 0).setCand c fun x => { x with compl := false }
      else if !(s.cand c).compl then (s.put Reg.HEL_QUAL_CNT c 0).setCand c fun x => { x with compl := true }
      else
        let n := s.get Reg.HEL_QUAL_CNT c + 1
        let s := s.put Reg.HEL_QUAL_CNT c n
        if 16 ≤ n then s.helAccept c else s) 0 8 s

/-- The trim reaches its limit (R333). -/
def State.helLimit (s : State) (want : Int) : State :=
  let lim := decide (100000 < want.natAbs)
  let s := if lim && !s.hel.limited then
      ((s.put0 Reg.HEL_TRIM_LIMIT 1).irq Reg.HEL_IRQ_TRIM_LIMIT).helLog 4 s.helState s.helState s.helSel 0 else s
  s.modHel fun h => { h with limited := lim }

/-- The trim as the loop filter left it at an instant: within ±100 ppm, and in HOLDOVER no further from the last than 1,000 ppb
per second (R328, R332, R333). DEDUCED (log entry 79). -/
def State.loopTrim (s : State) (trim : Int) : Int :=
  let st := s.helState
  let t := max (-100000) (min 100000 trim)
  if st = helLock then t
  else if st = helHoldover then max (s.hel.trim - 125) (min (s.hel.trim + 125) t)
  else s.trimNow

/-- The third case of R348: the selected servo's offset beyond 1 ms at three consecutive instants. -/
def State.helFar (s : State) : State :=
  let c := s.helSel
  if s.helState = helLock ∧ c < 2 then
    let off := if c = 0 then s.ptp.servoA.offset else s.ptp.servoB.offset
    let n := if 1000000 * 65536 < off.natAbs then s.hel.far + 1 else 0
    if 3 ≤ n then (s.modHel fun h => { h with far := 0 }).decideStep c else s.modHel fun h => { h with far := n }
  else s

/-- The phase error at an instant (R331). -/
def State.helPhase (s : State) (phase : Int) : State :=
  if s.helState ≠ helLock ∨ s.helSel = 7 then s
  else
    let s := s.put0 Reg.HEL_PHASE_ERR (unsx 32 phase)
    if phase.natAbs ≤ 50 then s.put0 Reg.HEL_PHASE_ALIGNED 1
    else if 200 < phase.natAbs then s.put0 Reg.HEL_PHASE_ALIGNED 0 else s

/-- MEASUREMENT_INSTANT (R314 to R333, R348): every 125 ms. -/
def execMeasurementInstant (raw : List (Option Int)) (trim phase : Int) (s : State) : Out :=
  if !s.helRuns then ok s
  else
    let s := s.advanceTo (s.hel.inst + instEdges)
    let sel := if s.helSel < 8 then raw.getD s.helSel none else none
    let mean := s.frefMean sel
    let t := s.loopTrim trim
    let s := s.modHel fun h => { h with inst := s.clk.now, means := (mean :: h.means).take 8, trim := t, trimAt := s.clk.now }
    let s := s.put0 Reg.HEL_TRIM (unsx 32 t)
    let s := ((s.helMeasure raw).helRejects).helAccepts
    let s := (s.helFar.helPhase phase).helDecide
    let s := if s.helState = helLock then
        s.modHel fun h => { h with records := (h.trim :: h.records).take 480 } else s
    let want := if s.helState = helAcquire then sx 32 (s.get Reg.HEL_CAND_RAW s.helSel)
                else if s.helState = helLock then trim else 0
    ok (s.helLimit want).showHold

/-! ## Timers (R322, R324) -/

/-- ACQ_TIMEOUT (R322): ACQUIRE has lasted 30 s. -/
def execAcqTimeout (s : State) : Out :=
  if !s.helRuns || s.helState ≠ helAcquire then ok s
  else ok (s.advanceTo (s.hel.since + 30 * secEdges)).helDecide

/-- ACQ_HOLDOFF_EXPIRE (R322): HOLDOVER has lasted ACQ_HOLDOFF seconds without an accept. -/
def execAcqHoldoffExpire (s : State) : Out :=
  if !s.helRuns || s.helState ≠ helHoldover then ok s
  else ok (s.advanceTo (s.hel.since + s.helHoldoff * secEdges)).helDecide

/-- WTR_EXPIRE (R324): a candidate of higher priority than the selected one has been ACCEPTED for WTR seconds. -/
def execWtrExpire (s : State) : Out :=
  if !s.helRuns || s.helState ≠ helLock || s.helWtr = 0 then ok s
  else
    match (s.candsBy fun c => s.get Reg.HEL_STATUS c == 2 && decide (s.candPrio c < s.candPrio s.helSel)) with
    | [] => ok s
    | a :: r =>
      let first := r.foldl (fun m c => min m (s.cand c).accAt) (s.cand a).accAt
      ok (s.advanceTo (first + s.helWtr * secEdges)).helDecide

/-! ## Loading provisioning (R316, R334, R335), start and stop (R322, R329, R347) -/

/-- Load the HEL record: at START every candidate becomes ABSENT; at a commit in MAINT statuses stay but for candidates that
are disabled, and a change of NOM_P or NOM_Q restarts a count. -/
def State.helLoad (s : State) (g0 g1 : Nat) (cw : List (Nat × Nat)) (commit : Bool) : State :=
  let old := s
  let s := (s.put0 Reg.HEL_PROV_G0 g0).put0 Reg.HEL_PROV_G1 g1
  let s := forRange (fun c s =>
    let w := cw.getD c (0, 0)
    (s.put Reg.HEL_PROV_C0 c w.1).put Reg.HEL_PROV_C1 c w.2) 0 8 s
  let bad := helGlobalsErr g0 g1 || (List.range 8).any fun c =>
    let w := cw.getD c (0, 0); bit w.1 31 && !helWordsOk c w.1 w.2
  let s := if bad then (s.put0 Reg.HEL_PROV_ERR 1).helLog 5 s.helState s.helState 0xF 0 else s
  let s := forRange (fun c s =>
    let restart := fun (s : State) => (s.put Reg.HEL_QUAL_CNT c 0).setCand c fun x => { x with compl := false }
    let s := if !commit then restart (s.put Reg.HEL_STATUS c 0)
      else if old.candEn c && !s.candEn c then
        let s := if s.get Reg.HEL_STATUS c = 2 then s.helReject c rejProv else s
        restart (s.put Reg.HEL_STATUS c 0)
      else if s.helC1 c ≠ old.helC1 c then restart s else s
    if s.candEn c && (s.cand c).since.isSome && s.get Reg.HEL_STATUS c == 0 && s.helRuns then s.put Reg.HEL_STATUS c 1 else s)
    0 8 s
  if s.helRuns then s.helDecide else s

/-- Heliostat starts on leaving PARK: FREERUN, instants counted from now. -/
def State.helStart (s : State) : State :=
  let s := if s.helState = helFreerun then s else s.helGoto helFreerun 0xF 0 false
  let s := s.modHel fun h => { h with inst := s.clk.now, trim := 0, trimAt := s.clk.now, means := [], records := [] }
  forRange (fun c s => if s.candEn c && (s.cand c).since.isSome then s.put Reg.HEL_STATUS c 1 else s) 0 8 s

/-! ## The servos (R356 to R359) -/

/-- A servo, and a change of it. -/
def State.servo (s : State) (x : Nat) : Servo := if x = 0 then s.ptp.servoA else s.ptp.servoB
def State.setServo (s : State) (x : Nat) (f : Servo → Servo) : State :=
  s.modPtp fun p => if x = 0 then { p with servoA := f p.servoA } else { p with servoB := f p.servoB }

/-- MPD from the kept pairs: a sum and a count of halves, in 2^-16 ns (R357). -/
def mpdOf (v : Servo) : Int × Nat := (v.pairs.foldl (fun a p => a + p.s + p.d) 0, 2 * v.pairs.length)

/-- MPD_VALID clears: the pairs no longer count (R358, R359). -/
def State.mpdClear (s : State) (x : Nat) : State :=
  (s.setServo x fun v => { v with pairs := [] }).put Reg.TIME_MPD_VALID x 0

/-- SVX_PUSH (R355 to R358): a servo takes a push. -/
def execSvxPush (p : Plane) (x : Nat) (v : Word) (s : State) : Out := s.atPage 0x74 fun s =>
  if p != .mgmt ∨ v.toNat % 2 = 0 ∨ 2 ≤ x then ok s
  else if !s.getB Reg.TIME_EN x ∨ 1000000000 ≤ s.get Reg.TIME_TA_NS x ∨ 1000000000 ≤ s.get Reg.TIME_TB_NS x then
    ok ((s.count Reg.TIME_REJ_CNT x).irq Reg.TIME_IRQ_PUSH_REJ)
  else
    let ns := fun (lo hi n : Fld) => (((s.get lo x + 2 ^ 32 * s.get hi x) * 1000000000 + s.get n x : Nat) : Int)
    let ta := ns Reg.TIME_TA_SEC_LO Reg.TIME_TA_SEC_HI Reg.TIME_TA_NS
    let tb := ns Reg.TIME_TB_SEC_LO Reg.TIME_TB_SEC_HI Reg.TIME_TB_NS
    let corr := sx 64 (s.get Reg.TIME_CORR_LO x + 2 ^ 32 * s.get Reg.TIME_CORR_HI x)
    let d := (tb - ta) * 65536 - corr
    if s.get Reg.TIME_KIND x = 0 then
      let s := s.setServo x fun v => { v with lastS := some d }
      if s.getB Reg.TIME_MPD_VALID x then
        let (m, n) := mpdOf (s.servo x)
        let off := roundHalfEven (d * n - m) n
        let s := s.setServo x fun v => { v with offset := off }
        let shown := max (-(2 ^ 31 - 1)) (min (2 ^ 31 - 1) (roundHalfEven off 65536))
        let s := (s.put Reg.TIME_OFFSET x (unsx 32 shown)).put Reg.TIME_MEAS_VALID x 1
        ok ((s.count Reg.TIME_MEAS_CNT x).helActivity x)
      else ok (s.put Reg.TIME_MEAS_VALID x 0)
    else match (s.servo x).lastS with
    | none => ok s
    | some q =>
      let s := s.setServo x fun v => { v with pairs := ({ s := q, d := d } :: v.pairs).take 16, mpdAt := s.clk.now }
      let (m, n) := mpdOf (s.servo x)
      let ns := roundHalfEven m (n * 65536)
      ok ((s.put Reg.TIME_MPD x (min (2 ^ 32 - 1) ns.toNat)).put Reg.TIME_MPD_VALID x 1)

/-- MPD_TIMEOUT (R358): no DELAY push has yielded D for 64 s. -/
def execMpdTimeout (x : Nat) (s : State) : Out :=
  if x < 2 ∧ s.getB Reg.TIME_MPD_VALID x then ok ((s.advanceTo ((s.servo x).mpdAt + 64 * secEdges)).mpdClear x) else ok s

/-- A write of a servo's control word by the management bus (R355, R358, R359). -/
def State.servoCtrl (s : State) (x v : Nat) : State :=
  let was := s.getB Reg.TIME_EN x
  let dom := s.get Reg.TIME_DOMAIN x
  let s := (s.putB Reg.TIME_EN x (bit v 31)).put Reg.TIME_DOMAIN x (bits v 7 0)
  let s := if was == bit v 31 then s else s.bumpEpoch 0x74
  let s := if dom ≠ bits v 7 0 ∨ !bit v 31 then s.mpdClear x else s
  if was && !bit v 31 then s.helLose x rejSource else s

end Sys2Proof.Machine
end

