-- ==== Sys2Proof/Machine/LocalPorts.lean ====
section
/-! DEFINITION. AES3, MADI and TDM ports, FOLLOW clocking and the pin mux (R401 to R434). -/

namespace Sys2Proof.Machine

/-- Receivers run in every mode except PARK while PD_PORTS is powered (R427). -/
def State.portsUp (s : State) : Bool := s.opMode != 0 && s.domState 13 == 3

/-- Outputs are driven in SHOW, HOLD and FOLLOW (R427). -/
def State.outputsUp (s : State) : Bool := s.audioMode && s.domState 13 == 3

/-! ## Rates of INTERNAL directions (R402, R415, R416, R427) -/

/-- Does a TDM port's framing fit its bit clock? -/
def tdmFits (slots rate : Nat) : Bool := decide (slots * 32 * rate ≤ 49152000)

/-- Recompute the configured rate and RATE_ERR of one transmitter or master port; a newly set RATE_ERR raises the page's
interrupt. -/
def State.refreshTx (p : Nat) (s : State) : State :=
  if p < 32 then
    let on := s.getB Reg.AESTX_EN p
    let r := s.divRate (s.get Reg.AESTX_DIV p)
    let bad := on && !(decide (32000 ≤ r) && decide (r ≤ 192000))
    let s := if bad && !s.getB Reg.AESTX_RATE_ERR p then s.irq Reg.AESTX_IRQ_RATE_ERR else s
    let s := (s.putB Reg.AESTX_RATE_ERR p bad).put Reg.AESTX_RATE p (if on then r else 0)
    if bad || !on then s.put Reg.AESTX_RUN p 0 else s
  else if p < 36 then
    let m := p - 32
    let on := s.getB Reg.MADI_TX_EN m
    let r := s.divRate (s.get Reg.MADI_TX_DIV m)
    let lo := if s.get Reg.MADI_FRAME m = 2 then 64000 else 32000
    let bad := on && !(decide (lo ≤ r) && decide (r ≤ lo / 2 * 3))
    let s := s.putB Reg.MADI_RATE_ERR m bad
    if bad || !on then s.put Reg.MADI_TX_RUN m 0 else s
  else
    let q := p - 36
    if !s.tdmMaster q then s.put Reg.TDM_RATE_ERR q 0
    else
      let on := s.getB Reg.TDM_TX_EN q || s.getB Reg.TDM_RX_EN q
      let r := s.divRate (s.get Reg.TDM_DIV q)
      let bad := on && !(decide (32000 ≤ r) && decide (r ≤ 192000) && tdmFits (s.tdmSlots q) r)
      let s := if bad && !s.getB Reg.TDM_RATE_ERR q then s.irq Reg.TDM_IRQ_RATE_ERR (q / 12) else s
      let s := (s.putB Reg.TDM_RATE_ERR q bad).put Reg.TDM_RATE q (if on then r else 0)
      if bad || !s.getB Reg.TDM_TX_EN q then s.put Reg.TDM_TX_RUN q 0 else s

/-- Recompute every port's rates, at a rate-mode switch and after a move on a control word. -/
def State.refreshPorts (s : State) : State := forRange State.refreshTx 0 60 s

/-! ## Receivers in common (R403, R406, R407) -/

/-- The interrupts of a receiver's page. -/
def State.rxIrqLos (s : State) (p : Nat) : State :=
  if p < 32 then s.irq Reg.AESRX_IRQ_LOS else if p < 36 then s.irq Reg.MADI_IRQ_LOS else s.irq Reg.TDM_IRQ_LOS ((p - 36) / 12)

/-- Count a phase slip where the register shows it (R403). -/
def State.rxSlip (s : State) (p : Nat) : State := s.countPortFld p Reg.AESRX_SLIP Reg.MADI_SLIP Reg.TDM_RX_SLIP

/-- A receiver gains LOCK. -/
def State.rxGain (s : State) (p rate : Nat) : State :=
  let s := s.putPortFld p Reg.AESRX_LOCK Reg.MADI_LOCK Reg.TDM_LOCK 1
  let s := s.putPortFld p Reg.AESRX_RATE Reg.MADI_RATE Reg.TDM_RATE rate
  let s := s.setRxp p fun x => { x with rate := rate, phase := none, phaseAt := s.clk.now, good := 0, ramp := none }
  if p < 32 then (s.setBitOf Reg.AESRX_LOCK_MAP 0 p true).irq Reg.AESRX_IRQ_LOCK
  else if p < 36 then s.irq Reg.MADI_IRQ_LOCK else s

/-- A receiver loses LOCK: block lock, MEDIA and the measured rate go with it. -/
def State.rxDrop (s : State) (p : Nat) : State :=
  let s := s.putPortFld p Reg.AESRX_LOCK Reg.MADI_LOCK Reg.TDM_LOCK 0
  let s := s.putPortFld p Reg.AESRX_MEDIA Reg.MADI_MEDIA Reg.TDM_MEDIA 0
  let s := if p < 36 || !s.tdmMaster (p - 36) then s.putPortFld p Reg.AESRX_RATE Reg.MADI_RATE Reg.TDM_RATE 0 else s
  let s := s.setRxp p fun x => { x with good := 0, phase := none, fillAt := none }
  if p < 32 then (s.put Reg.AESRX_BLK p 0).setBitOf Reg.AESRX_LOCK_MAP 0 p false else s

/-- Any transition clears LOS (R407). -/
def State.rxSeen (s : State) (p : Nat) : State :=
  let s := s.putPortFld p Reg.AESRX_LOS Reg.MADI_LOS Reg.TDM_LOS 0
  if p < 32 then s.setBitOf Reg.AESRX_LOS_MAP 0 p false else s

/-- Phase of now against the base grid, modulo a frame of the measured rate, in root edges (R403). -/
def State.framePhase (s : State) (rate : Nat) : Nat :=
  if rate = 0 then 0 else (s.clk.now - s.clk.ref) % (3000000000 / rate)

/-- Distance of two phases on a circle of one frame. -/
def phaseGap (a b rate : Nat) : Nat :=
  let n := if rate = 0 then 1 else 3000000000 / rate
  let d := (a + n - b % n) % n
  min d (n - d)

/-- Follow a declared port's frame starts: MEDIA clears, with a slip counted, as soon as the phase leaves ±4 µs (R403). -/
def State.trackPhase (s : State) (p rate : Nat) : State :=
  if !s.rxDecl p || s.rxFollow p then s
  else
    let here := s.framePhase rate
    match (s.rxp p).phase with
    | none => s.setRxp p fun x => { x with phase := some here, phaseAt := s.clk.now }
    | some r =>
      if phaseGap here r.toNat rate ≤ 12000 then s
      else
        let was := s.portFld p Reg.AESRX_MEDIA Reg.MADI_MEDIA Reg.TDM_MEDIA != 0
        let s := if was then (s.putPortFld p Reg.AESRX_MEDIA Reg.MADI_MEDIA Reg.TDM_MEDIA 0).rxSlip p else s
        s.setRxp p fun x => { x with phase := some here, phaseAt := s.clk.now }

/-- The MEDIA bit of a receiver as decided (R403). -/
def State.rxMediaBit (s : State) (p v : Nat) : State := s.putPortFld p Reg.AESRX_MEDIA Reg.MADI_MEDIA Reg.TDM_MEDIA v

/-- MEDIA_SET (R403): a declared EXTERNAL port has held LOCK within the window for 1 s. -/
def execMediaSet (p : Nat) (s : State) : Out :=
  let ext := decide (p < 36) || !s.tdmMaster (p - 36)
  if 60 ≤ p || !ext || !s.rxLock p || !s.rxDecl p || s.rxFollow p || (s.rxp p).phase.isNone then ok s
  else
    ok ((s.advanceTo ((s.rxp p).phaseAt + secEdges)).measured 4 p 1 0 fun s => s.rxMediaBit p 1)

/-- Three frame times at the last measured rate, 32 kHz where none was measured (R407). DEDUCED (log entry 80). -/
def State.threeFrames (s : State) (p : Nat) : Nat :=
  3 * secEdges / (let r := (s.rxp p).rate; if r = 0 then 32000 else r)

/-- LOSS_OF_SIGNAL (R407, R414, R419): no transition for 3 frame times. DEDUCED (log entry 80). -/
def execLossOfSignal (p : Nat) (s : State) : Out :=
  if 60 ≤ p || !s.portsUp || s.rxLos p then ok s
  else
    let s := s.advanceTo ((s.rxp p).lastAt + s.threeFrames p)
    let held := s.rxLock p && s.rxEn p
    let media := s.rxMedia p
    let s := s.setRxp p fun x => { x with ramp := if held then some 0 else none, media := media }
    let s := s.putPortFld p Reg.AESRX_LOS Reg.MADI_LOS Reg.TDM_LOS 1
    let s := (s.rxIrqLos p).rxDrop p
    let s := if p < 32 then (s.setBitOf Reg.AESRX_LOS_MAP 0 p true).setBitOf Reg.AESRX_LOS_EVT 0 p true
             else if 36 ≤ p then (s.put Reg.TDM_TX_RUN (p - 36) (if s.tdmMaster (p - 36) then s.get Reg.TDM_TX_RUN (p - 36) else 0)
               ).setRxp p fun x => { x with waitFs := true }
             else s
    ok (if p < 32 ∧ p = s.aes11Port ∧ s.candEn 4 then s.helLose 4 rejSource else s)

/-- LOS_RAMP_END (R407): the 64-sample ramp has ended and the source becomes ABSENT. -/
def execLosRampEnd (p : Nat) (s : State) : Out :=
  match (s.rxp p).ramp with
  | some k => ok (if 64 ≤ k then s.setRxp p fun x => { x with ramp := none, media := false } else s)
  | none => ok s

/-- SIGNAL_RETURN (R407): the first transition clears LOS. DEDUCED (log entry 80). -/
def execSignalReturn (p : Nat) (s : State) : Out :=
  ok (if 60 ≤ p || !s.portsUp then s else (s.rxSeen p).setRxp p fun x => { x with lastAt := s.clk.now })

/-- The unit of a port channel, receiving or transmitting (R613). -/
def portUnit (tx : Bool) (p : Nat) : UnitId :=
  if p < 32 then { page := if tx then 0x93 else 0x90, index := p }
  else if p < 36 then { page := 0x94, index := p - 32 + 4 * tx.toNat }
  else { page := 0x95 + (p - 36) / 12, index := (p - 36) % 12 + 16 * tx.toNat }

/-- Key of a port channel among the mutes. -/
def muteKey (tx : Bool) (p : Nat) : Nat := p + 64 * tx.toNat

/-- The gain of a port channel: a fenced or retired one mutes after a 64-sample ramp (R40, R625). -/
def State.chGain (s : State) (tx : Bool) (p : Nat) : Nat × Nat := match tget 0 s.dp.chMute (muteKey tx p) with
  | k + 2 => fallMul k 64
  | _ => (1, 1)

/-- Take a channel's sample: one that cannot be used repeats the last good one. A channel under test takes none (R614). -/
def State.takeSample (s : State) (p ch : Nat) (good : Bool) (x : Word) : State :=
  if s.suspended (portUnit false p) then s
  else
    let y := if good then x else tget 0 (s.rxp p).last ch
    let s := s.setRxp p fun r => { r with last := tput 0 r.last ch y }
    let m := s.chGain false p
    s.land (rxSource p ch) (scaleWord y m.1 m.2)

/-- The LOS ramp's landings in one period of the internal rate (R407). -/
def State.rampLandings (p : Nat) (s : State) : State :=
  match (s.rxp p).ramp with
  | none => s
  | some k =>
    let r := (s.rxp p).rate
    let n := (s.idx + 1) * r / s.hz - s.idx * r / s.hz
    let m := fallMul k 64
    let g := s.chGain false p
    let s := forRange (fun _ s => forRange (fun ch s =>
      s.land (rxSource p ch) (scaleWord (tget 0 (s.rxp p).last ch) (m.1 * g.1) (m.2 * g.2))) 0 (s.rxChannels p) s) 0 n s
    s.setRxp p fun x => { x with ramp := some (k + 1) }

/-! ## AES3 receive (R405 to R410) -/

/-- Words of a block from its bits in order (R410). -/
def blockWords (bs : List Bool) : List Nat :=
  (List.range 6).map fun w => ((List.range 32).map fun i => (bs.getD (32 * w + i) false).toNat * 2 ^ i).sum

/-- The bytes of six block words. -/
def blockBytes (ws : List Nat) : List Byte := wordBytes ws

/-- CRC-8 of professional channel status over bytes 0 to 22 (R405), bits in line order. PRESUMED (log entry 66). -/
def csCrc (ws : List Nat) : Nat := crcFinal 8 true 0 (crcFeed 8 0x1D true 0xFF ((blockBytes ws).take 23))

/-- Is a subframe's channel status adopted (R409)? -/
def csAdoptable (ws : List Nat) : Bool := !bit (ws.getD 0 0) 0 || bits (ws.getD 5 0) 31 24 == csCrc ws

/-- Store six words of a received block. -/
def State.putBlock (s : State) (f : Fld) (base : Nat) (ws : List Nat) : State :=
  forRange (fun w s => s.put f (base + w) (ws.getD w 0)) 0 6 s

/-- Words of a received block as adopted. -/
def State.getBlock (s : State) (f : Fld) (base : Nat) : List Nat := (List.range 6).map (fun w => s.get f (base + w))

/-- A complete block is adopted (R409). -/
def State.adoptBlock (s : State) (r : Nat) : State :=
  let bs := (s.rxp r).bits
  let col := fun i => blockWords (bs.map (fun b => bit b i))
  let sub := fun k (s : State) =>
    let base := 6 * (2 * r + k)
    let cs := col (2 * k)
    let s := s.putBlock Reg.AESB_RX_U base (col (2 * k + 1))
    if csAdoptable cs then
      let s := if s.getBlock Reg.AESB_RX_CS base = cs then s
        else (s.setBitOf Reg.AESRX_CS_EVT 0 r true).irq Reg.AESRX_IRQ_CS_CHANGE
      s.putBlock Reg.AESB_RX_CS base cs
    else (s.count Reg.AESRX_CRC_ERR r).irq Reg.AESRX_IRQ_CRC
  let s := sub 1 (sub 0 s)
  let s := s.countWrap Reg.AESRX_BLK_SEQ r
  let s := s.put Reg.AESRX_PRO r (s.get Reg.AESB_RX_CS (12 * r) % 2)
  s.putB Reg.AESRX_V_NOW r (s.rxp r).vSeen

/-- Block lock follows the Z preambles (R406). -/
def State.trackBlock (s : State) (r : Nat) (f : AesFrame) : State :=
  let blk := s.getB Reg.AESRX_BLK r
  let n := (s.rxp r).pos
  let lose := fun (s : State) => (s.count Reg.AESRX_BLK_ERR r).put Reg.AESRX_BLK r 0
  let fresh := fun (s : State) => s.setRxp r fun x => { x with pos := 0, bits := [], vSeen := false }
  let s := if f.z then
      (if !blk then fresh (s.put Reg.AESRX_BLK r 1)
       else if n = 192 then fresh (s.adoptBlock r)
       else lose s)
    else if blk ∧ n = 192 then lose s else s
  if s.getB Reg.AESRX_BLK r then
    let b := f.a.c.toNat + 2 * f.a.u.toNat + 4 * f.b.c.toNat + 8 * f.b.u.toNat
    s.setRxp r fun x => { x with pos := x.pos + 1, bits := x.bits ++ [b], vSeen := x.vSeen || f.a.v || f.b.v }
  else s

/-- The sample of a subframe (R405, R408). -/
def aesSample (vzero : Bool) (f : AesSub) : Word := if vzero && f.v then 0 else ingress24 f.audio

/-- AES3_RX_FRAME (R403, R406, R408, R409). -/
def execAes3RxFrame (r : Nat) (f : AesFrame) (s : State) : Out :=
  if 32 ≤ r || !s.portsUp || !s.getB Reg.AESRX_EN r || !s.onBall 0x01 r then ok s
  else
    let good := f.a.good && f.b.good
    let s := s.rxSeen r
    let s := if good then s.setRxp r fun x => { x with lastAt := s.clk.now } else s
    let s := if r = s.aes11Port ∧ s.candEn 4 then s.helActivity 4 else s
    if !s.rxLock r then
      let n := if good then (s.rxp r).good + 1 else 0
      if 8 ≤ n then ok (s.rxGain r f.rate) else ok (s.setRxp r fun x => { x with good := n })
    else
      let s := s.put Reg.AESRX_RATE r f.rate
      let s := s.setRxp r fun x => { x with rate := f.rate }
      let s := s.trackPhase r f.rate
      let vz := s.getB Reg.AESRX_V_ZERO r
      let s := if f.a.good then s else s.count Reg.AESRX_PAR_ERR r
      let s := if f.b.good then s else s.count Reg.AESRX_PAR_ERR r
      let s := s.takeSample r 0 f.a.good (aesSample vz f.a)
      let s := s.takeSample r 1 f.b.good (aesSample vz f.b)
      ok (s.trackBlock r f)

/-- AES3_LOCK_LOSS (R406): no valid frame for 3 frame times. -/
def execAes3LockLoss (r : Nat) (s : State) : Out :=
  if 32 ≤ r || !s.rxLock r then ok s
  else ok ((s.advanceTo ((s.rxp r).lastAt + s.threeFrames r)).rxDrop r)

/-! ## AES3 transmit (R411, R412, R420) -/

/-- Set bits of a block word list. -/
def withBlockBits (ws : List Nat) (byte hi lo v : Nat) : List Nat :=
  (List.range 6).map fun w =>
    let x := ws.getD w 0
    if w = byte / 4 then withBits x (8 * (byte % 4) + hi) (8 * (byte % 4) + lo) v else x

/-- The channel status that goes on the line: with CS_AUTO the sampling-frequency codes of the frame rate and the CRC of byte 23
are overwritten (R411). -/
def lineCs (auto : Bool) (rate : Nat) (ws : List Nat) : List Nat :=
  if !auto then ws
  else
    let ws := withBlockBits ws 0 7 6 (if rate = 48000 then 2 else if rate = 44100 then 1 else if rate = 32000 then 3 else 0)
    let ws := withBlockBits ws 4 6 3 (if rate = 96000 then 2 else if rate = 192000 then 3 else 0)
    withBlockBits ws 23 7 0 (csCrc ws)

/-- Bit n of a block. -/
def blockBit (ws : List Nat) (n : Nat) : Bool := bit (ws.getD (n / 32) 0) (n % 32)

/-- Ones among the low `n` bits. -/
def ones : Nat → Nat → Nat
  | 0, _ => 0
  | n + 1, x => x % 2 + ones n (x / 2)

/-- A slot on the line: 24 audio bits and V, U, C, with an even parity bit. DESIGN CHOICE (log entry 68). -/
def lineWord (audio : Nat) (v u c : Bool) : Nat :=
  let w := audio % 2 ^ 24 * 16 + v.toNat * 2 ^ 28 + u.toNat * 2 ^ 29 + c.toNat * 2 ^ 30
  w + ones 31 w % 2 * 2 ^ 31

/-- The sample of a destination: the newest in its buffer, which it takes, or the previous one of the slot; answers whether one
was missing (R298, R310, R420). A destination that no rate of R242 suits carries silence. -/
def State.takeEgress (s : State) (p slot d : Nat) (oldest : Bool) : Nat × Bool × State :=
  let s := s.expressDue
  if s.destClock d = .silent then (0, false, s.setTxp p fun t => { t with sent := tput 0 t.sent slot 0 }) else
  let q := tget [] s.dp.egress d
  let pick := if s.suspended (portUnit true p) then none else if oldest then q.head? else q.getLast?
  match pick with
  | some x =>
    let m := s.chGain true p
    let v := (egress24 (scaleWord x m.1 m.2)).1
    let rest := if oldest then q.tail else []
    let s := s.modDp fun k => { k with egress := tput [] k.egress d rest }
    (v, false, s.setTxp p fun t => { t with sent := tput 0 t.sent slot v })
  | none => (if s.chGain true p = (0, 1) then 0 else tget 0 (s.txp p).sent slot, true, s)

/-- Load the channel-status and user words that a block begins with (R412). -/
def State.startBlock (s : State) (p : Nat) (cs user : List Nat) : State :=
  if (s.txp p).frames % 192 = 0 then
    s.setTxp p fun t => { t with cs := cs.map (BitVec.ofNat 32), user := user.map (BitVec.ofNat 32) }
  else s

/-- AES3_TX_FRAME (R298, R411, R412, R420): a frame of an enabled transmitter. -/
def execAes3TxFrame (t : Nat) (s : State) : Out :=
  if 32 ≤ t || !s.outputsUp || (s.txRate t).isNone then ok s
  else
    let rate := s.get Reg.AESTX_RATE t
    let cs := s.getBlock Reg.AESB_TX_CS (12 * t) ++ s.getBlock Reg.AESB_TX_CS (12 * t + 6)
    let us := s.getBlock Reg.AESB_TX_U (12 * t) ++ s.getBlock Reg.AESB_TX_U (12 * t + 6)
    let s := s.startBlock t cs us
    let n := (s.txp t).frames % 192
    let auto := s.getB Reg.AESTX_CS_AUTO t
    let (a, _, s) := s.takeEgress t 0 (0x800 + 2 * t) false
    let (b, _, s) := s.takeEgress t 1 (0x801 + 2 * t) false
    let csw := (s.txp t).cs.map BitVec.toNat
    let usw := (s.txp t).user.map BitVec.toNat
    let v := s.getB Reg.AESTX_V_SET t
    let word := fun k x => lineWord x v (blockBit (usw.drop (6 * k)) n) (blockBit (lineCs auto rate ((csw.drop (6 * k)).take 6)) n)
    let s := s.setTxp t fun x => { x with frames := x.frames + 1, line := [word 0 a, word 1 b] }
    ok (s.put Reg.AESTX_RUN t 1)

/-! ## MADI (R413 to R415) -/

/-- MADI_RX_FRAME (R413, R414). -/
def execMadiRxFrame (m : Nat) (f : MadiFrame) (s : State) : Out :=
  let p := 32 + m
  if 4 ≤ m || !s.portsUp || !s.getB Reg.MADI_RX_EN m || !s.onBall 0x03 m then ok s
  else
    let s := (s.rxSeen p).setRxp p fun x => { x with lastAt := s.clk.now }
    let n := s.madiSlots m
    let lo := if s.get Reg.MADI_FRAME m = 2 then 64000 else 32000
    let hi := if s.get Reg.MADI_FRAME m = 2 then 108000 else 54000
    let count := f.chans.length == n
    let clean := f.chans.all (·.symbol)
    let s := if count then s else (s.put Reg.MADI_FRAME_ERR m 1).irq Reg.MADI_IRQ_FRAME_ERR
    let fits := f.mark && count && decide (lo ≤ f.rate) && decide (f.rate ≤ hi)
    let s := forEach (fun (c : MadiChan) s =>
      let s := if c.symbol then s else s.count Reg.MADI_SYM_ERR m
      if c.parity || !c.symbol then s else s.count Reg.MADI_PAR_ERR m) f.chans s
    if !s.rxLock p then
      let k := if fits && clean then (s.rxp p).good + 1 else 0
      if 8 ≤ k then ok (s.rxGain p f.rate) else ok (s.setRxp p fun x => { x with good := k })
    else if !fits then ok s
    else
      let s := (s.put Reg.MADI_RATE m f.rate).setRxp p fun x => { x with rate := f.rate }
      let s := s.trackPhase p f.rate
      let vz := s.getB Reg.MADI_V_ZERO m
      ok (forRange (fun c s =>
        let ch := f.chans.getD c { audio := 0 }
        let s := if c < 32 then s.setBitOf Reg.MADI_RX_ACTIVE0 m c ch.active else s.setBitOf Reg.MADI_RX_ACTIVE1 m (c - 32) ch.active
        let x : Word := if !ch.active || (vz && ch.v) then 0 else ingress24 ch.audio
        s.takeSample p c (!ch.active || (ch.parity && ch.symbol)) x) 0 n s)

/-- MADI_TX_FRAME (R411, R412, R415): V = V_SET, U = 0, C from the port's shared buffer. -/
def execMadiTxFrame (m : Nat) (s : State) : Out :=
  let p := 32 + m
  match s.txRate p with
  | none => ok s
  | some rate =>
    if 4 ≤ m || !s.outputsUp then ok s
    else
      let s := s.startBlock p (s.getBlock Reg.MADI_TX_CS (8 * m)) []
      let n := (s.txp p).frames % 192
      let c := blockBit (lineCs (s.getB Reg.MADI_CS_AUTO m) rate ((s.txp p).cs.map BitVec.toNat)) n
      let v := s.getB Reg.MADI_V_SET m
      let (line, s) := (List.range (s.madiSlots m)).foldl (fun (l, s) ch =>
        let (x, _, s) := s.takeEgress p ch (0x840 + 64 * m + ch) false
        (l ++ [lineWord x v false c], s)) (([] : List Nat), s)
      ok ((s.setTxp p fun x => { x with frames := x.frames + 1, line := line }).put Reg.MADI_TX_RUN m 1)

/-! ## TDM (R416 to R419) -/

/-- Do the clocks of a slave port reach it? -/
def State.tdmClocked (s : State) (q : Nat) : Bool := s.tdmMaster q || (s.onBall 0x05 q && s.onBall 0x06 q)

/-- TDM_FS_EDGE (R417, R418): a frame-sync edge at a slave port, `count` bit clocks after the accepted edge before it. -/
def execTdmFsEdge (q count : Nat) (s : State) : Out :=
  let p := 36 + q
  if 24 ≤ q || !s.portsUp || s.tdmMaster q || !s.tdmClocked q then ok s
  else
    let s := (s.rxSeen p).setRxp p fun x => { x with lastAt := s.clk.now }
    if (s.rxp p).waitFs then
      let s := s.setRxp p fun x => { x with waitFs := false, ramp := none, phase := none }
      ok ((s.put Reg.TDM_LOCK q 1).put Reg.TDM_RESTART q 0)
    else if count = 32 * s.tdmSlots q then ok s
    else
      -- FS_TRACK = 1 restarts the slot count: the partial frames go, the next ones start at slot 0
      ok ((s.count Reg.TDM_FS_ERR q).irq Reg.TDM_IRQ_FS_ERR (q / 12))

/-- TDM_RX_FRAME (R416): a frame of slots as the port counts them. -/
def execTdmRxFrame (q : Nat) (slots : List Nat) (rate : Nat) (s : State) : Out :=
  let p := 36 + q
  if 24 ≤ q || !s.portsUp || !s.getB Reg.TDM_RX_EN q || !s.tdmClocked q || s.getB Reg.TDM_RATE_ERR q then ok s
  else if !s.tdmMaster q && ((s.rxp p).waitFs || decide (rate < 31500 ∨ 194000 < rate)) then ok s
  else
    let s := (s.rxSeen p).setRxp p fun x => { x with lastAt := s.clk.now }
    let s := if s.tdmMaster q then
        let s := s.put Reg.TDM_LOCK q 1
        s.setRxp p fun x => { x with rate := s.get Reg.TDM_RATE q }
      else
        let s := (s.put Reg.TDM_RATE q rate).setRxp p fun x => { x with rate := rate }
        let fast := !tdmFits (s.tdmSlots q) rate
        let s := if fast && !s.getB Reg.TDM_BCLK_ERR q then s.irq Reg.TDM_IRQ_RATE_ERR (q / 12) else s
        (s.putB Reg.TDM_BCLK_ERR q fast).trackPhase p rate
    -- without a ball TDM_SDI is a held level, which the spec does not fix
    let (held, s) := if s.onBall 0x07 q then (none, s) else let (v, s) := s.draw; (some (if v % 2 = 0 then 0 else 2 ^ 24 - 1), s)
    ok (forRange (fun c s => s.takeSample p c true (ingress24 (held.getD (slots.getD c 0)))) 0 (s.tdmSlots q) s)

/-- TDM_TX_FRAME (R416, R420): a slave port whose MEDIA is 0 carries silence in every slot. DESIGN CHOICE (log entry 68). -/
def execTdmTxFrame (q : Nat) (s : State) : Out :=
  let p := 36 + q
  let master := s.tdmMaster q
  if 24 ≤ q || !s.outputsUp || !s.getB Reg.TDM_TX_EN q || s.getB Reg.TDM_RATE_ERR q || !s.tdmClocked q ||
     (!master && (s.rxp p).waitFs) then ok s
  else
    let silent := !master && !s.rxMedia p
    let (line, miss, s) := (List.range (s.tdmSlots q)).foldl (fun (l, m, s) c =>
      if silent then (l ++ [0], m, s)
      else
        let (x, gone, s) := s.takeEgress p c (0x940 + 32 * q + c) (!master)
        (l ++ [x], m || gone, s)) (([] : List Nat), false, s)
    let s := if miss then s.count Reg.TDM_TX_SLIP q else s
    ok ((s.setTxp p fun x => { x with frames := x.frames + 1, line := line }).put Reg.TDM_TX_RUN q 1)

/-- RESTART (R418): at the port's next frame boundary the partial frames are discarded; a master port makes the frame-sync edge
itself, a slave waits for it. -/
def execRestart (q : Nat) (s : State) : Out :=
  if 24 ≤ q || !s.getB Reg.TDM_RESTART q then ok s
  else if s.tdmMaster q then ok (s.put Reg.TDM_RESTART q 0)
  else ok (s.setRxp (36 + q) fun x => { x with waitFs := true })

/-! ## FOLLOW clocking (R421 to R423) -/

/-- The port bound to a VCXO output. -/
def State.boundPort (s : State) (v : Nat) : Option Nat :=
  (List.range 60).find? fun p => s.rxFollow p && s.rxVcxo p == v

/-- Does the loop of an output run (R422)? -/
def State.loopRuns (s : State) (v : Nat) : Bool :=
  s.getB Reg.PMUX_EN v && s.helLocked && s.helSel == s.get Reg.PMUX_FOLLOW_CAND v &&
  (match s.boundPort v with
   | some p => s.rxLock p
   | none => false)

/-- VCXO_LOOP_UPDATE (R422, R423): one base-grid period of an output's loop. `off`: the port's ingress fill less its target of 2
frames, in half frames. The filter's coefficients are not given: the CODE it wants is a free value, held to VCXO_SLEW and to the
envelope. DESIGN CHOICE (log entry 67). -/
def execVcxoLoopUpdate (v : Nat) (off : Int) (s : State) : Out :=
  if 4 ≤ v then ok s
  else
    let bound := s.boundPort v
    let run := s.loopRuns v
    let s := (s.putB Reg.PMUX_RUN v run).putB Reg.PMUX_BOUND v bound.isSome
    if !run then
      ok (match bound with
        | some p => (s.putPortFld p Reg.AESRX_MEDIA Reg.MADI_MEDIA Reg.TDM_MEDIA 0).setRxp p fun x => { x with fillAt := none }
        | none => s)
    else
      let (want, s) := s.draw
      let code := s.get Reg.PMUX_CODE v
      let room := s.get Reg.PMUX_VCXO_SLEW v * (s.clk.now - tget 0 s.ports.vcxoAt v) / secEdges
      let lo := s.get Reg.PMUX_VCXO_MIN v
      let hi := s.get Reg.PMUX_VCXO_MAX v
      let w := want % 65536
      let s := if w < lo ∨ hi < w then (s.setBitOf Reg.PMUX_VCXO_PC 0 v true).irq Reg.PMUX_IRQ_PC_VCXO else s
      let goal := max lo (min hi w)
      let next := max (code - room) (min (code + room) goal)
      let s := if next = code then s
        else (s.put Reg.PMUX_CODE v next).modPorts fun x => { x with vcxoAt := tput 0 x.vcxoAt v s.clk.now }
      match bound with
      | none => ok s
      | some p =>
        let since := match (s.rxp p).fillAt with
          | some t => t
          | none => s.clk.now
        let near := decide (off.natAbs ≤ 2)
        let s := s.setRxp p fun x => { x with fillAt := if near then some since else none }
        if near && decide (since + secEdges ≤ s.clk.now) then
          ok (s.putPortFld p Reg.AESRX_MEDIA Reg.MADI_MEDIA Reg.TDM_MEDIA 1)
        else if 4 < off.natAbs then ok (s.putPortFld p Reg.AESRX_MEDIA Reg.MADI_MEDIA Reg.TDM_MEDIA 0)
        else ok s

/-! ## The pin mux (R426) -/

/-- Show how many switches are not complete. -/
def State.showBalls (s : State) : State := s.put0 Reg.PMUX_PENDING s.ports.balls.length

/-- A ball's function word has changed at a Meridian: the switch begins (R426). -/
def State.ballChange (s : State) (n old new : Nat) : State :=
  if old = new then s
  else
    (s.modPorts fun x =>
      { x with balls :=
          if x.balls.any (·.ball == n) then x.balls.map fun b => if b.ball == n then { b with new := new } else b
          else x.balls ++ [{ ball := n, old := old, new := new }] }).showBalls

/-- Take a switch from one step to the next. -/
def State.ballStep (s : State) (n k : Nat) : State :=
  s.modPorts fun x => { x with balls := x.balls.map fun b => if b.ball == n && b.step == k then { b with step := k + 1 } else b }

/-- PMUX_RELEASE (R426): at the outgoing function's frame boundary its output stops and the ball is held. -/
def execPmuxRelease (n : Nat) (s : State) : Out := ok (s.ballStep n 0)

/-- PMUX_TAKE (R426): one bit period later the incoming function takes the ball. -/
def execPmuxTake (n : Nat) (s : State) : Out := ok (s.ballStep n 1)

/-- PMUX_FIRST_FRAME (R426): the incoming function sends or takes its first frame; a transmitter that starts begins with a Z
preamble (R412). -/
def execPmuxFirstFrame (n : Nat) (s : State) : Out :=
  match s.ports.balls.find? (fun b => b.ball == n && b.step == 2) with
  | none => ok s
  | some b =>
    let s := (s.modPorts fun x => { x with balls := x.balls.filter (·.ball != n) }).showBalls
    let f := b.new / 256
    let i := b.new % 256
    let s := if f = 0x02 then s.setTxp i fun t => { t with frames := 0 }
      else if f = 0x04 then s.setTxp (32 + i) fun t => { t with frames := 0 } else s
    ok (s.irq Reg.PMUX_IRQ_SWITCH)

/-! ## Moves on port words (R33, R402, R418, R421, R426) and stops -/

/-- What follows from a committed move on a word of pages 0x090 to 0x097. -/
def State.portMoved (s : State) (a old new : Nat) : State :=
  if 0x097200 ≤ a ∧ a < 0x097500 then
    s.ballChange ((a - 0x097200) / 4) (bits old 15 0) (bits new 15 0)
  else if atWord Reg.PMUX_EN a then
    forRange (fun v s => if s.getB Reg.PMUX_EN v then s else (s.put Reg.PMUX_CODE v 0x8000).put Reg.PMUX_RUN v 0) 0 4 s
  else
    -- a transmitter that starts begins with a Z preamble; a receiver that is disabled holds nothing
    let s := forRange (fun t s => if atWordOf Reg.AESTX_EN t a && !bit old 0 && bit new 0 then s.setTxp t fun x => { x with frames := 0 } else s) 0 32 s
    let s := forRange (fun m s => if atWordOf Reg.MADI_TX_EN m a && !bit old 1 && bit new 1 then s.setTxp (32 + m) fun x => { x with frames := 0 } else s) 0 4 s
    let s := forRange (fun p s =>
      let here := if p < 32 then atWordOf Reg.AESRX_EN p a else if p < 36 then atWordOf Reg.MADI_RX_EN (p - 32) a
        else atWordOf Reg.TDM_RX_EN (p - 36) a
      if here && !s.rxEn p && s.rxLock p && (decide (p < 36) || !s.getB Reg.TDM_TX_EN (p - 36)) then s.rxDrop p
      else if here && !s.rxDecl p && !s.rxFollow p then s.putPortFld p Reg.AESRX_MEDIA Reg.MADI_MEDIA Reg.TDM_MEDIA 0 else s) 0 60 s
    s.refreshPorts

/-- Outputs stop with the data plane (R427). -/
def State.portsStop (s : State) : State :=
  let s := forRange (fun t s => s.put Reg.AESTX_RUN t 0) 0 32 s
  let s := forRange (fun m s => s.put Reg.MADI_TX_RUN m 0) 0 4 s
  let s := forRange (fun q s => s.put Reg.TDM_TX_RUN q 0) 0 24 s
  let s := s.modPorts fun x => { x with tx := x.tx.map (fun (k, t) => (k, { t with frames := 0, sent := [] })) }
  s.modDp fun d => { d with egress := [] }

end Sys2Proof.Machine
end

