-- ==== Sys2Proof/Machine/Net.lean ====
section
/-! DEFINITION. The network audio ports: frames, RX streams, TX streams and the four rings of each port (R368 to R400). -/

namespace Sys2Proof.Machine

/-! ## Memory behind the interconnect -/

/-- Bytes that a master reads at an interconnect address; `none` where it gets an error response (R489, R492). -/
def State.busRead (s : State) (master addr n : Nat) : Option (List Byte) :=
  match s.target master false addr (.read n) with
  | .sram o => some (s.sramRead o n)
  | .dram o => some (s.dramRead o n)
  | .rom o => some ((List.range n).map (fun i => Config.bootRom (o + i)))
  | _ => none

/-- A master writes bytes at an interconnect address; answers whether it got an error response. -/
def State.busWrite (s : State) (master addr : Nat) (d : List Byte) : State × Bool :=
  match s.target master false addr (.write d) with
  | .sram o => (s.sramWrite o d, false)
  | .dram o => (s.dramWrite o d, false)
  | _ => (s, true)

/-- Master ID of the network DMA (R491). -/
def netMaster : Nat := 0x25

/-! ## Frames -/

/-- A number from bytes in network order, and back. -/
def beNat (bs : List Byte) : Nat := bs.foldl (fun a b => 256 * a + b.toNat) 0
def beBytes (n v : Nat) : List Byte := (leBytes n v).reverse

/-- Bytes `o` to `o + n − 1` of a frame as a number. -/
def field (bs : List Byte) (o n : Nat) : Nat := beNat ((bs.drop o).take n)

/-- One's-complement sum of 16-bit words. -/
def sum16 : List Byte → Nat
  | [] => 0
  | [a] => 256 * a.toNat
  | a :: b :: r => 256 * a.toNat + b.toNat + sum16 r

/-- Fold a one's-complement sum to 16 bits. PRESUMED (log entry 66). -/
def fold16 (x : Nat) : Nat := let y := x % 65536 + x / 65536; y % 65536 + y / 65536

/-- The sum that a UDP checksum covers: pseudo-header and datagram. -/
def udpSum (src dst : Nat) (udp : List Byte) : Nat :=
  fold16 (sum16 (beBytes 4 src ++ beBytes 4 dst ++ beBytes 2 17 ++ beBytes 2 udp.length) + sum16 udp)

/-- What classification needs of a received frame. -/
structure RxParsed where
  dst   : Nat
  etype : Nat
  /-- source and destination address of an IPv4 packet, whether it is a fragment, its protocol and payload -/
  ip    : Option (Nat × Nat × Bool × Nat × List Byte)
  deriving DecidableEq, Repr

/-- Parse an Ethernet frame with at most one 802.1Q tag, and an IPv4 packet with options. PRESUMED (log entry 66). -/
def parseFrame (f : List Byte) : RxParsed :=
  let tagged := field f 12 2 == 0x8100
  let o := if tagged then 18 else 14
  let et := field f (o - 2) 2
  let ihl := 4 * (field f o 1 % 16)
  let len := field f (o + 2) 2
  let ip := et == 0x0800 && field f o 1 / 16 == 4 && decide (20 ≤ ihl) && decide (ihl ≤ len) && decide (o + len ≤ f.length)
  { dst := field f 0 6, etype := et,
    ip := if ip then
        some (field f (o + 12) 4, field f (o + 16) 4, field f (o + 6) 2 % 0x4000 != 0, field f (o + 9) 1,
              (f.drop (o + ihl)).take (len - ihl))
      else none }

/-- Is an IPv4 address multicast? -/
def mcastIp (a : Nat) : Bool := a / 2 ^ 28 == 14

/-- A port's MAC address. -/
def State.netMac (s : State) (x : Nat) : Nat := s.get Reg.NET_MAC_HI x * 2 ^ 32 + s.get Reg.NET_MAC_LO x

/-! ## Rings (R392 to R395) -/

/-- A ring's index: 4 per port. -/
def ringIx (x q : Nat) : Nat := 4 * x + q

/-- The internal state of a ring. -/
def State.netRing (s : State) (r : Nat) : NetRing := tget {} s.net.rings r
def State.setRing (s : State) (r : Nat) (f : NetRing → NetRing) : State :=
  s.modNet fun n => { n with rings := tmod {} n.rings r f }

/-- Page of port `x`. -/
def netPage (x : Nat) : Nat := 0x080 + 8 * x

/-- Write one completion to a ring's completion ring; a full ring, or memory that takes no write, discards it and counts it
(R395, R533). -/
def State.writeNetCpl (s : State) (x q : Nat) (words : List Word) : State :=
  let r := ringIx x q
  let slots := max 1 (s.get Reg.NETR_CPL_SLOTS r)
  let wr := s.get Reg.NETR_CPL_WR r
  let full := (wr + slots - s.get Reg.NETR_CPL_RD r % slots) % slots == slots - 1
  let addr := s.get Reg.NETR_CPL_BASE_HI r * 2 ^ 32 + s.get Reg.NETR_CPL_BASE_LO r * 16 + 16 * wr
  let d := wordBytes (words.map (·.toNat))
  if full then s.pageErr (netPage x)
  else
    let (s, bad) := if q < 2 then (let (s, w) := s.hostWrite addr d; (s, !w)) else s.busWrite netMaster addr d
    if bad then s.pageErr (netPage x) else s.put Reg.NETR_CPL_WR r ((wr + 1) % slots)

/-- The words of a completion (R393). -/
def netCpl (seq len status ts info : Nat) : List Word :=
  [BitVec.ofNat 32 seq, BitVec.ofNat 32 (len % 65536 * 65536 + status % 256), BitVec.ofNat 32 ts, BitVec.ofNat 32 info]

/-- Complete an accepted descriptor: the completion is recorded for replay and written (R394). -/
def State.netDone (s : State) (x q seq len status info : Nat) : State :=
  let ws := netCpl seq len status s.ts32 info
  let s := s.setRing (ringIx x q) fun r =>
    { r with descs := r.descs.filter (·.seq != seq), records := (({ seq := seq, words := ws } : Cpl) :: r.records).take 256 }
  s.writeNetCpl x q ws

/-- Fields of an accepted descriptor. -/
def NetDesc.w (d : NetDesc) (i : Nat) : Nat := (d.words.getD i 0).toNat
def NetDesc.len (d : NetDesc) : Nat := bits (d.w 1) 15 0
def NetDesc.addr (d : NetDesc) : Nat := d.w 3 * 2 ^ 32 + d.w 2
def NetDesc.cookie (d : NetDesc) : Nat := bits (d.w 4) 15 0

/-- Is a ring a transmit ring? -/
def txRing (q : Nat) : Bool := q % 2 == 0

/-- Accept a descriptor (R393, R394): a length out of range completes at once. -/
def State.acceptDesc (s : State) (x q : Nat) (d : NetDesc) : State :=
  let r := ringIx x q
  let s := s.put Reg.NETR_RING_EXPECT r (d.seq + 1)
  let s := s.setRing r fun n => { n with descs := n.descs ++ [d] }
  let bad := if txRing q then d.len < 60 || 1518 < d.len else d.len < 1536
  if bad then s.netDone x q d.seq 0 0x61 (if txRing q then d.cookie else 0) else s

/-- A descriptor at or behind RING_EXPECT − 1 (R394): counted; its completion is written again where it is among the last 256
accepted and complete, or DUP_OLD. -/
def State.dupDesc (s : State) (x q seq : Nat) : State :=
  let r := ringIx x q
  let s := s.count Reg.NETR_RING_DUP_CNT r
  let behind := (s.get Reg.NETR_RING_EXPECT r + 2 ^ 32 - seq) % 2 ^ 32
  if 256 < behind then s.writeNetCpl x q (netCpl seq 0 0x65 s.ts32 0)
  else match (s.netRing r).records.find? (·.seq == seq) with
    | some c => s.writeNetCpl x q c.words
    | none => if (s.netRing r).descs.any (·.seq == seq) then s else s.writeNetCpl x q (netCpl seq 0 0x65 s.ts32 0)

/-- Fetch descriptors from a ring (R394). `got k` is the k-th fetch, none where it fails; `n` fetches remain. Answers when
fetching stops. -/
def State.fetchDescs (x q : Nat) (got : Nat → Option (List Word)) : (n k : Nat) → State → State
  | 0, _, s => s
  | n + 1, k, s =>
    let r := ringIx x q
    let expect := s.get Reg.NETR_RING_EXPECT r
    match got k with
    | none => s.writeNetCpl x q (netCpl expect 0 0x63 s.ts32 0)
    | some ws =>
      let seq := (ws.getD 0 0).toNat
      if seq = expect then State.fetchDescs x q got n (k + 1) (s.acceptDesc x q { seq := seq, words := ws })
      else if (expect + 2 ^ 32 - seq) % 2 ^ 32 ≤ 2 ^ 31 then State.fetchDescs x q got n (k + 1) (s.dupDesc x q seq)
      else ((s.count Reg.NETR_RING_GAP_CNT r).irq Reg.NET_IRQ_SEQ_GAP x).writeNetCpl x q (netCpl seq 0 0x60 s.ts32 expect)

/-- The port's unit and link as R370 requires: PD_NET powered, not in PARK. -/
def State.netOn (s : State) : Bool := s.opMode != 0 && s.domState 12 == 3

/-- Does a port carry frames: its link is up, and neither the port nor its lane is fenced, retired or under test (R625)? -/
def State.netUp (s : State) (x : Nat) : Bool :=
  let units : List UnitId := [{ page := 0x80 + 8 * x }, { page := 0xA0, index := x }]
  s.getB Reg.NET_UP x && units.all fun u => !s.unitDown u && !s.suspended u

/-- NET_RING_DB (R392, R394): a doorbell. `descs` are the descriptors fetched from host memory, in order (a shorter list: the
next fetch fails); those of management queues are read from the interconnect. -/
def execNetRingDb (p : Plane) (x q : Nat) (v : Word) (descs : List (List Word)) (s : State) : Out :=
  if (2 ≤ q ∧ p = .host) ∨ !s.netOn then ok s
  else
    let r := ringIx x q
    let slots := max 1 (s.get Reg.NETR_RING_SLOTS r)
    let expect := s.get Reg.NETR_RING_EXPECT r
    let ahead := (v.toNat + 2 ^ 32 - expect) % 2 ^ 32
    let base := s.get Reg.NETR_RING_BASE_HI r * 2 ^ 32 + s.get Reg.NETR_RING_BASE_LO r * 32
    let n := if ahead < 2 ^ 31 then min slots (ahead + 1) else 0
    let s0 := s
    let got := fun k =>
      if q < 2 then (if s0.hostReadable then descs[k]? else none)
      else (s0.busRead netMaster (base + 32 * ((expect + k) % slots)) 32).map
        (fun b => (leWords b).map (fun w => BitVec.ofNat 32 w))
    ok (State.fetchDescs x q got n 0 s)

/-- Deliver a received frame to a receive ring (R393, R395). -/
def State.deliverFrame (s : State) (x q : Nat) (bytes : List Byte) : State :=
  let lost := fun (s : State) =>
    let s := if q = 1 then (s.count Reg.NET_HOST_RX_DROP x).irq Reg.NET_IRQ_HOST_RX_DROP x else s
    if q = 1 then s else s.pageErr (netPage x)
  match (s.netRing (ringIx x q)).descs with
  | [] => lost s
  | d :: _ =>
    let cut := bytes.take d.len
    let (s, bad) := if q = 1 then (let (s, w) := s.hostWrite d.addr cut; (s, !w)) else s.busWrite netMaster d.addr cut
    if bad then (lost s).netDone x q d.seq 0 0x63 0
    else s.netDone x q d.seq cut.length (if cut.length < bytes.length then 0x64 else 0) 0

/-! ## RX streams (R375 to R383) -/

/-- An RX stream's buffer and timers. -/
def State.rxs (s : State) (i : Nat) : RxStream := tget {} s.net.rx i
def State.setRxs (s : State) (i : Nat) (f : RxStream → RxStream) : State :=
  s.modNet fun n => { n with rx := tmod {} n.rx i f }

/-- Page of a stream's status block. -/
def rxsPage (i : Nat) : Nat := i / 64

/-- A packet time in root edges (R372). -/
def packetEdges (w6 : Nat) : Nat := packetSamples w6 * 3000000000 / w6Rate w6

/-- Does a frame from a port to an address and UDP port match an RX stream (R377)? -/
def State.rxMatch (s : State) (x src dst port : Nat) (rtp : List Byte) (i : Nat) : Bool :=
  let w := s.rxw i
  let p := bits (w 0) 30 29
  let want := if p == 2 && x == 1 && w 2 != 0 then w 2 else w 1
  (p == 2 || p == x) && dst == want && port == bits (w 4) 31 16
    && (!bit (w 0) 28 || src == w 3)
    && (!bit (w 0) 27 || bits (field rtp 1 1) 6 0 == bits (w 0) 22 16)
    && (!bit (w 0) 26 || field rtp 8 4 == w 5)

/-- The payload of an RTP version 2 packet, its CSRC list, header extension and padding skipped (R371). -/
def rtpPayload (r : List Byte) : Option (List Byte) :=
  let b0 := field r 0 1
  let h := 12 + 4 * bits b0 3 0
  let h := if bit b0 4 then h + 4 + 4 * field r (h + 2) 2 else h
  let pad := if bit b0 5 then field r (r.length - 1) 1 else 0
  if bits b0 7 6 = 2 ∧ h + pad ≤ r.length then some ((r.drop h).take (r.length - h - pad)) else none

/-- Samples of a payload by sample time, then channel (R63). -/
def payloadSamples (w6 : Nat) (pay : List Byte) : List (List Word) :=
  let n := w6Bytes w6
  let ch := w6Count w6
  (List.range (packetSamples w6)).map fun k => (List.range ch).map fun c =>
    let v := field pay (n * (k * ch + c)) n
    if n = 2 then ingress16 v else ingress24 v

/-- Insert a sample time into the buffer; a filled slot keeps its samples (R382). -/
def bufInsert (m : Nat) (x : List Word) : List (Nat × List Word) → List (Nat × List Word)
  | [] => [(m, x)]
  | b :: r => if m < b.1 then (m, x) :: b :: r else if m = b.1 then b :: r else b :: bufInsert m x r

/-- Media index of a packet's first sample: nearest to a reference index (R379). -/
def mediaIndex (ref r : Nat) : Nat := (((ref : Int) + sx 32 ((r + 2 ^ 32 - ref % 2 ^ 32) % 2 ^ 32))).toNat

/-- Note a packet on a leg (R382, R383): its path is up; a gap in the sequence numbers counts. -/
def State.rxLeg (s : State) (x i seq : Nat) : State :=
  let now := s.clk.now
  let st := s.rxs i
  let want := if x = 0 then st.seqA else st.seqB
  let gap := match want with
    | some e => seq != e && decide ((seq + 65536 - e) % 65536 < 32768)
    | none => false
  let next := match want with
    | some e => if (seq + 65536 - e) % 65536 < 32768 then (seq + 1) % 65536 else e
    | none => (seq + 1) % 65536
  let s := s.setRxs i fun r =>
    if x = 0 then { r with lastAt := now, legA := some now, seqA := some next }
    else { r with lastAt := now, legB := some now, seqB := some next }
  let s := s.putB (if x = 0 then Reg.RXS_PATH_A_UP else Reg.RXS_PATH_B_UP) i true
  let s := s.count (if x = 0 then Reg.RXS_RX_PKTS_A else Reg.RXS_RX_PKTS_B) i
  if gap then s.count (if x = 0 then Reg.RXS_RX_LOST_A else Reg.RXS_RX_LOST_B) i else s

/-- Samples a stream's buffer holds of each channel at most (R374, R379). -/
def rxCapacity (w6 : Nat) : Nat := rxSpan * w6Rate w6 / 3000000000

/-- Depth of LINK_OFS in samples (R380). -/
def rxDepth (w4 w6 : Nat) : Nat := bits w4 14 0 * w6Rate w6 / 1000000

/-- Write an accepted packet's samples into the buffer (R379, R380, R382). -/
def State.rxStore (s : State) (i rtpTime : Nat) (sm : List (List Word)) : State :=
  let w4 := s.rxw i 4
  let w6 := s.rxw i 6
  let st := s.rxs i
  let media := s.rxMediaStream i
  let now := s.thirds
  let mNow := now * w6Rate w6 / 3000000000
  let ref := if media then mNow else st.done.getD mNow
  let m := mediaIndex ref ((rtpTime + 2 ^ 32 - s.rxw i 7) % 2 ^ 32)
  let ixs := (List.range sm.length).map (m + ·)
  let far := fun k => media && decide (now + rxSpan < rxLatch w4 w6 k)
  let late := fun k => if media then decide (rxLatch w4 w6 k < now) else match st.done with
    | some d => decide (k < d)
    | none => false
  let kept := ixs.filter (fun k => !far k && !late k)
  let fresh := kept.filter (fun k => !(st.buf.any (·.1 == k)))
  let s := s.setRxs i fun r =>
    { r with buf := fresh.foldl (fun b k => bufInsert k (sm.getD (k - m) []) b) r.buf, done := some (r.done.getD m) }
  let s := if ixs.any far then s.count Reg.RXS_RX_DISCARD i else s
  let s :=
    if media ∧ ixs.all late then (s.count Reg.RXS_RX_LATE i).put Reg.RXS_LATE i 1
    else if fresh.isEmpty && !(ixs.any far) then s.count Reg.RXS_RX_DUP i else s
  let s := match media, fresh with
    | true, k :: _ =>
      let us := (rxLatch w4 w6 k - now) / 3000
      if us < s.get Reg.RXS_MARGIN_MIN i then s.put Reg.RXS_MARGIN_MIN i us else s
    | _, _ => s
  -- an ASYNC stream's buffer that overflows restarts its loop at LINK_OFS (R380)
  if !media ∧ rxCapacity w6 < (s.rxs i).buf.length then
    (s.setRxs i fun r =>
      let b := r.buf.drop (r.buf.length - rxDepth w4 w6)
      { r with buf := b, fill := true, done := some (match b with | [] => m + sm.length | e :: _ => e.1) }).count
      Reg.RXS_RX_UNDERRUN i |>.put Reg.RXS_UNDERRUN i 1
  else s

/-- A frame for an RX stream (R377 to R383). PRESUMED (log entry 66). -/
def State.rxPacket (s : State) (x i : Nat) (rtp : List Byte) : State :=
  if !s.audioMode then s
  else
    let w6 := s.rxw i 6
    match rtpPayload rtp with
    | some pay =>
      if pay.length = w6Count w6 * packetSamples w6 * w6Bytes w6 then
        let s := s.cvuTap 1 i (· == x) pay
        let s := if s.get Reg.RXS_STATE i = 2 then s
          else (s.put Reg.RXS_STATE i 2).irq Reg.RXS_IRQ_RX_RUN (rxsPage i)
        (s.rxLeg x i (field rtp 2 2)).rxStore i (field rtp 4 4) (payloadSamples w6 pay)
      else ((s.count Reg.RXS_RX_DISCARD i).put Reg.RXS_FMT_ERR i 1).irq Reg.RXS_IRQ_RX_FMT (rxsPage i)
    | none => ((s.count Reg.RXS_RX_DISCARD i).put Reg.RXS_FMT_ERR i 1).irq Reg.RXS_IRQ_RX_FMT (rxsPage i)

/-- Enter WAIT or OFF: the buffer is flushed and the paths are down (R378). -/
def State.rxFlush (s : State) (i st : Nat) : State :=
  let s := s.modNet fun n => { n with rx := tput {} n.rx i {} }
  (((s.put Reg.RXS_STATE i st).put Reg.RXS_PATH_A_UP i 0).put Reg.RXS_PATH_B_UP i 0)

/-- RX_STREAM_WAIT (R378): 8 packet times have passed since the last accepted packet. -/
def execRxStreamWait (i : Nat) (s : State) : Out :=
  if s.get Reg.RXS_STATE i ≠ 2 then ok s
  else
    let s := s.advanceTo ((s.rxs i).lastAt + 8 * packetEdges (s.rxw i 6))
    ok ((s.rxFlush i 1).irq Reg.RXS_IRQ_RX_LOST (rxsPage i))

/-- RX_LEG_DOWN (R383): a leg has delivered no packet within 8 packet times. -/
def execRxLegDown (i leg : Nat) (s : State) : Out :=
  match if leg = 0 then (s.rxs i).legA else (s.rxs i).legB with
  | none => ok s
  | some t =>
    let s := s.advanceTo (t + 8 * packetEdges (s.rxw i 6))
    let s := s.setRxs i fun r => if leg = 0 then { r with legA := none } else { r with legB := none }
    ok (s.put (if leg = 0 then Reg.RXS_PATH_A_UP else Reg.RXS_PATH_B_UP) i 0)

/-- Samples of a source pass to the strips and lanes that read it: a SYNC source's at the boundary that latches it, every other
source's as it lands. -/
def State.netSample (s : State) (src : Nat) (x : Word) : State :=
  if s.srcClass src = 1 then
    (s.express src x).modDp fun d => { d with src := tmod {} d.src src fun i => { i with cur := x, had := true } }
  else s.land src x

/-- Deliver one sample time of a stream on every channel. -/
def State.netDeliver (s : State) (i : Nat) (xs : List Word) : State :=
  let b := w6Base (s.rxw i 6)
  forRange (fun c s => s.netSample (b + c) (xs.getD c 0)) 0 (w6Count (s.rxw i 6)) s

/-- One media index of a stream at its boundary (R379): a sample not filled is delivered as 0 and counted. -/
def State.rxDue (i m : Nat) (s : State) : State :=
  match (s.rxs i).buf.find? (·.1 == m) with
  | some b => s.netDeliver i b.2
  | none =>
    ((s.netDeliver i []).count Reg.RXS_RX_UNDERRUN i (w6Count (s.rxw i 6))).put Reg.RXS_UNDERRUN i 1

/-- The latch of an RX stream clocked from the media clock at a boundary of PTP time `t` (R307, R379). Where more sample times
fall due than one boundary takes, the older are passed over. -/
def State.rxLatchStream (t i : Nat) (s : State) : State :=
  let st := s.rxs i
  if s.get Reg.RXS_STATE i ≠ 2 ∨ !s.rxMediaStream i then s
  else match st.done with
  | none => s
  | some d =>
    let w6 := s.rxw i 6
    let e := rxDueEnd (s.rxw i 4) w6 t
    if e ≤ d then s
    else
      let per := max 1 (w6Rate w6 / s.hz)
      let s := forRange (fun k s => State.rxDue i k s) (max d (e - per)) (e - max d (e - per)) s
      s.setRxs i fun r => { r with buf := r.buf.filter (fun b => e ≤ b.1), done := some e }

/-- The latch of every RX stream. -/
def State.rxLatchAll (s : State) (t : Nat) : State := forEach (State.rxLatchStream t) (s.streams false) s

/-- A frame of an ASYNC stream lands from the recovered clock (R380); a buffer that has emptied restarts the loop and counts one
underrun. -/
def State.rxLandAsync (s : State) (i : Nat) : State :=
  let st := s.rxs i
  if s.get Reg.RXS_STATE i ≠ 2 ∨ s.rxMediaStream i then s
  else
    let ready := !st.fill || decide (rxDepth (s.rxw i 4) (s.rxw i 6) ≤ st.buf.length)
    match st.buf with
    | [] => if st.fill then s
      else ((s.setRxs i fun r => { r with fill := true }).count Reg.RXS_RX_UNDERRUN i).put Reg.RXS_UNDERRUN i 1
    | b :: r =>
      if ready then (s.setRxs i fun x => { x with buf := r, done := some (b.1 + 1), fill := false }).netDeliver i b.2 else s

/-! ## Receive (R371) -/

/-- Is a frame wanted by the host (R371, rule 4)? -/
def State.hostWants (s : State) (x dst : Nat) : Bool :=
  dst == s.netMac x || dst == 2 ^ 48 - 1 || (dst / 2 ^ 40 % 2 == 1 && s.getB Reg.NET_MC_ALL x)

/-- RX_LAT and TX_LAT of a port, in thirds of a nanosecond (R353). -/
def State.rxLat (s : State) (x : Nat) : Nat := 3 * s.get (if x = 0 then Reg.TIME_LAT_A_RX else Reg.TIME_LAT_B_RX)
def State.txLat (s : State) (x : Nat) : Nat := 3 * s.get (if x = 0 then Reg.TIME_LAT_A_TX else Reg.TIME_LAT_B_TX)

/-- Rules 2 to 5 of R371 for a frame that rule 1 did not discard. -/
def State.classify (s : State) (x : Nat) (f : List Byte) (p : RxParsed) : State :=
  let host := fun (s : State) => if s.hostWants x p.dst then s.deliverFrame x 1 f else s.count Reg.NET_RX_DROP x
  match p.ip with
  | some (src, dst, _, 17, udp) =>
    let port := field udp 2 2
    let body := (udp.drop 8).take (field udp 4 2 - 8)
    if (port = 319 ∨ port = 320) ∧ (dst = s.get Reg.NET_IP x ∨ mcastIp dst) then
      let rec' := s.stampRecord x (port == 319) ((s.thirds + ptpModulus - s.rxLat x) % ptpModulus)
      s.deliverFrame x 3 (wordBytes (rec'.map (·.toNat)) ++ f)
    else match (s.streams false).find? (s.rxMatch x src dst port body) with
      | some i => s.rxPacket x i body
      | none => host s
  | _ => host s

/-- NET_RX_FRAME (R371): a frame, without its FCS, is received on port `x`. -/
def execNetRxFrame (x : Nat) (frame : List Byte) (fcsOk : Bool) (s : State) : Out :=
  if !s.netOn ∨ !s.netUp x then ok s
  else
    let s := s.count Reg.NET_RX_FRAMES x
    let p := parseFrame frame
    let badIp : Bool := match p.ip with
      | some (src, dst, frag, proto, udp) =>
        frag || (proto == 17 && field udp 6 2 != 0 && udpSum src dst (udp.take (field udp 4 2)) != 0xFFFF)
      | none => false
    if !fcsOk then ok (s.count Reg.NET_RX_FCS_ERR x)
    else if frame.length < 60 ∨ 1518 < frame.length ∨ p.etype = 0x8808 ∨ badIp then ok (s.count Reg.NET_RX_DROP x)
    else ok (s.classify x frame p)

/-! ## TX streams (R384 to R391) -/

/-- A TX stream's state. -/
def State.txs (s : State) (i : Nat) : TxStream := tget {} s.net.tx i
def State.setTxs (s : State) (i : Nat) (f : TxStream → TxStream) : State :=
  s.modNet fun n => { n with tx := tmod {} n.tx i f }

/-- Launch of a stream's next packet, where its first sample has been stamped. -/
def TxStream.next (t : TxStream) : Option Nat := match t.ready with
  | p :: _ => some p.launch
  | [] => if t.count = 0 then none else some t.launch

/-- Is an Ephemeris entry the NET_LAUNCH entry of a stream? -/
def isLaunchOf (i : Nat) (x : EphEntry) : Bool := match x.kind with
  | .netLaunch j _ => i == j
  | _ => false

/-- Keep a stream's NET_LAUNCH entry at the launch of its next packet (R386). -/
def State.netEntry (s : State) (i : Nat) : State :=
  let s := s.ephDrop (isLaunchOf i)
  match (s.txs i).next with
  | some t => s.ephAdd { time := t, kind := .netLaunch i 0, handle := 4096 + i }
  | none => s

/-- One sample time of a stream is handed off (R385): its channels' words join the packet. -/
def State.txSample (i stamp : Nat) (word : Nat → Word) (s : State) : State :=
  let w6 := s.txw i 6
  let n := packetSamples w6
  let rate := w6Rate w6
  let ws := (List.range (w6Count w6)).map fun c => if w6Bytes w6 = 2 then egress16 (word (w6Base w6 + c)) else egress24 (word (w6Base w6 + c))
  let clips := (ws.filter (·.2)).length
  let s := if clips = 0 then s
    else ((s.count Reg.TXS_TX_CLIP i clips).put Reg.TXS_CLIP i 1).irq Reg.TXS_IRQ_TX_CLIP (rxsPage i)
  let s := s.setTxs i fun t =>
    if t.count = 0 then
      { t with stamp := stamp, launch := stamp + n * (3000000000 / rate) + 6000, mark := t.marker, marker := false }
    else t
  let s := s.setTxs i fun t => { t with count := t.count + 1, data := t.data ++ ws.flatMap (fun v => beBytes (w6Bytes w6) v.1) }
  let t := s.txs i
  let s :=
    if n ≤ t.count then
      let rtp := (roundHalfEven (t.stamp * rate) 3000000000).toNat % 2 ^ 32
      let p : TxPacket := { launch := t.launch, seq := t.seq, rtp := rtp, marker := t.mark, payload := t.data }
      let s := s.setTxs i fun t => { t with ready := t.ready ++ [p], data := [], count := 0, seq := (t.seq + 1) % 65536 }
      (s.put Reg.TXS_TX_SEQ i ((t.seq + 1) % 65536)).put Reg.TXS_TX_RTP i rtp
    else s
  if t.count = 1 ∨ n ≤ t.count then s.netEntry i else s

/-- A TX stream at an egress hand-off of PTP time `t` (R242, R385): a stream at the internal rate takes every sample, a decimated
one every second or fourth, one above the internal rate carries silence. -/
def State.txGather (t : Nat) (word : Nat → Word) (i : Nat) (s : State) : State :=
  let rate := w6Rate (s.txw i 6)
  match destByRate rate s.hz with
  | .same => State.txSample i t word s
  | .by2 => if s.clk.idx % 2 = 0 then State.txSample i t word s else s
  | .by4 => if s.clk.idx % 4 = 0 then State.txSample i t word s else s
  | .silent => forRange (fun k s => State.txSample i (t + k * (3000000000 / rate)) (fun _ => 0) s) 0 (rate / s.hz) s

/-- Every TX stream at an egress hand-off; only where audio streams run (R370). -/
def State.txGatherAll (s : State) (t : Nat) (word : Nat → Word) : State :=
  if s.audioMode then forEach (State.txGather t word) (s.streams true) s else s

/-! ### Lines -/

/-- Time of a byte on a port's line, in 150ths of a nanosecond (R368). -/
def State.byteTime (s : State) (x : Nat) : Nat := if s.get Reg.NET_SPEED_NOW x = 0 then 48 else 120

/-- Preamble and start delimiter, and minimum interframe gap, in bytes. -/
def preamble : Nat := 8
def gapBytes : Nat := 12

/-- Send a frame on a port whose start delimiter leaves the balls at `sfd` or as soon as the line allows behind frames that end
at `prev` (R387); answers when it leaves. -/
def State.sendFrame (s : State) (x sfd prev : Nat) (audio : Bool) (bytes : List Byte) : Nat × State :=
  let b := s.byteTime x
  let sfd := max sfd (if prev = 0 then 0 else prev + (gapBytes + preamble) * b)
  let stop := sfd + (max 60 bytes.length + 4) * b
  let s := s.modNet fun n =>
    { n with sent := some { port := x, bytes := bytes, start := sfd, stop := stop },
             audioEnd := if audio then tput 0 n.audioEnd x stop else n.audioEnd, frameEnd := tput 0 n.frameEnd x stop }
  (sfd, s.count Reg.NET_TX_FRAMES x)

/-- The frame of a packet on a port (R372, R384, R385). The IPv4 identification and the don't-fragment bit are free values.
PRESUMED (log entry 66). -/
def State.txFrame (s : State) (x i : Nat) (p : TxPacket) : List Byte × State :=
  let w := s.txw i
  let (v, s) := s.draw
  let dst := if x == 1 && bits (w 0) 30 29 == 2 && w 2 != 0 then w 2 else w 1
  let src := s.get Reg.NET_IP x
  let mac := if mcastIp dst then 0x01005E000000 + dst % 2 ^ 23 else bits (w 4) 31 16 * 2 ^ 32 + w 3
  let rtp := [0x80#8, BitVec.ofNat 8 (p.marker.toNat * 128 + bits (w 5) 6 0)] ++ beBytes 2 p.seq ++ beBytes 4 p.rtp
    ++ beBytes 4 (w 7) ++ p.payload
  let len := rtp.length + 8
  let udp := fun c => beBytes 2 (bits (w 5) 31 16) ++ beBytes 2 (bits (w 4) 15 0) ++ beBytes 2 len ++ beBytes 2 c ++ rtp
  let c := 0xFFFF - udpSum src dst (udp 0)
  let ip := fun c => [0x45#8, BitVec.ofNat 8 (bits (w 0) 11 6 * 4)] ++ beBytes 2 (len + 20) ++ beBytes 2 (v % 65536)
    ++ beBytes 2 (v / 65536 % 2 * 0x4000) ++ [BitVec.ofNat 8 (bits (w 5) 15 8), 17#8] ++ beBytes 2 c ++ beBytes 4 src ++ beBytes 4 dst
  let tag := if bit (w 0) 28 then beBytes 2 0x8100 ++ beBytes 2 (bits (w 0) 15 13 * 8192 + bits (w 0) 27 16) else []
  (beBytes 6 mac ++ beBytes 6 (s.netMac x) ++ tag ++ beBytes 2 0x0800 ++ ip (0xFFFF - fold16 (sum16 (ip 0)))
    ++ udp (if c = 0 then 0xFFFF else c), s)

/-- A packet at its launch on one port (R387, R389). Answers whether it left. -/
def State.launchOn (s : State) (x i : Nat) (p : TxPacket) : Bool × State :=
  if !s.netUp x then
    (false, ((s.count Reg.TXS_TX_DROP i).put Reg.TXS_DROP i 1).irq Reg.TXS_IRQ_TX_DROP (rxsPage i))
  else
    let (f, s) := s.txFrame x i p
    let sfd := s.clk.now * 50 - s.txLat x * 50
    let (at', s) := s.sendFrame x sfd (tget 0 s.net.audioEnd x) true f
    let late := (at' - sfd) / 150
    (true, if at' ≤ sfd then s
      else (((s.count Reg.TXS_TX_LATE i).put Reg.TXS_LATE i 1).irq Reg.TXS_IRQ_TX_LATE (rxsPage i)).keepMax
        Reg.TXS_TX_LATE_MAX i late)

/-- PACKET_LAUNCH (R278, R386 to R391): the first NET_LAUNCH entry in order of time, then of stream index, fires. -/
def execPacketLaunch (s : State) : Out :=
  let nets := s.eph.entries.filter (fun x => match x.kind with | .netLaunch _ _ => true | _ => false)
  let first := nets.foldl (fun a x => match a with
    | none => some x
    | some y => if x.time < y.time || (x.time == y.time && decide (x.handle < y.handle)) then some x else a) none
  match first with
  | none => ok s
  | some e =>
    let i := e.handle - 4096
    match (s.txs i).ready with
    | [] => ok s
    | p :: rest =>
      let s := s.advanceTo (s.edgeOf e.time)
      let s := (s.setTxs i fun t => { t with ready := rest }).ephFired e
      let s := s.netEntry i
      if s.opMode ≠ 4 ∧ s.opMode ≠ 5 then ok (s.count Reg.TXS_TX_MUTED i)
      else
        let port := bits (s.txw i 0) 30 29
        let (a, s) := if port = 1 then (false, s) else s.launchOn 0 i p
        let (b, s) := if port = 0 then (false, s) else s.launchOn 1 i p
        ok (if a || b then s.count Reg.TXS_TX_PKTS i else s)

/-! ### Host and management frames (R388) -/

/-- The next audio launch on a port, as a time on its line. -/
def State.nextLaunch (s : State) (x : Nat) : Option Nat :=
  let on := (s.streams true).filter (fun i => let p := bits (s.txw i 0) 30 29; p == 2 || p == x)
  let live := s.opMode == 4 || s.opMode == 5
  (if live then on.filterMap (fun i => (s.txs i).next) else []).foldl (fun a t =>
    let l := s.edgeOf t * 50 - s.txLat x * 50
    match a with | none => some l | some m => some (min m l)) none

/-- The first descriptor waiting on a transmit ring. -/
def State.txHead (s : State) (x q : Nat) : Option NetDesc := (s.netRing (ringIx x q)).descs.head?

/-- Send the head of a transmit ring in a gap (R388): its last bit must leave at least 100 ns before the next audio launch,
otherwise it waits. -/
def State.sendDesc (s : State) (x q : Nat) (d : NetDesc) (data : Option (List Byte)) : State :=
  if !s.netUp x then s.netDone x q d.seq 0 0x62 d.cookie
  else match data with
  | none => s.netDone x q d.seq 0 0x63 d.cookie
  | some bytes =>
    let b := s.byteTime x
    let prev := tget 0 s.net.frameEnd x
    let sfd := max (s.clk.now * 50 + preamble * b) (if prev = 0 then 0 else prev + (gapBytes + preamble) * b)
    let stop := sfd + (bytes.length + 4) * b
    let fits := match s.nextLaunch x with
      | none => true
      | some l => decide (stop + 15000 ≤ l)
    if !fits then s
    else
      let (at', s) := s.sendFrame x sfd prev false bytes
      let s := s.advanceTo ((at' + 49) / 50)
      let s := if q = 2 ∧ bit (d.w 1) 16 then
          s.pushTxts x d.cookie (s.stampRecord x true ((s.thirds + s.txLat x) % ptpModulus))
        else s
      s.netDone x q d.seq d.len 0 d.cookie

/-- HOST_FRAME_TX (R388): `data` is what the read of host memory returns, none where it ends in an error. Management frames take
precedence. -/
def execHostFrameTx (x : Nat) (data : Option (List Byte)) (s : State) : Out :=
  match s.txHead x 0 with
  | none => ok s
  | some d =>
    if !s.netOn ∨ (s.txHead x 2).isSome then ok s
    else ok (s.sendDesc x 0 d (if s.hostReadable then data.map (·.take d.len) else none))

/-- MGMT_FRAME_TX (R355, R388): the frame is read from the interconnect. -/
def execMgmtFrameTx (x : Nat) (s : State) : Out :=
  match s.txHead x 2 with
  | none => ok s
  | some d => if !s.netOn then ok s else ok (s.sendDesc x 2 d (s.busRead netMaster d.addr d.len))

/-! ### Links (R368, R396) -/

/-- NET_LINK_UP (R396). A retired lane keeps its link down (R625). -/
def execNetLinkUp (x : Nat) (an : Bool) (s : State) : Out :=
  if !s.netOn ∨ s.getB Reg.NET_UP x ∨ s.unitDown { page := 0xA0, index := x } then ok s
  else
    let s := (s.put Reg.NET_UP x 1).put Reg.NET_SPEED_NOW x (s.get Reg.NET_SPEED x)
    let s := (s.putB Reg.NET_AN_DONE x (an && s.getB Reg.NET_AN x)).putB Reg.NET_FEC_LOCK x (s.getB Reg.NET_FEC x)
    ok (s.irq Reg.NET_IRQ_LINK_UP x)

/-- A port's link goes down. -/
def State.linkDown (x : Nat) (s : State) : State :=
  if !s.getB Reg.NET_UP x then s
  else
    let s := ((s.put Reg.NET_UP x 0).put Reg.NET_AN_DONE x 0).put Reg.NET_FEC_LOCK x 0
    (s.count Reg.NET_LINK_DOWN_CNT x).irq Reg.NET_IRQ_LINK_DOWN x

/-- NET_LINK_DOWN (R396). -/
def execNetLinkDown (x : Nat) (s : State) : Out := ok (State.linkDown x s)

/-! ### Enables, modes -/

/-- Show the state of a TX stream (R399). -/
def State.txShow (i : Nat) (s : State) : State :=
  s.put Reg.TXS_STATE i (if !bit (s.txw i 0) 31 then 0 else if s.opMode = 4 ∨ s.opMode = 5 then 2 else 1)

/-- The stream entries follow a change of mode (R370, R390): outside the audio modes nothing is received, built or launched. -/
def State.streamsMode (s : State) : State :=
  let s := forEach State.txShow (s.streams true) s
  if s.audioMode then s
  else
    let s := forEach (fun i s => if s.get Reg.RXS_STATE i = 2 then s.rxFlush i 1 else s) (s.streams false) s
    forEach (fun i s => (s.setTxs i fun t => { t with data := [], count := 0, ready := [] }).netEntry i) (s.streams true) s

/-- A move on word 0 of a stream entry has taken effect (R376, R378, R385, R514). -/
def State.streamMoved (s : State) (tx : Bool) (i : Nat) (old new : Nat) : State :=
  if bit old 31 == bit new 31 then s
  else if bit new 31 then
    if tx then
      let s := s.modNet fun n => { n with tx := tput {} n.tx i {} }
      let s := (s.put Reg.TXS_TX_SEQ i 0).allocBuf (openSize (0x200 + i)) clsStream (0x200 + i)
      State.txShow i s
    else (s.rxFlush i 1).allocBuf (openSize (0x100 + i)) clsStream (0x100 + i)
  else if tx then
    let s := (s.modNet fun n => { n with tx := tput {} n.tx i {} }).netEntry i
    State.txShow i (s.freeBufs clsStream (0x200 + i))
  else (s.rxFlush i 0).freeBufs clsStream (0x100 + i)

end Sys2Proof.Machine
end

