-- ==== Sys2Proof/Machine/HostRing.lean ====
section
/-! DEFINITION. The host command rings (R547 to R557): doorbells, fetching, completions and replays. What a ring command does
stands with the command. -/

namespace Sys2Proof.Machine

/-- State of a ring. -/
def State.hostRing (s : State) (q : Nat) : HostRing := tget {} s.host.rings q
def State.setHostRing (s : State) (q : Nat) (f : HostRing → HostRing) : State :=
  s.modHost fun h => { h with rings := tmod {} h.rings q f }

/-- The HOSTQ page. -/
def hostqPage : Nat := 0x003

/-- Is a slot of the completion ring free (R553)? -/
def State.cplFree (s : State) (q : Nat) : Bool :=
  let n := max 1 (s.get Reg.HOSTQ_CPL_SLOTS q)
  (s.get Reg.HOSTQ_CPL_WR q + n - s.get Reg.HOSTQ_CPL_RD q % n) % n < n - 1

/-- Do descriptors remain to be fetched? -/
def State.ringDue (s : State) (q : Nat) : Bool := match (s.hostRing q).doorbell with
  | some v => (v + 2 ^ 32 - (s.hostRing q).cursor) % 2 ^ 32 < 2 ^ 31
  | none => false

/-- Show a ring's status word. -/
def State.showRing (s : State) (q : Nat) : State :=
  let r := s.hostRing q
  let s := s.putB Reg.HOSTQ_RUNNING q r.cmd.isSome
  let s := s.put Reg.HOSTQ_OP_NOW q (match r.cmd with | some c => c.op | none => 0)
  s.putB Reg.HOSTQ_CPL_WAIT q (s.getB Reg.HOSTQ_EN q && s.ringDue q && r.cmd.isNone && (!s.cplFree q || !r.replay.isEmpty))

/-- Write waiting completions while slots are free (R552, R553). One that the host bus discards is counted (R533). -/
def State.drainCpl (q : Nat) : Nat → State → State
  | 0, s => s
  | n + 1, s => match (s.hostRing q).replay with
    | [] => s
    | c :: rest =>
      if !s.cplFree q then s
      else
        let slots := max 1 (s.get Reg.HOSTQ_CPL_SLOTS q)
        let wr := s.get Reg.HOSTQ_CPL_WR q
        let addr := s.get Reg.HOSTQ_CPL_BASE_HI q * 2 ^ 32 + s.get Reg.HOSTQ_CPL_BASE_LO q * 16 + 16 * wr
        let s := s.setHostRing q fun r => { r with replay := rest }
        let (s, w) := s.hostWrite addr (wordBytes (c.words.map (·.toNat)))
        let s := if w then (s.put Reg.HOSTQ_CPL_WR q ((wr + 1) % slots)).setBitOf Reg.HOSTQ_IRQ_CPL 0 q true
          else s.pageErr hostqPage
        State.drainCpl q n s

/-- Put a completion in line for the completion ring. DEDUCED (log entry 56). -/
def State.sendCpl (s : State) (q : Nat) (c : Cpl) : State :=
  let s := s.setHostRing q fun r => { r with replay := r.replay ++ [c] }
  (State.drainCpl q (s.hostRing q).replay.length s).showRing q

/-- A completion (R547). -/
def hostCpl (seq op slot status ts info : Nat) : Cpl :=
  { seq := seq, words := [BitVec.ofNat 32 seq, BitVec.ofNat 32 (op % 256 * 2 ^ 24 + slot % 32 * 2 ^ 16 + status % 256),
                          BitVec.ofNat 32 ts, BitVec.ofNat 32 info] }

/-- The command that a ring executes ends (R552, R553): its completion is recorded, and written unless a host interface reset has
come since it began. -/
def State.ringEnd (s : State) (q slot status info : Nat) : State :=
  match (s.hostRing q).cmd with
  | none => s
  | some c =>
    let cpl := hostCpl c.seq c.op slot status s.ts32 info
    let live := !c.mute && (s.getB Reg.HOSTQ_EN q || (s.hostRing q).stopping)
    let s := s.setHostRing q fun r => { r with cmd := none, stopping := false, records := (cpl :: r.records).take 256 }
    let s := s.count Reg.HOSTQ_RING_DONE_CNT q
    if live then s.sendCpl q cpl else s.showRing q

/-- End a command where it was issued: by a ring, with a completion. -/
def State.endOf (s : State) (who : Origin) (slot status info : Nat) : State := match who with
  | .ring q => s.ringEnd q slot status info
  | .reg _ => s

/-! ## Descriptors -/

/-- Word and argument of a descriptor (R547). -/
def RingCmd.w (c : RingCmd) (i : Nat) : Nat := (c.words.getD i 0).toNat
def RingCmd.a (c : RingCmd) (i : Nat) : Nat := c.w (4 + i)

/-- Arguments from `k` on are 0. -/
def RingCmd.zeroFrom (c : RingCmd) (k : Nat) : Bool := (c.words.drop (4 + k)).all (· == 0)

/-- Does an image address lie in DRAM where R287 allows images, or in host memory? DEDUCED (log entry 57). -/
def imageAddrOk (dram : Bool) (addr : Nat) : Bool :=
  !dram || (decide (0xC8000000 ≤ addr) && decide (addr < 0x100000000))

/-- Are the arguments of a defined command within R548? SCENE and the loads answer further faults with their own codes.
DEDUCED (log entry 56). -/
def RingCmd.argsOk (c : RingCmd) : Bool :=
  bits (c.w 1) 31 28 == 0 && bits (c.w 1) 15 8 == 0 && c.w 3 == 0 &&
  (if c.op = 0x00 then c.zeroFrom 0
   else if c.op = 0x01 then
     bits (c.a 0) 31 24 == 0 && c.a 0 % 4 == 0 && decide (1 ≤ c.a 1) && decide (c.a 1 ≤ 8) && c.zeroFrom (2 + c.a 1) &&
       decide (c.a 0 + 4 * c.a 1 ≤ 2 ^ 24)
   else if c.op = 0x02 then
     bits (c.a 0) 31 24 == 0 && c.a 0 % 4 == 0 && decide (1 ≤ c.a 1) && decide (c.a 1 ≤ 1024) && c.a 2 % 4 == 0 && c.zeroFrom 4 &&
       decide (c.a 0 + 4 * c.a 1 ≤ 2 ^ 24)
   else if c.op = 0x10 then bits (c.a 0) 31 9 == 0 && c.zeroFrom 5
   else if c.op = 0x11 then
     c.a 0 < 2 && c.a 1 % 8 == 0 && c.zeroFrom 3 && imageAddrOk (c.a 0 % 2 == 1) (c.a 1 + 2 ^ 32 * c.a 2)
   else
     c.a 0 < 4 && c.a 2 % 4 == 0 && bits (c.a 4) 31 18 == 0 && c.zeroFrom 6 &&
       imageAddrOk (bit (c.a 0) 1) (c.a 2 + 2 ^ 32 * c.a 3))

/-- The defined commands (R548). DEDUCED (log entry 56). -/
def ringOps : List Nat := [0x00, 0x01, 0x02, 0x10, 0x11, 0x12]

/-- The command of a ring while it is the one named and has not begun. -/
def State.ringCmd (s : State) (q op : Nat) : Option RingCmd := match (s.hostRing q).cmd with
  | some c => if c.op = op ∧ !c.began then some c else none
  | none => none

/-- A ring's command has begun in the engine and ends later. -/
def State.ringBegan (s : State) (q : Nat) : State :=
  s.setHostRing q fun r => { r with cmd := r.cmd.map (fun c => { c with began := true }) }

/-! ## Ring commands and registers -/

/-- HOSTQ_RING_DB (R551): a doorbell, which also retries a failed fetch and resumes after a gap. It counts while EN = 1.
DEDUCED (log entry 56). -/
def execHostqRingDb (q : Nat) (v : Word) (s : State) : Out :=
  if 4 ≤ q || !s.getB Reg.HOSTQ_EN q then ok s
  else
    let s := s.setHostRing q fun r => { r with doorbell := some v.toNat, cursor := s.get Reg.HOSTQ_RING_EXPECT q }
    ok (((s.put Reg.HOSTQ_GAP_STOP q 0).put Reg.HOSTQ_FETCH_ERR q 0).showRing q)

/-- HOSTQ_FETCH (R549, R551, R553, R554): the engine fetches the next descriptor of a ring. DEDUCED (log entry 56). -/
def execHostqFetch (q : Nat) (desc : Option (List Word)) (s : State) : Out :=
  let r := s.hostRing q
  if 4 ≤ q || !s.getB Reg.HOSTQ_EN q || !s.ringDue q || r.cmd.isSome || s.getB Reg.HOSTQ_GAP_STOP q ||
     s.getB Reg.HOSTQ_FETCH_ERR q || !s.cplFree q || !r.replay.isEmpty then ok (if 4 ≤ q then s else s.showRing q)
  else
    match if s.hostReadable then desc else none with
    | none => ok ((s.put Reg.HOSTQ_FETCH_ERR q 1).irq Reg.HOSTQ_IRQ_BUS_ERR)
    | some ws =>
      let words := (ws ++ List.replicate 16 0).take 16
      let seq := (words.getD 0 0).toNat
      let op := bits (words.getD 1 0).toNat 7 0
      let expect := s.get Reg.HOSTQ_RING_EXPECT q
      let s := s.setHostRing q fun x => { x with cursor := (x.cursor + 1) % 2 ^ 32 }
      if seq = expect then
        let c : RingCmd := { seq := seq, op := op, words := words }
        let s := s.put Reg.HOSTQ_RING_EXPECT q (expect + 1)
        let s := (s.setHostRing q fun x => { x with cmd := some c }).showRing q
        let epoch := (words.getD 2 0).toNat
        let here := s.epoch (bits (words.getD 1 0).toNat 27 16)
        if !ringOps.contains op then ok (s.ringEnd q 0 0x01 0)
        else if !c.argsOk then ok (s.ringEnd q 0 0x02 0)
        else if epoch ≠ 0 ∧ epoch ≠ here then ok (s.ringEnd q 0 0x03 here)
        -- an operation of SCENE that R284 does not define
        else if op = 0x10 ∧ !(okUpto 1 6 (bits (c.a 0) 3 0)) then ok (s.ringEnd q (bits (c.a 0) 8 4) 0x53 0)
        else ok s
      else if (expect + 2 ^ 32 - seq) % 2 ^ 32 ≤ 2 ^ 31 then
        let s := s.count Reg.HOSTQ_RING_DUP_CNT q
        if 256 < (expect + 2 ^ 32 - seq) % 2 ^ 32 then ok (s.sendCpl q (hostCpl seq op 0 0x06 s.ts32 0))
        else match r.records.find? (·.seq == seq) with
          | some c => ok (s.sendCpl q c)
          | none => ok (s.sendCpl q (hostCpl seq op 0 0x06 s.ts32 0))
      else
        let s := (s.count Reg.HOSTQ_RING_GAP_CNT q).setBitOf Reg.HOSTQ_IRQ_GAP 0 q true
        ok ((s.put Reg.HOSTQ_GAP_STOP q 1).sendCpl q (hostCpl seq op 0 0x05 s.ts32 expect))

/-- RING_REPLAY (R552). -/
def execRingReplay (q : Nat) (v : Word) (s : State) : Out :=
  if 4 ≤ q then ok s
  else
    let back := (s.get Reg.HOSTQ_RING_EXPECT q + 2 ^ 32 - v.toNat) % 2 ^ 32
    if !s.getB Reg.HOSTQ_EN q ∨ back = 0 ∨ 256 < back then ok (s.pageErr hostqPage)
    else
      let again := ((s.hostRing q).records.filter (fun c =>
        (s.get Reg.HOSTQ_RING_EXPECT q + 2 ^ 32 - c.seq) % 2 ^ 32 ≤ back)).reverse
      ok (forEach (fun c s => (s.count Reg.HOSTQ_RING_DUP_CNT q).sendCpl q c) again s)

/-- HOSTQ_RING_EN (R555): EN is set, which returns the completion indices to 0, or cleared, which stops the ring after the command in
progress. -/
def execHostqRingEn (q : Nat) (on : Bool) (s : State) : Out :=
  if 4 ≤ q || s.getB Reg.HOSTQ_EN q == on then ok s
  else if on then
    let s := (((s.put Reg.HOSTQ_CPL_WR q 0).put Reg.HOSTQ_CPL_RD q 0).put Reg.HOSTQ_EN q 1).bumpEpoch hostqPage
    ok ((s.setHostRing q fun r => { r with stopping := false, replay := [] }).showRing q)
  else
    let s := ((s.put Reg.HOSTQ_EN q 0).bumpEpoch hostqPage).setHostRing q fun r => { r with stopping := r.cmd.isSome, doorbell := none }
    ok (s.showRing q)

/-- A write of CPL_RD_SET: the host has read completions up to an index. -/
def State.cplRead (s : State) (q v : Nat) : State :=
  let s := s.put Reg.HOSTQ_CPL_RD q v
  (State.drainCpl q (s.hostRing q).replay.length s).showRing q

/-- CMD_NOP (R548). -/
def execCmdNop (q : Nat) (s : State) : Out := match s.ringCmd q 0x00 with
  | some _ => ok (s.ringEnd q 0 0 0)
  | none => ok s

end Sys2Proof.Machine
end

