-- ==== Sys2Proof/Machine/Bridge.lean ====
section
/-! DEFINITION. The Bridge cores (R168 to R173, R176, R177, R209 to R212, R502, R550). -/

namespace Sys2Proof

open Machine

/-- A register of a window, and a store to it (R168). -/
def BcData.reg (d : BcData) (w h : Nat) : Nat := tget 0 d.win (16 * w + h)
def BcData.setReg (d : BcData) (w h v : Nat) : BcData := { d with win := tput 0 d.win (16 * w + h) (v % 2 ^ 24) }

/-- Words 0x1FF40 and above read 0 and ignore writes (R171). -/
def bcWords : Nat := 0x1FF40

/-- A word of local memory. An address beyond the memory is no word of it. -/
def BcData.word (d : BcData) (a : Nat) : Nat := if a < bcWords then tget 0 d.mem a else 0
def BcData.setMem (d : BcData) (a v : Nat) : BcData := if a < bcWords then { d with mem := tput 0 d.mem a (v % 2 ^ 24) } else d

/-- Write a window to memory, and load one. -/
def BcData.park (d : BcData) (w a : Nat) : BcData := forRange (fun h d => d.setMem ((a + h) % 2 ^ 24) (d.reg w h)) 0 16 d
def BcData.unpark (d : BcData) (w a : Nat) : BcData := forRange (fun h d => d.setReg w h (d.word ((a + h) % 2 ^ 24))) 0 16 d

end Sys2Proof

namespace Sys2Proof.Machine

/-- PG_STAT[5] HALTED of a BC page (R211). -/
def BC_HALTED : Fld := Hdr.SPARE

/-- State of a core. -/
def State.bcore (s : State) (c : Nat) : Bc := tget {} s.bc c
def State.setBc (s : State) (c : Nat) (f : Bc → Bc) : State := { s with bc := tmod {} s.bc c f }
def bcPage (c : Nat) : Nat := 0xC0 + c
def bcUnit (c : Nat) : UnitId := { page := bcPage c }

/-- Is a core in service: started, neither halted nor fenced, and suspended neither by thermal shedding nor by a test? -/
def State.bcUp (s : State) (c : Nat) : Bool :=
  c < 2 && !(s.bcore c).halted && !s.getB Hdr.FENCED (bcPage c) && !s.suspended (bcUnit c) && decide (s.get Reg.THERM_STATE < 2)

/-- Does a core execute instructions: it is in service and does not wait for its sample event? -/
def State.bcRuns (s : State) (c : Nat) : Bool := s.bcUp c && !(s.bcore c).waits

/-- An instruction of a running core. -/
def State.onBc (s : State) (c : Nat) (f : Bc → State → State) : Out := ok (if s.bcRuns c then f (s.bcore c) s else s)

/-- The address of the next instruction is a free value: the manual gives no length for an instruction of the Camlor 320.
DEDUCED (log entry 71). DESIGN CHOICE (log entry 90). -/
def State.bcNext (s : State) (c : Nat) : State :=
  let (v, s) := s.draw
  s.setBc c fun b => { b with core := { b.core with pc := v % 2 ^ 24 } }

/-- Rebuild a table of words in its canonical form, within a range of keys and 24 bits. -/
def tableOf (n : Nat) (t : Tbl Nat) : Tbl Nat := forEach (fun p r => if p.1 < n then tput 0 r p.1 (p.2 % 2 ^ 24) else r) t []

/-- What the core keeps of an instruction's effect: registers of the current window, accumulators of 56 bits, local memory.
DESIGN CHOICE (log entry 72). -/
def bcKeep (b : Bc) (d : BcData) : BcData :=
  let win := forRange (fun h r => tput 0 r (16 * b.fp + h) (d.reg b.fp h % 2 ^ 24)) 0 16 b.core.win
  { win := win, ma := d.ma % 2 ^ 56, mb := d.mb % 2 ^ 56, pc := d.pc % 2 ^ 24, flags := d.flags % 8, mem := tableOf bcWords d.mem }

/-- BRIDGE_INSTRUCTION (R169 to R171): any other instruction of the Camlor 320. DESIGN CHOICE (log entry 72). -/
def execBridgeInstruction (c instr : Nat) (s : State) : Out := s.onBc c fun b s =>
  s.setBc c fun b' => { b' with core := bcKeep b (Config.camlor instr b.fp b.core) }

/-! ## Windows and traps (R209 to R212) -/

/-- A double trap (R211): the core stops before the instruction completes and is fenced. -/
def State.doubleTrap (s : State) (c : Nat) : State :=
  let s := s.setBc c fun b => { b with halted := true }
  let s := (s.putB BC_HALTED (bcPage c) true).putB Hdr.RUNNING (bcPage c) false
  let s := s.raise Src.BC_DOUBLE_TRAP (bcUnit c)
  if s.unitDown (bcUnit c) then s else s.fenceOut (bcUnit c) false

/-- Entry to a frame trap (R210): the handler's address is a free value. DESIGN CHOICE (log entry 90). -/
def State.frameTrap (s : State) (c : Nat) : State :=
  let s := s.setBc c fun b =>
    let d := (b.core.setReg 7 14 b.core.pc).setReg 7 13 (withBits (b.core.reg 7 13) 2 0 b.fp)
    { b with core := d, fp := 7, held := true }
  s.bcNext c

/-- ENTER (R209, R211). -/
def execEnter (c : Nat) (s : State) : Out := s.onBc c fun b s =>
  if b.fp = 7 then s.doubleTrap c
  else if b.res < 7 then (s.setBc c fun b => { b with fp := (b.fp + 6) % 7, res := b.res + 1 }).bcNext c
  else s.frameTrap c

/-- LEAVE (R209, R211). -/
def execLeave (c : Nat) (s : State) : Out := s.onBc c fun b s =>
  if b.fp = 7 then s.doubleTrap c
  else if 1 < b.res then (s.setBc c fun b => { b with fp := (b.fp + 1) % 7, res := b.res - 1 }).bcNext c
  else if 0 < b.parked then s.frameTrap c
  else s.doubleTrap c

/-- The window in use when the trap was taken. -/
def Bc.fpOld (b : Bc) : Nat := bits (b.core.reg 7 13) 2 0

/-- PARK3 (R210). With fewer than four frames resident, or more than 65,532 parked, R210 states no count: a free value.
DESIGN CHOICE (log entry 90). -/
def execPark3 (c : Nat) (s : State) : Out := s.onBc c fun b s =>
  let f := b.fpOld
  let p := b.core.reg 7 15
  let d := ((b.core.park ((f + 6) % 7) p).park ((f + 5) % 7) (p + 16)).park ((f + 4) % 7) (p + 32)
  let (v, s) := s.draw
  let res := if 3 < b.res then b.res - 3 else v % 7 + 1
  let parked := if b.parked + 3 < 2 ^ 16 then b.parked + 3 else v / 8 % 2 ^ 16
  (s.setBc c fun b => { b with core := d.setReg 7 15 (p + 48), res := res, parked := parked }).bcNext c

/-- Bring back one parked frame. -/
def Bc.bringBack (b : Bc) : Bc :=
  let p := (b.core.reg 7 15 + 2 ^ 24 - 16) % 2 ^ 24
  let d := (b.core.setReg 7 15 p).unpark ((b.fpOld + b.res) % 7) p
  { b with core := d, res := b.res + 1, parked := b.parked - 1 }

/-- UNPARK (R210). With more than four frames resident, R210 states no count beyond 7: a free value. DESIGN CHOICE (log entry 90). -/
def execUnpark (c : Nat) (s : State) : Out := s.onBc c fun b s =>
  let b' := forRange (fun _ b => b.bringBack) 0 (min 3 b.parked) b
  let (v, s) := s.draw
  (s.setBc c fun _ => { b' with res := if b'.res ≤ 7 then b'.res else v % 7 + 1 }).bcNext c

/-- TRAPX (R210): FP returns, events are released and the trapping instruction executes again. -/
def execTrapx (c : Nat) (s : State) : Out := s.onBc c fun _ s =>
  s.setBc c fun b => { b with fp := b.fpOld, held := false, core := { b.core with pc := b.core.reg 7 14 } }

/-! ## The sample event (R172, R173, R177) -/

/-- The register that BC_QSEL selects (R176): the low 32 bits and the bits above. -/
def Bc.query (b : Bc) (q : Nat) : Nat × Nat :=
  if q < 0x80 then (unsx 32 (sx 24 (b.core.reg (q / 16) (q % 16))), 0)
  else if q = 0x80 then (b.core.ma % 2 ^ 32, b.core.ma / 2 ^ 32)
  else if q = 0x81 then (b.core.mb % 2 ^ 32, b.core.mb / 2 ^ 32)
  else if q = 0x82 then (unsx 32 (sx 24 b.core.pc), 0)
  else if q = 0x83 then (b.fp, 0)
  else (0, 0)

/-- Complete the snapshot that BC_QSEL asked for. -/
def State.bcCapture (s : State) (c : Nat) : State :=
  let b := s.bcore c
  if b.qsel = 0 then s
  else
    let v := b.query (b.qsel - 1)
    let s := ((s.put Reg.BC_QDATA0 c v.1).put Reg.BC_QDATA1 c v.2).put Reg.BC_VALID c 1
    s.setBc c fun b => { b with qsel := 0 }

/-- BC_QSEL (R84, R176). -/
def execBcQsel (c : Nat) (v : Word) (s : State) : Out := s.atPage (0xC0 + c) fun s =>
  ok (if 2 ≤ c then s else (s.put Reg.BC_VALID c 0).setBc c fun b => { b with qsel := bits v.toNat 7 0 + 1 })

/-- The core takes its sample event. DEDUCED (log entry 71). -/
def State.bcTake (s : State) (c edge : Nat) : State := s.setBc c fun b => { b with event := false, waits := false, at' := edge }

/-- The words of a core's registers in BCSEED records, from word address 131,072 on; `rest`: the core is not in service. -/
def coreRegs (b : Bc) (rest : Bool) : List Nat :=
  (List.range 128).map (fun i => tget 0 b.core.win i) ++ [b.core.ma % 2 ^ 32, b.core.ma / 2 ^ 32, b.core.mb % 2 ^ 32, b.core.mb / 2 ^ 32,
    b.core.pc, b.core.flags, b.fp + 16 * b.res + 256 * b.held.toNat + 512 * rest.toNat, b.parked]

/-- BCSEED records of a core: its memory, then its registers. -/
def State.seedCore (c : Nat) (s : State) : State :=
  let b := s.bcore c
  let send := fun (addr : Nat) (ws : List Nat) (s : State) => s.sendRecord 0x0B s.idx ((c + 2 * addr) :: ws)
  let s := forRange (fun i s => send (120 * i) ((List.range (min 120 (131072 - 120 * i))).map fun j => b.core.word (120 * i + j)) s) 0 1093 s
  let rs := coreRegs b (!s.bcUp c)
  send (131072 + 120) (rs.drop 120) (send 131072 (rs.take 120) s)

/-- A snapshot that is due goes out. DEDUCED (log entry 76). -/
def State.snapCore (c : Nat) (s : State) : State :=
  if !s.partnerFollows || !s.stby.reload.contains c then s
  else
    let s := State.seedCore c s
    let i := s.idx
    { s with stby := { s.stby with
        reload := s.stby.reload.filter (· != c), snaps := s.stby.snaps.filter (fun x => x.1 != c) ++ [(c, i)] } }

/-- A core under reseed takes the sends of the next logged sample at once (R475). DEDUCED (log entry 76). -/
def State.bcReplay (s : State) (c : Nat) : State :=
  let now := s.clk.now
  s.setBc c fun b =>
    let d := forRange (fun i d => d.setMem (0x1FF00 + i) (b.log.getD i 0)) 0 32 b.core
    { b with core := d, log := b.log.drop 32, event := false, waits := false, at' := now }

/-- WAITS (R172, R177, R212): the sticky flags reach BC_ARITH, the cycles since the event are reported, and the core waits; a pending
event that is not held is taken at once. DEDUCED (log entry 71). -/
def execWaits (c : Nat) (s : State) : Out := s.onBc c fun b s =>
  let s := if bit b.core.flags 0 then s.put Reg.BC_SAT c 1 else s
  let s := if bit b.core.flags 1 then (s.put Reg.BC_V c 1).irq Reg.BC_IRQ_ARITH c else s
  let s := if bit b.core.flags 2 then (s.put Reg.BC_DZ c 1).irq Reg.BC_IRQ_ARITH c else s
  let s := s.keepMax Reg.BC_CC_MAX c (min 0xFFFF ((s.clk.now - b.at') / s.clk.div))
  let s := (s.setBc c fun b => { b with core := { b.core with flags := 0 }, waits := true }).bcCapture c
  let s := State.snapCore c (s.bcNext c)
  if b.reseed && !b.log.isEmpty then s.bcReplay c
  else if b.event && !b.held then s.bcTake c b.at' else s

/-- Does a Bridge channel return to the fabric (R232)? -/
def State.isReturn (s : State) (ch : Nat) : Bool := (s.sendFeeder ch).isSome

/-- A boundary collects the returns of a core (R172, R173): its channels run dry where it has overrun or is out of service. -/
def State.bcCollect (c : Nat) (s : State) : State :=
  let b := s.bcore c
  let up := s.bcUp c && !b.reseed
  let overrun := up && !b.waits
  let s := if overrun then
      let s := ((s.count Reg.BC_OVERRUN_CNT c).irq Reg.BC_IRQ_OVERRUN c).put Reg.BC_CC_MAX c 0xFFFF
      s.raise Src.BC_OVERRUN (bcUnit c)
    else s
  let dry := overrun || !up
  let s := s.setBc c fun b => { b with dry := dry }
  forRange (fun i s =>
    let ch := 32 * c + i
    let s := s.setBitOf Reg.BC_CHAN_RETURN c i (s.isReturn ch)
    let x := if dry then 0 else b.core.word (0x1FF20 + i)
    s.modDp fun d => { d with rets := tput 0 d.rets ch x }) 0 32 s

/-- A core under reseed logs its sends, up to 4,096 samples (R475). -/
def State.bcLog (c : Nat) (s : State) : State :=
  let sends := (List.range 32).map fun i => tget 0 s.dp.sends (32 * c + i)
  s.setBc c fun b => { b with log := (b.log ++ sends).take (32 * 4096) }

/-- A boundary writes the sends of a core and raises its sample event (R172); a halted core's snapshot completes (R176). -/
def State.bcSend (c : Nat) (s : State) : State :=
  if (s.bcore c).reseed then
    let s := s.bcLog c
    let s := if (s.bcore c).halted then s.bcCapture c else s
    if !(s.bcore c).halted && (s.bcore c).waits then s.bcReplay c else s
  else
    let s := forRange (fun i s =>
      s.setBc c fun b => { b with core := b.core.setMem (0x1FF00 + i) (tget 0 s.dp.sends (32 * c + i)) }) 0 32 s
    if (s.bcore c).halted then s.bcCapture c
    else if !s.bcUp c then s
    else if (s.bcore c).waits then s.bcTake c s.clk.now
    else s.setBc c fun b => { b with event := true }

/-! ## Test-and-set and loads -/

/-- TEST_AND_SET (R502): a locked read-modify-write of a word of SRAM; elsewhere, or while the master holds a lock, an error response
and no lock. While another master's lock keeps the bank, the request waits. DESIGN CHOICE (log entry 72). -/
def execTestAndSet (c addr : Nat) (s : State) : Out := s.onBc c fun b s =>
  let m := 0x28 + c
  let keep := fun (w : Nat) (s : State) => s.setBc c fun b' => { b' with core := bcKeep b (Config.tasCore w b.fp b.core) }
  if !s.lockAllowed m addr 4 || s.flt.paths.contains m then
    let (v, s) := s.draw
    keep v (s.respond m addr true [])
  else
    let r : Req := { master := m, access := .lockRead 4, addr := addr, since := s.clk.now }
    let a := (addr - 0x10000000) / 0x800000
    if s.blocked a r then s.raiseReq a m addr (.lockRead 4)
    else
      let off := addr - 0x10000000
      let w := ofLeBytes (s.sramRead off 4)
      let s := (s.countGrant a r).sramWrite off (leBytes 4 (Config.tasWord w % 2 ^ 32))
      keep w s

/-- The Bridge scratch of a core changes owner (R515): it is zeroed by a dark-frame pass, taken from FREE or returned to it. -/
def State.bcScratch (s : State) (c : Nat) : State :=
  let mine := s.mem.bufs.filter fun b => b.cls == clsBridge && b.owner == 0x500 + c
  if s.get Reg.BC_CHAN_LOADED c = 0 then s.freeBufs clsBridge (0x500 + c)
  else if mine.isEmpty then s.allocBuf (openSize (0x500 + c)) clsBridge (0x500 + c)
  else forEach (fun (b : Buf) s => s.retag b.base b.size clsBridge (0x500 + c)) mine s

/-- LOAD_BRIDGE (R548 to R550): the first pass. `image` is what the fetch from host memory returns, none where it fails. -/
def execLoadBridge (q : Nat) (image : Option (List Byte)) (s : State) : Out := match s.ringCmd q 0x12 with
  | none => ok s
  | some cmd =>
    let c := cmd.a 0 % 2
    let addr := cmd.a 2 + 2 ^ 32 * cmd.a 3
    let n := cmd.a 4
    if !([1, 2, 4, 5].contains s.opMode) then ok (s.ringEnd q 0 0x38 0)
    else if 131072 < n then ok (s.ringEnd q 0 0x3A 0)
    else if (s.bcore c).load.isSome then ok s
    else
      match if bit (cmd.a 0) 1 then s.busRead 0x27 addr (4 * n) else if s.hostReadable || n = 0 then image.map (·.take (4 * n)) else none with
      | none => ok (s.ringEnd q 0 0x04 0)
      | some bs =>
        let s := s.progress (bcPage c) true 0 (2 * n)
        if bs.length < 4 * n then ok ((s.progressStop (bcPage c)).ringEnd q 0 0x04 0)
        else if n ≠ 0 ∧ crc32 bs ≠ cmd.a 5 then ok ((s.progressStop (bcPage c)).ringEnd q 0 0x39 0)
        else
          let ws := (leWords bs).map (· % 2 ^ 24)
          let s := (s.progress (bcPage c) true n (2 * n)).ringBegan q
          ok (s.setBc c fun b => { b with load := some (cmd.a 1, ws), ring := q, since := s.idx, ready := false })

/-- The channels of a load's CHAN_MASK are shown as loaded or unloaded. -/
def State.bcChannels (s : State) (c mask : Nat) (on : Bool) : State :=
  forRange (fun i s => if bit mask i then s.setBitOf Reg.BC_CHAN_LOADED c i on else s) 0 32 s

/-- BRIDGE_LOAD_WRITE (R550): at the first boundary after acceptance the image is written, or channels are unloaded. -/
def execBridgeLoadWrite (c : Nat) (s : State) : Out :=
  let b := s.bcore c
  match b.load with
  | none => ok s
  | some (mask, ws) =>
    if b.ready ∨ s.idx = b.since then ok s
    else if ws.isEmpty then
      let s := (s.bcChannels c mask false).bcScratch c
      let s := s.setBc c fun b => { b with load := none }
      ok ((s.progress (bcPage c) false 1 1).ringEnd b.ring 0 0 0)
    else
      let s := s.putB Hdr.RUNNING (bcPage c) false
      let s := (s.bcChannels c mask true).bcScratch c
      let s := s.progress (bcPage c) true (2 * ws.length) (2 * ws.length)
      let i := s.idx
      let s := { s with stby := { s.stby with full := false } }
      ok (s.setBc c fun b =>
        let d := (ws.zipIdx).foldl (fun d p => d.setMem p.2 p.1) b.core
        { b with core := d, fp := 0, res := 1, parked := 0, held := false, event := false, waits := false, halted := true,
                 ready := true, since := i })

/-- BRIDGE_CORE_START (R550): at the first boundary after the write the core starts at word 0 with its sample event. -/
def execBridgeCoreStart (c : Nat) (s : State) : Out :=
  let b := s.bcore c
  match b.load with
  | none => ok s
  | some (_, ws) =>
    if !b.ready ∨ s.idx = b.since then ok s
    else
      let s := s.setBc c fun b =>
        { b with core := { b.core with pc := 0, flags := 0 }, halted := false, waits := false, event := false, at' := s.clk.now,
                 load := none, ready := false }
      let s := s.putB Hdr.RUNNING (bcPage c) (!s.getB Hdr.FENCED (bcPage c))
      let s := if s.partnerFollows then { s with stby := { s.stby with reload := s.stby.reload.filter (· != c) ++ [c] } } else s
      ok ((s.progress (bcPage c) false (2 * ws.length) (2 * ws.length)).ringEnd b.ring 0 0 0)

end Sys2Proof.Machine
end

