-- ==== Sys2Proof/Machine/PageRead.lean ====
section
/-! DEFINITION. What a register word reads as (R534 to R543): the common header, the words that hardware computes, the copies of a
plane, frozen pages, and the power domains of the pages (R541, R582, R583). -/

namespace Sys2Proof.Machine

/-! ## Summaries (R543 to R546) -/

/-- Bits of PG_IRQ_STAT that feed the host summary: a ring routed on its own leaves the summary of HOSTQ (R546). -/
def State.irqBits (s : State) (page : Nat) : Nat :=
  let v := s.get Hdr.IRQ_STAT page
  if page = 0x003 then forRange (fun q v => if s.getB Reg.INTC_EN q then withBits v q q 0 else v) 0 4 v else v

/-- Host summary of a page. -/
def State.hostSummary (s : State) (page : Nat) : Bool :=
  (blockOf page).isSome && decide (page < 0x100) && (s.irqBits page &&& s.get Hdr.IRQ_EN page) != 0

/-- Host summaries of 32 pages. -/
def State.pendWord (s : State) (k : Nat) : Nat :=
  forRange (fun b v => if s.hostSummary (32 * k + b) then v + 2 ^ b else v) 0 32 0

/-- The management line (R543, R545). -/
def State.mgmtLine (s : State) : Bool :=
  (below 256 (fun p => (blockOf p).isSome && s.get Hdr.IRQ_STAT p != 0 && s.mapBit Reg.INTC_MGMT_EN p)) != [] ||
  (bit (s.get Reg.INTC_MGMT_KP) 0 && s.get Hdr.IRQ_STAT 0xF00 != 0) || (bit (s.get Reg.INTC_MGMT_KP) 1 && s.get Hdr.IRQ_STAT 0xF01 != 0)

/-! ## Words -/

/-- Words of which each plane has its own copy: latched times (R350, R364, R277), check values (R520), lane counts (R442), and the
words of R285. -/
def planeFlds : List Fld :=
  [Reg.TIME_SEC_HI, Reg.TIME_NS, Reg.TIME_FRAC, Reg.TIME_TS32, Reg.TIME_STEP_CNT, Reg.TIME_VALID, Reg.CAL_HOUR,
   Reg.EPH_NEXT_SEC_HI, Reg.EPH_NEXT_NS, Reg.EPH_KIND, Reg.EPH_W1, Reg.EPH_W2, Reg.EPH_W3, Reg.EPH_DONE,
   Reg.CVU_RESULT_HI, Reg.CVU_BYTES, Reg.LANE_ERR_HI, Reg.LANE_BITS,
   Reg.MODE_DONE, Reg.SCNC_ARG, Reg.SCNC_CMD_DONE, Reg.SCNC_CMD_INDEX, Reg.SCNC_PORT_W, Reg.SCNC_PORT_DONE]

/-- Where a plane's view of a word stands. -/
def viewKey (p : Plane) (a : Nat) : Nat := if planeFlds.any (fun f => (fldIdx? f a).isSome) then planeKey p a else a

/-- PG_STAT of a page (R534, R541): the bits of its unit, BUSY and READY. -/
def State.pgStat (s : State) (page : Nat) : Nat :=
  let a := 4096 * page + 0x0C
  let own := (s.word a).toNat
  let unit := (s.word (4096 * unitPage page + 0x0C)).toNat
  let v := withBits own 2 1 (bits unit 2 1)
  let v := withBit v 3 (s.getB Hdr.BUSY page)
  withBit v 0 (s.domState (pageDomain page) == 3)

/-- A word that hardware computes as it is read. DEDUCED (log entry 15). DESIGN CHOICE (log entry 16). -/
def State.liveWord (s : State) (a : Nat) : Option Nat :=
  let page := a / 4096
  let off := a % 4096
  if (blockOf page).isSome && off == 0x0C then some (s.pgStat page)
  else if (blockOf page).isSome && off == 0x24 then some (s.epoch page)
  else if page < 0x10 then
    if atWordOf Reg.GLOBAL_UPTIME 0 a then some (min (s.clk.now / 3000000000) (2 ^ 32 - 1))
    else match fldIdx? Reg.INTC_PEND a with
    | some k => some (s.pendWord k)
    | none => none
  else if page = 0x70 then
    if atWordOf Reg.HEL_TRIM 0 a then some (unsx 32 s.trimNow)
    else if atWordOf Reg.HEL_HOLD_AGE 0 a then
      some (if s.helState = helHoldover then min ((s.clk.now - s.hel.since) / secEdges) (2 ^ 32 - 1) else 0)
    else none
  else if page = 0x74 then
    if atWordOf Reg.TIME_SEC_LO 0 a then some (secOf s.thirds % 2 ^ 32)
    else if atWordOf Reg.TIME_TS32_NOW 0 a then some s.ts32
    else none
  else if page = 0xD0 ∧ atWordOf Reg.FLT_TIME 0 a then some s.fltTime
  else if page = 0x54 ∧ atWordOf Reg.EPH_NEXT_SEC_LO 0 a then
    some (match s.eph.entries with | x :: _ => secOf x.time % 2 ^ 32 | [] => 0)
  else if 0xBC ≤ page ∧ page ≤ 0xBF then
    if atWordOf Reg.CVU_RESULT_LO (page - 0xBC) a then some (s.cvuResult (page - 0xBC) % 2 ^ 32) else none
  else if page = 0x90 then match fldIdx? Reg.AESRX_MEDIA a with
    | some r => some (withBits (s.word a).toNat Reg.AESRX_MEDIA.hi Reg.AESRX_MEDIA.lo (s.rxMedia r).toNat)
    | none => none
  else none

/-- Bits of a word that only control: fields that are not readable read 0 (R14). -/
def hiddenMask (a : Nat) : Nat := ((fieldsAt a).filter (·.acc == .wo)).foldl (fun m f => m ||| ((2 ^ fldWidth f - 1) * 2 ^ f.lo)) 0

/-- The present value of a word, as a plane would read it. -/
def State.nowWord (s : State) (p : Plane) (a : Nat) : Nat :=
  let v := match s.liveWord a with
    | some v => v
    | none => (s.word (viewKey p a)).toNat
  v - (v &&& hiddenMask a)

/-- Is FREEZE ignored on a page (R537)? DESIGN CHOICE (log entry 16). -/
def noFreeze (page : Nat) : Bool :=
  (0x10 ≤ page && page ≤ 0x31) || page == 0xC0 || page == 0xC1 || page == 0x70 || page == 0x71 || page == 0x74 || page == 0x75

/-- Bits of a word that a frozen page shows as they stood (R537): status fields and counters, not what software sets. -/
def frozenMask (a : Nat) : Nat :=
  let off := a % 4096
  if off = 0x0C ∨ off = 0x10 ∨ off = 0x18 ∨ off = 0x1C ∨ off = 0x24 then 0xFFFFFFFF
  else ((fieldsAt a).filter (fun f => f.acc == .ro || f.acc == .rc || f.acc == .w1c)).foldl
    (fun m f => m ||| ((2 ^ fldWidth f - 1) * 2 ^ f.lo)) 0

/-- A page is frozen. -/
def State.isFrozen (s : State) (page : Nat) : Bool := (blockOf page).isSome && s.getB Hdr.FREEZE page && !noFreeze page

/-- A word as a plane reads it now, with its page's freeze (R537); the KEY and PROV pages answer the manager only (R540). -/
def State.readWord (s : State) (p : Plane) (a : Nat) : Nat :=
  let page := a / 4096
  if 0xF00 ≤ page ∧ p = .host then 0
  else if s.pageDark page then 0
  else
    let v := s.nowWord p a
    if !s.isFrozen page then v
    else
      let m := frozenMask a
      let f := (tget 0 (tget [] s.frozen page) (planeKey p a)).toNat
      (v - (v &&& m)) ||| (f &&& m)

/-- FREEZE takes effect, or is cleared, on a page (R537). DESIGN CHOICE (log entry 16). -/
def State.freezePage (s : State) (page : Nat) (on : Bool) : State :=
  if (blockOf page).isNone then s
  else if noFreeze page then s.putB Hdr.FREEZE page false
  else
    let words : Tbl Word := if on then
        [Plane.host, Plane.mgmt].flatMap fun p => ((List.range 1024).map fun k => 4096 * page + 4 * k).flatMap fun a =>
          let v := s.nowWord p a &&& frozenMask a
          if v = 0 then [] else [(planeKey p a, BitVec.ofNat 32 v)]
      else []
    let s := if on && s.getB Hdr.FREEZE page then s else { s with frozen := tput [] s.frozen page words }
    s.putB Hdr.FREEZE page on

/-- Bits of a frozen word clear with the present ones (R537). -/
def State.thaw (s : State) (a m : Nat) : State :=
  let page := a / 4096
  if !s.isFrozen page then s
  else
    let t := tget [] s.frozen page
    let clr := fun (k : Nat) (t : Tbl Word) =>
      let v := (tget 0 t k).toNat
      tput 0 t k (BitVec.ofNat 32 (v - (v &&& m)))
    { s with frozen := tput [] s.frozen page (clr (planeKey .host a) (clr (planeKey .mgmt a) t)) }

end Sys2Proof.Machine
end

