-- ==== Sys2Proof/Machine/HostIf.lean ====
section
/-! DEFINITION. The PCIe endpoint and its interrupts (R529 to R533, R543 to R546): the host interface reset, the link, MSI-X messages
and their end of service. -/

namespace Sys2Proof.Machine

/-- The host copies that a host interface reset clears (R532): the latches of R350 and of registers that latch as it does, and the
copies of R285. The MODE page's copies of R566 stay. -/
def hostCopy (k : Nat) : Bool :=
  decide (0x1000000 ≤ k) && decide (k < 0x2000000) && !(fldIdx? Reg.MODE_DONE (k - 0x1000000)).isSome

/-- One host ring at a host interface reset (R532): EN clears, RING_EXPECT and the records stay, and the command in progress ends
without a completion. -/
def State.ringReset (q : Nat) (s : State) : State :=
  let s := s.put Reg.HOSTQ_EN q 0
  let s := s.setHostRing q fun r =>
    { r with doorbell := none, replay := [], stopping := false, cmd := r.cmd.map (fun c => { c with mute := true }) }
  s.showRing q

/-- The host interface is reset and nothing else (R532). PRESUMED (log entry 58). -/
def State.hostIfReset (s : State) (linkDown d3 : Bool) : State :=
  let on := (List.range 4).any (fun q => s.getB Reg.HOSTQ_EN q)
  let s := forRange State.ringReset 0 4 s
  let s := if on then s.bumpEpoch hostqPage else s
  let s := forRange (fun v s => s.put Reg.INTC_IN_SERVICE v 0) 0 64 s
  let s := { s with regs := s.regs.filter (fun p => !hostCopy p.1) }
  let s := s.modHost fun h =>
    { h with msixOn := false, msixMask := false, busMaster := false, linkUp := h.linkUp && !linkDown, d3hot := d3,
             vectors := h.vectors.map (fun p => (p.1, { p.2 with masked := true, pending := false })) }
  if linkDown then (s.put0 Reg.GLOBAL_LINK_WIDTH 0).put0 Reg.GLOBAL_LINK_SPEED 0 else s

/-- HOST_IF_RESET (R532): PERST_N, a hot reset, an FLR, a link-down event or a change to D3hot. -/
def execHostIfReset (linkDown d3 : Bool) (s : State) : Out := ok (s.hostIfReset linkDown d3)

/-- Is a PRBS generator on a PCIe lane keeping the host link down (R440)? -/
def State.hostLinkHeld (s : State) : Bool := (below 6 (fun l => decide (2 ≤ l) && s.getB Reg.LANE_PRBS_GEN l)) != []

/-- PCIE_LINK_UP (R435, R533, R542): the host link is up, in D0, with Bus Master Enable as given. PRESUMED (log entry 58). -/
def execPcieLinkUp (width speed : Nat) (master : Bool) (s : State) : Out :=
  if s.hostLinkHeld || !okUpto 1 4 width || width == 3 || !okUpto 1 4 speed then ok s
  else
    let s := (s.put0 Reg.GLOBAL_LINK_WIDTH width).put0 Reg.GLOBAL_LINK_SPEED speed
    ok (s.modHost fun h => { h with linkUp := true, d3hot := false, busMaster := master })

/-! ## MSI-X (R544) -/

/-- Enable and vector of a page's INTC_MAP entry (R546). -/
def State.mapOf (s : State) (page : Nat) : Bool × Nat :=
  let j := page / 4
  if page % 4 = 0 then (s.getB Reg.INTC_MAP_EN0 j, s.get Reg.INTC_MAP_VEC0 j)
  else if page % 4 = 1 then (s.getB Reg.INTC_MAP_EN1 j, s.get Reg.INTC_MAP_VEC1 j)
  else if page % 4 = 2 then (s.getB Reg.INTC_MAP_EN2 j, s.get Reg.INTC_MAP_VEC2 j)
  else (s.getB Reg.INTC_MAP_EN3 j, s.get Reg.INTC_MAP_VEC3 j)

/-- A vector is due (R544): a page mapped to it has its host summary at 1, or a ring routed to it its completion bit.
PRESUMED (log entry 58). -/
def State.vectorDue (s : State) (v : Nat) : Bool :=
  (below 256 (fun p => s.mapOf p == (true, v) && s.hostSummary p)) != [] ||
  (below 4 (fun q => s.getB Reg.INTC_EN q && s.get Reg.INTC_VEC q == v && bit (s.get Hdr.IRQ_STAT hostqPage) q &&
    bit (s.get Hdr.IRQ_EN hostqPage) q)) != []

/-- Has a vector's HOLDOFF passed since its last message (R544)? -/
def State.holdoffPast (s : State) (v : Nat) : Bool := match (tget {} s.host.vectors v).last with
  | some t => decide (t + usEdges * s.get Reg.INTC_HOLDOFF v ≤ s.clk.now)
  | none => true

/-- MSIX_MESSAGE (R544): a due vector's message is sent, or held in the Pending Bit Array by the function or vector mask.
PRESUMED (log entry 58). -/
def execMsixMessage (v : Nat) (on funcMask vecMask : Bool) (s : State) : Out :=
  if 64 ≤ v then ok s
  else
    let s := s.modHost fun h =>
      { h with msixOn := on, msixMask := funcMask, vectors := tmod {} h.vectors v (fun x => { x with masked := vecMask }) }
    if !on || !s.hostReadable || !s.vectorDue v || s.getB Reg.INTC_IN_SERVICE v || !s.holdoffPast v then ok s
    else if funcMask || vecMask then
      ok (s.modHost fun h => { h with vectors := tmod {} h.vectors v (fun x => { x with pending := true }) })
    else
      let now := s.clk.now
      let s := s.modHost fun h =>
        { h with vectors := tmod {} h.vectors v (fun x => { x with pending := false, last := some now, sent := x.sent + 1 }) }
      ok (s.put Reg.INTC_IN_SERVICE v 1)

/-- INTC_EOI (R544): the bits written clear IN_SERVICE of their vectors. -/
def execIntcEoi (k : Nat) (v : Word) (s : State) : Out :=
  if 2 ≤ k then ok s
  else ok (forRange (fun b s => if bit v.toNat b then s.put Reg.INTC_IN_SERVICE (32 * k + b) 0 else s) 0 32 s)

end Sys2Proof.Machine
end

