-- ==== Sys2Proof/Machine/Link.lean ====
section
/-! DEFINITION. High-speed lanes, PRBS checkers and the Kaztal links (R435 to R460). -/

namespace Sys2Proof.Machine

/-! ## Lanes (R435 to R442) -/

/-- The Kaztal link of a lane. -/
def linkOfLane (l : Nat) : Option Nat := if 6 ≤ l ∧ l < 10 then some 0 else if 10 ≤ l ∧ l < 14 then some 1 else none

/-- The lanes of a Kaztal link. -/
def lanesOf (k : Nat) : List Nat := [6 + 4 * k, 7 + 4 * k, 8 + 4 * k, 9 + 4 * k]

/-- The power domain of a lane (R582): PCIe lanes are in PD_MGMT. -/
def laneDomain (l : Nat) : Nat := if l < 2 then 12 else if l < 6 then 0 else 14

/-- RATE code of a lane that has locked (R458); PCIe lanes take the negotiated speed. -/
def State.laneRate (s : State) (l pcie : Nat) : Nat :=
  if l < 2 then (if s.get Reg.NET_SPEED l = 0 then 2 else 1) else if l < 6 then 3 + pcie else 3

/-- Enter a state of R452, and show the progress of R453. -/
def State.linkTo (s : State) (k st : Nat) : State :=
  let page := 0xA1 + k
  let s := (s.put Reg.KZL_STATE k st).putB Reg.KZL_UP k (st == 5)
  let s := s.setLink k fun x => { x with since := s.clk.now, start := if st = 1 then s.clk.now else x.start }
  if 1 ≤ st ∧ st ≤ 4 then
    ((s.putB Hdr.BUSY page true).put Hdr.POSITION page st).put Hdr.PERCENT page (25 * (st - 1))
  else if st = 5 then ((s.putB Hdr.BUSY page false).put Hdr.PERCENT page 100).put Hdr.POSITION page 5
  else s.progressStop page

/-- Is a Kaztal unit powered and enabled (R452, R454)? -/
def State.linkOn (s : State) (k : Nat) : Bool :=
  s.opMode != 0 && s.domState 14 == 3 && s.getB Reg.KZL_EN k && s.get Reg.KZL_STATE k != 6

/-- Move on through CDR and ADAPT where their conditions hold (R452). -/
def State.linkAdvance (s : State) (k : Nat) : State :=
  if !s.linkOn k then s
  else
    let s := if s.get Reg.KZL_STATE k = 0 then s.linkTo k 1 else s
    let s := if s.get Reg.KZL_STATE k = 1 ∧ (lanesOf k).all (fun l => s.getB Reg.LANE_CDR_LOCK l) then s.linkTo k 2 else s
    if s.get Reg.KZL_STATE k = 2 ∧ (lanesOf k).all (fun l => s.getB Reg.LANE_ADAPT_DONE l && s.getB Reg.LANE_CDR_LOCK l) then s.linkTo k 3
    else s

/-- LANE_CDR_LOCK (R452, R458): `pcie` is the PCIe speed code of a PCIe lane. -/
def execLaneCdrLock (l pcie : Nat) (s : State) : Out :=
  if s.opMode = 0 ∧ l ≠ 2 ∧ l ≠ 3 ∧ l ≠ 4 ∧ l ≠ 5 then ok s
  else if s.domState (laneDomain l) ≠ 3 ∧ laneDomain l ≠ 0 then ok s
  else if 14 ≤ l ∨ s.unitDown { page := 0xA0, index := l } then ok s
  else
    let s := ((s.put Reg.LANE_SIG_DET l 1).put Reg.LANE_CDR_LOCK l 1).put Reg.LANE_RATE l (s.laneRate l pcie)
    let s := s.setBitOf Reg.LANE_CDR_MAP 0 l true
    ok (match linkOfLane l with
      | some k => s.linkAdvance k
      | none => s)

/-- LANE_ADAPT_DONE (R437): the settings that adaptation has reached; a frozen lane holds its own. -/
def execLaneAdaptDone (l : Nat) (ctle : Nat) (dfe eye : Word) (s : State) : Out :=
  if !s.getB Reg.LANE_CDR_LOCK l ∨ 14 ≤ l then ok s
  else
    let s := s.put Reg.LANE_ADAPT_DONE l 1
    let s := if s.getB Reg.LANE_ADAPT_FREEZE l then s
      else
        let s := (s.put Reg.LANE_CTLE l ctle).setWord (fldAt Reg.LANE_DFE1 l) (BitVec.ofNat 32 (dfe.toNat % 2 ^ 31))
        (s.put Reg.LANE_EYE_H l (bits eye.toNat 25 16)).put Reg.LANE_EYE_W l (bits eye.toNat 5 0)
    ok (match linkOfLane l with
      | some k => s.linkAdvance k
      | none => s)

/-- A lane's checker. -/
def State.laneHw (s : State) (l : Nat) : LaneHw := tget {} s.lanes l
def State.setLaneHw (s : State) (l : Nat) (f : LaneHw → LaneHw) : State := { s with lanes := tmod {} s.lanes l f }

/-- Count checked and mismatched bits (R441): only under CHK_LOCK, saturating. -/
def State.prbsCount (s : State) (l bits errs : Nat) : State :=
  if s.getB Reg.LANE_CHK_LOCK l && s.getB Reg.LANE_PRBS_CHK l then
    s.setLaneHw l fun x => { err := min (2 ^ 48 - 1) (x.err + errs), bits := min (2 ^ 52 - 1) (x.bits + bits) }
  else s

/-- PRBS_CHK_LOCK (R441). -/
def execPrbsChkLock (l : Nat) (s : State) : Out :=
  ok (if s.getB Reg.LANE_PRBS_CHK l && l < 14 then s.put Reg.LANE_CHK_LOCK l 1 else s)

/-- PRBS_CHK_RELOCK (R441): `bits` checked and `errs` mismatched since the lane's last count. -/
def execPrbsChkRelock (l bits errs : Nat) (s : State) : Out :=
  if !s.getB Reg.LANE_CHK_LOCK l then ok s
  else
    let s := s.prbsCount l bits errs
    ok (((s.put Reg.LANE_CHK_LOCK l 0).count Reg.LANE_CHK_RELOCK l).irq Reg.LANE_IRQ_CHK_LOST)

/-- The commit of PRBS_CLR = 1 on a lane (R441). -/
def State.prbsClr (s : State) (l : Nat) : State :=
  ({ s with lanes := tput {} s.lanes l {} }).put Reg.LANE_CHK_RELOCK l 0

/-- PRBS_CLR (R441). -/
def execPrbsClr (l : Nat) (s : State) : Out := ok (s.prbsClr l)

/-- LANE_ERR_LO_READ (R442): `bits` checked and `errs` mismatched since the lane's last count; the other words are latched for the
reading plane. -/
def execLaneErrLoRead (p : Plane) (l bits errs : Nat) (s : State) : Out :=
  let s := s.prbsCount l bits errs
  let x := s.laneHw l
  let s := s.put Reg.LANE_ERR_LO l (x.err % 2 ^ 32)
  let s := s.setWord (planeKey p (fldAt Reg.LANE_ERR_HI l)) (BitVec.ofNat 32 (x.err / 2 ^ 32))
  let s := s.setWord (planeKey p (fldAt Reg.LANE_BITS l)) (BitVec.ofNat 32 (x.bits / 2 ^ 20))
  ok (s.setRead p (x.err % 2 ^ 32))

/-! ## The cascade over a link (R233 to R235) -/

/-- FAB_CASC_STAT.UP follows the link that carries the cascade; a standby takes partials from its partner's mirror link. -/
def State.cascShow (s : State) : State :=
  let k := if s.opMode = 3 then 1 else s.get Reg.FAB_LINK
  let up := s.getB Reg.FAB_EN && s.getB Reg.KZL_UP k
  if up == s.getB Reg.FAB_UP then s
  else if up then ((s.put0 Reg.FAB_UP 1).irq Reg.FAB_IRQ_CASC_UP).modDp fun d => { d with cascK := 0 }
  else ((s.put0 Reg.FAB_UP 0).irq Reg.FAB_IRQ_CASC_DOWN).modDp fun d => { d with casc := [] }

/-- Cut a rising list of buses into runs of consecutive buses of at most 120 (R446). -/
def busRuns : List Nat → List (List Nat)
  | [] => []
  | b :: r => match busRuns r with
    | (c :: t) :: rest => if c = b + 1 ∧ t.length < 119 then (b :: c :: t) :: rest else [b] :: (c :: t) :: rest
    | _ => [[b]]

/-- Word 2 of a CASC frame (R446). -/
def cascHead (sample first rate : Nat) (last : Bool) (n : Nat) : Nat :=
  sample % 65536 * 2 ^ 48 + first * 2 ^ 32 + rate * 256 + last.toNat * 128 + n

/-- Queue the CASC frames of a sample: the own partial of every cascaded bus (R233, R446), under the output ramps of R81 and R561. -/
def State.sendCasc (s : State) : State :=
  let runs := busRuns s.cascBuses
  let n := runs.length
  if !s.getB Reg.FAB_EN ∨ s.opMode = 3 then s
  else forEach (fun (r : List Nat × Nat) s =>
    let head := cascHead s.idx (r.1.headD 0) s.rate (r.2 + 1 == n) r.1.length
    s.kzlQueue (s.get Reg.FAB_LINK) 1
      (leBytes 8 head ++ r.1.flatMap (fun b => leBytes 4 (scaleWord ((s.history (4096 + b)).headD 0) s.mode.outGain 64).toNat))) runs.zipIdx s

/-- A partner partial arrives for own sample index `i` (R233, R234): a full receive buffer of 8 samples discards the oldest. -/
def State.cascStore (s : State) (b i : Nat) (x : Word) : State :=
  let mine := (s.dp.casc.filter (fun e => e.1 / 4096 == b)).map (·.1)
  -- the oldest by distance to the present sample
  let age := fun (k : Nat) => (s.idx + 4096 + 2048 - k % 4096) % 4096
  let oldest := mine.foldl (fun a k => match a with
    | none => some k
    | some j => if age j < age k then some k else a) none
  let s := match oldest with
    | some k => if 8 ≤ mine.length then (s.modDp fun d => { d with casc := tput none d.casc k none }).count Reg.FAB_CASC_SLIP else s
    | none => s
  s.modDp fun d => { d with casc := tput none d.casc (4096 * b + i % 4096) (some x) }

/-- Own sample count at which a partner sample counted on a link is due (R457). -/
def State.ownSample (s : State) (k sample : Nat) : Nat := (sample + s.get Reg.KZL_SMP_OFS k) % 65536

/-- The partials of an accepted CASC frame, or of a CASC record (R446, R486), for own sample `mine`: head word, then partials. -/
def State.cascTake (s : State) (k head mine : Nat) (parts : List Nat) : State :=
  let sample := bits head 63 48
  let first := bits head 41 32
  let x := s.link k
  let off := bits head 9 8 != s.rate
  let s := s.putB Reg.FAB_RATE_MISMATCH 0 off
  let seen := (if x.smp = sample then x.seen else []) ++ (List.range (bits head 6 0)).map (first + ·)
  let s := s.setLink k fun x => { x with smp := sample, seen := seen }
  let s := forRange (fun i s => s.cascStore (first + i) mine (BitVec.ofNat 32 (parts.getD i 0))) 0 (bits head 6 0) s
  if bit head 7 then
    forEach (fun b s =>
      if seen.contains b then s.setMapBit Reg.FAB_CASC_ABSENT b false
      else s.stickyBus Reg.FAB_CASC_ABSENT Reg.FAB_IRQ_CASC_ABSENT b) s.cascBuses s
  else s

/-! ## Failure (R451, R453) -/

/-- The link is declared failed: causes of LAST_FAIL. From UP it goes to ADAPT with its settings kept, or FENCED. -/
def State.kzlFail (s : State) (k cause : Nat) : State :=
  let st := s.get Reg.KZL_STATE k
  let s := s.put Reg.KZL_LAST_FAIL k cause
  let s := s.setLink k fun x => { since := x.since, start := x.start, sent := x.sent }
  let s := if st = 5 then
      let s := ((s.count Reg.KZL_DOWN_CNT k).irq Reg.KZL_IRQ_DOWN k).bumpEpoch (0xA1 + k)
      let s := (s.linkTo k (if cause = 5 then 6 else 2)).setLink k fun x => { x with start := s.clk.now }
      let s := if bits (s.get Reg.HEL_PROV_C0 6) 16 16 = k then s.helLose 6 3 else s
      (lanesOf k).foldl (fun s l => s.put Reg.LANE_BLOCK_LOCK l 0) s
    else if cause = 5 then s.linkTo k 6 else s
  let s := if cause = 0 ∨ cause = 5 then s else s.raise Src.KZL_FAIL { page := 0xA1 + k }
  (s.cascShow).linkAdvance k

/-- KZL_ALIGN_DONE (R444, R452): block lock and markers on every lane; the lane order, skew and partner found. -/
def execKzlAlignDone (k map skew : Nat) (partnerB : Bool) (partnerLink : Nat) (s : State) : Out :=
  if s.get Reg.KZL_STATE k ≠ 3 ∨ !s.linkOn k ∨ 528 < skew then ok s
  else
    let s := (lanesOf k).foldl (fun s l => s.put Reg.LANE_BLOCK_LOCK l 1) s
    let s := (s.put Reg.KZL_LANE_MAP k map).put Reg.KZL_SKEW k skew
    ok (((s.putB Reg.KZL_PARTNER_B k partnerB).put Reg.KZL_PARTNER_LINK k partnerLink).linkTo k 4)

/-- Limits of the bring-up states in root edges (R452). -/
def linkLimit (st : Nat) : Nat := if st = 1 then 300000 else if st = 2 then 4500000 else 90000

/-- KZL_STATE_TIMEOUT (R452): a state has lasted 10 times its limit. -/
def execKzlStateTimeout (k : Nat) (s : State) : Out :=
  let st := s.get Reg.KZL_STATE k
  if st = 0 ∨ 3 < st then ok s
  else
    let s := s.advanceTo ((s.link k).since + 10 * linkLimit st)
    ok (((s.linkTo k 1).count Reg.KZL_ALIGN_FAIL k).irq Reg.KZL_IRQ_ALIGN_FAIL k)

/-! ## Frames (R445 to R450) -/

/-- T_RTO in root edges: 2 × KZL_DELAY + 2 µs; before the first measurement KZL_DELAY counts as 2.0 µs (R450). -/
def State.rto (s : State) (k : Nat) : Nat :=
  6000 + 2 * (if (s.link k).known then s.get Reg.KZL_DELAY k * 3 / 1000 else 6000)

/-- Duration of a frame slot in root edges, rounded up (R443). -/
def slotEdges : Nat := 120

/-- Start a go-back (R450). -/
def State.goBack (s : State) (k : Nat) : State :=
  match (s.link k).held with
  | [] => s
  | f :: _ =>
    (s.setLink k fun x => { x with back := some f.seq, deaf := s.clk.now + (s.rto k - 6000) + 2 * slotEdges }).irq Reg.KZL_IRQ_RTX k

/-- KZL_RTO (R450): the oldest unacknowledged frame was sent more than T_RTO ago. -/
def execKzlRto (k : Nat) (s : State) : Out :=
  match (s.link k).held with
  | [] => ok s
  | f :: _ =>
    let s := s.advanceTo (f.sentAt + s.rto k + 1)
    ok ((s.count Reg.KZL_TIMEOUT k).goBack k)

/-- Position of the sender's next boundary in a slot that begins now, in UI, and whether it is on the base grid (R455). -/
def State.tickIn (s : State) : Option (Nat × Bool) :=
  if !s.clk.placed ∨ !s.mode.running then none
  else
    let b := s.nextBoundary
    let ui := (b - s.clk.now) * 425 / 48
    if s.clk.now ≤ b ∧ ui < 1056 then some (ui, (s.clk.pos + periodEdges s.rate) % 62500 == 0) else none

/-- The link word sent now (R445, R455), and what it clears. -/
def State.linkWord (s : State) (k : Nat) : Nat × State :=
  let x := s.link k
  let again := match x.gapAt with
    | some t => decide (t + s.rto k ≤ s.clk.now)
    | none => false
  let ask := x.ask || again
  -- the second slot that begins after the arrival of a probe
  let echo := x.probes.find? (fun p => p.2 * 425 + 1056 * 48 ≤ s.clk.now * 425)
  let turn := match echo with
    | some p => ((s.clk.now - p.2) * 425 - 1056 * 48) / (48 * 8) % 256
    | none => 0
  let tick := match s.tickIn with
    | some (p, b) => 2 ^ 28 + b.toNat * 2 ^ 27 + p * 65536
    | none => 0
  let w := (s.get Reg.KZL_RX_EXPECT k + 2 ^ 32 - 1) % 2 ^ 32 * 2 ^ 32 + x.ackOk.toNat * 2 ^ 31 + ask.toNat * 2 ^ 30
    + (decide (4 ≤ s.get Reg.KZL_STATE k)).toNat * 2 ^ 29 + tick + x.probe * 4096
    + (match echo with | some p => p.1 | none => 0) * 256 + turn
  (w, s.setLink k fun x =>
    { x with ask := false, gapAt := if again then some s.clk.now else x.gapAt, probe := (x.probe + 1) % 16,
             sentAt := tput 0 x.sentAt x.probe s.clk.now })

/-- The 64 words of a frame (R445). -/
def frameWords (link seq typ : Nat) (payload : List Byte) : List DWord :=
  let pad := payload ++ List.replicate (488 - payload.length) 0#8
  let bytes := leBytes 8 link ++ leBytes 8 (seq * 2 ^ 32 + typ * 2 ^ 28 + payload.length) ++ pad
  let all := bytes ++ leBytes 8 (crc32c bytes)
  (List.range 64).map fun i => BitVec.ofNat 64 (ofLeBytes ((all.drop (8 * i)).take 8))

/-- Put a frame on the line. -/
def State.putFrame (s : State) (k seq typ : Nat) (payload : List Byte) : State :=
  let (w, s) := s.linkWord k
  s.setLink k fun x => { x with sent := frameWords w seq typ payload }

/-- Note one more sending of a held frame. -/
def markSent (seq now : Nat) (f : KzlFrame) : KzlFrame :=
  if f.seq = seq then { f with sentAt := now, tries := f.tries + 1 } else f

/-- KZL_FRAME_TX (R448, R450): one frame slot begins. Retransmissions go first, then frames in order of queueing, then IDLE. -/
def State.kzlSlot (s : State) (k : Nat) : State :=
  let st := s.get Reg.KZL_STATE k
  let x := s.link k
  if st = 0 ∨ st = 6 ∨ !s.linkOn k then s
  else
    let idle := fun (s : State) => s.putFrame k ((s.get Reg.KZL_TX_SEQ k + 2 ^ 32 - 1) % 2 ^ 32) 0 []
    if st ≠ 5 then idle s
    else
      let again := x.back.bind fun q => x.held.find? (fun f => decide ((f.seq + 2 ^ 32 - q) % 2 ^ 32 < 2 ^ 31))
      match again with
      | some f =>
        let s := (s.putFrame k f.seq f.typ f.payload).count Reg.KZL_RTX k
        let last := (x.held.getLast?.map (·.seq)) == some f.seq
        let s := s.setLink k fun x =>
          { x with held := x.held.map (markSent f.seq s.clk.now), back := if last then none else some ((f.seq + 1) % 2 ^ 32) }
        if 16 ≤ f.tries + 1 then s.kzlFail k 4 else s
      | none => match x.queue with
        | [] => idle s
        | f :: r =>
          if 256 ≤ x.held.length then s.kzlFail k 3
          else
            let q := s.get Reg.KZL_TX_SEQ k
            let s := s.cvuTap 3 k (· == 0) f.payload
            let s := s.putFrame k q f.typ f.payload
            let s := s.setLink k fun x =>
              { x with queue := r, held := x.held ++ [{ f with seq := q, sentAt := s.clk.now, tries := 1 }], back := none }
            (s.put Reg.KZL_TX_SEQ k (q + 1)).keepMax Reg.KZL_RTX_MAX k (s.link k).held.length

/-- Process an ACK (R450): cumulative; one outside the frames held is ignored. -/
def State.takeAck (s : State) (k ack : Nat) : State :=
  let x := s.link k
  if x.held.any (·.seq == ack) then
    (s.setLink k fun x => { x with held := x.held.filter (fun f => decide ((f.seq + 2 ^ 32 - ack - 1) % 2 ^ 32 < 2 ^ 31)) }).put
      Reg.KZL_TX_ACKED k ack
  else s

/-- Process an echo (R455): half the round trip less the turnaround, averaged over 256 echoes. -/
def State.takeEcho (s : State) (k id turn : Nat) : State :=
  let x := s.link k
  let sent := tget 0 x.sentAt id
  if sent = 0 ∨ s.clk.now ≤ sent then s
  else
    let rt : Int := (s.clk.now - sent : Nat) * 425 - 48 * (1056 + 8 * turn : Nat)
    let s := s.setLink k fun x => { x with sentAt := tput 0 x.sentAt id 0, rtSum := x.rtSum + rt, rtN := x.rtN + 1 }
    let x := s.link k
    if x.rtN < 256 then s
    else
      -- sum / 256 / 2 in UI × 48; a UI is 640/17 ps
      let ps := (x.rtSum * 640 / (17 * 48 * 512)).toNat
      (s.put Reg.KZL_DELAY k ps).setLink k fun x => { x with rtSum := 0, rtN := 0, known := true }

/-- Place a boundary of the partner (R456, R457). -/
def State.takeTick (s : State) (k pos : Nat) (base : Bool) : State :=
  let s := if base && bits (s.get Reg.HEL_PROV_C0 6) 16 16 == k && s.getB Reg.KZL_UP k then s.helActivity 6 else s
  let s := s.setLink k fun x => { x with count := x.count.map (fun c => (c + 1) % 65536) }
  match (s.link k).count with
  | none => s
  | some c =>
    if !s.getB Reg.KZL_UP k ∨ !s.clk.placed then s
    else
      let t : Int := s.clk.now + pos * 48 / 425 - s.get Reg.KZL_DELAY k * 3 / 1000
      let d := t - s.clk.boundaryEdge
      let per : Int := periodEdges s.rate
      let own := ((s.idx : Int) + (2 * d + per).fdiv (2 * per)) % 65536
      let ofs := ((own - c) % 65536).toNat
      let x := s.link k
      if !x.fixed then (s.put Reg.KZL_SMP_OFS k ofs).setLink k fun x => { x with fixed := true, other := (0, 0) }
      else if s.get Reg.KZL_SMP_OFS k = ofs then s.setLink k fun x => { x with other := (0, 0) }
      else
        let n := if x.other.1 = ofs then x.other.2 + 1 else 1
        if 16 ≤ n then
          ((s.put Reg.KZL_SMP_OFS k ofs).count Reg.FAB_CASC_SLIP).setLink k fun x => { x with other := (0, 0) }
        else s.setLink k fun x => { x with other := (ofs, n) }

/-- Enter UP (R453). DEDUCED (log entry 77). -/
def State.linkUp (s : State) (k : Nat) : State :=
  let s := s.setLink k fun x => { since := x.since, start := x.start, probe := x.probe, sentAt := x.sentAt, sent := x.sent }
  let us := (s.clk.now - (s.link k).start) / 3000
  let s := (s.linkTo k 5).put Reg.KZL_UP_TIME k (min us 65535)
  let s := ((s.put Reg.KZL_TX_SEQ k 0).put Reg.KZL_RX_EXPECT k 0).irq Reg.KZL_IRQ_UP k
  (s.bumpEpoch (0xA1 + k)).cascShow

/-- The link word of a valid frame (R449). -/
def State.takeLinkWord (s : State) (k w : Nat) : State :=
  let s := if s.get Reg.KZL_STATE k = 4 ∧ bit w 29 then s.linkUp k else s
  let s := if bit w 31 then s.takeAck k (bits w 63 32) else s
  let s := if bit w 30 && decide ((s.link k).deaf ≤ s.clk.now) then s.goBack k else s
  let s := s.setLink k fun x => { x with probes := ((bits w 15 12, s.clk.now) :: x.probes).take 4 }
  let s := s.takeEcho k (bits w 11 8) (bits w 7 0)
  if bit w 28 then s.takeTick k (bits w 26 16) (bit w 27) else s

/-- The partner's sample count as a frame or a record header shows it. -/
def State.partnerCount (s : State) (k sample : Nat) : State :=
  s.setLink k fun x => { x with count := some sample }

/-- The records of a MIRROR payload, by header and body (R485). -/
def mirrorRecords : Nat → List Nat → List (Nat × List Nat)
  | 0, _ => []
  | _, [] => []
  | n + 1, h :: r => let nw := bits h 23 16; (h, r.take nw) :: mirrorRecords n (r.drop nw)

/-- The active engine passes the partials it receives on to its standby (R467, R486): a record carries at most 119 of them, and its
SAMPLE is the active engine's own sample that they belong to. -/
def State.mirrorCasc (s : State) (head mine : Nat) (parts : List Nat) : State :=
  let n := bits head 6 0
  let rec' := fun (h : Nat) (ps : List Nat) (s : State) => s.sendRecord 6 mine ([h % 2 ^ 32, h / 2 ^ 32] ++ ps)
  if !s.partnerFollows then s
  else if n ≤ 119 then rec' head (parts.take n) s
  else
    let a := withBits (withBit head 7 false) 6 0 119
    let b := withBits (withBits head 41 32 (bits head 41 32 + 119)) 6 0 (n - 119)
    rec' b ((parts.drop 119).take (n - 119)) (rec' a (parts.take 119) s)

/-- A Kaztal frame as it arrives, 64 words, its slot's first block arriving now (R449). Each record of an accepted MIRROR frame then
takes effect as the command of its type; unknown types count here. -/
def State.kzlReceive (s : State) (k : Nat) (frame : List DWord) : State :=
  let w := fun i => (frame.getD i 0).toNat
  let st := s.get Reg.KZL_STATE k
  if (st ≠ 4 ∧ st ≠ 5) ∨ !s.linkOn k then s
  else
    let bytes := (frame.take 63).flatMap (fun d => leBytes 8 d.toNat)
    let typ := bits (w 1) 31 28
    let len := bits (w 1) 8 0
    if w 63 % 2 ^ 32 ≠ crc32c bytes ∨ 2 < typ ∨ frame.length ≠ 64 then s.count Reg.KZL_CRC_ERR k
    else
      let s := s.takeLinkWord k (w 0)
      let seq := bits (w 1) 63 32
      let expect := s.get Reg.KZL_RX_EXPECT k
      if typ = 0 ∨ s.get Reg.KZL_STATE k ≠ 5 then s
      else if seq = expect then
        let pay := ((bytes.drop 16).take (min len 488))
        let s := (s.put Reg.KZL_RX_EXPECT k (seq + 1)).setLink k fun x => { x with ackOk := true, gapAt := none }
        let s := s.cvuTap 3 k (· == 1) pay
        if typ = 1 then
          let s := s.partnerCount k (bits (w 2) 63 48)
          if s.getB Reg.FAB_EN ∧ s.get Reg.FAB_LINK = k ∧ s.opMode ≠ 3 then
            let mine := s.ownSample k (bits (w 2) 63 48)
            (s.cascTake k (w 2) mine ((leWords pay).drop 2)).mirrorCasc (w 2) mine ((leWords pay).drop 2)
          else s
        else if k = 1 then
          let recs := mirrorRecords 122 (leWords pay)
          let s := match recs.getLast? with
            | some r => s.partnerCount k (bits r.1 15 0)
            | none => s
          let bad := (recs.filter (fun r => let t := bits r.1 31 24; t = 0 || 0x0B < t)).length
          if bad = 0 then s else s.count Reg.STBY_REC_BAD 0 bad
        else s
      else if (expect + 2 ^ 32 - seq) % 2 ^ 32 ≤ 2 ^ 31 then (s.count Reg.KZL_DUP k)
      else (s.count Reg.KZL_GAP k).setLink k fun x => { x with ask := true, gapAt := some s.clk.now }

/-- EN of a KZL page (R452, R459): 1 starts bring-up, 0 powers the lanes down. -/
def State.kzlEn (s : State) (k : Nat) (on : Bool) : State :=
  if on then s.linkAdvance k
  else
    let s := if s.get Reg.KZL_STATE k = 5 then s.kzlFail k 0 else s
    let s := (lanesOf k).foldl (fun s l =>
      let s := ((s.put Reg.LANE_CDR_LOCK l 0).put Reg.LANE_ADAPT_DONE l 0).put Reg.LANE_BLOCK_LOCK l 0
      ((s.put Reg.LANE_RATE l 0).put Reg.LANE_SIG_DET l 0).setBitOf Reg.LANE_CDR_MAP 0 l false) s
    s.linkTo k 0

end Sys2Proof.Machine
end

