-- ==== Sys2Proof/Machine/StripEngine.lean ====
section
/-! DEFINITION. Strip engine datapath: bundles, registers, moves, the MAC slot and the AU slot (R140 to R163, R178). The slots of a
bundle are separate commands in slot order; the command of the control slot ends the bundle. -/

namespace Sys2Proof.Machine

/-! ## Registers -/

/-- Register codes of R175. -/
def cD (i : Nat) : Nat := i % 16
def cAcc (i : Nat) : Nat := 0x10 + i % 4
def cScl (i : Nat) : Nat := 0x14 + i % 4
def cA (i : Nat) : Nat := 0x18 + i % 8
def cN (i : Nat) : Nat := 0x20 + i % 8
def cL (i : Nat) : Nat := 0x28 + i % 8
def cB (i : Nat) : Nat := 0x30 + i % 8
def cLc (i : Nat) : Nat := 0x38 + i % 3
def cFlags : Nat := 0x3B
def cGather : Nat := 0x3C

/-- Bits of FLAGS (R140). -/
def fSat : Nat := 4
def fV : Nat := 8
def fDz : Nat := 16

/-- Registers of which the event bank has copies (R191). -/
def banked (c : Nat) : Bool :=
  decide (0x0C ≤ c ∧ c ≤ 0x0F) || c == 0x13 || c == 0x17 || c == 0x1E || c == 0x1F || c == 0x26 || c == 0x27 || c == 0x2E ||
  c == 0x2F || c == 0x36 || c == 0x37 || decide (0x38 ≤ c ∧ c ≤ 0x3C)

/-- Where a register of the bank in force is kept. -/
def Se.key (t : Se) (c : Nat) : Nat := if t.handler.isSome && banked c then c + 64 else c

/-- Read a register of the bank in force. -/
def Se.reg (t : Se) (c : Nat) : Nat := tget 0 t.regs (t.key c)

/-- Store a register of the bank in force. -/
def Se.setReg (t : Se) (c v : Nat) : Se := { t with regs := tput 0 t.regs (t.key c) v }

/-- A data register as a signed integer; an accumulator; a scaling shift. -/
def Se.d (t : Se) (i : Nat) : Int := sx 32 (t.reg (cD i))
def Se.acc (t : Se) (i : Nat) : Int := sx 72 (t.reg (cAcc i))
def Se.scl (t : Se) (i : Nat) : Int := sx 5 (t.reg (cScl i))

/-- A word of X (0) or Y (1) memory; addresses wrap at 15 bits (R158). -/
def Se.mem (t : Se) (space a : Nat) : Word := tget 0 (if space = 0 then t.x else t.y) (a % 32768)
def Se.setMem (t : Se) (space a : Nat) (v : Word) : Se :=
  if space = 0 then { t with x := tput 0 t.x (a % 32768) v } else { t with y := tput 0 t.y (a % 32768) v }

/-! ## Results (R151, R153, R178) -/

/-- Queue a result for a register: visible to the bundle `lat` after the present one. A division in flight loses to any write that
is issued after it. -/
def Se.write (t : Se) (c lo width v lat slot : Nat) : Se :=
  let w : SeWrite := { reg := t.key c, lo := lo, width := width, val := v % 2 ^ width, due := t.n + lat, issue := t.n, slot := slot }
  { t with queue := t.queue ++ [w],
           div := t.div.map fun d => if cD d.dd = c ∧ d.issue < t.n then { d with lost := true } else d }

/-- Order in which results reach registers (R153): by bundle of issue, then by slot. -/
def writeBefore (a b : SeWrite) : Bool := a.issue < b.issue || (a.issue == b.issue && decide (a.slot ≤ b.slot))

/-- Insert a result in that order. -/
def writeInsert (w : SeWrite) : List SeWrite → List SeWrite
  | [] => [w]
  | x :: r => if writeBefore w x then w :: x :: r else x :: writeInsert w r

/-- A result reaches its register. -/
def landWrite (regs : Tbl Nat) (w : SeWrite) : Tbl Nat :=
  tput 0 regs w.reg (withBits (tget 0 regs w.reg) (w.lo + w.width - 1) w.lo w.val)

/-- Land the results that a test selects. -/
def Se.land (t : Se) (p : SeWrite → Bool) : Se :=
  let now := (t.queue.filter p).foldl (fun l w => writeInsert w l) []
  { t with regs := now.foldl landWrite t.regs, queue := t.queue.filter (fun w => !p w) }

/-- Quotient and flags of a division (R160, R163). -/
def divResult (a b : Int) : Int × Nat :=
  if b = 0 then (if a = 0 then 0 else if 0 < a then 0x7FFFFFFF else -0x80000000, fDz)
  else if a = -0x80000000 ∧ b = -1 then (0x7FFFFFFF, fV)
  else (a.tdiv b, 0)

/-- Z and N of a result. -/
def znOf (x : Int) : Nat := (decide (x = 0)).toNat + 2 * (decide (x < 0)).toNat

/-- Set Z and N, and set stickies. -/
def withFlags (f : Nat) (zn : Option Nat) (sticky : Nat) : Nat :=
  let f := match zn with
    | some v => f / 4 * 4 + v
    | none => f
  f ||| sticky

/-- The division in flight completes: at the earliest with the eighth bundle after it. DEDUCED (log entry 69). -/
def Se.divDone (t : Se) : Se := match t.div with
  | none => t
  | some d =>
    let q := divResult (sx 32 d.ds) (sx 32 d.dt)
    let t := { t with div := none, n := max t.n (d.issue + 8) }
    let t := t.land (fun w => w.due ≤ t.n)
    let t := if d.lost then t else t.setReg (cD d.dd) (unsx 32 q.1)
    t.setReg cFlags (withFlags (t.reg cFlags) (some (znOf q.1)) q.2)

/-! ## Addressing (R152, R158) -/

/-- Post-modify by an offset. -/
def postModify (l b a : Nat) (k : Int) : Nat :=
  if l = 0 then (((a : Int) + k) % 32768).toNat
  else ((b + (((a : Int) - b + k) % l)) % 32768).toNat

/-- Note an address update of the bundle. -/
def Se.update (t : Se) (slot an : Nat) (k : Int) (base : Bool) : Se :=
  { t with ups := t.ups ++ [{ slot := slot, an := an % 8, by' := k, base := base }] }

/-- The address update of a move's MODE (R147). -/
def Se.moveMode (t : Se) (slot an mode : Nat) : Se :=
  if mode % 4 = 1 then t.update slot an (sx 16 (t.reg (cN an))) false
  else if mode % 4 = 2 then t.update slot an 1 false
  else if mode % 4 = 3 then t.update slot an (-1) false else t

/-- One register's updates in the order MV0, MV1, AU, each on the result of the one before. -/
def Se.composed (t : Se) (an : Nat) : Option Nat :=
  let mine := t.ups.filter (·.an == an)
  let inOrder := mine.filter (·.slot == 4) ++ mine.filter (·.slot == 5) ++ mine.filter (·.slot == 2)
  if inOrder.isEmpty then none
  else some (inOrder.foldl (fun a u =>
    if u.base then t.reg (cB an) else postModify (t.reg (cL an)) (t.reg (cB an)) a u.by') (t.reg (cA an)))

/-! ## Bundles -/

/-- A repeat's counter is tested at its END bundle (R184, R187), innermost first. Answers the next bundle. -/
def Se.endRepeats : Nat → Se → Nat → Se × Nat
  | 0, t, next => (t, next)
  | k + 1, t, next => match t.reps with
    | [] => (t, next)
    | r :: rest =>
      if r.last ≠ t.pc then (t, next)
      else
        let c := t.reg (cLc r.lc)
        let t := { t with iterEnd := true }
        if 1 < c then (t.setReg (cLc r.lc) (c - 1), r.first)
        else Se.endRepeats k ({ t.setReg (cLc r.lc) 0 with reps := rest }) next

/-- Close every repeat whose body does not hold an address, and those nested in it (R186). -/
def Se.leaveRepeats (t : Se) (target : Nat) : Se :=
  let out := fun (r : SeRepeat) => target < r.first || r.last < target
  let keep := (t.reps.reverse.takeWhile (fun r => !out r)).reverse
  let gone := t.reps.take (t.reps.length - keep.length)
  { gone.foldl (fun t r => t.setReg (cLc r.lc) 0) t with reps := keep }

/-- The bundle ends: address updates and results that become visible, then the next bundle's address. `jump` opens a branch with
two delay slots; `go` is a control operation that issues its own next bundle. DESIGN CHOICE (log entry 68). -/
def Se.endBundle (t : Se) (jump go : Option Nat) : Se :=
  let t := (List.range 8).foldl (fun t an => match t.composed an with
    | some v => t.write (cA an) 0 15 v 1 2
    | none => t) t
  let zn := t.zn
  let st := t.sticky
  let t := { t with n := t.n + 1, cc := t.cc + 1, ups := [], zn := none, sticky := 0, space := none, iterEnd := false }
  let t := t.land (fun w => w.due ≤ t.n)
  let t := if zn.isSome || st != 0 then t.setReg cFlags (withFlags (t.reg cFlags) zn st) else t
  let t := match t.div with
    | some d => if d.issue + 8 ≤ t.n then t.divDone else t
    | none => t
  let (t, next) := t.endRepeats 3 ((t.pc + 1) % 8192)
  match go with
  | some a => { t with pc := a % 8192 }
  | none => match t.branch with
    | some (a, 1) => { t.leaveRepeats a with branch := none, pc := a % 8192 }
    | some (a, k) => { t with branch := some (a, k - 1), pc := next }
    | none => match jump with
      | some a => { t with branch := some (a, 2), pc := next }
      | none => { t with pc := next }

/-! ## Engines -/

/-- A strip engine's state. -/
def State.eng (s : State) (e : Nat) : Se := tget {} s.se e
def State.setEng (s : State) (e : Nat) (t : Se) : State := { s with se := tput {} s.se e t }

/-- The unit of a strip engine. -/
def seUnit (e : Nat) : UnitId := { page := 0x10 + e }

/-- Does an engine execute: it exists, is neither fenced, retired nor under test, and no gather stalls it? -/
def State.seUp (s : State) (e : Nat) : Bool :=
  decide (e < 34) && !s.unitDown (seUnit e) && !s.suspended (seUnit e) && (s.eng e).gather.isNone

/-- Run a slot operation on an engine. -/
def State.onEngine (s : State) (e : Nat) (f : Se → Se) : Out :=
  ok (if s.seUp e then s.setEng e (f (s.eng e)) else s)

/-- A reserved encoding that has reached the engine (R150). -/
def State.seIllegal (s : State) (e : Nat) : State := s.raise Src.SE_ILLEGAL (seUnit e)

/-! ## The MAC slot: multiply operations (R149, R154, R155) -/

/-- Write accumulator `i`, saturating at 72 bits and setting V. -/
def Se.accWrite (t : Se) (i : Nat) (x : Int) : Se :=
  let t := t.write (cAcc i) 0 72 (unsx 72 (satTo 72 x)) 1 3
  if overflows 72 x then { t with sticky := t.sticky ||| fV } else t

/-- Do an operation on each accumulator whose MASK bit is set. -/
def Se.lanes (t : Se) (mask : Nat) (f : Nat → Int → Int) : Se :=
  (below 4 (bit mask)).foldl (fun u i => u.accWrite i (f i (t.acc i))) t

/-- The coefficient of lane `i`: D(4Q + i). -/
def Se.coef (t : Se) (q i : Nat) : Int := t.d (4 * q + i)

/-- A data register aligned as it enters an accumulator. -/
def aligned (x : Int) : Int := x * 2 ^ 30

/-- MAC_NOP (R149). -/
def execMacNop (e : Nat) (s : State) : Out := s.onEngine e fun t => t

/-- MPY (R149, R154): ACCi = S × Ci. -/
def execMpy (e src q mask : Nat) (s : State) : Out := s.onEngine e fun t => t.lanes mask fun i _ => t.d src * t.coef q i

/-- MAC: ACCi = ACCi + S × Ci. -/
def execMac (e src q mask : Nat) (s : State) : Out := s.onEngine e fun t => t.lanes mask fun i a => a + t.d src * t.coef q i

/-- MSU: ACCi = ACCi − S × Ci. -/
def execMsu (e src q mask : Nat) (s : State) : Out := s.onEngine e fun t => t.lanes mask fun i a => a - t.d src * t.coef q i

/-- CLR: ACCi = 0. -/
def execClr (e mask : Nat) (s : State) : Out := s.onEngine e fun t => t.lanes mask fun _ _ => 0

/-- LDA (R155): ACCi = S aligned. -/
def execLda (e src mask : Nat) (s : State) : Out := s.onEngine e fun t => t.lanes mask fun _ _ => aligned (t.d src)

/-- ADDA: ACCi = ACCi + S aligned. -/
def execAdda (e src mask : Nat) (s : State) : Out := s.onEngine e fun t => t.lanes mask fun _ a => a + aligned (t.d src)

/-- SUBA: ACCi = ACCi − S aligned. -/
def execSuba (e src mask : Nat) (s : State) : Out := s.onEngine e fun t => t.lanes mask fun _ a => a - aligned (t.d src)

/-! ## The MAC slot: ALU operations (R160 to R163) -/

/-- An ALU result: a register at a width, Z and N from it, stickies. -/
def Se.alu (t : Se) (c width : Nat) (x : Int) (sticky : Nat) : Se :=
  let t := t.write c 0 width (unsx width x) 1 3
  { t with zn := some (znOf (sx width (unsx width x))), sticky := t.sticky ||| sticky }

/-- A sum that wraps and sets V, or saturates and sets SAT (R161). -/
def Se.wrapSum (t : Se) (dd : Nat) (x : Int) : Se := t.alu (cD dd) 32 x (if overflows 32 x then fV else 0)
def Se.satSum (t : Se) (dd : Nat) (x : Int) : Se := t.alu (cD dd) 32 (satTo 32 x) (if overflows 32 x then fSat else 0)

/-- ADD (R161). -/
def execAdd (e dd ds dt : Nat) (s : State) : Out := s.onEngine e fun t => t.wrapSum dd (t.d ds + t.d dt)

/-- SUB (R161). -/
def execSub (e dd ds dt : Nat) (s : State) : Out := s.onEngine e fun t => t.wrapSum dd (t.d ds - t.d dt)

/-- ADDS (R161). -/
def execAdds (e dd ds dt : Nat) (s : State) : Out := s.onEngine e fun t => t.satSum dd (t.d ds + t.d dt)

/-- SUBS (R161). -/
def execSubs (e dd ds dt : Nat) (s : State) : Out := s.onEngine e fun t => t.satSum dd (t.d ds - t.d dt)

/-- A negated value with the edge of R163. -/
def Se.negTo (t : Se) (dd : Nat) (x : Int) : Se :=
  if x = 0x80000000 then t.alu (cD dd) 32 0x7FFFFFFF fV else t.alu (cD dd) 32 x 0

/-- NEG (R163). -/
def execNeg (e dd ds : Nat) (s : State) : Out := s.onEngine e fun t => t.negTo dd (-(t.d ds))

/-- ABS (R163). -/
def execAbsD (e dd ds : Nat) (s : State) : Out := s.onEngine e fun t => t.negTo dd (t.d ds).natAbs

/-- AND (R149). -/
def execAndD (e dd ds dt : Nat) (s : State) : Out := s.onEngine e fun t =>
  t.alu (cD dd) 32 ((t.reg (cD ds) &&& t.reg (cD dt) : Nat)) 0

/-- OR (R149). -/
def execOrD (e dd ds dt : Nat) (s : State) : Out := s.onEngine e fun t =>
  t.alu (cD dd) 32 ((t.reg (cD ds) ||| t.reg (cD dt) : Nat)) 0

/-- XOR (R149). -/
def execXorD (e dd ds dt : Nat) (s : State) : Out := s.onEngine e fun t =>
  t.alu (cD dd) 32 ((t.reg (cD ds) ^^^ t.reg (cD dt) : Nat)) 0

/-- CMP (R149): Z and N from the exact difference. -/
def execCmp (e ds dt : Nat) (s : State) : Out := s.onEngine e fun t => { t with zn := some (znOf (t.d ds - t.d dt)) }

/-- DIV (R160): a division in flight completes first. -/
def execDiv (e dd ds dt : Nat) (s : State) : Out := s.onEngine e fun t =>
  let t := t.divDone
  { t with div := some { dd := dd % 16, ds := t.reg (cD ds), dt := t.reg (cD dt), issue := t.n } }

/-- DIV_COMPLETE (R160, R163). -/
def execDivComplete (e : Nat) (s : State) : Out := s.onEngine e Se.divDone

/-- Shifts of an operand held in `w` bits (R162, R163): result as an unsigned number and stickies. -/
def shiftLeft (w x k : Nat) : Nat × Nat := (x * 2 ^ k % 2 ^ w, if 2 ^ w ≤ x * 2 ^ k then fV else 0)
def shiftLsr (x k : Nat) : Nat × Nat := (x / 2 ^ k, 0)
def shiftAsr (w x k : Nat) : Nat × Nat := (unsx w (asr (sx w x) k), 0)
def shiftLeftSat (w x k : Nat) : Nat × Nat :=
  let y := sx w x * 2 ^ k
  (unsx w (satTo w y), if overflows w y then fSat else 0)

/-- A shift operation and its operation for a negative count. -/
def shiftOp (kind w x : Nat) (count : Int) : Nat × Nat :=
  let k := count.natAbs
  if 0 ≤ count then
    (if kind = 0 then shiftAsr w x k else if kind = 1 then shiftLsr x k else if kind = 2 then shiftLeft w x k else shiftLeftSat w x k)
  else (if kind ≤ 1 then shiftLeft w x k else if kind = 2 then shiftLsr x k else shiftAsr w x k)

/-- Shift a register at a width by an 8-bit signed count. -/
def Se.shift (t : Se) (kind width dst src count : Nat) : Se :=
  let r := shiftOp kind width (t.reg src % 2 ^ width) (sx 8 (count % 256))
  t.alu dst width (r.1 : Int) r.2

/-- ASR (R162): the count is Dt[7:0]. -/
def execAsr (e dd ds dt : Nat) (s : State) : Out := s.onEngine e fun t => t.shift 0 32 (cD dd) (cD ds) (t.reg (cD dt))

/-- LSR (R162). -/
def execLsr (e dd ds dt : Nat) (s : State) : Out := s.onEngine e fun t => t.shift 1 32 (cD dd) (cD ds) (t.reg (cD dt))

/-- LSL (R162). -/
def execLsl (e dd ds dt : Nat) (s : State) : Out := s.onEngine e fun t => t.shift 2 32 (cD dd) (cD ds) (t.reg (cD dt))

/-- LSLS (R162). -/
def execLsls (e dd ds dt : Nat) (s : State) : Out := s.onEngine e fun t => t.shift 3 32 (cD dd) (cD ds) (t.reg (cD dt))

/-- ASRI (R162): an immediate count. -/
def execAsri (e dd count : Nat) (s : State) : Out := s.onEngine e fun t => t.shift 0 32 (cD dd) (cD dd) count

/-- LSRI (R162). -/
def execLsri (e dd count : Nat) (s : State) : Out := s.onEngine e fun t => t.shift 1 32 (cD dd) (cD dd) count

/-- LSLI (R162). -/
def execLsli (e dd count : Nat) (s : State) : Out := s.onEngine e fun t => t.shift 2 32 (cD dd) (cD dd) count

/-- LSLSI (R162). -/
def execLslsi (e dd count : Nat) (s : State) : Out := s.onEngine e fun t => t.shift 3 32 (cD dd) (cD dd) count

/-- ASRA (R162): an accumulator at width 72. -/
def execAsra (e acc count : Nat) (s : State) : Out := s.onEngine e fun t => t.shift 0 72 (cAcc acc) (cAcc acc) count

/-- LSRA (R162). -/
def execLsra (e acc count : Nat) (s : State) : Out := s.onEngine e fun t => t.shift 1 72 (cAcc acc) (cAcc acc) count

/-- LSLA (R162). -/
def execLsla (e acc count : Nat) (s : State) : Out := s.onEngine e fun t => t.shift 2 72 (cAcc acc) (cAcc acc) count

/-- LSLSA (R162). -/
def execLslsa (e acc count : Nat) (s : State) : Out := s.onEngine e fun t => t.shift 3 72 (cAcc acc) (cAcc acc) count

/-! ## The move slots (R144, R147, R155 to R157, R159) -/

/-- Slot codes of MV0 and MV1. -/
def mvSlot (slot : Nat) : Nat := 4 + slot % 2

/-- A move's access: the second of a bundle to the same memory costs one cc. -/
def Se.access (t : Se) (space : Nat) : Se :=
  if t.space = some space then { t with cc := t.cc + 1 } else { t with space := if t.space.isNone then some space else t.space }

/-- Report what ECC finds on a data word of an engine (R143): answers whether the access failed. -/
def State.seEcc (s : State) (e : Nat) (ecc : Ecc) : State × Bool := match ecc with
  | .clean => (s, false)
  | .corrected _ => ((s.count Reg.SE_ECC_CORR e).irq Reg.SE_IRQ_ECC_CORR e, false)
  | .uncorrectable _ => (s.raise (Src.SE_MEM_ECC e) (seUnit e), true)

/-- LOAD to a data register, an accumulator as a sample, or a raw part (R147, R155, R157). -/
def Se.loadTo (t : Se) (slot reg : Nat) (w : Word) : Se :=
  if reg < 16 then t.write (cD reg) 0 32 w.toNat 2 slot
  else if reg < 0x14 then t.write (cAcc reg) 0 72 (unsx 72 (aligned w.toInt)) 2 slot
  else
    let part := (reg - 0x14) % 3
    let acc := (reg - 0x14) / 3
    if part = 0 then t.write (cAcc acc) 0 32 w.toNat 2 slot
    else if part = 1 then t.write (cAcc acc) 32 32 w.toNat 2 slot
    else t.write (cAcc acc) 64 8 (w.toNat % 256) 2 slot

/-- LOAD (R147, R151, R178): the word at An as the bundle began, visible to the second bundle after. -/
def execLoad (e slot space an mode reg : Nat) (ecc : Ecc) (s : State) : Out :=
  if !s.seUp e then ok s
  else
    let (s, bad) := s.seEcc e ecc
    if bad then ok s
    else s.onEngine e fun t =>
      let w := t.mem (space % 2) (t.reg (cA an))
      ((t.access (space % 2)).loadTo (mvSlot slot) (reg % 32) w).moveMode (mvSlot slot) an mode

/-- An accumulator as a stored sample (R156): its word and whether it saturated. -/
def Se.sample (t : Se) (i : Nat) : Word × Bool :=
  let x := t.acc i
  let k := t.scl i
  let y : Int := if 30 ≤ k then x * 2 ^ (k - 30).toNat else roundHalfEven x (2 ^ (30 - k).toNat)
  (satWord y, overflows 32 y)

/-- The word a STORE writes and whether it set SAT (R156, R157). -/
def Se.storeWord (t : Se) (reg : Nat) : Word × Bool :=
  if reg < 16 then (BitVec.ofNat 32 (t.reg (cD reg)), false)
  else if reg < 0x14 then t.sample reg
  else
    let part := (reg - 0x14) % 3
    let a := t.reg (cAcc ((reg - 0x14) / 3))
    (if part = 0 then BitVec.ofNat 32 a else if part = 1 then BitVec.ofNat 32 (a / 2 ^ 32) else toWord (sx 8 (a / 2 ^ 64 % 256)), false)

/-- STORE (R147, R151, R156). -/
def execStore (e slot space an mode reg : Nat) (s : State) : Out := s.onEngine e fun t =>
  let (w, sat) := t.storeWord (reg % 32)
  let t := (t.access (space % 2)).setMem (space % 2) (t.reg (cA an)) w
  { t.moveMode (mvSlot slot) an mode with sticky := t.sticky ||| (if sat then fSat else 0) }

/-- LOAD_ADDRESS_FILE (R141, R147, R159): REG names A, N, L or B. -/
def execLoadAddressFile (e slot space an mode reg : Nat) (ecc : Ecc) (s : State) : Out :=
  if !s.seUp e then ok s
  else
    let (s, bad) := s.seEcc e ecc
    if bad then ok s
    else s.onEngine e fun t =>
      let w := (t.mem (space % 2) (t.reg (cA an))).toNat
      let r := reg % 32
      let i := r % 8
      let t := t.access (space % 2)
      let sl := mvSlot slot
      let t := if r < 8 then t.write (cA i) 0 15 w 2 sl
        else if r < 16 then t.write (cN i) 0 16 w 2 sl
        else if r < 24 then t.write (cL i) 0 16 (min (w % 65536) 32768) 2 sl
        else t.write (cB i) 0 15 w 2 sl
      t.moveMode sl an mode

/-! ## The AU slot (R148) -/

/-- AU_ADD_OFFSET: An += Nm under An's circular addressing. -/
def execAuAddOffset (e an nm : Nat) (s : State) : Out := s.onEngine e fun t => t.update 2 an (sx 16 (t.reg (cN nm))) false

/-- AU_LOAD_BASE: An = Bn. -/
def execAuLoadBase (e an : Nat) (s : State) : Out := s.onEngine e fun t => t.update 2 an 0 true

end Sys2Proof.Machine
end

