-- ==== Sys2Proof/Machine/SeControl.lean ====
section
/-! DEFINITION. Strip engine control: control slot, repeats, GATH16, events, strip boundaries, and the checks of a Plovmo strip image
(R164 to R167, R175, R181 to R205). -/

namespace Sys2Proof.Machine

/-! ## The control slot (R181 to R187) -/

/-- Run a control operation, which ends the bundle. -/
def State.onCtrl (s : State) (e : Nat) (f : Se → Se) : Out := s.onEngine e f

/-- A control operation that executes as a NOP and raises SE_ILLEGAL (R150, R183). DEDUCED (log entry 69). -/
def State.ctrlIllegal (s : State) (e : Nat) : State := (s.setEng e ((s.eng e).endBundle none none)).seIllegal e

/-- Run a control operation that must not stand in a delay slot (R183). -/
def State.onCtrlNotSlot (s : State) (e : Nat) (f : Se → Se) : Out :=
  if !s.seUp e then ok s
  else if (s.eng e).branch.isSome then ok (s.ctrlIllegal e)
  else ok (s.setEng e (f (s.eng e)))

/-- NOP. -/
def execNop (e : Nat) (s : State) : Out := s.onCtrl e fun t => t.endBundle none none

/-- BR: two delay slots follow (R178). -/
def execBr (e target : Nat) (s : State) : Out := s.onCtrlNotSlot e fun t => t.endBundle (some (target % 8192)) none

/-- Conditions of R182 on FLAGS; none for a reserved code. -/
def condHolds (c f : Nat) : Option Bool :=
  let z := bit f 0
  let n := bit f 1
  if c = 0 then some z else if c = 1 then some (!z) else if c = 2 then some n else if c = 3 then some (!n)
  else if c = 4 then some (z || n) else if c = 5 then some (!z && !n) else if c = 6 then some (bit f 2)
  else if c = 7 then some (bit f 3) else none

/-- BRC (R182): COND is tested on FLAGS at the start of the bundle. -/
def execBrc (e cond target : Nat) (s : State) : Out :=
  if !s.seUp e then ok s
  else match condHolds cond ((s.eng e).reg cFlags) with
  | none => ok (s.ctrlIllegal e)
  | some b => s.onCtrlNotSlot e fun t => t.endBundle (if b then some (target % 8192) else none) none

/-- BRI: branch to Ds[12:0]. -/
def execBri (e ds : Nat) (s : State) : Out := s.onCtrlNotSlot e fun t => t.endBundle (some (t.reg (cD ds) % 8192)) none

/-- BRK (R186): the innermost active repeat closes; after two delay slots the bundle after its END issues. With no active repeat
there is nothing to leave. -/
def execBrk (e : Nat) (s : State) : Out := s.onCtrlNotSlot e fun t => match t.reps with
  | [] => t.endBundle none none
  | r :: rest => { t.setReg (cLc r.lc) 0 with reps := rest }.endBundle (some ((r.last + 1) % 8192)) none

/-- Open a repeat (R184, R185): a count of 0 skips the body. -/
def Se.openRepeat (t : Se) (count last : Nat) : Se :=
  if count = 0 then t.endBundle none (some (last + 1))
  else
    let lc := t.reps.length
    let r : SeRepeat := { first := (t.pc + 1) % 8192, last := last % 8192, lc := lc }
    { t.setReg (cLc lc) count with reps := r :: t.reps }.endBundle none none

/-- REP and REPD on an engine: a fourth repeat executes as a NOP. -/
def State.repeat (s : State) (e last : Nat) (count : Se → Nat) : Out :=
  if !s.seUp e then ok s
  else if (s.eng e).branch.isSome ∨ 3 ≤ (s.eng e).reps.length then ok (s.ctrlIllegal e)
  else ok (s.setEng e ((s.eng e).openRepeat (count (s.eng e)) last))

/-- REP. -/
def execRep (e count last : Nat) (s : State) : Out := s.repeat e (last % 8192) fun _ => count % 65536

/-- REPD: the count is Ds[15:0]. -/
def execRepd (e ds last : Nat) (s : State) : Out := s.repeat e (last % 8192) fun t => t.reg (cD ds) % 65536

/-- LDI: visible to the next bundle. -/
def execLdi (e dd : Nat) (v : Word) (s : State) : Out := s.onCtrl e fun t => (t.write (cD dd) 0 32 v.toNat 1 1).endBundle none none

/-- Control registers of MVTC and MVFC: code of R175 and width. -/
def ctrlReg (cr : Nat) : Option (Nat × Nat) :=
  if cr < 3 then some (cLc cr, 16) else if cr < 7 then some (cScl (cr - 3), 5) else if cr = 7 then some (cFlags, 5)
  else if cr = 8 then some (cGather, 4) else none

/-- MVTC: visible to the second bundle after. -/
def execMvtc (e cr ds : Nat) (s : State) : Out := match ctrlReg cr with
  | none => ok (if s.seUp e then s.ctrlIllegal e else s)
  | some (c, w) => s.onCtrl e fun t => (t.write c 0 w (t.reg (cD ds)) 2 1).endBundle none none

/-- MVFC: SCLn arrives sign-extended, every other register zero-extended. -/
def execMvfc (e cr dd : Nat) (s : State) : Out := match ctrlReg cr with
  | none => ok (if s.seUp e then s.ctrlIllegal e else s)
  | some (c, w) => s.onCtrl e fun t =>
    (t.write (cD dd) 0 32 (if w = 5 ∧ c ≠ cFlags then unsx 32 (sx 5 (t.reg c)) else t.reg c) 1 1).endBundle none none

/-! ## GATH16 (R164 to R167) -/

/-- The 16 offsets of an index block. -/
def Se.offsets (t : Se) (isp a : Nat) : List Nat :=
  (List.range 16).map fun i => let w := (t.mem isp (a + i / 2)).toNat; if i % 2 = 0 then w % 65536 else w / 65536

/-- GATH16: the gather begins and stalls the engine until it ends. BASE names B0 to B7 for a local source, D0 to D15 for the
interconnect. -/
def execGath16 (e src dsp ad isp ai base : Nat) (s : State) : Out :=
  if !s.seUp e then ok s
  else
    let t := s.eng e
    if t.branch.isSome ∨ 3 ≤ src ∨ (src < 2 ∧ 8 ≤ base) then ok (s.ctrlIllegal e)
    else
      let start := if src = 2 then t.reg (cD base) else t.reg (cB base)
      let g : SeGather := ⟨src, dsp % 2, t.reg (cA ad), start, t.offsets (isp % 2) (t.reg (cA ai))⟩
      ok (s.setEng e { t with gather := some g })

/-- The word of a gather's element `i`, or the cause and address of its fault (R166). -/
def State.gatherElement (s : State) (e : Nat) (g : SeGather) (i : Nat) : Nat × Nat × Option Word :=
  if g.src = 2 then
    let a := (g.base + 4 * g.offs.getD i 0) % 2 ^ 32
    (1, a, (s.busRead e a 4).map fun b => BitVec.ofNat 32 (ofLeBytes b))
  else
    let a := g.base + g.offs.getD i 0
    (2, a, if 0x7FFF < a then none else some ((s.eng e).mem g.src a))

/-- A gather fault at element `k`: elements from there on keep their values; the engine is suspended for its test. -/
def State.gatherFail (s : State) (e k cause addr src : Nat) : State :=
  let t := s.eng e
  let t := t.setReg cGather k
  let s := s.setEng e { t with gather := none, gfault := true, queue := t.queue.filter (fun w => w.issue != t.n) }
  let s := ((s.put Reg.SE_GFLT_VALID e 1).put Reg.SE_CAUSE e cause).put Reg.SE_SPACE e src
  let s := (s.put Reg.SE_IDX e k).put Reg.SE_GFLT_ADDR e addr
  (s.irq Reg.SE_IRQ_GATHER e).raise (Src.SE_GATHER e) (seUnit e) (BitVec.ofNat 32 addr)

/-- Fetch and write elements `k` onwards, `n` of them. Answers whether every one was written. -/
def State.gatherRun (e : Nat) (g : SeGather) : (n k : Nat) → State → Bool × State
  | 0, _, s => (true, s)
  | n + 1, k, s => match s.gatherElement e g k with
    | (_, _, some w) => State.gatherRun e g n (k + 1) (s.setEng e ((s.eng e).setMem g.dsp (g.dst + k) w))
    | (cause, addr, none) => (false, s.gatherFail e k cause addr g.src)

/-- GATHER_COMPLETE (R165): the elements from GATHER_POS on are written; an element that faults ends the gather there. -/
def execGatherComplete (e : Nat) (s : State) : Out :=
  match (s.eng e).gather with
  | none => ok s
  | some g =>
    let pos := (s.eng e).reg cGather
    let (done, s) := State.gatherRun e g (16 - pos) pos s
    if !done then ok s
    else
      let t := (s.eng e).setReg cGather 0
      let t := { t with gather := none, cc := t.cc + (if g.src = 2 then 0 else (16 - pos + 1) / 2 - 1) }
      ok ((s.put Reg.SE_GFLT_VALID e 0).setEng e (t.endBundle none none))

/-- GATHER_FAULT (R166): element `k` finds an uncorrectable error (cause 0) or an error response (cause 1). -/
def execGatherFault (e k cause : Nat) (s : State) : Out :=
  match (s.eng e).gather with
  | none => ok s
  | some g =>
    let pos := (s.eng e).reg cGather
    if k < pos ∨ 16 ≤ k then ok s
    else
      let (done, s) := State.gatherRun e g (k - pos) pos s
      if !done then ok s
      else ok (s.gatherFail e k (cause % 2) (s.gatherElement e g k).2.1 g.src)

/-! ## Events (R188 to R195) -/

/-- Raise an event of an engine: it merges with a pending one. -/
def State.seEvent (s : State) (code e : Nat) : State :=
  let t := s.eng e
  if t.events.any (·.1 == code) then s else s.setEng e { t with events := t.events ++ [(code, t.cc)] }

/-- Every engine that runs strips. -/
def State.runningEngines (s : State) : List Nat := below 34 (fun e => s.getB Hdr.RUNNING (0x10 + e) && !s.unitDown (seUnit e))

/-- The pending event of highest priority. -/
def Se.nextEvent (t : Se) : Option Nat := (List.range 4).find? (fun c => t.events.any (·.1 == c))

/-- Accept an event (R191): results in flight complete, the event bank is switched in, the vector issues. -/
def Se.accept (t : Se) (vec code : Nat) : Se :=
  let t := t.divDone.land (fun _ => true)
  { t with handler := some { code := code, pc := t.pc, reps := t.reps }, reps := [], cc := t.cc + 3, iterEnd := false,
           pc := (vec + 8 * code) % 8192, events := t.events.filter (·.1 != code), slow := t.slow.filter (· != code) }

/-- Is the boundary before the next bundle an acceptance point (R190, R193)? -/
def Se.acceptPoint (t : Se) : Bool :=
  t.handler.isNone && t.branch.isNone && (t.reps.isEmpty || t.iterEnd) && t.ups.isEmpty && t.queue.all (fun w => w.issue != t.n)

/-- EVENT_ACCEPT (R190, R191). -/
def execEventAccept (e : Nat) (s : State) : Out := s.onEngine e fun t => match t.nextEvent with
  | some c => if t.acceptPoint then t.accept s.prog.vec c else t
  | none => t

/-- RTE (R192): outside a handler there is nothing to return from. DEDUCED (log entry 69). -/
def execRte (e : Nat) (s : State) : Out := s.onCtrlNotSlot e fun t => match t.handler with
  | none => t.endBundle none none
  | some h =>
    let t := t.endBundle none (some h.pc)
    { t with handler := none, reps := h.reps, cc := t.cc + 3, iterEnd := true }

/-- EVENT_LATENCY (R194): a pending event has waited 512 cc; raised once for that event. -/
def execEventLatency (e code : Nat) (s : State) : Out :=
  let t := s.eng e
  match t.events.find? (·.1 == code) with
  | none => ok s
  | some ev =>
    if t.slow.contains code then ok s
    else
      let t := { t with cc := max t.cc (ev.2 + 512), slow := t.slow ++ [code] }
      ok ((s.setEng e t).raise Src.EVENT_LATENCY (seUnit e))

/-- DMA_ERR (R188, R198): a mailbox transfer got an error response; one that the running strip depends on suspends the engine.
DEDUCED (log entry 25). DEDUCED (log entry 69). -/
def execDmaErr (e : Nat) (depends : Bool) (s : State) : Out :=
  if 34 ≤ e then ok s
  else
    let s := s.seEvent 0 e
    ok (if depends then s.raise (Src.SE_MEM_ECC e) (seUnit e) else s)

/-! ## Strips (R142, R175, R196, R197) -/

/-- Fold the stickies into SE_ARITH and into the report of the strip that has just ended, and clear them (R142). -/
def State.foldStickies (s : State) (e : Nat) : State :=
  let t := s.eng e
  let f := t.reg cFlags
  let (out, n) := t.ended
  let s := if bit f 2 then
      (s.put Reg.SE_SAT e 1).stripEvent out n (if out then Reg.OUTR_SAT else Reg.INR_SAT)
    else s
  let s := if bit f 3 then s.put Reg.SE_V e 1 else s
  let s := if bit f 4 then s.put Reg.SE_DZ e 1 else s
  let s := if bit f 3 || bit f 4 then
      let s := (s.put Reg.SE_ARITH_VALID e 1).putB Reg.SE_ARITH_OUT e out
      (s.put Reg.SE_ARITH_STRIP e n).irq Reg.SE_IRQ_ARITH e
    else s
  s.setEng e (t.setReg cFlags (f % 4))

/-- Capture the register that SE_QSEL selected (R175). -/
def State.seCapture (s : State) (e : Nat) (out : Bool) (n : Nat) : State :=
  let t := s.eng e
  if t.qsel = 0 then s
  else
    let q := t.qsel - 1
    let v := if q = 0x3D then t.pc
      else if 0x14 ≤ q ∧ q < 0x18 then unsx 32 (t.scl (q - 0x14))
      else if 0x20 ≤ q ∧ q < 0x28 then unsx 32 (sx 16 (t.reg q))
      else if q < 0x3D then t.reg q else 0
    let s := (s.put Reg.SE_QDATA0 e (v % 2 ^ 32)).put Reg.SE_QDATA1 e (v / 2 ^ 32 % 2 ^ 32)
    let s := ((s.put Reg.SE_QDATA2 e (v / 2 ^ 64)).putB Reg.SE_QOUT e out).put Reg.SE_QSTRIP e n
    (s.put Reg.SE_QVALID e 1).setEng e { s.eng e with qsel := 0 }

/-- SE_QSEL (R175). -/
def execSeQsel (e : Nat) (v : Word) (s : State) : Out := s.atPage (0x10 + e) fun s =>
  if 34 ≤ e then ok s
  else ok ((s.put Reg.SE_QVALID e 0).setEng e { s.eng e with qsel := v.toNat % 128 + 1 })

/-- STRIP_BEGIN (R142, R196): the entry checkpoint is the strip bank with GATHER_POS at 0. -/
def execStripBegin (e : Nat) (out : Bool) (n : Nat) (s : State) : Out :=
  if !s.seUp e then ok s
  else
    let t := s.eng e
    let mine := s.stripEngine out n == e && decide (n < if out then numBuses s.rate else inStrips s.rate)
    if t.branch.isSome ∨ t.handler.isSome ∨ !mine then ok (s.ctrlIllegal e)
    else
      let s := s.foldStickies e
      let t := (s.eng e).setReg cGather 0
      let t := { t with strip := some (out, n), entry := t.regs, begun := t.begun ++ [(out, n)], gfault := false }
      let t := t.endBundle none none
      let next := t.pc
      ok ((s.put Reg.SE_GFLT_VALID e 0).setEng e { t with entryPc := next })

/-- STRIP_END (R197): `res`, `dout` and `send` are what the strip has left in the mailbox words that the runtime assigns. -/
def execStripEnd (e : Nat) (res dout : Word) (send : Nat) (s : State) : Out :=
  if !s.seUp e then ok s
  else
    let t := s.eng e
    match t.strip with
    | none => if t.branch.isSome then ok (s.ctrlIllegal e) else ok (s.setEng e (t.endBundle none none))
    | some (out, n) =>
      if t.branch.isSome ∨ t.handler.isSome then ok (s.ctrlIllegal e)
      else
        let t := t.endBundle none none
        let t := { t with strip := none, ended := (out, n), done := t.done ++ [(out, n, res, dout, send % 2 ^ 24)] }
        let s := (s.setEng e t).seCapture e out n
        ok (s.foldStickies e)

/-! ## The sample boundary on an engine (R195) -/

/-- SE_PROG_ID of the vendor strip microcode (R672). -/
def vendorId : Nat := 0x56530001

/-- What an engine was doing is abandoned; pending events are accepted from the dispatch entry. -/
def State.seBoundary (e : Nat) (s : State) : State :=
  let t := s.eng e
  if t == ({} : Se) then s
  else
    let used := t.cc - t.cc0
    let s := if s.get Reg.SE_PROG_ID e = vendorId then s
      else (s.put Reg.SE_CC_LAST e (min used 65535)).keepMax Reg.SE_CC_MAX e used
    let again := match t.handler with
      | some h => if t.events.any (·.1 == h.code) then [] else [(h.code, t.cc)]
      | none => []
    let regs := if t.strip.isSome then t.entry else t.regs
    let t := { t with regs := regs, queue := [], ups := [], sticky := 0, zn := none, space := none, branch := none, reps := [],
                      div := none, gather := none, handler := none, iterEnd := false, strip := none, begun := [], done := [],
                      gfault := false, events := again ++ t.events, pc := s.prog.entry, cc0 := t.cc }
    let t := match t.nextEvent with
      | some c => if s.seUp e then t.accept s.prog.vec c else t
      | none => t
    let s := s.setEng e t
    if !s.getB Hdr.RUNNING (0x10 + e) || s.unitDown (seUnit e) then s.seCapture e false 0 else s

/-! ## Plovmo strip images (R202, R203) -/

/-- Control opcodes that must not stand in a delay slot, and those that branch (R183, R185). -/
def restrictedCtrl (c : Nat) : Bool := [0x01, 0x02, 0x03, 0x04, 0x08, 0x09, 0x0C, 0x18, 0x19, 0x1A].contains c
def branchCtrl (c : Nat) : Bool := decide (1 ≤ c ∧ c ≤ 4)

/-- A bundle's fields (R146). -/
def bFmt (b : DWord) : Nat := bits b.toNat 63 63
def bCtrl (b : DWord) : Nat := bits b.toNat 62 56
def bMac (b : DWord) : Nat := bits b.toNat 55 36
def bImm (b : DWord) : Nat := bits b.toNat 35 0

/-- Does the control slot hold a defined encoding (R164, R181, R182)? -/
def ctrlOk (fmt c imm : Nat) : Bool :=
  let only := fun (hi lo : Nat) => imm == withBits 0 hi lo (bits imm hi lo)
  if fmt = 0 then [0x00, 0x04, 0x18, 0x1A].contains c
  else if [0x00, 0x04, 0x18, 0x1A].contains c then imm == 0
  else if c = 0x01 then only 12 0
  else if c = 0x02 then only 16 0 && !bit imm 16
  else if c = 0x03 then only 3 0
  else if c = 0x08 then only 31 0 && bits imm 15 13 == 0
  else if c = 0x09 then only 19 0 && bits imm 15 13 == 0
  else if c = 0x0C then only 35 22 && bits imm 35 34 != 3 && (bits imm 35 34 == 2 || !bit imm 25)
  else if c = 0x10 then true
  else if c = 0x11 ∨ c = 0x12 then only 10 0 && decide (bits imm 10 4 ≤ 8)
  else if c = 0x19 then only 12 0
  else false

/-- Does the MAC slot hold a defined encoding (R149)? -/
def macOk (m : Nat) : Bool :=
  let op := bits m 19 15
  if op = 0 then m == 0
  else if op ≤ 3 then bits m 4 0 == 0
  else if op = 4 then bits m 14 9 == 0 && bits m 4 0 == 0
  else if op ≤ 7 then bits m 10 9 == 0 && bits m 4 0 == 0
  else if op ≤ 0x0B then bits m 2 0 == 0
  else if op ≤ 0x0D then bits m 6 0 == 0
  else if op = 0x11 then bits m 14 11 == 0 && bits m 2 0 == 0
  else if op ≤ 0x1A then bits m 2 0 == 0
  else if op ≤ 0x1E then bits m 4 0 == 0
  else false

/-- Does the AU slot hold a defined encoding (R148)? -/
def auOk (a : Nat) : Bool := bits a 9 8 != 3 && bits a 1 0 == 0

/-- Does a bundle by itself obey R150? -/
def bundleOk (b : DWord) : Bool :=
  ctrlOk (bFmt b) (bCtrl b) (bImm b) && macOk (bMac b) && (bFmt b == 1 || auOk (bits b.toNat 9 0))

/-- The repeats of a program: address and END. -/
def repeatsOf (p : List DWord) : List (Nat × Nat) :=
  (p.zipIdx.filter (fun b => bCtrl b.1 == 0x08 || bCtrl b.1 == 0x09)).map fun b => (b.2, bits (bImm b.1) 12 0)

/-- Does bundle `k` of a program obey R183 and R185 among its neighbours? -/
def placedOk (p : List DWord) (reps : List (Nat × Nat)) (k : Nat) (b : DWord) : Bool :=
  let c := bCtrl b
  let slot := (1 ≤ k && branchCtrl (bCtrl (p.getD (k - 1) 0))) || (2 ≤ k && branchCtrl (bCtrl (p.getD (k - 2) 0)))
  let around := reps.filter (fun r => r.1 < k && decide (k ≤ r.2))
  let rep := c == 0x08 || c == 0x09
  let last := bits (bImm b) 12 0
  !(slot && restrictedCtrl c)
    && (!rep || (decide (k < last) && decide (around.length < 3) && around.all (fun r => decide (last ≤ r.2))))
    && !(branchCtrl c && reps.any (fun r => decide (r.1 < k) && decide (k ≤ r.2) && decide (r.2 ≤ k + 2)))

/-- The first offending bundle of a program. -/
def firstBad (p : List DWord) : Option Nat :=
  let reps := repeatsOf p
  (p.zipIdx.find? (fun b => !(bundleOk b.1 && placedOk p reps b.2 b.1))).map (·.2)

/-- Header words and bundles of an image. -/
def progHeader (image : List Byte) : List Word := (leWords (image.take 64)).map (fun w => BitVec.ofNat 32 w)
def progBundles (image : List Byte) : List DWord :=
  let n := (((progHeader image).getD 2 0).toNat) % 2 ^ 14
  (List.range n).map fun i => BitVec.ofNat 64 (ofLeBytes ((image.drop (64 + 8 * i)).take 8))

/-- Is the header right (R202)? -/
def progHeaderOk (h : List Word) : Bool :=
  let w := fun i => (h.getD i 0).toNat
  w 0 == 0x50534D31 && w 1 != 0 && okUpto 1 8192 (w 2) && bits (w 3) 31 16 == 1
    && [4, 5, 6].all (fun i => decide (w i < 65536)) && decide (w 7 < w 2) && w 8 % 8 == 0 && decide (w 8 + 31 < w 2)
    && decide (w 8 < 8192) && (List.range 6).all (fun i => w (9 + i) == 0)

/-- The status of an image and the index for 0x34 (R203), where the mode allows a load. -/
def progStatus (image : List Byte) : Nat × Nat :=
  let h := progHeader image
  let w := fun i => (h.getD i 0).toNat
  let bs := progBundles image
  if crc32 (image.take 60 ++ (image.drop 64).take (8 * bs.length)) ≠ w 15 ∨ image.length < 64 + 8 * bs.length then (0x31, 0)
  else if !progHeaderOk h then (0x32, 0)
  else if !(okUpto 1 290 (w 4) && okUpto 1 290 (w 5) && okUpto 1 256 (w 6)) then (0x33, 0)
  else match firstBad bs with
  | some k => (0x34, k)
  | none => (0, 0)

/-- May a program be loaded now (R203)? -/
def State.progMode (s : State) : Bool := s.opMode == 1 || s.opMode == 2 || s.opMode == 5

end Sys2Proof.Machine
end

