-- ==== Sys2Proof/Machine/Metering.lean ====
section
/-! DEFINITION. Metering and Eyepiece taps (R243 to R250). -/

namespace Sys2Proof.Machine

def meterPage : Nat := 0x046
def eyePage : Nat := 0x047

/-! ## Points (R243, R244) -/

/-- Fields of a point word. -/
def mpKind (w : Nat) : Nat := bits w 31 28
def mpTap (w : Nat) : Nat := bits w 27 24
def mpIndex (w : Nat) : Nat := bits w 11 0

/-- The sample at a level point in the period just ended. -/
def State.pointSample (s : State) (w : Nat) : Word :=
  let i := mpIndex w
  match mpKind w with
  | 1 => (s.inStrip i).taps.getD (mpTap w) 0
  | 2 => (s.outStrip i).taps.getD (mpTap w) 0
  | 3 => (tget {} s.dp.src i).cur
  | 4 => tget 0 s.dp.egrNow i
  | 5 => ingress24 (tget 0 s.dp.rets i)
  | _ => 0

/-- The value at a gain point (taps 8 to 10). -/
def State.pointGain (s : State) (w : Nat) : Nat :=
  let i := mpIndex w
  if mpKind w = 2 then s.get Reg.OUTR_LIM_GR i
  else if mpTap w = 8 then s.get Reg.INR_GATE_GR i
  else if mpTap w = 9 then s.get Reg.INR_COMP_GR i
  else s.get Reg.INR_AM i

/-- Add the present period's sample to a point. -/
def State.meterAdd (s : State) (m : Meter) : Meter :=
  if mpTap m.word < 8 then
    let x := (s.pointSample m.word).toInt.natAbs
    { m with peak := max m.peak x, sumSq := m.sumSq + x * x }
  else
    let v := s.pointGain m.word
    let am := mpKind m.word == 1 && mpTap m.word == 10
    let worst := if am then (if sx 16 v < sx 16 m.worst then v else m.worst) else max m.worst v
    { m with last := v, worst := worst }

/-- A ratio in hundredths of a dB, with 10 log10 (`half`) or 20 log10 of n/d, to the nearest. DESIGN CHOICE (log entry 60). -/
def levelOf (half : Bool) (n d : Nat) : Nat :=
  let (q, off) : (Int × Nat) × Int :=
    if n * 10 ^ 9 < d then (linToDb (n * 10 ^ 18) d, 36000) else (linToDb (n * 1000) d, 6000)
  unsx 16 (roundHalfEven (q.1 - off * q.2) (q.2 * (if half then 2 else 1)))

/-- The entry of a point over `n` samples (R244): full scale is 2^27. -/
def meterEntry (n : Nat) (m : Meter) : Nat :=
  if mpKind m.word = 0 then 0
  else if mpTap m.word < 8 then
    if m.peak = 0 then 0x80008000
    else levelOf false m.peak (2 ^ 27) * 65536 + levelOf true m.sumSq (n * 2 ^ 54)
  else m.worst % 65536 * 65536 + m.last % 65536

/-! ## Frames (R245 to R248) -/

/-- Frame length in samples (R245). -/
def frameLen (frate rate : Nat) : Nat := 1920 / 2 ^ frate * 2 ^ rate

/-- TS32 of the last boundary. -/
def State.boundaryTs32 (s : State) : Nat := ts32Of (s.ptp.thirdsAt (s.clk.cclkFloor s.clk.pos))

/-- A frame begins: its settings and points take effect. -/
def State.meterStart (s : State) : State :=
  let base := s.get Reg.MTR_BASE_HI * 2 ^ 32 + s.get Reg.MTR_BASE_LO * 32
  let slots := s.get Reg.MTR_SLOTS
  let f := s.dp.frame
  let s := if f.base = base ∧ f.slots = slots then s else (s.put0 Reg.MTR_WR 0).put0 Reg.MTR_RD 0
  let ts := s.boundaryTs32
  let points : Tbl Meter := (s.keysIn 0x540000 0x544000).map fun k =>
    let w := (s.word k).toNat
    ((k - 0x540000) / 4, { word := w, worst := if mpKind w = 1 ∧ mpTap w = 10 then 0x7FFF else 0 })
  let frate := s.get Reg.MTR_FRATE
  s.modDp fun d =>
    { d with frame := { d.frame with running := true, count := 0, ts32 := ts, sel := frate, base := base, slots := slots },
             meters := points }

/-- Is a ring full (R246)? -/
def ringFull (wr rd slots : Nat) : Bool := (wr + slots - rd % slots) % slots == slots - 1

/-- A frame ends (R245, R246, R248): it is written or discarded, and the next one begins. -/
def State.meterEnd (s : State) (change : Bool) : State :=
  let f := s.dp.frame
  let slots := max 1 f.slots
  let wr := s.get Reg.MTR_WR
  let full := ringFull wr (s.get Reg.MTR_RD) slots
  let entries := (List.range 4096).map fun p => meterEntry f.count (tget {} s.dp.meters p)
  let w2 := f.count % 2 ^ 14 + s.rate * 2 ^ 16 + f.sel * 2 ^ 20 + change.toNat * 2 ^ 24 + f.discont.toNat * 2 ^ 25
  let head := [f.seq, f.ts32, w2, 0x1000, 0, 0, 0, 0]
  let (s, wrote) := if full then (s, false) else s.hostWrite (f.base + 16416 * wr) (wordBytes (head ++ entries))
  let s := if wrote then (s.put0 Reg.MTR_WR ((wr + 1) % slots)).irq Reg.MTR_IRQ_FRAME
    else (s.pageErr meterPage).irq Reg.MTR_IRQ_DROP
  let s := s.put0 Reg.MTR_SEQ (f.seq + 1)
  let s := s.modDp fun d => { d with frame := { d.frame with seq := (f.seq + 1) % 2 ^ 32, discont := !wrote } }
  let s := forEach (fun e s => s.seEvent 3 e) s.runningEngines s
  if s.getB Reg.MTR_EN then s.meterStart else s.modDp fun d => { d with frame := { d.frame with running := false } }

/-- The frame in progress has all its samples. -/
def State.meterDue (s : State) : Bool := s.dp.frame.running && decide (frameLen s.dp.frame.sel s.rate ≤ s.dp.frame.count)

/-- METER_FRAME_BOUNDARY (R245, R246). -/
def execMeterFrameBoundary (s : State) : Out := ok (if s.meterDue then s.meterEnd false else s)

/-- The present period's samples join the frame. -/
def State.meterPeriod (s : State) : State :=
  if !s.dp.frame.running then s
  else s.modDp fun d =>
    { d with frame := { d.frame with count := d.frame.count + 1 }, meters := d.meters.map fun p => (p.1, s.meterAdd p.2) }

/-- EN at a boundary: a frame begins, or the frame in progress is dropped. -/
def State.meterEnable (s : State) : State :=
  if s.getB Reg.MTR_EN && !s.dp.frame.running then s.meterStart
  else if !s.getB Reg.MTR_EN && s.dp.frame.running then s.modDp fun d => { d with frame := { d.frame with running := false } }
  else s

/-- MTR_RD_SET (R246). -/
def execMtrRdSet (v : Word) (s : State) : Out := s.atPage 0x46 fun s => ok (s.put0 Reg.MTR_RD (bits v.toNat 10 0))

/-! ## Eyepiece taps (R249, R250) -/

/-- State of a tap. -/
def State.eye (s : State) (t : Nat) : Frame := tget {} s.dp.eyes t
def State.setEye (s : State) (t : Nat) (f : Frame → Frame) : State := s.modDp fun d => { d with eyes := tmod {} d.eyes t f }

/-- The point word of a tap. -/
def State.eyeWord (s : State) (t : Nat) : Nat := s.get Reg.EYE_SEL_KT t * 2 ^ 24 + s.get Reg.EYE_SEL_IX t

/-- A block begins. -/
def State.eyeStart (s : State) (t : Nat) : State :=
  let base := s.get Reg.EYE_BASE_HI t * 2 ^ 32 + s.get Reg.EYE_BASE_LO t * 16
  let slots := s.get Reg.EYE_SLOTS t
  let f := s.eye t
  let s := if f.base = base ∧ f.slots = slots then s else (s.put Reg.EYE_WR t 0).put Reg.EYE_RD t 0
  let ts := s.boundaryTs32
  let w := s.eyeWord t
  s.setEye t fun f => { f with running := true, count := 0, data := [], ts32 := ts, sel := w, base := base, slots := slots }

/-- A tap's mode has been set, or its point moved (R250). -/
def State.eyeMode (s : State) (t : Nat) : State :=
  let m := s.get Reg.EYE_MODE t
  if m = 0 then s.setEye t fun f => { f with running := false, data := [], count := 0 }
  else
    let n := s.get Reg.EYE_BLOCKS t
    (s.setEye t fun f => { f with left := if m = 2 then n else 0 }).eyeStart t

/-- A tap's point has moved (R250): a new block starts at the Meridian. -/
def State.eyePoint (s : State) (t : Nat) : State := if (s.eye t).running then s.eyeStart t else s

/-- A block ends (R249, R250): it is written or discarded; the last of a one-shot returns the tap to MODE 0. -/
def State.eyeEnd (s : State) (t : Nat) (change : Bool) : State :=
  let f := s.eye t
  let slots := max 1 f.slots
  let wr := s.get Reg.EYE_WR t
  let w2 := f.count % 512 + s.rate * 2 ^ 16 + change.toNat * 2 ^ 24 + f.discont.toNat * 2 ^ 25
  let bytes := wordBytes ([f.seq, f.ts32, w2, 0] ++ f.data.map (·.toNat))
  let (s, wrote) := if ringFull wr (s.get Reg.EYE_RD t) slots then (s, false) else s.hostWrite (f.base + 1040 * wr) bytes
  let s := if wrote then (s.put Reg.EYE_WR t ((wr + 1) % slots)).setBitOf Reg.EYE_IRQ_BLOCK 0 t true
    else (s.pageErr eyePage).setBitOf Reg.EYE_IRQ_DROP 0 t true
  let once := s.get Reg.EYE_MODE t == 2
  let s := s.setEye t fun f => { f with seq := (f.seq + 1) % 2 ^ 32, discont := !wrote, left := f.left - 1, data := [], count := 0 }
  if once && (s.eye t).left == 0 then
    let s := (s.put Reg.EYE_MODE t 0).setBitOf Reg.EYE_IRQ_DONE 0 t true
    s.setEye t fun f => { f with running := false }
  else s.eyeStart t

/-- EYE_BLOCK_END (R249): a tap has 256 samples. -/
def execEyeBlockEnd (t : Nat) (s : State) : Out :=
  ok (if t < 8 && (s.eye t).running && decide (256 ≤ (s.eye t).count) then s.eyeEnd t false else s)

/-- The present period's sample joins each running tap's block. -/
def State.eyePeriod (s : State) : State :=
  forRange (fun t s => if (s.eye t).running then
      let x := s.pointSample (s.eye t).sel
      s.setEye t fun f => { f with count := f.count + 1, data := f.data ++ [x] }
    else s) 0 8 s

/-- Frames and blocks whose end has not been commanded end before the next period's samples join. DESIGN CHOICE (log entry 4). -/
def State.meterOverdue (s : State) : State :=
  let s := if s.meterDue then s.meterEnd false else s
  forRange (fun t s => if (s.eye t).running && decide (256 ≤ (s.eye t).count) then s.eyeEnd t false else s) 0 8 s

/-- The frame and the blocks in progress close at a rate-mode switch (R248). -/
def State.meterRateChange (s : State) : State :=
  let s := if s.dp.frame.running && s.dp.frame.count != 0 then s.meterEnd true else s
  forRange (fun t s => if (s.eye t).running && (s.eye t).count != 0 then s.eyeEnd t true else s) 0 8 s

/-- EYE_RD_SET (R250). -/
def execEyeRdSet (t : Nat) (v : Word) (s : State) : Out := s.atPage 0x47 fun s => ok (if t < 8 then s.put Reg.EYE_RD t (bits v.toNat 11 0) else s)

end Sys2Proof.Machine
end

