-- ==== Sys2Proof/Machine/RegEffect.lean ====
section
/-! DEFINITION. What follows when moves take effect on registers and stream entries (R33, R253), the soft reset of each page (R536),
and the end of a scene image load that something else cuts short. -/

namespace Sys2Proof.Machine

/-! ## Image loads that end early (R265, R270, R287) -/

/-- Release the check-value unit that a load claimed (R521). -/
def State.cvuRelease (s : State) (u : Nat) : State :=
  ((s.put Reg.CVU_CLAIMED u 0).put Reg.CVU_EN u 0).bumpEpoch (0xBC + u)

/-- Finish a register or ring command of the scene engine: its slot, status and first-failure index (R285, R548). -/
def State.scnDone (s : State) (who : Origin) (slot status index : Nat) : State := match who with
  | .ring q => s.ringEnd q slot status index
  | .reg p =>
    let s := ((s.putP p Reg.SCNC_CMD_BUSY 0 0).putP p Reg.SCNC_CMD_DONE 0 1).putP p Reg.SCNC_STAT_SLOT 0 slot
    (s.putP p Reg.SCNC_CMD_STATUS 0 status).putP p Reg.SCNC_CMD_INDEX 0 index

/-- End the image load, its check-value unit released and its command answered. DEDUCED (log entry 84). -/
def State.loadEnd (s : State) (status index : Nat) : State := match s.scn.load with
  | none => s
  | some l =>
    let s := (if l.closing then s else s.cvuRelease l.cvu).modScn fun x => { x with load := none }
    (s.irq Reg.SCN_IRQ_IMG_DONE).scnDone l.who l.slot status index

/-- The load of a slot that is taken away ends with this status. DEDUCED (log entry 84). -/
def State.loadCut (s : State) (slot status : Nat) : State :=
  if s.scn.load.any (·.slot == slot) then (s.progressStop 0x50).loadEnd status 0 else s

/-! ## Soft reset (R536 and the owning chapters) -/

/-- Event counters of the register tables: a soft reset clears them. -/
def counterFlds : List Fld :=
  [Reg.GLOBAL_BAD_ACCESS, Reg.HOSTQ_RING_GAP_CNT, Reg.HOSTQ_RING_DUP_CNT, Reg.HOSTQ_RING_DONE_CNT,
   Reg.SCN_LIVE_CNT, Reg.SCN_LIVE_MERGED, Reg.SCN_LIVE_REFUSED, Reg.SCN_LATE_CNT, Reg.SCNQ_CUE_CNT, Reg.SCNQ_CUE_IDLE,
   Reg.EPH_FIRED, Reg.EPH_REFUSED, Reg.EPH_STEPPED,
   Reg.HEL_SWITCH_CNT, Reg.HEL_TRANS_CNT, Reg.HEL_REJ_CNT, Reg.HEL_ACC_CNT,
   Reg.TIME_TXTS_LOST, Reg.TIME_MEAS_CNT, Reg.TIME_REJ_CNT,
   Reg.NET_RX_FRAMES, Reg.NET_RX_FCS_ERR, Reg.NET_RX_DROP, Reg.NET_TX_FRAMES, Reg.NET_LINK_DOWN_CNT, Reg.NET_HOST_RX_DROP,
   Reg.NETR_RING_GAP_CNT, Reg.NETR_RING_DUP_CNT,
   Reg.RXS_RX_PKTS_A, Reg.RXS_RX_PKTS_B, Reg.RXS_RX_LOST_A, Reg.RXS_RX_LOST_B, Reg.RXS_RX_DISCARD, Reg.RXS_RX_DUP,
   Reg.RXS_RX_LATE, Reg.RXS_RX_UNDERRUN,
   Reg.TXS_TX_PKTS, Reg.TXS_TX_LATE, Reg.TXS_TX_CLIP, Reg.TXS_TX_MUTED, Reg.TXS_TX_DROP,
   Reg.AESRX_PAR_ERR, Reg.AESRX_CRC_ERR, Reg.AESRX_BLK_ERR, Reg.AESRX_SLIP, Reg.MADI_PAR_ERR, Reg.MADI_SYM_ERR, Reg.MADI_SLIP,
   Reg.TDM_FS_ERR, Reg.TDM_RX_SLIP, Reg.TDM_TX_SLIP,
   Reg.LANE_ERR_LO, Reg.LANE_ERR_HI, Reg.LANE_BITS, Reg.LANE_CHK_RELOCK,
   Reg.KZL_CRC_ERR, Reg.KZL_GAP, Reg.KZL_DUP, Reg.KZL_RTX, Reg.KZL_TIMEOUT, Reg.KZL_DOWN_CNT, Reg.KZL_ALIGN_FAIL,
   Reg.STBY_CHK_WINDOWS, Reg.STBY_CHK_MISS, Reg.STBY_RESEEDS, Reg.STBY_HANDOVERS, Reg.STBY_REC_BAD,
   Reg.MEM_CORR, Reg.MEM_UNCORR, Reg.MEM_SCRUB_PASSES, Reg.MEM_CONFLICT, Reg.DRAM_CORR, Reg.DRAM_UNCORR,
   Reg.ARB_HOLD_CUT, Reg.ARB_LOCK_BREAK, Reg.ARB_DECODE_ERR, Reg.OWN_PASSES, Reg.OWN_UNITS, Reg.OWN_STALLS,
   Reg.FLT_PASS, Reg.FLT_FAIL, Reg.FLTS_TOTAL, Reg.PWR_WAKE_CNT, Reg.SUP_WARN_CNT]

/-- The bits of a field's instance within a word. -/
def fldMask (f : Fld) : Nat := (2 ^ fldWidth f - 1) * 2 ^ f.lo

/-- The bits of a word that a clearing of W1C bits, and of counters, clears. DEDUCED (log entry 22). -/
def clearMask (w1c cnt : Bool) (a : Nat) : Nat :=
  let off := a % 4096
  let own := (fieldsAt a).filter (·.acc == .w1c)
  let counted := counterFlds.filter (fun f => atField f a)
  ((if w1c then own else []) ++ (if cnt then counted else [])).foldl (fun m f => m ||| fldMask f) 0 |||
    (if (w1c && off == 0x10) || (cnt && off == 0x18) then 0xFFFFFFFF else 0)

/-- Clear a page's W1C bits, its counters, or both, the frozen copies with them (R537). -/
def State.clearPage (s : State) (page : Nat) (w1c cnt : Bool) : State :=
  forEach (fun a s =>
    let m := clearMask w1c cnt a
    let v := (s.word a).toNat
    (s.setWord a (BitVec.ofNat 32 (v - (v &&& m)))).thaw a m) (s.keysIn (4096 * page) (4096 * page + 4096)) s

/-- A soft reset of page 0x050 (R295). -/
def State.scnReset (s : State) : State :=
  let s := forRange (fun i s =>
    if s.slotState i ≠ 0 ∧ s.slotState i ≠ 5 then (s.endSlot i 0).loadCut i Scs.SLOT_STATE else s) 0 16 s
  let s := s.modScn fun x => { x with live := [] }
  (s.freeBufs clsStage 0x410).showScn.clearPage 0x50 false true

/-- A soft reset of HOSTQ (R557). -/
def State.hostqReset (s : State) : State :=
  if (List.range 4).any (fun q => s.getB Reg.HOSTQ_EN q) then s
  else
    let s := forRange (fun q s =>
      let s := ((s.put Reg.HOSTQ_RING_EXPECT q 0).put Reg.HOSTQ_CPL_WR q 0).put Reg.HOSTQ_CPL_RD q 0
      s.setHostRing q fun r => { r with records := [] }) 0 4 s
    (s.clearPage hostqPage true true).bumpEpoch hostqPage

/-- A page's soft reset (R536). SE, BC and MODE pages ignore it. DEDUCED (log entry 85). -/
def State.softReset (s : State) (page : Nat) : State :=
  if (blockOf page).isNone || (0x10 ≤ page && page ≤ 0x31) || page == 0xC0 || page == 0xC1 || page == 0x01 then s
  else if page = hostqPage then s.hostqReset
  else
    let s := s.bumpEpoch page
    if (0x40 ≤ page && page ≤ 0x47) || (0x60 ≤ page && page ≤ 0x64) || page == 0x75 then s.clearPage page true false
    else if page = 0x50 then s.scnReset
    else if page = 0x54 then (s.ephDrop isCueOut).clearPage page false true
    else if page = 0x70 ∨ page = 0x71 then
      let s := (s.clearPage 0x70 true true).clearPage 0x71 true true
      let s := { s with regs := s.regs.filter (fun p => !(atField Reg.HELLOG_LOG_TS p.1 || atField Reg.HELLOG_LOG_EVT p.1)) }
      (s.put0 Reg.HELLOG_LOG_WR 0).put0 Reg.HELLOG_LOG_SEQ 0
    else if page = 0x74 then ((s.clearPage page true true).modPtp fun p => { p with txts := [] }).showTxts
    else if page = 0xA0 then { s.clearPage page true true with lanes := [] }
    else if page = 0xB9 then
      (s.clearPage page true true).modMem fun m => { m with cnt := m.cnt.map fun p => (p.1, { inWin := p.2.inWin : ArbCnt }) }
    else if page = 0xD3 then
      let s := s.clearPage page true true
      ({ s with regs := s.regs.filter (fun p => !atField Reg.FLTL_LOG p.1) }).put0 Reg.FLTL_LOG_WR 0
    else s.clearPage page true true

/-- SOFT_RESET (R536): a write of 1 to PG_CTRL[1] of a page whose writes do not pass the gate; a gated page's reset is the effect of
its move. DEDUCED (log entry 85). -/
def State.softResetNow (s : State) (p : Plane) (page : Nat) : State :=
  if gated page || (decide (0xF00 ≤ page) && p == .host) || s.pageDark page then s else (s.wakeFor page).softReset page

/-! ## Moves on registers (R33, R253) -/

/-- The fields that enable a unit or a part of one: a change is a state change of the unit (R46). -/
def enableFlds : List Fld :=
  [Reg.FAB_EN, Reg.MTR_EN, Reg.AESRX_EN, Reg.AESTX_EN, Reg.MADI_RX_EN, Reg.MADI_TX_EN, Reg.TDM_RX_EN, Reg.TDM_TX_EN, Reg.PMUX_EN,
   Reg.KZL_EN]

/-- The bits of a word that enable something. -/
def enableMask (a : Nat) : Nat := (enableFlds.filter (fun f => atField f a)).foldl (fun m f => m ||| fldMask f) 0

/-- What follows from a committed move on one register: `old` and `new` are its words before and after.
DEDUCED (log entry 20). DESIGN CHOICE (log entry 21). DEDUCED (log entry 59). -/
def State.regEffect (s : State) (m : SMove) (old new : Nat) : State :=
  let a := m.target.addr
  let page := a / 4096
  if a % 4096 = 0x008 then
    let s := (s.putB Hdr.FREEZE page (bit old 2)).freezePage page (bit m.value 2)
    if bit m.value 1 then s.softReset page else s
  else if atField Reg.FAB_EN a then s.cascShow
  else if atField Reg.EYE_MODE a then match fldIdx? Reg.EYE_MODE a with
    | some t => if movedField Reg.EYE_MODE old ≠ movedField Reg.EYE_MODE new ∨ movedField Reg.EYE_MODE new = 2 then s.eyeMode t else s
    | none => s
  else if atField Reg.EYE_SEL_KT a then match fldIdx? Reg.EYE_SEL_KT a with
    | some t => if old = new then s else s.eyePoint t
    | none => s
  else if 0x90 ≤ page ∧ page ≤ 0x97 then s.portMoved a old new
  else if atField Reg.LANE_PRBS_GEN a then match fldIdx? Reg.LANE_PRBS_GEN a with
    | some l =>
      let s := if movedField Reg.LANE_PRBS_CLR m.value = 1 then (s.prbsClr l).put Reg.LANE_PRBS_CLR l 0 else s
      let s := if movedField Reg.LANE_PRBS_CHK new = 0 then s.put Reg.LANE_CHK_LOCK l 0 else s
      if 2 ≤ l ∧ l < 6 ∧ movedField Reg.LANE_PRBS_GEN new = 1 ∧ s.host.linkUp then s.hostIfReset true false else s
    | none => s
  else if atField Reg.KZL_EN a then match fldIdx? Reg.KZL_EN a with
    | some k => if movedField Reg.KZL_EN old = movedField Reg.KZL_EN new then s else s.kzlEn k (movedField Reg.KZL_EN new == 1)
    | none => s
  else s

/-- What follows from one committed move; `before` is the state before the moves of this Meridian. -/
def State.moveEffect (before : State) (m : SMove) (s : State) : State :=
  let old := (before.word (targetKey m.target)).toNat
  let new := (s.word (targetKey m.target)).toNat
  if m.target.kind = 2 then s.regEffect m old new
  else if m.target.kind = 0 ∧ 0x600000 ≤ m.target.addr ∧ m.target.addr < 0x604000 ∧ m.target.addr % 32 = 0 then
    s.streamMoved (decide (0x602000 ≤ m.target.addr)) ((m.target.addr % 0x2000) / 32) old new
  else s

/-- What follows from the moves that took effect at one Meridian: each unit whose enables change counts one state change (R47). -/
def State.moveEffects (s before : State) (done : List SMove) : State :=
  let pages := done.filterMap fun m =>
    if m.target.kind = 2 ∧ ((before.word m.target.addr).toNat ^^^ (s.word m.target.addr).toNat) &&& enableMask m.target.addr ≠ 0 then
      some (unitPage (m.target.addr / 4096)) else none
  let s := forEach (fun p s => s.bumpEpoch p) (distinct pages) s
  forEach (State.moveEffect before) done s

end Sys2Proof.Machine
end

