-- ==== Sys2Proof/Machine/Health.lean ====
section
/-! DEFINITION. What START, the shutdown sequence and the management plane share: the flash, health records (R634), the clearing of the
key store (R581), spare rows (R637) and the power domains in bulk (R584 to R586). -/

namespace Sys2Proof.Machine

/-! ## Flash (R570) -/

/-- Bytes of the flash; an erased byte reads 0xFF. -/
def State.flashRead (s : State) (off n : Nat) : List Byte := tgets 0xFF s.mgmt.flash off n

/-- Erase a range. -/
def State.flashErase (s : State) (off n : Nat) : State :=
  s.modMgmt fun m => { m with flash := m.flash.filter fun p => p.1 < off || off + n ≤ p.1 }

/-- Program bytes: each programmed byte takes the bits that are 0 in both. -/
def State.flashProgram (s : State) (off : Nat) (d : List Byte) : State :=
  s.modMgmt fun m => { m with flash := (d.zipIdx).foldl (fun f p => tmod 0xFF f (off + p.2) (· &&& p.1)) m.flash }

/-! ## Health records (R632, R634) -/

/-- Sector of a health record. -/
def healthSector (i : Nat) : Nat := 0x20000 + 4096 * (i % 16)

/-- The health record in a sector, if its MAGIC and CHECK are right. -/
def State.healthAt (s : State) (i : Nat) : Option Health :=
  let b := s.flashRead (healthSector i) 256
  let w := fun k => (leWords b).getD k 0
  if w 0 ≠ 0x484C5448 ∨ crc32 (b.take 252) ≠ w 63 then none
  else
    let rows := (List.range (min 54 (w 6 % 64))).map (fun k => w (8 + k))
    some { seq := w 1, kind := w 2 % 4, good := bit (w 2) 8, timeValid := bit (w 2) 9, full := bit (w 2) 10,
           sec := w 3 + 2 ^ 32 * (w 4 % 65536), logicFail := w 5 % 2 ^ 17,
           rows := (rows.filter (bit · 31)).map (fun v => (bits v 21 16, bits v 9 0)), uptime := w 7 }

/-- Is sequence number `a` after `b`, in serial arithmetic? -/
def serialAfter (a b : Nat) : Bool := let d := (a + 2 ^ 32 - b % 2 ^ 32) % 2 ^ 32; d != 0 && decide (d < 2 ^ 31)

/-- The newest health record and its sector. -/
def State.newestHealth (s : State) : Option (Nat × Health) :=
  (List.range 16).foldl (fun best i => match s.healthAt i, best with
    | none, b => b
    | some h, none => some (i, h)
    | some h, some (j, k) => if serialAfter h.seq k.seq then some (i, h) else some (j, k)) none

/-- GLOBAL_UPTIME now. -/
def State.uptime (s : State) : Nat := min (s.clk.now / 3000000000) (2 ^ 32 - 1)

/-- Write a health record after the newest (R634). With none in the flash its sector and SEQ are free values.
DESIGN CHOICE (log entry 89). -/
def State.healthWrite (s : State) (kind : Nat) (good full : Bool) (logicFail : Nat) (rows : List (Nat × Nat)) : State :=
  let (v, s) := s.draw
  let (sector, seq) := match s.newestHealth with
    | some (i, h) => (i + 1, (h.seq + 1) % 2 ^ 32)
    | none => (v, v / 16 % 2 ^ 32)
  let tv := s.ptp.valid
  let sec := if tv then secOf s.thirds else 0
  let rows := rows.take 54
  let words := [0x484C5448, seq, kind + 256 * good.toNat + 512 * tv.toNat + 1024 * full.toNat, sec % 2 ^ 32, sec / 2 ^ 32 % 65536,
    logicFail % 2 ^ 17, rows.length, s.uptime] ++ rows.map (fun r => 2 ^ 31 + r.1 % 64 * 2 ^ 16 + r.2 % 1024) ++
    List.replicate (55 - rows.length) 0
  let body := wordBytes words
  (s.flashErase (healthSector sector) 4096).flashProgram (healthSector sector) (body ++ leBytes 4 (crc32 body))

/-! ## The key store clears (R581) -/

/-- The key store zeroes the keys, the licence words and KEY_NEW, sets CLEARED and closes the device key's read path. -/
def State.keyClear (s : State) : State :=
  let s := s.modMgmt fun m => { m with keys := { m.keys with key0 := none, key1 := none, closed := true } }
  let s := ((s.put0 Reg.KEY_CLEARED 1).put0 Reg.KEY_LOADED0 0).put0 Reg.KEY_LOADED1 0
  forRange (fun i s => (s.put Reg.KEY_LIC_FEAT i 0).put Reg.KEY_NEW i 0) 0 8 s

/-- The unit that stands for a domain in BIST_FAIL events: the first unit it holds. DEDUCED (log entry 30). -/
def domainUnit (d : Nat) : UnitId :=
  { page := if d = 1 then 0x10 else if d = 2 then 0x21 else if d = 3 then 0x40 else if 4 ≤ d ∧ d ≤ 11 then 0xB0 + (d - 4)
      else if d = 12 then 0x80 else if d = 13 then 0x90 else if d = 14 then 0xA1 else if d = 15 then 0xB8 else if d = 16 then 0xC0 else 0 }

/-- The failing partitions of a self-check (R631): BIST_FAIL_MAP, and BIST_FAIL for each. DEDUCED (log entry 30). -/
def State.bistFail (s : State) (map : Nat) : State :=
  forRange (fun d s => if bit map d then s.raise Src.BIST_FAIL (domainUnit d) else s) 0 17 (s.put0 Reg.BIST_FAIL_MAP map)

/-! ## Spare rows (R637) -/

/-- The lowest spare row of a bank that no repair uses. -/
def State.spareRow (s : State) (bank : Nat) : Option Nat :=
  (List.range 16).find? fun k => s.mgmt.repairs.all fun r => !(r.bank == bank && r.spare == k)

/-- Do failing rows fit the spare rows that remain? -/
def State.rowsFit (s : State) (rows : List (Nat × Nat)) : Bool :=
  (List.range 64).all fun b =>
    decide ((rows.filter (·.1 == b)).length + (s.mgmt.repairs.filter (·.bank == b)).length ≤ 16)

/-- Show the repairs of every bank (page 0x0D6). -/
def State.showRepairs (s : State) : State :=
  let s := forRange (fun b s =>
    let map := fun (fused : Bool) => (List.range 16).foldl (fun v k =>
      if s.mgmt.repairs.any (fun r => r.bank == b && r.spare == k && r.fused == fused) then v + 2 ^ k else v) 0
    (s.put Reg.REP_FUSED b (map true)).put Reg.REP_SOFT b (map false)) 0 64 s
  let s := s.put0 Reg.REP_SOFT_CNT (s.mgmt.repairs.filter (!·.fused)).length
  s.put0 Reg.REP_WITHHELD (s.mgmt.withheld.filter (8 ≤ ·.1)).length

/-- A failing row takes a spare; with none left REPAIR_FAIL is raised, and the row is withheld where `hold` asks for it. A row that a
health record lists (`listed`) and that has its repair needs no other; a row found failing again has a failing spare.
DEDUCED (log entry 47). -/
def State.repairRow (hold listed : Bool) (r : Nat × Nat) (s : State) : State :=
  if listed && s.mgmt.repairs.any (fun x => x.bank == r.1 && x.row == r.2) then s
  else match s.spareRow r.1 with
  | some k => s.modMgmt fun m => { m with repairs := m.repairs ++ [{ bank := r.1, row := r.2, spare := k, fused := false }] }
  | none =>
    let s := (s.raise Src.REPAIR_FAIL { page := 0xB0 + r.1 / 8, index := 1024 * (r.1 % 8) + r.2 }).irq Reg.REP_IRQ_REPAIR_FAIL
    if hold then s.modMgmt fun m => { m with withheld := if m.withheld.contains r then m.withheld else m.withheld ++ [r] } else s

/-! ## Domains in bulk (R584 to R586) -/

/-- Every domain ON, in the order of R584; PARK_N is released. -/
def State.domainsOn (s : State) : State :=
  let s := forEach (fun d s => s.setDom d 3) ([4, 5, 6, 7, 8, 9, 10, 11, 15, 3, 1, 2, 16, 12, 13, 14] : List Nat) s
  s.modPwr fun p => { p with parkN := false, waking := [] }

/-- The contents of an SRAM group that loses its power. DESIGN CHOICE (log entry 14). -/
def State.dropSram (s : State) (g : Nat) : State :=
  s.modMem fun m => { m with sram := m.sram.filter fun p => p.1 / 0x800000 != g }

/-- The state of PD_SRAM0 in PARK by PARK_SRAM0 (R586). DEDUCED (log entry 24). -/
def State.parkSram0 (s : State) : State :=
  let v := s.get Reg.PWR_PARK_SRAM0
  if v = 1 then s.setDom 4 1 else if v = 2 then (s.setDom 4 0).dropSram 0 else s.setDom 4 3

/-- Power goes down for PARK, in the reverse order (R585, R586); memory without power loses its contents. DESIGN CHOICE (log entry 14). -/
def State.domainsOff (s : State) : State :=
  let s := forEach (fun d s => s.setDom d 0) ([14, 13, 12, 16, 2, 1, 3, 15, 11, 10, 9, 8, 7, 6, 5] : List Nat) s
  let s := (forRange (fun g s => s.dropSram g) 1 7 s).modMem fun m => { m with dram := [], bufs := [], passes := [], reqs := [], locks := [], broken := [] }
  (s.parkSram0.showPasses).modPwr fun p => { p with parkN := true, waking := [] }

end Sys2Proof.Machine
end

