-- ==== Sys2Proof/Machine/SceneCmd.lean ====
section
/-! DEFINITION. The commands of the scene engine (R264 to R276, R284 to R293): slots, images, move ports, live writes, the cutoff and the
word query. -/

namespace Sys2Proof.Machine

/-! ## Command arguments (R284, R285, R548) -/

/-- A scene command as it is served: who issued it, its slot field and ARG0 to ARG3. -/
structure ScnCmd where
  who  : Origin
  slot : Nat
  a0   : Nat
  a1   : Nat
  a2   : Nat
  a3   : Nat

/-- Take up a command. A register command reads its plane's SCN_ARG words and sets BUSY; while BUSY = 1 it is refused with BAD_ARG. A
ring command is the descriptor the ring is executing. -/
def State.scnTake (s : State) (who : Origin) (op slot : Nat) : Option ScnCmd × State := match who with
  | .ring q => match s.ringCmd q 0x10 with
    | some c =>
      if bits (c.a 0) 3 0 = op then
        (some { who := who, slot := bits (c.a 0) 8 4, a0 := c.a 1, a1 := c.a 2, a2 := c.a 3, a3 := c.a 4 }, s.ringBegan q)
      else (none, s)
    | none => (none, s)
  | .reg p =>
    if s.pageDark 0x51 then (none, s)
    else if s.getP p Reg.SCNC_CMD_BUSY = 1 then
      (none, ((s.putP p Reg.SCNC_CMD_DONE 0 1).putP p Reg.SCNC_STAT_SLOT 0 slot).putP p Reg.SCNC_CMD_STATUS 0 Scs.BAD_ARG)
    else
      let arg := fun i => s.getP p Reg.SCNC_ARG i
      (some { who := who, slot := slot % 32, a0 := arg 0, a1 := arg 1, a2 := arg 2, a3 := arg 3 },
       (s.putP p Reg.SCNC_CMD_DONE 0 0).putP p Reg.SCNC_CMD_BUSY 0 1)

/-- Serve a command, unless the mode refuses every command (R270). -/
def State.scnServe (s : State) (who : Origin) (op slot : Nat) (f : ScnCmd → State → Out) : Out :=
  match s.scnTake who op slot with
  | (none, s) => ok s
  | (some c, s) => if s.stagingOff then ok (s.scnDone c.who c.slot Scs.SCN_MODE 0) else f c s

/-! ## Slots: staging and admission (R258, R261, R263, R289) -/

/-- Show the progress of an image load (R289). -/
def State.loadShow (s : State) : State := match s.scn.load with
  | none => s
  | some l =>
    let n := (s.slot l.slot).moves.length
    let pos := ((s.slot l.slot).moves.filter (·.derive == 0)).length
    let pct := if n = 0 then 0 else min 99 (pos * 100 / n)
    ((s.putB Hdr.BUSY 0x50 true).put Hdr.PERCENT 0x50 (max pct (s.get Hdr.PERCENT 0x50))).put Hdr.POSITION 0x50 pos

/-- A slot's moves may all be staged now: it becomes READY or ARMED, and the image load that filled it ends. -/
def State.settled (s : State) (i : Nat) : State :=
  let s := (s.settleSlot i).showSlot i
  if s.scn.load.any (fun l => l.slot == i && l.closing) then
    if s.slotState i = 3 then
      let n := (s.slot i).moves.length
      (s.progress 0x50 false n n).loadEnd 0 0
    else s.loadShow
  else s

/-- In START and MAINT a slot under NEXT commits as soon as it is closed or armed, every move as STEP (R270). -/
def State.commitNow (s : State) (i : Nat) : State :=
  if (s.opMode = 1 ∨ s.opMode = 2) ∧ s.slotState i = 4 ∧ s.get Reg.SLOT_TRIG i = 0 then
    let before := s
    let (s, done) := s.commitAll true ((s.slot i).moves.map fun m => { slot := i, move := m })
    let s := (s.put Reg.SLOT_MERIDIAN i s.ts32).irq Reg.SCN_IRQ_COMMIT
    let s := ((s.put Reg.SLOT_STATE i 0).irq Reg.SCN_IRQ_FREE).setSlot i fun _ => {}
    let s := ((s.freeBufs clsStage (stageOwner i)).showSlot i).showScn
    s.moveEffects before done
  else s

/-- Admit a slot's moves (R261): the status, and the slot DERIVING or ended. -/
def State.closeSlot (s : State) (i : Nat) : Nat × State :=
  let t := s.slot i
  let st := if t.failed ≠ 0 then t.failed else s.admission s.stagedMoves t.moves
  if st ≠ 0 then (st, (s.countRefusal st).endSlot i st)
  else (0, (forEach (fun m s => s.mirrorMove i 0 m) t.moves (s.put Reg.SLOT_STATE i 2)).mirrorSlot 1 i s.idx)

/-- May this trigger kind be attached in the present mode (R270)? -/
def State.trigMode (s : State) (trig : Nat) : Bool :=
  !((s.opMode == 1 || s.opMode == 2) && (trigKind trig == 1 || trigKind trig == 2))

/-! ## Commands -/

/-- OPEN (R284). -/
def execOpenSlot (who : Origin) (s : State) : Out := s.scnServe who 1 0 fun c s =>
  match (List.range 16).find? (fun i => s.slotState i == 0) with
  | none => ok (s.scnDone c.who c.slot Scs.SLOTS_FULL 0)
  | some i =>
    let s := forRange (fun w s => s.setWord (fldAt Reg.SLOT_STATE i + 4 * w) 0) 0 8 s
    let s := (s.put Reg.SLOT_STATE i 1).setSlot i fun _ => {}
    let s := s.allocBuf (openSize (stageOwner i)) clsStage (stageOwner i)
    ok (s.showScn.scnDone c.who i 0 0)

/-- CLOSE (R261, R266, R284): the slot is admitted and its trigger attached. A trigger refused with EPH_FULL or EPH_PAST leaves the
slot under HOLD (R269, R279). DEDUCED (log entry 82). -/
def execClose (who : Origin) (slot : Nat) (s : State) : Out := s.scnServe who 2 slot fun c s =>
  if 16 ≤ c.slot || !trigOk c.a0 c.a2 c.a3 then ok (s.scnDone c.who c.slot Scs.BAD_ARG 0)
  else if s.slotState c.slot ≠ 1 then ok (s.scnDone c.who c.slot Scs.SLOT_STATE 0)
  else if !s.trigMode c.a0 then ok (s.scnDone c.who c.slot Scs.SCN_MODE 0)
  else
    let (st, s) := s.closeSlot c.slot
    if st ≠ 0 then ok ((s.loadCut c.slot Scs.SLOT_STATE).scnDone c.who c.slot st 0)
    else
      let s := s.loadCut c.slot Scs.SLOT_STATE
      let (st, s) := s.attach c.slot c.a0 (statedTime c.a1 c.a2 c.a3)
      let s := if st = 0 then s else s.put Reg.SLOT_TRIG c.slot 3
      ok (((s.settled c.slot).commitNow c.slot).showScn.scnDone c.who c.slot st 0)

/-- ARM (R266, R284). -/
def execArm (who : Origin) (slot : Nat) (s : State) : Out := s.scnServe who 3 slot fun c s =>
  if 16 ≤ c.slot || !trigOk c.a0 c.a2 c.a3 || trigKind c.a0 == 3 then ok (s.scnDone c.who c.slot Scs.BAD_ARG 0)
  else if s.slotState c.slot ≠ 3 then ok (s.scnDone c.who c.slot Scs.SLOT_STATE 0)
  else if !s.trigMode c.a0 then ok (s.scnDone c.who c.slot Scs.SCN_MODE 0)
  else
    let (st, s) := s.attach c.slot c.a0 (statedTime c.a1 c.a2 c.a3)
    if st ≠ 0 then ok (s.scnDone c.who c.slot st 0)
    else
      let s := (s.put Reg.SLOT_STATE c.slot 4).irq Reg.SCN_IRQ_READY
      ok ((s.commitNow c.slot).scnDone c.who c.slot 0 0)

/-- ABORT (R265). -/
def execAbort (who : Origin) (slot : Nat) (s : State) : Out := s.scnServe who 4 slot fun c s =>
  if 16 ≤ c.slot then ok (s.scnDone c.who c.slot Scs.BAD_ARG 0)
  else if s.slotState c.slot = 0 ∨ s.slotState c.slot = 5 then ok (s.scnDone c.who c.slot Scs.SLOT_STATE 0)
  else ok (((s.endSlot c.slot 0).loadCut c.slot Scs.SLOT_STATE).scnDone c.who c.slot 0 0)

/-- A 64-bit address of two arguments, its low bits dropped. -/
def argAddr (lo hi keep : Nat) : Nat := lo / 2 ^ keep * 2 ^ keep + 2 ^ 32 * hi

/-- The check-value unit takes the parameters of R286 and is claimed (R287, R521). -/
def State.cvuClaim (s : State) (u : Nat) : State :=
  let s := ((s.put Reg.CVU_KIND u 2).put Reg.CVU_WIDTH_M1 u 63).put Reg.CVU_CLAIMED u 1
  let s := ((s.put Reg.CVU_REFIN u 1).put Reg.CVU_REFOUT u 1).put Reg.CVU_EN u 1
  let s := (s.put Reg.CVU_POLY_LO u 0xA9EA3693).put Reg.CVU_POLY_HI u 0x42F0E1EB
  let s := (s.put Reg.CVU_INIT_LO u 0xFFFFFFFF).put Reg.CVU_INIT_HI u 0xFFFFFFFF
  ((((s.put Reg.CVU_XOR_LO u 0xFFFFFFFF).put Reg.CVU_XOR_HI u 0xFFFFFFFF)).cvuLoad u).bumpEpoch (0xBC + u)

/-- LOAD_IMAGE (R284, R287, R288). -/
def execLoadImage (who : Origin) (slot : Nat) (s : State) : Out := s.scnServe who 5 slot fun c s =>
  let dram := c.a2 % 2 == 1
  let addr := argAddr c.a0 c.a1 6
  let u := bits c.a2 5 4
  if 16 ≤ c.slot || !imageAddrOk dram addr then ok (s.scnDone c.who c.slot Scs.BAD_ARG 0)
  else if s.slotState c.slot ≠ 1 || !(s.slot c.slot).moves.isEmpty then ok (s.scnDone c.who c.slot Scs.SLOT_STATE 0)
  else
    let st := if s.scn.load.isSome then Scs.IMG_BUSY
      else if s.getB Reg.CVU_EN u || s.getB Reg.CVU_CLAIMED u then Scs.IMG_CVU_BUSY else 0
    if st ≠ 0 then
      let s := (s.endSlot c.slot st).irq Reg.SCN_IRQ_IMG_DONE
      ok (s.scnDone c.who c.slot st 0)
    else
      let s := (s.cvuClaim u).modScn fun x =>
        { x with load := some { who := c.who, slot := c.slot, dram := dram, addr := addr, cvu := u } }
      ok (s.progress 0x50 true 0 1)

/-- An image's header words (R286). -/
structure ImgHead where
  scene : Nat
  count : Nat
  prog  : Nat
  check : Nat
  good  : Bool

/-- Read an image's header. -/
def imgHead (b : List Byte) : ImgHead :=
  let w := fun o => ofLeBytes ((b.drop o).take 4)
  { scene := w 4, count := bits (w 8) 16 0, prog := w 0x10, check := ofLeBytes ((b.drop 0x38).take 8),
    good := w 0 == 0x50534331 && w 4 != 0 && okUpto 1 65536 (w 8) && bits (w 0xC) 31 16 == 1 &&
      ((b.drop 0x14).take 0x24).all (· == 0) }

/-- Records of a list of words, four to a record. -/
def recsOf : List Nat → List Rec
  | a :: b :: c :: d :: r => recOf [a, b, c, d] :: recsOf r
  | _ => []

/-- The image bytes that a load has fetched, header first, and whether its fetch ended in an error. -/
def State.imageBytes (s : State) (l : ImageLoad) (image : List Byte) (err : Bool) : List Byte × Bool :=
  let raw := if l.dram then s.dramRead (l.addr - 0x80000000) 64 else image.take 64
  let n := 64 + 16 * (imgHead raw).count
  if !l.dram then (image.take n, err || !s.hostReadable || decide (image.length < n))
  else if 0x100000000 < l.addr + n then (raw, true)
  else (s.dramRead (l.addr - 0x80000000) n, err)

/-- The running image load is refused: its slot is freed (R288). -/
def State.loadRefuse (s : State) (slot status index : Nat) : State :=
  ((s.endSlot slot status).progressStop 0x50).loadEnd status index

/-- IMAGE_LOAD_END (R287 to R289): the image has been fetched, or its fetch has ended. -/
def execImageLoadEnd (image : List Byte) (err : Bool) (s : State) : Out := match s.scn.load with
  | none => ok s
  | some l =>
    if l.closing then ok s
    else
      let (b, bad) := s.imageBytes l image err
      let h := imgHead b
      let progs := (below 34 fun e => !s.unitDown (seUnit e)).all (fun e => s.get Reg.SE_PROG_ID e == h.prog)
      if b.length < 64 then ok (s.loadRefuse l.slot Scs.IMG_BUS_ERR 0)
      else if !h.good then ok (s.loadRefuse l.slot Scs.IMG_HEADER 0)
      else if h.prog ≠ 0 ∧ !progs then ok (s.loadRefuse l.slot Scs.IMG_PROG 0)
      else
        let s := (s.put Reg.SLOT_IMAGE l.slot 1).put Reg.SLOT_SCENE l.slot h.scene
        if bad then ok (s.loadRefuse l.slot Scs.IMG_BUS_ERR 0)
        else
          let s := s.cvuFeed l.cvu (b.take 0x38 ++ b.drop 64)
          let ((st, idx), s) := s.slotReceiveAll l.slot 0 (recsOf (leWords (b.drop 64)))
          if s.cvuResult l.cvu ≠ h.check then ok (s.loadRefuse l.slot Scs.IMG_CHECK 0)
          else if st ≠ 0 then ok (s.loadRefuse l.slot st idx)
          else
            let (st, s) := s.closeSlot l.slot
            if st ≠ 0 then ok ((s.progressStop 0x50).loadEnd st 0)
            else
              let s := (s.cvuRelease l.cvu).modScn fun x => { x with load := some { l with closing := true } }
              let s := s.put Reg.SLOT_TRIG l.slot 3
              ok ((s.loadShow).settled l.slot)

/-- MOVES (R284): records read from host memory enter a slot or the live lane, to the first failure. -/
def execMoves (who : Origin) (slot : Nat) (data : Option (List Word)) (s : State) : Out := s.scnServe who 6 slot fun c s =>
  let n := c.a2 % 8192
  if 16 < c.slot || !okUpto 1 4096 n then ok (s.scnDone c.who c.slot Scs.BAD_ARG 0)
  else if c.slot ≠ 16 ∧ s.slotState c.slot ≠ 1 then ok (s.scnDone c.who c.slot Scs.SLOT_STATE 0)
  else
    let busErr := match c.who with | .ring _ => 0x04 | .reg _ => Scs.IMG_BUS_ERR
    let got := match (if s.hostReadable then data else Option.none) with
      | some ws => if 4 * n ≤ ws.length then some ((recsOf (ws.map (·.toNat))).take n) else Option.none
      | Option.none => Option.none
    match got with
    | Option.none => ok (s.scnDone c.who c.slot busErr 0)
    | some rs =>
      if c.slot = 16 then
        let before := s
        let ((st, idx), s, done) := s.liveAll 0 [] rs
        ok ((s.moveEffects before done).scnDone c.who c.slot st idx)
      else
        let ((st, idx), s) := s.slotReceiveAll c.slot 0 rs
        ok (s.scnDone c.who c.slot st idx)

/-- SCN_PORT_PUSH (R291): the record held in the plane's SCN_PORT_W0 to W3 is pushed to a slot or the live lane. -/
def execScnPortPush (p : Plane) (lane : Nat) (s : State) : Out := s.atPage 0x51 fun s =>
  let r := recOf ((List.range 4).map fun i => s.getP p Reg.SCNC_PORT_W i)
  let done := fun (st : Nat) (s : State) => ok ((s.putP p Reg.SCNC_PORT_DONE 0 1).putP p Reg.SCNC_PORT_STATUS 0 st)
  if 16 < lane then done Scs.BAD_ARG s
  else if s.stagingOff then done Scs.SCN_MODE s
  else if lane = 16 then
    let (st, t, l) := s.liveMove r
    done st (t.moveEffects s l)
  else if s.slotState lane ≠ 1 then done Scs.SLOT_STATE s
  else
    let (st, s) := s.slotReceive lane r
    done st s

/-- LIVE_WRITE (R34, R275, R276): a plane's write to a data-plane field becomes a live move under STEP. In PARK a page of a dark
domain discards it (R541). -/
def execLiveWrite (off : Nat) (v : Word) (s : State) : Out :=
  if off % 4 ≠ 0 || regWriteMask off == 0 || s.pageDark (off / 4096) then ok s
  else
    let s := s.wakeFor (off / 4096)
    let (_, t, l) := s.liveMove (liveRec off v.toNat)
    ok (t.moveEffects s l)

/-! ## The cutoff and what runs after a Meridian (R266, R269, R274) -/

/-- The sample that commits at the coming cutoff: the next one, or while the partner is in lockstep the fourth after the present
boundary, once the standby has reported the slot or lane staged (R266, R469). -/
def State.cutSample (s : State) : Nat := if s.lockstep then s.idx + 4 else s.idx + 1
def State.partnerStaged (s : State) (lane : Nat) : Bool := !s.lockstep || s.stby.staged.contains lane

/-- A slot at a cutoff: it commits if it is staged and its trigger has fired, and is late otherwise. -/
def State.cutSlot (i : Nat) (s : State) : State :=
  let t := s.slot i
  let st := s.slotState i
  if !t.fired || t.commit.isSome then s
  else if st = 4 ∧ s.partnerStaged i then
    (s.setSlot i fun t => { t with commit := some s.cutSample }).mirrorSlot 3 i s.cutSample
  else if (st = 2 ∨ st = 4) ∧ s.get Reg.SLOT_TRIG i ≠ 0 ∧ s.get Reg.SLOT_TRIG i ≠ 3 then
    if s.getB Reg.SLOT_LATE_ABORT i then s.endSlot i Scs.LATE
    else s.setSlot i fun t => { t with missed := true }
  else s

/-- SCENE_CUTOFF (R266): the cutoff of the coming boundary. In FOLLOW the active partner names what commits. -/
def execSceneCutoff (s : State) : Out :=
  let s := if s.lockstep then s else s.advanceTo (s.cutoff s.nextBoundary)
  if s.opMode = 3 then ok s
  else
    let s := forRange State.cutSlot 0 16 s
    let due := fun (p : SMove × Option Nat) => p.2.isNone && p.1.derive == 0
    if s.scn.live.any due && s.partnerStaged 16 then
      let n := s.cutSample
      ok ((s.modScn fun x => { x with live := x.live.map fun p => if due p then (p.1, some n) else p }).mirrorSlot 3 16 n)
    else ok s

/-- DEFERRED_XFADE_START (R274): deferred pairs begin at the sample at which the running pair drops its old copy. -/
def execDeferredXfadeStart (s : State) : Out :=
  ok (s.modScn fun x => { x with runs := x.runs.map fun r => if r.defer && decide (r.first ≤ s.idx) then { r with defer := false } else r })

/-- A standby reports a slot, or the live lane, staged (R469, R486). -/
def State.reportStaged (s : State) (lane : Nat) : State := if s.opMode = 3 then s.sendRecord 3 s.idx [4 + 16 * lane] else s

/-- DERIVATION_DONE (R134, R263): the derivation of a move of a slot, or of the live lane (16), is complete.
DESIGN CHOICE (log entry 83). -/
def execDerivationDone (lane word : Nat) (s : State) : Out :=
  let mine := fun (m : SMove) => m.target.kind == 0 && m.target.addr == word
  if 16 < lane then ok s
  else if lane = 16 then
    let s := s.modScn fun x => { x with live := x.live.map fun p => if mine p.1 then ({ p.1 with derive := 0 }, p.2) else p }
    ok (if s.scn.live.all (·.1.derive == 0) && !s.scn.live.isEmpty then s.reportStaged 16 else s)
  else
    let was := s.slotState lane
    let s := s.setSlot lane fun t => { t with moves := t.moves.map fun m => if mine m then { m with derive := 0 } else m }
    let s := s.settled lane
    ok (if was = 2 ∧ s.slotState lane ≠ 2 then s.reportStaged lane else s)

/-! ## Queries (R84, R293) -/

/-- SCN_QW0 (R293). -/
def execScnQw0 (v : Word) (s : State) : Out := s.atPage 0x53 fun s => ok (s.select qScn v.toNat Reg.SCNQ_VALID)

/-- Snapshot the moves on a word, named as word 0 of a move record. -/
def State.snapScn (s : State) (item : Nat) : State :=
  let t : MoveTarget := { kind := bits item 31 28, addr := bits item 23 0 }
  let slots := (List.range 16).filter fun i => (s.slot i).moves.any (·.target == t)
  let live := s.scn.live.filter (·.1.target == t)
  let pend := slots.length + (if live.isEmpty then 0 else 1)
  let slotMove := match slots.getLast? with
    | some i => ((s.slot i).moves.find? (·.target == t)).map fun m => (i, m.value)
    | Option.none => Option.none
  let newest := match live.getLast? with
    | some p => some (16, p.1.value)
    | Option.none => slotMove
  let runs := s.scn.runs.filter (·.target == t)
  let run := runs.getLast?
  let s := ((s.putB Reg.SCNQ_PENDING 0 (pend != 0)).put0 Reg.SCNQ_PEND_CNT pend).putB Reg.SCNQ_RUNNING 0 run.isSome
  let s := s.putB Reg.SCNQ_DEFERRED 0 (run.any (·.defer))
  let s := (s.put0 Reg.SCNQ_PEND_SLOT (match newest with | some p => p.1 | Option.none => 0)).put0 Reg.SCNQ_QSTAGED
    (match newest with | some p => p.2 | Option.none => 0)
  let s := s.put0 Reg.SCNQ_RULE (match run with | some r => r.rule | Option.none => 0)
  let s := s.put0 Reg.SCNQ_QLIVE (s.word (targetKey t)).toNat
  let left := runs.foldl (fun m r => max m (runEnd r - s.idx)) 0
  s.put0 Reg.SCNQ_QLEFT left

/-- RCONV_QSEL (R84). -/
def execRconvQsel (v : Word) (s : State) : Out := s.atPage 0x60 fun s => ok (s.select qRconv (bits v.toNat 9 0) Reg.RCONV_VALID)

/-- PATCH_QSEL (R84). -/
def execPatchQsel (v : Word) (s : State) : Out := s.atPage 0x64 fun s => ok (s.select qPatch (bits v.toNat 11 0) Reg.PATCH_VALID)

/-- FAB_XP_QSEL (R214): a crosspoint ID. -/
def execFabXpQsel (v : Word) (s : State) : Out := s.atPage 0x42 fun s => ok (s.select qFabXp (bits v.toNat 21 0) Reg.FABX_VALID)

/-- FAB_SRC_QSEL (R228): a fabric source. -/
def execFabSrcQsel (v : Word) (s : State) : Out := s.atPage 0x44 fun s => ok (s.select qFabSrc (bits v.toNat 11 0) Reg.FABL_VALID)

/-- SNAPSHOT_DONE (R84): the snapshot of the item last selected is complete. -/
def execSnapshotDone (q : Query) (s : State) : Out :=
  let key := match q with
    | .rconv => qRconv | .patch => qPatch | .fabXp => qFabXp | .fabSrc => qFabSrc | .scn => qScn | .arb => qArb | .own => qOwn
  match s.selected key with
  | Option.none => ok s
  | some item =>
    let s := match q with
      | .rconv => s.snapLane item
      | .patch => s.snapPatch item
      | .fabXp => s.snapXp item
      | .fabSrc => s.snapSrc item
      | .scn => s.snapScn item
      | .arb => s.snapArb item
      | .own => s.snapOwn item
    let valid := match q with
      | .rconv => Reg.RCONV_VALID | .patch => Reg.PATCH_VALID | .fabXp => Reg.FABX_VALID | .fabSrc => Reg.FABL_VALID
      | .scn => Reg.SCNQ_VALID | .arb => Reg.ARB_VALID | .own => Reg.OWN_VALID
    ok ((s.selDone key).put0 valid 1)

end Sys2Proof.Machine
end

