-- ==== Sys2Proof/Machine/Strips.lean ====
section
/-! DEFINITION. Strips on engines: placement, migration and shedding (R86, R137 to R139, R206 to R208, R628), Automix (R126 to R130) and
Loop Guard (R120 to R125). -/

namespace Sys2Proof.Machine

/-- Thermal shedding is in force (R597). -/
def State.hot (s : State) : Bool := decide (2 ≤ s.get Reg.THERM_STATE)

/-! ## Placement (R86, R628) -/

/-- The engine that serves a working slot of R86; 34 where none is left. -/
def State.slotServer (s : State) (w : Nat) : Nat := tget w s.dp.slotEng w

/-- Strips of a kind in a rate mode, and the slot that R86 gives a strip. -/
def stripCount (out : Bool) (r : Nat) : Nat := if out then numBuses r else inStrips r
def slotOf (out : Bool) (r n : Nat) : Nat := n / (stripCount out r / 32)

/-- Store the engine of a strip where it changes. -/
def State.setStripEngine (s : State) (out : Bool) (n e : Nat) : State :=
  if s.stripEngine out n = e then s else if out then s.put Reg.OUTR_SE n e else s.put Reg.INR_SE n e

/-- Key of a strip in the lists of shed strips: output strips count on from 2,048. -/
def shedKey (out : Bool) (n : Nat) : Nat := if out then 2048 + n else n

/-- Strips of a kind that an engine runs. -/
def State.stripsOf (s : State) (out : Bool) (e : Nat) : List Nat :=
  below (stripCount out s.rate) fun n => s.stripEngine out n == e && !s.dp.shed.contains (shedKey out n)

/-- The `m` strips of a kind that are shed next: highest priority value first, then highest index (R628, R629). -/
def State.shedChoice (s : State) (out : Bool) (m : Nat) : List Nat :=
  let free := (below (stripCount out s.rate) fun n =>
    !s.dp.shed.contains (shedKey out n) && !s.dp.shedding.contains (shedKey out n)).reverse
  ((List.range 16).reverse.flatMap fun p => free.filter fun n => tget 8 s.mgmt.shedPri (shedKey out n) == p).take m

/-- Strips of a kind whose slot has no engine left. -/
def State.unserved (s : State) (out : Bool) : List Nat :=
  below (stripCount out s.rate) fun n => 34 ≤ s.slotServer (slotOf out s.rate n)

/-- Give displaced strips the slots of shed ones, in order of index. -/
def State.takeSlots (s : State) (out : Bool) (shed displaced : List Nat) : State :=
  let homes := (shed.filter fun n => s.stripEngine out n < 34 && !s.unitDown (seUnit (s.stripEngine out n))).map (s.stripEngine out)
  forEach (fun p s => s.setStripEngine out p.1 p.2) (displaced.zip homes) s

/-- Place every strip of the rate mode (R86), shedding again what no engine is left for (R628). -/
def State.placeStrips (s : State) : State :=
  let r := s.rate
  let s := s.modDp fun d => { d with shed := [], shedding := [], displaced := [] }
  let s := forRange (fun n s => s.setStripEngine false n (s.slotServer (slotOf false r n))) 0 (inStrips r) s
  let s := forRange (fun n s => s.setStripEngine true n (s.slotServer (slotOf true r n))) 0 (numBuses r) s
  let s := forRange (fun e s => (s.put Reg.SE_IN_STRIPS e (s.stripsOf false e).length).put Reg.SE_OUT_STRIPS e (s.stripsOf true e).length)
    0 34 s
  let gone := s.unserved false
  let goneOut := s.unserved true
  let inShed := s.shedChoice false gone.length
  let outShed := s.shedChoice true goneOut.length
  let s := s.takeSlots false (inShed.filter (!gone.contains ·)) (gone.filter (!inShed.contains ·))
  let s := s.takeSlots true (outShed.filter (!goneOut.contains ·)) (goneOut.filter (!outShed.contains ·))
  let all := inShed ++ outShed.map (shedKey true)
  (s.modDp fun d => { d with shed := all }).put0 Reg.MODE_SHED all.length

/-! ## Restarting and rebuilding strips (R81, R138, R139, R204) -/

/-- A strip restarts on another engine (R139): its state at rest, its notches from its report words, its Automix gain from
IN_RPT_AM, a ramp-in of 32 samples. -/
def State.restartStrip (out : Bool) (n : Nat) (s : State) : State :=
  let am : Int × Nat := (sx 16 (s.get Reg.INR_AM n), 1)
  let now := s.clk.now
  s.setStrip out n fun t =>
    { feed := t.feed, res := t.res, dout := t.dout, fade := 32,
      amOld := if out then (0, 1) else am, amNew := if out then (0, 1) else am, amNow := if out then (0, 1) else am,
      notches := t.notches.map fun p => (p.1, { src := s.get Reg.OUTR_NOTCH_DEPTH (12 * n + p.1), since := now, order := p.2.order }) }

/-- The delay rings lie below this DRAM offset (R111). -/
def ringsEnd : Nat := 0x48000000

/-- Show the members of each group (R131). -/
def State.showMembers (s : State) : State :=
  forRange (fun g s =>
    let n := (s.amMembers g).length
    if s.get Reg.RPT_AM_MEMBERS g = n then s else s.put Reg.RPT_AM_MEMBERS g n) 0 16 s

/-- Every notch is freed (R138). -/
def State.dropNotches (s : State) : State :=
  let keys := (s.keysIn 0x510000 0x520000).filter (fun k => 0x10 ≤ k % 64)
  { s with regs := s.regs.filter (fun p => !keys.contains p.1) }

/-- Strips are built anew from the parameter pages (step 3 of R81): every state at rest, delay lines cleared, pairs at their new copy. -/
def State.rebuildStrips (s : State) : State :=
  let s := s.modScn fun x => { x with runs := x.runs.filter fun r =>
    !(r.target.kind == 0 && decide (0x200000 ≤ r.target.addr) && decide (r.target.addr < 0x380000)) }
  let s := s.modMem fun m => { m with dram := m.dram.filter (fun p => ringsEnd ≤ p.1) }
  let s := s.modDp fun d => { d with ins := [], outs := [] }
  let s := s.dropNotches
  { s with stby := { s.stby with meas := s.stby.meas.filter (·.kind != 5) } }

/-! ## Migration and shedding -/

/-- The working slots that an engine serves pass to another, or to none. -/
def State.passSlots (s : State) (e heir : Nat) : State :=
  forRange (fun w s => if s.slotServer w = e then s.modDp fun d => { d with slotEng := tput w d.slotEng w heir } else s) 0 32 s

/-- The engine's strip counts read 0. -/
def State.emptyEngine (s : State) (e : Nat) : State :=
  (((s.put Reg.SE_IN_STRIPS e 0).put Reg.SE_OUT_STRIPS e 0).modFlt fun f => { f with resched := f.resched.filter (· != seUnit e) })

/-- STRIP_MIGRATION (R206, R139): at the first boundary after its fence an engine's strips move to the lowest idle spare. -/
def execStripMigration (e : Nat) (s : State) : Out :=
  if 34 ≤ e || !s.flt.resched.contains (seUnit e) then ok s
  else
    let ins := s.stripsOf false e
    let outs := s.stripsOf true e
    match s.idleSpare with
    | none => ok s
    | some sp =>
      if ins.isEmpty && outs.isEmpty then ok (s.emptyEngine e)
      else
        let s := (s.put Reg.SE_IN_STRIPS sp ins.length).put Reg.SE_OUT_STRIPS sp outs.length
        let s := (s.emptyEngine e).passSlots e sp
        let s := ((s.putB Hdr.SPARE (0x10 + sp) false).putB Hdr.RUNNING (0x10 + sp) true).bumpEpoch (0x10 + sp)
        let s := s.showSpares
        let s := forEach (fun n s => (s.setStripEngine false n sp).restartStrip false n) ins s
        ok (forEach (fun n s => (s.setStripEngine true n sp).restartStrip true n) outs s)

/-- STRIP_SHED (R628): with no spare left, as many strips as the retired engine ran ramp to silence over 32 samples. -/
def execStripShed (e : Nat) (s : State) : Out :=
  if 34 ≤ e || !s.flt.resched.contains (seUnit e) || s.idleSpare.isSome then ok s
  else
    let ins := s.stripsOf false e
    let outs := s.stripsOf true e
    if ins.isEmpty && outs.isEmpty then ok (s.emptyEngine e)
    else
      let inShed := s.shedChoice false ins.length
      let outShed := s.shedChoice true outs.length
      let left := ins.filter (!inShed.contains ·) ++ (outs.filter (!outShed.contains ·)).map (shedKey true)
      let s := (s.emptyEngine e).passSlots e 34
      let s := forEach (fun n s => s.setStrip false n fun t => { t with fall := 32 }) inShed s
      let s := forEach (fun n s => s.setStrip true n fun t => { t with fall := 32 }) outShed s
      let at' := s.idx + 32
      let s := s.modDp fun d =>
        { d with shedding := d.shedding ++ inShed ++ outShed.map (shedKey true), displaced := d.displaced ++ left, shedAt := at' }
      let s := (s.put0 Reg.MODE_DEGRADED 1).irq Reg.MODE_IRQ_DEGRADED
      ok (s.put0 Reg.MODE_SHED (s.dp.shed.length + s.dp.shedding.length))

/-- The shed strips stop and the displaced strips take their slots. -/
def State.shedStop (s : State) : State :=
  let kind := fun (out : Bool) (l : List Nat) =>
    (l.filter (fun k => decide (2048 ≤ k) == out)).map (fun k => if out then k - 2048 else k)
  let gone := s.dp.shedding
  let move := s.dp.displaced
  let s := s.takeSlots false (kind false gone) (kind false move)
  let s := s.takeSlots true (kind true gone) (kind true move)
  let s := forEach (fun n s => s.restartStrip false n) (kind false move) s
  let s := forEach (fun n s => s.restartStrip true n) (kind true move) s
  s.modDp fun d =>
    { d with shed := d.shed ++ gone, shedding := [], displaced := [], ins := d.ins.filter (fun p => !gone.contains p.1),
             outs := d.outs.filter (fun p => !gone.contains (2048 + p.1)) }

/-- SHED_STOP (R628): 32 samples after the ramps began. -/
def execShedStop (s : State) : Out := ok (if s.dp.shedding.isEmpty || decide (s.idx < s.dp.shedAt) then s else s.shedStop)

/-! ## Automix (R126 to R130, R671) -/

/-- Update interval in root edges (R128, R137). DEDUCED (log entry 53). -/
def State.amInterval (s : State) : Nat := if s.hot then 3000000 else 1500000

/-- 10 log10 of a power share in 0.0001 dB, within 0.05 dB of the exact value (R671). DEDUCED (log entry 53). -/
def shareLevel (own total : Nat) : Int :=
  let q := linToDb own total
  let lo := (q.1 * 50).fdiv q.2 - 500
  max lo (min (lo + 1001) (Config.shareDb own total))

/-- The limited gain of a member for a share of `own` in `total`, in 0.0001 dB, and whether the ceiling holds it (R128, R129).
DEDUCED (log entry 53). -/
def State.amGoal (s : State) (g n own total : Nat) : Int × Bool :=
  let ceil := sx 16 (s.inUse (amWord g 0)) * 100
  let floor := -(sx 16 (s.inUse (amWord g 4)) * 100)
  if own = 0 then (min floor ceil, false)
  else
    let x := shareLevel own total + sx 16 (s.inUse (inWord n 0xCC)) * 100
    if ceil < x then (ceil, true) else (max x floor, false)

/-- Set a member's target for the interval that begins. -/
def State.amSet (s : State) (g own total len n : Nat) : State :=
  let (x, held) := s.amGoal g n own total
  let s := s.stripEventIf held false n Reg.INR_PC_AM_CEIL
  s.setStrip false n fun t => { t with amOld := amBetween t, amNew := (x, 100), amK := 0, amN := len }

/-- One update of a group. Where every level is zero, every gain holds. -/
def State.amGroup (g : Nat) (s : State) : State :=
  let ms := s.amMembers g
  let power := fun n => Config.levelPower (tget 0 (s.inStrip n).cells 0xC8)
  let total := (ms.map power).sum
  let len := s.amInterval / periodEdges s.rate
  if total = 0 then s
  else forEach (fun (p : Nat × Nat) s => s.amSet g p.2 total len p.1) (ms.map fun n => (n, power n)) s

/-- AUTOMIX_UPDATE (R128, R188): AM_TICK is raised on the engines that run members. DEDUCED (log entry 53). -/
def execAutomixUpdate (s : State) : Out :=
  let d := s.amInterval
  if !s.mode.running || decide (s.clk.pos < s.dp.amAt + d) then ok s
  else
    let at' := s.clk.pos - (s.clk.pos - s.dp.amAt) % d
    let s := forRange State.amGroup 0 16 (s.modDp fun x => { x with amAt := at' })
    let hit := fun e => (List.range 16).any fun g => (s.amMembers g).any fun n => s.stripEngine false n == e
    ok (forEach (fun e s => s.seEvent 1 e) (s.runningEngines.filter hit) s)

/-- Automix gains restart at equal shares (R138). -/
def State.amEqual (s : State) : State :=
  forRange (fun g s =>
    let ms := s.amMembers g
    forEach (fun n s =>
      let (x, _) := s.amGoal g n 1 ms.length
      s.setStrip false n fun t => { t with amOld := (x, 100), amNew := (x, 100), amNow := (x, 100) }) ms s) 0 16 s

/-! ## Loop Guard -/

/-- Words of a notch section in the strip report: state, depth in half dB and centre; `q` is 12 × strip + section. -/
def State.notchWord (s : State) (q : Nat) : Nat :=
  match (s.stby.meas.filter (fun m => m.kind == 5 && m.index == q)).getLast? with
  | some m => m.v0
  | none => (s.word (fldAt Reg.OUTR_NOTCH_STATE q)).toNat
def notchState (w : Nat) : Nat := bits w 31 30
def notchDepth (w : Nat) : Nat := bits w 29 24
def notchFreq (w : Nat) : Nat := bits w 23 0
def mkNotch (st depth freq : Nat) : Nat := st * 2 ^ 30 + depth * 2 ^ 24 + freq

/-- A notch section takes a word (R121 to R123): its depth glides over 64 samples. A new notch glides in from nothing. -/
def State.setNotch (s : State) (q w : Nat) : State :=
  let n := q / 12
  let i := q % 12
  let old := (s.word (fldAt Reg.OUTR_NOTCH_STATE q)).toNat
  let fresh := notchState old == 0 || notchFreq old != notchFreq w
  let now := s.clk.now
  let num := s.dp.lgNum + 1
  let s := if fresh then s.modDp fun d => { d with lgNum := num } else s
  let s := s.setStrip true n fun t =>
    let x := tget {} t.notches i
    { t with
      notches := tput {} t.notches i { src := if fresh then 0 else notchDepth old, k := 0, since := now,
                                       order := if fresh then num else x.order },
      cells := if fresh then tput 0 t.cells (1024 + i) 0 else t.cells }
  s.setWord (fldAt Reg.OUTR_NOTCH_STATE q) (BitVec.ofNat 32 w)

/-- Are two frequencies within 2^(1/p) of each other? -/
def near (p f g : Nat) : Bool := decide (f ^ p ≤ 2 * g ^ p) && decide (g ^ p ≤ 2 * f ^ p)

/-- Does a frequency lie in a locked band of an output strip: within 1/6 octave of its centre (R124)? -/
def State.lgLocked (s : State) (n f : Nat) : Bool :=
  (List.range 8).any fun j =>
    let v := s.inUse (outWord n (0xB0 + 4 * j))
    bit v 31 && near 6 f (bits v 23 0)

/-- Deepest notch allowed, in half dB (R119). -/
def State.lgMax (s : State) (n : Nat) : Nat := bits (s.inUse (outWord n 0xA8)) 5 0

/-- The section that a new notch takes: a free one, else the shallowest, among equals the oldest (R124). -/
def State.lgPick (s : State) (n : Nat) : Nat × Bool :=
  match (List.range 12).find? (fun i => notchState (s.notchWord (12 * n + i)) == 0) with
  | some i => (i, false)
  | none =>
    let key := fun i => (notchDepth (s.notchWord (12 * n + i)), (tget {} (s.outStrip n).notches i).order)
    ((List.range 12).foldl (fun b i => if (key i).1 < (key b).1 ∨ ((key i).1 = (key b).1 ∧ (key i).2 < (key b).2) then i else b) 0, true)

/-- Give a notch section a word, as a measured decision. -/
def State.lgDecide (s : State) (q w : Nat) : State := s.measured 5 q w 0 fun s => s.setNotch q w

/-- A candidate has met the three conditions of R120 in three frames. -/
def State.lgCandidate (c : Nat × Nat) (s : State) : State :=
  let (n, f) := c
  let ctl := s.inUse (outWord n 0xA4)
  let lim := s.inUse (outWord n 0xAC)
  if numBuses s.rate ≤ n ∨ s.dp.shed.contains (2048 + n) ∨ ctl % 4 ≠ 1 ∨ f < 100 * bits lim 15 0 ∨ 100 * bits lim 31 16 < f then s
  else if s.lgLocked n f then s.stripEvent true n Reg.OUTR_PC_LG_LOCKED
  else
    let top := s.lgMax n
    match (List.range 12).find? (fun i => let w := s.notchWord (12 * n + i); notchState w != 0 && near 12 f (notchFreq w)) with
    | some i =>
      let w := s.notchWord (12 * n + i)
      let d := notchDepth w
      let s := s.stripEventIf (top < d + 6) true n Reg.OUTR_PC_LG_DEPTH
      if top ≤ d then s else s.lgDecide (12 * n + i) (mkNotch 1 (min (d + 6) top) (notchFreq w))
    | none =>
      let s := s.stripEventIf (top < 6) true n Reg.OUTR_PC_LG_DEPTH
      if top = 0 then s
      else
        let (i, full) := s.lgPick n
        let s := s.stripEventIf full true n Reg.OUTR_LG_FULL
        s.lgDecide (12 * n + i) (mkNotch 1 (min 6 top) f)

/-- Frame length in root edges (R120, R137). DEDUCED (log entry 54). -/
def State.lgFrame (s : State) : Nat := if s.dp.lgLong then 128000000 else 64000000

/-- LG_FRAME_END (R120, R121, R124, R188): LG_FRAME is raised on the engines that run output strips. `cands`: output strips with the frequency, in 0.01 Hz, of a peak that the microcode's analysis finds
to have met the conditions in three frames. A standby does not analyse (R467). DEDUCED (log entry 54). -/
def execLgFrameEnd (cands : List (Nat × Nat)) (s : State) : Out :=
  let d := s.lgFrame
  if !s.mode.running || decide (s.clk.pos < s.dp.lgAt + d) then ok s
  else
    let at' := s.clk.pos - (s.clk.pos - s.dp.lgAt) % d
    let long := s.hot
    let s := s.modDp fun x => { x with lgAt := at', lgLong := long }
    let s := if s.opMode = 3 then s else forEach State.lgCandidate cands s
    ok (forEach (fun e s => s.seEvent 2 e) (s.runningEngines.filter fun e => s.get Reg.SE_OUT_STRIPS e != 0) s)

/-- LG_NOTCH_RELAX (R122): a notch not deepened for 60 s rises by 3.0 dB every 10 s; at depth 0 it is freed once it has glided out. -/
def execLgNotchRelax (n k : Nat) (s : State) : Out :=
  let q := 12 * n + k
  let w := s.notchWord q
  let t := tget {} (s.outStrip n).notches k
  let wait := if notchState w = 2 then 10000 * msEdges else 60000 * msEdges
  ok (if n < 1024 ∧ k < 12 ∧ notchState w ≠ 0 ∧ notchDepth w ≠ 0 ∧ s.inUse (outWord n 0xA4) % 4 = 1 ∧ t.since + wait ≤ s.clk.now then
      s.lgDecide q (mkNotch 2 (notchDepth w - 6) (notchFreq w))
    else s)

/-- A boundary holds every notch of a strip to its envelope (R125): LG_EN = 0 and a locked band glide a notch out, a lower
OUT_LG_MAXDEPTH glides it up. -/
def State.lgEnforce (n : Nat) (s : State) : State :=
  if (s.outStrip n).notches.isEmpty then s
  else
    let on := s.inUse (outWord n 0xA4) % 2 == 1
    forRange (fun i s =>
      let w := (s.word (fldAt Reg.OUTR_NOTCH_STATE (12 * n + i))).toNat
      let top := if !on || s.lgLocked n (notchFreq w) then 0 else s.lgMax n
      if notchState w ≠ 0 ∧ top < notchDepth w then s.setNotch (12 * n + i) (mkNotch (notchState w) top (notchFreq w)) else s) 0 12 s

end Sys2Proof.Machine
end

