-- ==== Sys2Proof/Machine/Plane.lean ====
section
/-! DEFINITION. Transitions of mode and rate (R37, R81, R558 to R566): the answers to requests, the steps that sample boundaries count,
the start and the stop of the data plane, the rate switch. -/

namespace Sys2Proof.Machine

/-! ## Answers and the fields of page 0x001 -/

namespace Mst
def MODE_BUSY : Nat := 0x70
def MODE_ILLEGAL : Nat := 0x71
def MODE_DENIED : Nat := 0x72
def PARTNER_ACTIVE : Nat := 0x73
def RATE_BUDGET : Nat := 0x74
def NOT_READY : Nat := 0x75
def PARTNER_NOT_READY : Nat := 0x76
def MODE_BAD_ARG : Nat := 0x77
end Mst

/-- A plane's last request is finished (R565, R566). -/
def State.modeAnswer (s : State) (p : Plane) (st : Nat) : State :=
  let s := ((s.putP p Reg.MODE_DONE 0 1).putP p Reg.MODE_BUSY 0 0).putP p Reg.MODE_STATUS 0 st
  if st = 0 then s else s.irq Reg.MODE_IRQ_REFUSED

/-- Answer the request that a transition serves; an automatic one serves none. MODE_REQ_STAT reports the last request (R566): a later
one of the same plane, refused while the transition ran, keeps its own answer. DEDUCED (log entry 26). -/
def State.modeAnswerOf (s : State) (p : Option Plane) (st : Nat) : State := match p with
  | some p =>
    if s.getP p Reg.MODE_BUSY = 1 then s.modeAnswer p st else if st = 0 then s else s.irq Reg.MODE_IRQ_REFUSED
  | none => s

/-- The request that a transition serves. -/
def transPlane : Trans → Option Plane
  | .none => none
  | .start _ p => p
  | .enter _ p => p
  | .fill _ p => p
  | .rampIn _ p => p
  | .stop _ p => p
  | .hold _ p => p
  | .rate _ _ p => p
  | .giveUp p => p
  | .shutdown p => p
  | .heat => none

/-- A transition is set with the samples its step has left. -/
def State.setTrans (s : State) (t : Trans) (left : Nat) : State := s.modMode fun m => { m with trans := t, left := left }

/-- A transition begins. -/
def State.transBegin (s : State) (t : Trans) (left target : Nat) : State :=
  ((s.put0 Reg.MODE_IN_TRANSITION 1).put0 Reg.MODE_TARGET target).setTrans t left

/-- No transition runs any more. -/
def State.transIdle (s : State) : State :=
  ((s.put0 Reg.MODE_IN_TRANSITION 0).put0 Reg.MODE_TARGET s.opMode).setTrans .none 0

/-- The transition is complete. -/
def State.transDone (s : State) : State :=
  let p := transPlane s.mode.trans
  ((s.transIdle.count Reg.MODE_TRANS_CNT).irq Reg.MODE_IRQ_DONE).modeAnswerOf p 0

/-- Has the running transition not reached its first boundary (R563)? -/
def State.transFresh (s : State) : Bool := match s.mode.trans with
  | .enter _ _ => s.mode.left == 1
  | .stop _ _ => s.mode.left == 65 || (s.mode.left == 1 && s.opMode != 4 && s.opMode != 3)
  | .hold _ _ => s.mode.left == 1
  | .rate k _ _ => k == 1 && s.mode.left == 64
  | .giveUp _ => true
  | _ => false

/-- A requested transition gives way to an automatic one (R563). DEDUCED (log entry 26). -/
def State.preempt (s : State) : State := match s.mode.trans with
  | .none => s
  | t => (s.modeAnswerOf (transPlane t) Mst.MODE_BUSY).transIdle

/-! ## A change of the MODE field -/

/-- PRBS generators and checkers stop with MAINT (R440). DEDUCED (log entry 59). -/
def State.prbsOff (s : State) : State :=
  forRange (fun l s => ((s.put Reg.LANE_PRBS_GEN l 0).put Reg.LANE_PRBS_CHK l 0).put Reg.LANE_CHK_LOCK l 0) 0 14 s

/-- What runs in every mode but PARK stops (R329, R347, R370, R427, R454). -/
def State.parkUnits (s : State) : State :=
  let t := s.thirds
  let s := s.modPtp fun p => { p with base := t, run := false, valid := false, step := none }
  let s := s.modClk fun c => { c with placed := false }
  let s := forRange (fun k s => s.kzlEn k false) 0 2 s
  let s := forRange (fun p s => if s.rxLock p then s.rxDrop p else s) 0 60 s
  forRange State.linkDown 0 2 s

/-- The levels of SEL_OUT and HB_OUT that the mode sets (R461, R476). -/
def State.stbyPins (s : State) : State :=
  let sel := if s.getB Reg.STBY_PAIR then s.getB Reg.STBY_ACTIVE else s.opMode == 4 || s.opMode == 5
  let beats := s.getB Reg.STBY_PAIR && (s.opMode == 3 || s.opMode == 4 || s.opMode == 5)
  { s with stby := { s.stby with sel := sel, hb := s.stby.hb && beats } }

/-- The sync state changes (R471, R487). -/
def State.setSync (s : State) (v : Nat) : State :=
  let s := if s.get Reg.STBY_SYNC ≠ v ∧ v = 4 then s.irq Reg.STBY_IRQ_IN_STEP else s
  let busy := v == 1 || v == 2
  let s := if v = 1 then (s.progress 0xA8 true 0 1) else s.putB Hdr.BUSY 0xA8 busy
  let now := s.clk.now
  let s := s.put0 Reg.STBY_SYNC v
  { s with stby := { s.stby with since := now, agree := 0 } }

/-- A core whose snapshot is incomplete when FOLLOW ends stays halted; one that catches up goes on (R475). -/
def State.reseedDrop (s : State) : State :=
  { s with bc := s.bc.map fun p => (p.1, if p.2.reseed && p.2.halted then { p.2 with reseed := false, log := [] } else p.2) }

/-- The MODE field changes. -/
def State.setMode (s : State) (m : Nat) : State :=
  let was := s.opMode
  let s := ((s.put0 Reg.MODE_PREV was).put0 Reg.MODE_MODE m).put0 Reg.MODE_LAST_TS32 s.ts32
  let s := if was = 2 ∧ m ≠ 2 then s.prbsOff else s
  let s := if m = 0 ∧ was ≠ 0 then s.parkUnits else s
  let s := if was = 0 ∧ m ≠ 0 then s.helStart else s
  let s := if was = 3 ∧ m ≠ 3 then s.reseedDrop.setSync 0 else s
  s.stbyPins.streamsMode.showScn.cascShow.sendStatus

/-! ## Starting the data plane (R561) and step 3 of R81 -/

/-- Derivation cycles that a move on a strip or a group word owes (R134). -/
def State.owed (s : State) (m : SMove) : Nat :=
  if !s.derives m then 0
  else match paramAt m.target.addr with
  | none => 0
  | some p => if 0x200000 ≤ m.target.addr then deriveCost p.cls else if m.target.addr % 16 = 0 then 12 else 4

/-- Staged and uncommitted moves on strips derive again (R262). DESIGN CHOICE (log entry 83). -/
def State.rederive (s : State) : State :=
  let again := fun (m : SMove) => { m with derive := s.owed m }
  let s := s.modScn fun x =>
    { x with slots := x.slots.map (fun p => (p.1, { p.2 with moves := p.2.moves.map again, commit := none })),
             live := x.live.map (fun p => (again p.1, none)) }
  forRange (fun i s =>
    if (s.slotState i = 3 ∨ s.slotState i = 4) ∧ (s.slot i).moves.any (·.derive != 0) then State.showSlot i (s.put Reg.SLOT_STATE i 2)
    else s) 0 16 s

/-- STRIP buffers by the strips that each engine runs (R514, R515). -/
def State.stripBuffers (s : State) : State :=
  forRange (fun e s =>
    let s := s.freeBufs clsStrip e
    let n := s.get Reg.SE_IN_STRIPS e + s.get Reg.SE_OUT_STRIPS e
    if n = 0 then s else s.allocBuf (4096 * n) clsStrip e) 0 34 s

/-- Histories, buses, partials and tags begin anew. -/
def State.freshFabric (s : State) : State :=
  let s := s.modDp fun d => { d with hist := [], bus := [], casc := [], tagRuns := [], tags := [], decim := [], sends := [], rets := [] }
  forEach (fun src s => s.modDp fun d => { d with tags := tput 0 d.tags src (s.tagOf src) }) (distinct (s.xps.map xpSrc)) s

/-- Strips are built from the parameter pages and placed on their engines. -/
def State.buildStrips (s : State) : State :=
  let s := s.rebuildStrips.placeStrips.amEqual.stripBuffers.freshFabric
  let at' := s.clk.pos
  let s := s.modDp fun d => { d with amAt := at', lgAt := at' }
  forRange (fun e s => s.putB Hdr.RUNNING (0x10 + e)
    (!s.unitDown (seUnit e) && s.get Reg.SE_IN_STRIPS e + s.get Reg.SE_OUT_STRIPS e != 0)) 0 34 s

/-- The data plane starts: 64 samples of silence follow. A standby keeps the moves whose ramps it has rebuilt (R473). -/
def State.planeOn (s : State) (m : Nat) (p : Option Plane) : State :=
  let runs := s.scn.runs
  let s := s.modMode fun x => { x with running := true, outGain := 0, holdGain := 64 }
  let s := if s.opMode = m then s.streamsMode else s.setMode m
  let s := s.buildStrips
  let s := if m = 3 then s.modScn fun x => { x with runs := runs } else s
  (s.refreshPorts.showRate).setTrans (.fill m p) 63

/-- Is a start of the data plane due: its first boundary has come, and a standby's join is complete (R561)? -/
def State.planeDue (s : State) : Option (Nat × Option Plane) := match s.mode.trans with
  | .enter m p => if s.mode.left = 0 ∧ (m = 4 ∨ (m = 3 ∧ 2 ≤ s.get Reg.STBY_SYNC)) then some (m, p) else none
  | _ => none

/-- DATA_PLANE_START (R561). DESIGN CHOICE (log entry 27). -/
def execDataPlaneStart (s : State) : Out := match s.planeDue with
  | some (m, p) => ok (s.planeOn m p)
  | none => ok s

/-- RATE_RAMP_IN (R81, R561): the 64 samples of silence are over. -/
def State.rampIn (s : State) : State := match s.mode.trans with
  | .fill m p => if s.mode.left = 0 then s.setTrans (.rampIn m p) 64 else s
  | .rate k r p => if k = 4 ∧ s.mode.left = 0 then s.setTrans (.rate 5 r p) 64 else s
  | _ => s

/-- RATE_RAMP_IN. -/
def execRateRampIn (s : State) : Out := ok s.rampIn

/-- The outputs stand at full level: a start or a rate change is complete. -/
def State.rampDone (s : State) : State := match s.mode.trans with
  | .rampIn _ _ => if s.mode.left = 0 then s.transDone else s
  | .rate k _ _ => if k = 5 ∧ s.mode.left = 0 then s.transDone else s
  | _ => s

/-- RATE_CHANGE_DONE (R81, R561). -/
def execRateChangeDone (s : State) : Out := ok s.rampDone

/-! ## The rate switch (R81, R82) -/

/-- A lane keeps its measured ratio, rescaled to the new rate, and refills its history. -/
def State.laneRescale (old new : Nat) (m : Nat) (s : State) : State :=
  let l := s.lane m
  let s := if l.state = 2 then s.laneTo m 1 else s
  s.setLane m fun x =>
    { x with ratio := (roundHalfEven (x.ratio * old) new).toNat, fill := 0, hist := 0, keep := l.state == 2 || x.keep, out := 0 }

/-- Step 3 of R81. DESIGN CHOICE (log entry 27). -/
def State.rateSwitch (s : State) (r : Nat) (p : Option Plane) : State :=
  let old := s.hz
  let s := s.meterRateChange
  let s := (s.modScn fun x => { x with runs := [] }).leaveFlight.showScn
  let s := (s.put0 Reg.MODE_RATE r).irq Reg.RCONV_IRQ_RATE_SWITCH
  let s := s.buildStrips.rederive
  let s := forEach (State.laneRescale old s.hz) s.listedLanes s
  let s := s.refreshPorts
  let s := s.modPorts fun x => { x with tx := x.tx.map fun q => (q.1, { q.2 with frames := 0 }) }
  s.showRate.setTrans (.rate 4 r p) 63

/-- The rate that a change waits to switch to at the present boundary, where that is a boundary of both rate modes. -/
def State.rateDue (s : State) : Option (Nat × Option Plane) := match s.mode.trans with
  | .rate k r p => if k = 2 ∧ s.clk.pos % periodEdges r = 0 then some (r, p) else none
  | _ => none

/-- RATE_SWITCH (R81). -/
def execRateSwitch (s : State) : Out := match s.rateDue with
  | some (r, p) => ok (s.rateSwitch r p)
  | none => ok s

/-! ## Stopping the data plane (R561, R270) -/

/-- Slots, the live lane and COMMIT entries end with the data plane (R270). DESIGN CHOICE (log entry 27). -/
def State.sceneStop (s : State) : State :=
  let s := forRange (fun i s => if s.slotState i ≠ 0 then (s.endSlot i Scs.SCN_MODE).loadCut i Scs.SCN_MODE else s) 0 16 s
  let s := if s.scn.live.isEmpty then s else (s.modScn fun x => { x with live := [] }).freeBufs clsStage 0x410
  let s := s.modScn fun x => { x with runs := [] }
  (s.ephDrop fun x => match x.kind with | .commit _ => true | _ => false).showScn

/-- What the data plane held is at rest. DESIGN CHOICE (log entry 28). -/
def State.dataStop (s : State) : State :=
  let s := if s.dp.shedding.isEmpty then s else s.shedStop
  let s := forEach (fun m s => if (s.lane m).state = 0 then s else s.laneTo m 0) (s.dp.lanes.map (·.1)) s
  let s := forRange (fun e s => (s.freeBufs clsStrip e).putB Hdr.RUNNING (0x10 + e) false) 0 34 s
  let s := s.modDp fun d =>
    { d with lanes := [], ins := [], outs := [], hist := [], bus := [], casc := [], tags := [], tagRuns := [], decim := [], sends := [],
             rets := [], egress := [], egrNow := [], exp := [], expFly := [], meters := [], frame := {},
             eyes := d.eyes.map fun p => (p.1, { p.2 with running := false, data := [], count := 0 }) }
  (s.modMode fun m => { m with running := false, outGain := 0, holdGain := 64 }).portsStop.showBudget

/-- Leaving the active role of a pair with the data plane. DESIGN CHOICE (log entry 28). -/
def State.dropRole (s : State) : State :=
  if !s.getB Reg.STBY_ACTIVE then s
  else
    let s := ((s.put0 Reg.STBY_ACTIVE 0).irq Reg.STBY_IRQ_RELEASE).bumpEpoch 0xA8
    { s with stby := { s.stby with drive := false, sel := false, giveup := none } }

/-- The boundary that ends the output ramp: the data plane stops. DESIGN CHOICE (log entry 27). -/
def State.planeStop (s : State) : State := (s.sceneStop.dataStop.dropRole).streamsMode

/-- START begins: its steps run from 1 (R558). -/
def State.startBegin (s : State) (p : Option Plane) (full : Bool) : State :=
  let s := ((s.put0 Reg.MODE_START_DONE 0).put0 Reg.MODE_START_FAIL 0).put0 Reg.MODE_STEP 0
  let s := (s.progress 0x01 true 0 7).transBegin (.start 0 p) 0 1
  let now := s.clk.now
  s.modMode fun m => { m with fullCheck := full, fromReset := false, startAt := now }

/-- A transition into START takes effect. -/
def State.enterStart (s : State) (p : Option Plane) : State :=
  let full := s.mode.fullCheck
  (if s.opMode = 1 then s else s.setMode 1).startBegin p full

/-- The shutdown sequence ends (R633, steps 1 to 5 and R585): what the self-test found decides the record; then the domains are off. -/
def State.shutdownEnd (s : State) (failMap : Nat) (rows : List (Nat × Nat)) (memFail : Bool) : State := match s.mode.trans with
  | .shutdown _ =>
    if s.get Reg.SUP_WARN_NOW ≠ 0 then s
    else
      let s := s.keyClear.bistFail failMap
      let good := failMap % 2 ^ 17 == 0 && !memFail && decide (rows.length ≤ 54) && s.rowsFit rows
      let s := (s.healthWrite 2 good true failMap rows).progress 0x01 true 3 4
      let s := (s.setMode 0).domainsOff
      (s.progress 0x01 false 4 4).transDone
  | _ => s

/-- The stop whose last boundary has come. -/
def State.stopNow (s : State) : State := match s.mode.trans with
  | .stop m p =>
    if s.mode.left ≠ 0 then s
    else
      let s := s.planeStop
      if m = 1 then (s.progress 0x01 true 2 4).enterStart p
      else (s.progress 0x01 true 2 4).setTrans (.shutdown p) 0
  | .heat => if s.mode.left ≠ 0 then s else (((s.planeStop).setMode 0).domainsOff).transDone
  | _ => s

/-- DATA_PLANE_STOP (R561, R633). -/
def execDataPlaneStop (failMap : Nat) (rows : List (Nat × Nat)) (memFail : Bool) (s : State) : Out :=
  ok (s.stopNow.shutdownEnd failMap rows memFail)

/-! ## HOLD (R562) -/

/-- Has the ramp between SHOW and HOLD reached its end? -/
def State.holdDone (s : State) : State := match s.mode.trans with
  | .hold m _ => if s.mode.left = 0 ∧ s.mode.holdGain = (if m = 5 then 0 else 64) then s.transDone else s
  | _ => s

/-- HOLD_RAMP_END (R562). -/
def execHoldRampEnd (s : State) : Out := ok s.holdDone

/-! ## The boundaries of a transition -/

/-- A sample boundary counts in the transition that runs, before samples go to their egress buffers. -/
def State.tickTrans (s : State) : State :=
  let k := s.mode.left
  let count := fun (s : State) => s.modMode fun m => { m with left := k - 1 }
  match s.mode.trans with
  | .enter m p =>
    if k = 0 then s
    else if m = 1 then s.enterStart p
    else if m = 2 then (s.setMode 2).transDone
    else if m = 3 ∧ s.opMode ≠ 3 then ((count s).setMode 3).setSync 1
    else count s
  | .fill _ _ => count s
  | .heat => if k = 0 then s else count s
  | .rampIn _ _ => if k = 0 then s else (count s).modMode fun m => { m with outGain := min 64 (m.outGain + 1) }
  | .stop _ _ =>
    let s := count s
    let s := if k = 65 ∨ (k = 1 ∧ s.opMode = 5) then s.progress 0x01 true 1 4 else s
    if k ≤ 1 then s else s.modMode fun m => { m with outGain := m.outGain - 1 }
  | .hold m p =>
    let s := if k = 1 then (s.setMode m).setTrans (.hold m p) 0 else s
    s.modMode fun x => { x with holdGain := if m = 5 then x.holdGain - 1 else min 64 (x.holdGain + 1) }
  | .rate 1 r p =>
    if k = 0 then s.setTrans (.rate 2 r p) 0 else (count s).modMode fun m => { m with outGain := m.outGain - 1 }
  | .rate 4 _ _ => count s
  | .rate 5 _ _ => if k = 0 then s else (count s).modMode fun m => { m with outGain := min 64 (m.outGain + 1) }
  | _ => s

/-- Steps that have come due and that no command has taken. DESIGN CHOICE (log entry 4). -/
def State.transOverdue (s : State) : State :=
  let s := s.rampDone.holdDone.rampIn.stopNow
  let s := match s.planeDue with
    | some (m, p) => s.planeOn m p
    | none => s
  match s.rateDue with
  | some (r, p) => s.rateSwitch r p
  | none => s

end Sys2Proof.Machine
end

