-- ==== Sys2Proof/Machine/Power.lean ====
section
/-! DEFINITION. Power and heat: domains that go off when idle and wake (R582 to R586), voltage and frequency (R587 to R589), supply
monitors (R591 to R594), thermal states (R595 to R599), fans (R600 to R603), and non-volatile writes at a shutdown (R604). -/

namespace Sys2Proof.Machine

/-! ## Writes to flash and fuses that a shutdown cuts short (R604) -/

/-- Bytes that the spec leaves open: `n` of them. -/
def State.openBytes (s : State) (n : Nat) : List Byte × State :=
  let k := s.free
  ((List.range n).map (fun i => BitVec.ofNat 8 (Config.freeValue (k + i))), { s with free := k + n })

/-- Bytes of flash whose erase or programming did not end hold open values. DESIGN CHOICE (log entry 41). -/
def State.flashOpen (s : State) (off n : Nat) : State :=
  let (b, s) := s.openBytes n
  (s.flashErase off n).flashProgram off b

/-- What a flash operation that is abandoned leaves in the flash: a commit leaves the inactive slot without a valid block (R574).
DESIGN CHOICE (log entry 29). DESIGN CHOICE (log entry 41). -/
def State.flashCut (s : State) : State :=
  let s := match s.mgmt.flashOp with
    | .erase a => s.flashOpen a 4096
    | .program a _ => s.flashOpen a 256
    | _ => s
  s.modMgmt fun m => { m with flashOp := .none }

/-- A flash operation or a commit ends with PROV_ABANDONED (R604). -/
def State.flashAbandon (s : State) : State := match s.mgmt.flashOp with
  | .none => s
  | .commit _ => ((((s.flashCut).progressStop 0xF01).put0 Reg.PROV_DONE 1).put0 Reg.PROV_STATUS 0x94).irq Reg.PROV_IRQ_COMMIT
  | _ => (((s.flashCut).put0 Reg.PROV_DONE 1).put0 Reg.PROV_STATUS 0x94).irq Reg.PROV_IRQ_FLASH

/-- Mark the first `n` repairs of a burn as fused. -/
def State.fuseDone (s : State) (l : List (Nat × Nat × Nat)) : State :=
  let mark := fun (r : Repair) => { r with fused := r.fused || l.contains (r.bank, r.row, r.spare) }
  s.modMgmt fun m => { m with repairs := m.repairs.map mark }

/-- A burn of the eFuse table ends (R638): `done` entries are complete and `spent` are consumed. -/
def State.fuseEnd (s : State) (done spent status : Nat) : State := match s.mgmt.burn with
  | none => s
  | some b =>
    let s := (s.fuseDone (b.left.take done)).modMgmt fun m => { m with burn := none, fuseUsed := min 256 (m.fuseUsed + spent) }
    let s := s.put0 Reg.REP_FUSE_LEFT (256 - s.mgmt.fuseUsed)
    let s := (s.progress 0xD6 false (min done b.left.length) b.left.length).showRepairs
    (((s.put0 Reg.REP_BUSY 0).put0 Reg.REP_DONE 1).put0 Reg.REP_STATUS status).irq Reg.REP_IRQ_FUSE_DONE

/-- A burn stops after the bit in progress (R604, R638): how many entries are complete by then is open, and so is whether a further
one is spent. -/
def State.fuseStop (s : State) : State := match s.mgmt.burn with
  | none => s
  | some b =>
    let (v, s) := s.draw
    let n := b.left.length
    let done := v % (n + 1)
    s.fuseEnd done (min n (done + v / (n + 1) % 2)) 0xA4

/-! ## Fans (R600 to R603) -/

/-- Tj in 0.25 °C. -/
def State.tj (s : State) : Int := sx 16 (s.get Reg.THERM_TJ)

/-- The hardware floor F(Tj) in 0.1 % (R600); the rounding of the linear part to whole steps is open. -/
def State.fanFloor (s : State) : Nat :=
  let m := s.mgmt
  if 1 ≤ s.get Reg.THERM_STATE ∨ m.fanTHi < s.tj then (if 1 ≤ s.get Reg.THERM_STATE then 1000 else m.fanDHi)
  else if s.tj < m.fanTLo then m.fanDLo
  else
    let num := (s.tj - m.fanTLo).toNat * (m.fanDHi - m.fanDLo)
    let den := (m.fanTHi - m.fanTLo).toNat
    m.fanDLo + num / den + (if num % den ≠ 0 ∧ Config.fanRoundsUp num den then 1 else 0)

/-- The duty of one fan (R601, R602). DESIGN CHOICE (log entry 33). -/
def State.fanDuty (f : Nat) (s : State) : State :=
  let floor := s.fanFloor
  let top := s.get Reg.FAN_MAX f
  let s := s.put Reg.FAN_FLOOR f floor
  let s := if top < floor then (if bit (s.get Reg.FAN_PC) f then s else (s.setBitOf Reg.FAN_PC 0 f true).irq Reg.FAN_IRQ_PC) else s
  let duty := if top < floor then floor else min top (max floor (s.get Reg.FAN_MIN f))
  s.put Reg.FAN_DUTY f (if s.getB Reg.FAN_FAIL (1 - f) then 1000 else duty)

/-- Both fans follow Tj, the thermal state and their limits. DESIGN CHOICE (log entry 21). -/
def State.fans (s : State) : State := State.fanDuty 1 (State.fanDuty 0 s)

/-- FAN_FAIL (R602): 2 s below TACH_MIN at a duty of 30 % or more. -/
def execFanFail (f rpm : Nat) (s : State) : Out :=
  if 2 ≤ f ∨ s.mgmt.fanTach ≤ rpm ∨ s.get Reg.FAN_DUTY f < 300 ∨ s.getB Reg.FAN_FAIL f then ok s
  else
    let s := ((s.put Reg.FAN_RPM f rpm).put Reg.FAN_FAIL f 1).irq Reg.FAN_IRQ_FAIL
    ok (s.raise Src.FAN_FAIL { page := 0 }).fans

/-- FAN_RECOVER (R602): 2 s above TACH_MIN. -/
def execFanRecover (f rpm : Nat) (s : State) : Out :=
  if 2 ≤ f ∨ rpm ≤ s.mgmt.fanTach then ok s else ok ((s.put Reg.FAN_RPM f rpm).put Reg.FAN_FAIL f 0).fans

/-! ## Thermal (R595 to R599) -/

/-- Thresholds in 0.25 °C: 1 WARN, 2 SHED, 3 SHUTDOWN. -/
def heatLimit (k : Nat) : Int := if k = 1 then 400 else if k = 2 then 420 else 460

/-- Take one sensor's reading (R595). DEDUCED (log entry 31). -/
def State.sensor (t : List Int) (i : Nat) (s : State) : State :=
  let v := t.getD i 0
  let old := tget ((0 : Int), 0) s.pwr.same i
  let n := if old.1 = v ∧ old.2 ≠ 0 then old.2 + 1 else 1
  let s := (s.put Reg.THERM_SENSOR i (unsx 16 v)).modPwr fun p => { p with same := tput (0, 0) p.same i (v, n) }
  if !s.pwr.aside.contains i && (decide (v < -200) || decide (600 < v) || decide (1001 ≤ n)) then
    let s := ((s.put Reg.THERM_ASIDE i 1).irq Reg.THERM_IRQ_SENSOR).modPwr fun p => { p with aside := p.aside ++ [i] }
    s.raise Src.THERM_SENSOR { page := 0 }
  else s

/-- The largest of a list of readings. -/
def hottest : List Int → Int
  | [] => -32768
  | a :: r => max a (hottest r)

/-- ms for which every reading has been above, or below, a threshold (R596). DEDUCED (log entry 31). -/
def State.dwell (tj : Int) (k : Nat) (s : State) : State :=
  let up := decide (heatLimit k < tj)
  let down := decide (tj < heatLimit k - 20)
  s.modPwr fun p =>
    { p with above := tput 0 p.above k (if up then tget 0 p.above k + 1 else 0),
             under := tput 0 p.under k (if down then tget 0 p.under k + 1 else 0) }

/-- The highest threshold crossed upward and not since crossed downward (R596). -/
def Power.level (p : Power) : Nat :=
  let up := fun k => decide (1001 ≤ tget 0 p.above k)
  let low := fun k => decide (1001 ≤ tget 0 p.under k)
  let c := p.crossed
  if up 3 then 3 else if up 2 ∧ c < 2 then 2 else if up 1 ∧ c < 1 then 1
  else if c = 0 ∨ !low c then c
  else if 2 < c ∧ !low 2 then 2 else if 1 < c ∧ !low 1 then 1 else 0

/-- SENSOR_READ (R595, R596, R599): the eight sensors, each ms. DEDUCED (log entry 31). -/
def execSensorRead (t : List Int) (s : State) : Out :=
  let s := s.advanceTo (s.pwr.thermAt + msEdges)
  let s := s.modPwr fun p => { p with thermAt := s.clk.now }
  let s := forRange (State.sensor t) 0 8 s
  let live := (below 8 fun i => !s.pwr.aside.contains i).map fun i => t.getD i 0
  let tj := if live.length < 2 then 440 else hottest live
  let s := s.put0 Reg.THERM_TJ (unsx 16 tj)
  let s := if sx 16 (s.get Reg.THERM_TJ_MAX) < tj then s.put0 Reg.THERM_TJ_MAX (unsx 16 tj) else s
  let s := forRange (State.dwell tj) 1 3 s
  let s := s.modPwr fun p =>
    { p with crossed := p.level, sinceChg := p.sinceChg + 1, tripped := p.tripped || (List.range 8).any (fun i => decide (500 ≤ t.getD i 0)) }
  let s := if s.get Reg.THERM_STATE = 2 then
      let ms := s.pwr.shedMs + 1
      let s := s.modPwr fun p => { p with shedMs := ms }
      if ms % 1000 = 0 then s.count Reg.THERM_SHED_SECS else s
    else s
  ok s.fans

/-- Thermal SHUTDOWN takes the engine to PARK (R559, R598): no ramp, no self-test, any transition ends. Where audio runs, the data
plane stops at the next sample boundary (R59). -/
def State.heatPark (s : State) : State :=
  let s := (s.flashAbandon).fuseStop
  if s.opMode = 0 then s
  else
    let s := match s.mode.trans with
      | .none => s
      | t => (s.modeAnswerOf (transPlane t) Mst.MODE_BUSY).transIdle
    let s := (s.irq Reg.MODE_IRQ_FORCED).transBegin .heat 1 0
    if s.mode.running then s else ((s.setTrans .heat 0).setMode 0).domainsOff.transDone

/-- THERMAL_STATE_CHANGE (R596 to R598): the state follows the thresholds crossed, 1 s or more after its last change.
DESIGN CHOICE (log entry 3). DEDUCED (log entry 31). -/
def execThermalStateChange (s : State) : Out :=
  let k := s.pwr.crossed
  if k = s.get Reg.THERM_STATE ∨ s.pwr.sinceChg < 1000 then ok s
  else
    let s := ((s.put0 Reg.THERM_STATE k).irq Reg.THERM_IRQ_STATE).modPwr fun p => { p with sinceChg := 0 }
    let s := if k = 1 then s.put0 Reg.THERM_WARN 1 else if k = 2 then s.put0 Reg.THERM_SHED 1
      else if k = 3 then s.put0 Reg.THERM_SHUTDOWN 1 else s
    let s := (s.showPasses).putB Reg.MARCH_PAUSED 0 (s.mgmt.marchRun && (decide (2 ≤ k) || s.get Reg.SUP_WARN_NOW != 0))
    ok (if k = 3 then s.fans.heatPark else s.fans)

/-! ## Supply monitors (R591 to R594) -/

/-- Rails that the board may remove in PARK are not monitored while PARK_N is low (R592). DEDUCED (log entry 32). -/
def State.railWatched (s : State) (r : Nat) : Bool := !(s.pwr.parkN && (r == 0 || r == 3 || r == 4 || r == 8 || r == 9))

/-- One rail's sample. -/
def State.rail (mv : List Nat) (r : Nat) (s : State) : State :=
  let v := mv.getD r 0
  let s := s.put Reg.SUP_MV r v
  if !s.railWatched r then s
  else
    let x := tget {} s.pwr.rails r
    let low := decide (v < s.get Reg.SUP_WARN_MV r)
    let x := { x with belowWarn := if low then x.belowWarn + 1 else 0,
                      belowReset := if v < s.get Reg.SUP_RESET_MV r then x.belowReset + 1 else 0 }
    let s := if s.get Reg.SUP_OV_MV r < v then (s.setBitOf Reg.SUP_OV 0 r true).irq Reg.SUP_IRQ_OV else s
    let begins := !x.warning && decide (2 ≤ x.belowWarn)
    let ends := x.warning && decide (s.get Reg.SUP_WARN_MV r < v)
    let now := s.clk.now
    let y := if begins then { x with warning := true, since := now } else if ends then { x with warning := false } else x
    let s := s.modPwr fun p => { p with rails := tput {} p.rails r y }
    if begins then
      let s := ((s.setBitOf Reg.SUP_WARN_NOW 0 r true).setBitOf Reg.SUP_SUPPLY_WARN 0 r true).irq Reg.SUP_IRQ_WARN
      (s.count Reg.SUP_WARN_CNT r).modPwr fun p => { p with hold := true, holdFrom := none }
    else if ends then
      let s := s.setBitOf Reg.SUP_WARN_NOW 0 r false
      (s.put0 Reg.SUP_LAST_RAIL r).put0 Reg.SUP_LAST_DUR (min (2 ^ 32 - 1) ((now - x.since) / usEdges))
    else s

/-- The 10 ms before receipt resumes (R593): every rail above its warning threshold. DEDUCED (log entry 32). -/
def State.holdTick (mv : List Nat) (s : State) : State :=
  let high := s.get Reg.SUP_WARN_NOW == 0 && (List.range 10).all fun r => !s.railWatched r || decide (s.get Reg.SUP_WARN_MV r < mv.getD r 0)
  let now := s.clk.now
  if !s.pwr.hold then s
  else
    let s := s.modPwr fun p => { p with holdFrom := if high then some (p.holdFrom.getD now) else none }
    s.put0 Reg.SUP_HOLD_LEFT (match s.pwr.holdFrom with
      | some t => 10 - (now - t) / msEdges
      | none => 10)

/-- SUPPLY_SAMPLE (R591, R593): the ten rails, each µs. A device reset that follows is its own command. DEDUCED (log entry 32). -/
def execSupplySample (mv : List Nat) (s : State) : Out :=
  let s := s.advanceTo (s.pwr.supAt + usEdges)
  let s := s.modPwr fun p => { p with supAt := s.clk.now }
  let s := (forRange (State.rail mv) 0 10 s).holdTick mv
  let s := if s.get Reg.SUP_WARN_NOW ≠ 0 then s.fuseStop else s
  let s := s.putB Reg.MARCH_PAUSED 0 (s.mgmt.marchRun && (decide (2 ≤ s.get Reg.THERM_STATE) || s.get Reg.SUP_WARN_NOW != 0))
  ok s.showPasses.showScn

/-- SUPPLY_HOLD_END (R271, R593): receipt resumes. DEDUCED (log entry 32). -/
def execSupplyHoldEnd (s : State) : Out := match s.pwr.holdFrom with
  | some t =>
    if !s.pwr.hold || s.get Reg.SUP_WARN_NOW != 0 then ok s
    else
      let s := s.advanceTo (t + 10 * msEdges)
      ok ((s.modPwr fun p => { p with hold := false, holdFrom := none }).put0 Reg.SUP_HOLD_LEFT 0).showScn
  | none => ok s

/-! ## Voltage and frequency (R587 to R589) -/

/-- VDD_CORE of a divider code, in mV. -/
def coreMv (code : Nat) : Nat := if code = 0 then 750 else if code = 1 then 680 else 650

/-- Thresholds of VDD_CORE for a level (R592). -/
def State.coreLimits (s : State) (code : Nat) : State :=
  let v := coreMv code
  ((s.put Reg.SUP_WARN_MV 0 (v - 35)).put Reg.SUP_RESET_MV 0 (v - 70)).put Reg.SUP_OV_MV 0 (v + 50)

/-- The status of a divider request (R588); 0 where it is accepted. DEDUCED (log entry 34). -/
def State.dvfsCheck (s : State) (v : Nat) : Nat :=
  let div := v + 2
  let p := shortestPeriod s.rate div
  let cut : Bool := match s.mode.trans with | .rate _ _ _ => true | _ => false
  if s.pwr.dvfs.isSome || cut then 0x80
  else if v = 3 ∨ v < s.get Reg.PWR_DVFS_CEIL then 0x81
  else if v < s.get Reg.PWR_DIV_NOW ∧ 1 ≤ s.get Reg.THERM_STATE then 0x82
  else if s.get Reg.SUP_WARN_NOW ≠ 0 then 0x83
  else if s.budgetAt s.rate div (tiersUsed s.xps) < s.reservation s.stagedMoves then 0x84
  else if (List.range 34).any (fun e => !s.unitDown (seUnit e) &&
      decide (9 * p / 10 < s.get Reg.SE_IN_STRIPS e * s.prog.wIn + s.get Reg.SE_OUT_STRIPS e * s.prog.wOut)) then 0x85
  else 0

/-- A divider request ends. -/
def State.dvfsEnd (s : State) (st : Nat) : State :=
  let s := (s.coreLimits (s.get Reg.PWR_VID_NOW)).modPwr fun p => { p with dvfs := none }
  ((s.put0 Reg.PWR_BUSY 0).put0 Reg.PWR_STATUS st).irq Reg.PWR_IRQ_DVFS

/-- DVFS_REQ (R588, R589, R606): a write from the management bus. DEDUCED (log entry 34). -/
def execDvfsReq (p : Plane) (v : Word) (s : State) : Out :=
  let code := v.toNat % 4
  if p != .mgmt then ok s
  else match s.dvfsCheck code with
    | 0 =>
      if code = s.get Reg.PWR_DIV_NOW then ok (s.dvfsEnd 0)
      else
        let raise := decide (code < s.get Reg.PWR_DIV_NOW)
        let s := (s.put0 Reg.PWR_BUSY 1).coreLimits (max code (s.get Reg.PWR_DIV_NOW))
        if raise then ok ((s.put0 Reg.PWR_VID_NOW code).modPwr fun p => { p with dvfs := some (code, 1) })
        else ok (s.modPwr fun p => { p with dvfs := some (code, 0) })
    | st => ok ((s.put0 Reg.PWR_STATUS st).irq Reg.PWR_IRQ_DVFS)

/-- DVFS_DIVIDER_CHANGE (R31, R589): at a boundary that lies on 62.5 µs; where no boundary runs, at once. DEDUCED (log entry 34). -/
def execDvfsDividerChange (s : State) : Out := match s.pwr.dvfs with
  | some (code, 0) =>
    if s.clk.placed ∧ s.clk.pos % 187500 ≠ 0 then ok s
    else
      let raise := decide (code < s.get Reg.PWR_DIV_NOW)
      let s := ((s.put0 Reg.PWR_DIV_NOW code).modClk fun c => { c with div := code + 2 }).showBudget
      if raise then ok (s.dvfsEnd 0)
      else ok ((s.put0 Reg.PWR_VID_NOW code).modPwr fun p => { p with dvfs := some (code, 1) })
  | _ => ok s

/-- DVFS_RAIL_CONFIRM (R589): the rail is within 15 mV of its new level. DESIGN CHOICE (log entry 5). DEDUCED (log entry 34). -/
def execDvfsRailConfirm (s : State) : Out := match s.pwr.dvfs with
  | some (code, 1) =>
    if code < s.get Reg.PWR_DIV_NOW then ok (s.modPwr fun p => { p with dvfs := some (code, 0) }) else ok (s.dvfsEnd 0)
  | _ => ok s

/-- DVFS_VOLT_TIMEOUT (R589): the rail was not confirmed within 1 ms. -/
def execDvfsVoltTimeout (s : State) : Out := match s.pwr.dvfs with
  | some (code, 1) =>
    let s := (s.put0 Reg.PWR_VID_NOW (max code (s.get Reg.PWR_DIV_NOW))).raise Src.DVFS_FAULT { page := 0 }
    ok (s.dvfsEnd 0x86)
  | _ => ok s

/-! ## Power domains (R582 to R584) -/

/-- May a domain be off outside PARK (R582)? -/
def State.idleDomain (s : State) (d : Nat) : Bool :=
  if d = 12 then (s.streams false).isEmpty && (s.streams true).isEmpty && !s.getB Reg.TIME_EN 0 && !s.getB Reg.TIME_EN 1
  else if d = 13 then (List.range 60).all (fun p => !s.rxEn p && !byPort p (fun t => s.getB Reg.AESTX_EN t) (fun m => s.getB Reg.MADI_TX_EN m)
    (fun q => s.getB Reg.TDM_TX_EN q)) && s.ports.balls.isEmpty && s.ballsListed.all (fun n => s.get Reg.PMUX_FUNC n == 0)
  else if d = 14 then !s.getB Reg.KZL_EN 0 && !s.getB Reg.KZL_EN 1 && !s.getB Reg.STBY_PAIR
  else if d = 16 then s.get Reg.BC_CHAN_LOADED 0 == 0 && s.get Reg.BC_CHAN_LOADED 1 == 0
  else false

/-- A lane goes off or loses its lock. -/
def State.laneDark (l : Nat) (s : State) : State :=
  let s := ((s.put Reg.LANE_CDR_LOCK l 0).put Reg.LANE_ADAPT_DONE l 0).put Reg.LANE_BLOCK_LOCK l 0
  (((s.put Reg.LANE_CHK_LOCK l 0).put Reg.LANE_RATE l 0).put Reg.LANE_SIG_DET l 0).setBitOf Reg.LANE_CDR_MAP 0 l false

/-- DOMAIN_IDLE_OFF (R583): a domain whose bit is set and whose condition holds goes off. -/
def execDomainIdleOff (d : Nat) (s : State) : Out :=
  if 17 ≤ d ∨ !bit (s.get Reg.PWR_IDLE_OFF) d ∨ s.opMode = 0 ∨ s.domState d ≠ 3 ∨ !s.idleDomain d then ok s
  else
    let s := s.setDom d 0
    if d = 12 then ok ((State.linkDown 1 (State.linkDown 0 s)).laneDark 0 |>.laneDark 1)
    else if d = 14 then ok (forRange State.laneDark 6 8 s)
    else ok s

/-- DOMAIN_WAKE (R583): an access or a move's receipt wakes a domain; in PARK only PD_SRAM0 from RETAIN (R586). -/
def execDomainWake (d : Nat) (s : State) : Out :=
  if 17 ≤ d ∨ (s.opMode = 0 ∧ (d ≠ 4 ∨ s.domState d ≠ 1)) then ok s else ok (s.wakeStart d)

end Sys2Proof.Machine
end

