-- ==== Sys2Proof/Machine/Crypto.lean ====
section
/-! DEFINITION. The standard algorithms that the key store names (R577, R579, R580): HMAC-SHA-256 and AES-256 key wrap (RFC 3394).
PRESUMED: the spec names them and their standards define them. -/

namespace Sys2Proof.Machine

/-! ## SHA-256 and HMAC -/

/-- Round constants. -/
def shaK0 : List Word :=
  [0x428A2F98, 0x71374491, 0xB5C0FBCF, 0xE9B5DBA5, 0x3956C25B, 0x59F111F1, 0x923F82A4, 0xAB1C5ED5,
   0xD807AA98, 0x12835B01, 0x243185BE, 0x550C7DC3, 0x72BE5D74, 0x80DEB1FE, 0x9BDC06A7, 0xC19BF174,
   0xE49B69C1, 0xEFBE4786, 0x0FC19DC6, 0x240CA1CC, 0x2DE92C6F, 0x4A7484AA, 0x5CB0A9DC, 0x76F988DA,
   0x983E5152, 0xA831C66D, 0xB00327C8, 0xBF597FC7, 0xC6E00BF3, 0xD5A79147, 0x06CA6351, 0x14292967]
def shaK1 : List Word :=
  [0x27B70A85, 0x2E1B2138, 0x4D2C6DFC, 0x53380D13, 0x650A7354, 0x766A0ABB, 0x81C2C92E, 0x92722C85,
   0xA2BFE8A1, 0xA81A664B, 0xC24B8B70, 0xC76C51A3, 0xD192E819, 0xD6990624, 0xF40E3585, 0x106AA070,
   0x19A4C116, 0x1E376C08, 0x2748774C, 0x34B0BCB5, 0x391C0CB3, 0x4ED8AA4A, 0x5B9CCA4F, 0x682E6FF3,
   0x748F82EE, 0x78A5636F, 0x84C87814, 0x8CC70208, 0x90BEFFFA, 0xA4506CEB, 0xBEF9A3F7, 0xC67178F2]

/-- Initial hash value. -/
def shaInit : List Word :=
  [0x6A09E667, 0xBB67AE85, 0x3C6EF372, 0xA54FF53A, 0x510E527F, 0x9B05688C, 0x1F83D9AB, 0x5BE0CD19]

/-- Rotate right. -/
def rotr (x : Word) (n : Nat) : Word := x >>> n ||| x <<< (32 - n)

/-- Big-endian bytes of a number. -/
def bigBytes (n x : Nat) : List Byte := (leBytes n x).reverse
def ofBigBytes (b : List Byte) : Nat := ofLeBytes b.reverse

/-- Big-endian words of a byte list. -/
def bigWords : List Byte → List Word
  | a :: b :: c :: d :: r => BitVec.ofNat 32 (ofBigBytes [a, b, c, d]) :: bigWords r
  | _ => []

/-- One round on the eight working words. -/
def shaRound (h : List Word) (k w : Word) : List Word := match h with
  | [a, b, c, d, e, f, g, x] =>
    let t1 := x + (rotr e 6 ^^^ rotr e 11 ^^^ rotr e 25) + ((e &&& f) ^^^ (~~~e &&& g)) + k + w
    let t2 := (rotr a 2 ^^^ rotr a 13 ^^^ rotr a 22) + ((a &&& b) ^^^ (a &&& c) ^^^ (b &&& c))
    [t1 + t2, a, b, c, d + t1, e, f, g]
  | _ => h

/-- The rounds of a block: the constants left, the sixteen message words next in use, the working words. -/
def shaRounds : List Word → List Word → List Word → List Word
  | [], _, h => h
  | k :: ks, m, h =>
    let w := fun i => m.getD i 0
    let s0 := rotr (w 1) 7 ^^^ rotr (w 1) 18 ^^^ (w 1 >>> 3)
    let s1 := rotr (w 14) 17 ^^^ rotr (w 14) 19 ^^^ (w 14 >>> 10)
    shaRounds ks (m.drop 1 ++ [w 0 + s0 + w 9 + s1]) (shaRound h k (w 0))

/-- Compress `n` blocks. -/
def shaBlocks : Nat → List Word → List Word → List Word
  | 0, _, h => h
  | n + 1, m, h => shaBlocks n (m.drop 16) (List.zipWith (· + ·) h (shaRounds (shaK0 ++ shaK1) (m.take 16) h))

/-- SHA-256. PRESUMED (log entry 37). -/
def sha256 (b : List Byte) : List Byte :=
  let pad := (119 - b.length % 64) % 64
  let m := b ++ [0x80] ++ List.replicate pad 0 ++ bigBytes 8 (8 * b.length)
  (shaBlocks (m.length / 64) (bigWords m) shaInit).flatMap fun w => bigBytes 4 w.toNat

/-- HMAC-SHA-256 under a key of at most 64 bytes. PRESUMED (log entry 37). -/
def hmac (key msg : List Byte) : List Byte :=
  let k := key ++ List.replicate (64 - key.length) 0
  sha256 (k.map (· ^^^ 0x5C) ++ sha256 (k.map (· ^^^ 0x36) ++ msg))

/-! ## AES-256 -/

/-- Product in the field of AES: `n` bits of `b` still to use. -/
def gfMul : Nat → Byte → Byte → Byte
  | 0, _, _ => 0
  | n + 1, a, b =>
    let a2 := (a <<< 1) ^^^ (if a.getLsbD 7 then 0x1B else 0)
    (if b.getLsbD 0 then a else 0) ^^^ gfMul n a2 (b >>> 1)

/-- The inverse in the field, 0 for 0: the power 254. -/
def gfInv (x : Byte) : Byte :=
  let m := gfMul 8
  let x2 := m x x; let x4 := m x2 x2; let x8 := m x4 x4; let x16 := m x8 x8; let x32 := m x16 x16; let x64 := m x32 x32
  m (m (m x64 x64) x64) (m (m x32 x16) (m x8 (m x4 x2)))

/-- Rotate a byte left. -/
def rotl8 (x : Byte) (n : Nat) : Byte := x <<< n ||| x >>> (8 - n)

/-- The substitution of AES and its inverse. -/
def aesSub (x : Byte) : Byte :=
  let y := gfInv x
  y ^^^ rotl8 y 1 ^^^ rotl8 y 2 ^^^ rotl8 y 3 ^^^ rotl8 y 4 ^^^ 0x63
def aesUnsub (x : Byte) : Byte := gfInv (rotl8 x 1 ^^^ rotl8 x 3 ^^^ rotl8 x 6 ^^^ 0x05)

/-- The next eight words of a key schedule from the last eight, as 32 bytes. -/
def aesExpand (rcon : Byte) (k : List Byte) : List Byte :=
  let w := fun i => (k.drop (4 * i)).take 4
  let xor := List.zipWith (fun (a b : Byte) => a ^^^ b)
  let t := match (w 7).map aesSub with
    | [a, b, c, d] => [b ^^^ rcon, c, d, a]
    | l => l
  let w0 := xor (w 0) t; let w1 := xor (w 1) w0; let w2 := xor (w 2) w1; let w3 := xor (w 3) w2
  let w4 := xor (w 4) (w3.map aesSub); let w5 := xor (w 5) w4; let w6 := xor (w 6) w5; let w7 := xor (w 7) w6
  w0 ++ w1 ++ w2 ++ w3 ++ w4 ++ w5 ++ w6 ++ w7

/-- The key schedule: `n` further pairs of round keys. -/
def aesSchedule : Nat → Byte → List Byte → List Byte
  | 0, _, k => k
  | n + 1, rcon, k => k ++ aesSchedule n (rcon <<< 1) (aesExpand rcon k)

/-- Round keys of AES-256. -/
def aesKeys (key : List Byte) : List (List Byte) :=
  let s := aesSchedule 7 1 key
  (List.range 15).map fun i => (s.drop (16 * i)).take 16

/-- Bytes at permuted places. -/
def pick (p : List Nat) (b : List Byte) : List Byte := p.map (b.getD · 0)

/-- Shift the rows, and shift them back. -/
def aesShift : List Byte → List Byte := pick [0, 5, 10, 15, 4, 9, 14, 3, 8, 13, 2, 7, 12, 1, 6, 11]
def aesUnshift : List Byte → List Byte := pick [0, 13, 10, 7, 4, 1, 14, 11, 8, 5, 2, 15, 12, 9, 6, 3]

/-- Multiply each column by a circulant matrix. -/
def aesMix (m0 m1 m2 m3 : Byte) (b : List Byte) : List Byte :=
  let g := gfMul 8
  (List.range 16).map fun i =>
    let x := fun j => b.getD (i / 4 * 4 + (i + j) % 4) 0
    g (x 0) m0 ^^^ g (x 1) m1 ^^^ g (x 2) m2 ^^^ g (x 3) m3

/-- Add a round key. -/
def aesAdd (b k : List Byte) : List Byte := List.zipWith (fun (x y : Byte) => x ^^^ y) b k

/-- Rounds of encryption with the round keys left; the last has no mixing. -/
def aesRounds : List (List Byte) → List Byte → List Byte
  | [], b => b
  | [k], b => aesAdd (aesShift (b.map aesSub)) k
  | k :: ks, b => aesRounds ks (aesAdd (aesMix 2 3 1 1 (aesShift (b.map aesSub))) k)

/-- Rounds of decryption with the round keys left, in reverse order; the last has no mixing. -/
def aesUnrounds : List (List Byte) → List Byte → List Byte
  | [], b => b
  | [k], b => aesAdd ((aesUnshift b).map aesUnsub) k
  | k :: ks, b => aesUnrounds ks (aesMix 14 11 13 9 (aesAdd ((aesUnshift b).map aesUnsub) k))

/-- AES-256 of one block, and its inverse. PRESUMED (log entry 37). -/
def aesEncrypt (key b : List Byte) : List Byte := match aesKeys key with
  | k :: ks => aesRounds ks (aesAdd b k)
  | [] => b
/-- PRESUMED (log entry 37). -/
def aesDecrypt (key b : List Byte) : List Byte := match (aesKeys key).reverse with
  | k :: ks => aesUnrounds ks (aesAdd b k)
  | [] => b

/-! ## Key wrap -/

/-- One step of the wrap: the check block and the four blocks, with the step number. -/
def wrapStep (key : List Byte) (t : Nat) (s : List Byte × List (List Byte)) : List Byte × List (List Byte) :=
  let i := (t - 1) % 4
  let b := aesEncrypt key (s.1 ++ s.2.getD i [])
  (aesAdd (b.take 8) (bigBytes 8 t), s.2.set i (b.drop 8))

/-- A step undone. -/
def unwrapStep (key : List Byte) (t : Nat) (s : List Byte × List (List Byte)) : List Byte × List (List Byte) :=
  let i := (t - 1) % 4
  let b := aesDecrypt key (aesAdd s.1 (bigBytes 8 t) ++ s.2.getD i [])
  (b.take 8, s.2.set i (b.drop 8))

/-- Blocks of eight bytes. -/
def blocks8 (b : List Byte) : List (List Byte) := (List.range 4).map fun i => (b.drop (8 * i)).take 8

/-- The initial value that an unwrap checks. -/
def wrapIv : List Byte := List.replicate 8 0xA6

/-- A 32-byte key wrapped: 40 bytes. PRESUMED (log entry 37). -/
def keyWrap (kek key : List Byte) : List Byte :=
  let r := (List.range 24).foldl (fun s k => wrapStep kek (k + 1) s) (wrapIv, blocks8 key)
  r.1 ++ r.2.flatten

/-- The key of 40 bytes, if its integrity check holds. PRESUMED (log entry 37). -/
def keyUnwrap (kek b : List Byte) : Option (List Byte) :=
  let r := (List.range 24).foldl (fun s k => unwrapStep kek (24 - k) s) (b.take 8, blocks8 (b.drop 8))
  if b.length = 40 ∧ r.1 = wrapIv then some r.2.flatten else none

end Sys2Proof.Machine
end

