-- ==== Sys2Proof/Machine/Prov.lean ====
section
/-! DEFINITION. The key store (R576 to R581), the provisioning block and its commits (R572 to R575), the flash window (R571), and the
FLT record (R620). -/

namespace Sys2Proof.Machine

/-! ## The key store (R576 to R581) -/

/-- A replay counter. -/
def State.keyCtr (s : State) (k : Nat) : Nat :=
  if k = 0 then s.get Reg.KEY_CTR0_LO + 2 ^ 32 * s.get Reg.KEY_CTR0_HI else s.get Reg.KEY_CTR1_LO + 2 ^ 32 * s.get Reg.KEY_CTR1_HI
def State.setKeyCtr (s : State) (k v : Nat) : State :=
  if k = 0 then (s.put0 Reg.KEY_CTR0_LO v).put0 Reg.KEY_CTR0_HI (v / 2 ^ 32)
  else (s.put0 Reg.KEY_CTR1_LO v).put0 Reg.KEY_CTR1_HI (v / 2 ^ 32)

/-- A management key. -/
def State.mkey (s : State) (k : Nat) : Option (List Byte) := if k = 0 then s.mgmt.keys.key0 else s.mgmt.keys.key1

/-- Are both key slots EMPTY? -/
def State.keysEmpty (s : State) : Bool := s.mgmt.keys.key0.isNone && s.mgmt.keys.key1.isNone

/-- KEY_DATA (R577, R610): the next envelope word; words past the longest envelope only tell that it is too long. -/
def execKeyData (p : Plane) (v : Word) (s : State) : Out :=
  if p != .mgmt then ok s
  else ok (s.modMgmt fun m => { m with keys := { m.keys with envelope := (m.keys.envelope ++ [v]).take 257 } })

/-- The status of an envelope (R577, R610) and its key slot. DEDUCED (log entry 36). -/
def State.keyCheck (s : State) : Nat × Nat :=
  let ws := s.mgmt.keys.envelope.map (·.toNat)
  let w := fun i => ws.getD i 0
  let id := w 0 % 2
  let len := bits (w 0) 31 16
  let body := 16 + (len + 3) / 4 * 4
  let b := wordBytes ws
  if 976 < len ∨ b.length ≠ body + 32 then (5, id)
  else match s.mkey id with
    | none => (4, id)
    | some k =>
      if hmac k (b.take body) ≠ b.drop body then (1, id)
      else if w 3 ≠ s.get Reg.KEY_UID then (3, id)
      else if w 1 + 2 ^ 32 * w 2 ≤ s.keyCtr id then (2, id)
      else (0, id)

/-- KEY_CHECK (R577): the envelope written since the last check. DEDUCED (log entry 36). PRESUMED (log entry 37). -/
def execKeyCheck (p : Plane) (s : State) : Out :=
  if p != .mgmt then ok s
  else
    let (st, id) := s.keyCheck
    let ws := s.mgmt.keys.envelope.map (·.toNat)
    let s := s.modMgmt fun m => { m with keys := { m.keys with envelope := [] } }
    let s := ((s.putB Reg.KEY_AUTH 0 (st == 0)).put0 Reg.KEY_ID id).put0 Reg.KEY_STATUS st
    ok (if st = 0 then s.setKeyCtr id (ws.getD 1 0 + 2 ^ 32 * ws.getD 2 0) else s)

/-- KEY_DONE (R577). -/
def execKeyDone (p : Plane) (s : State) : Out := ok (if p == .mgmt then s.put0 Reg.KEY_AUTH 0 else s)

/-- KEY_WRAP (R580, R578): in MAINT, under the current key of the same slot or with both slots EMPTY; the device key's read path must
be open (R581). -/
def execKeyWrap (p : Plane) (v : Word) (s : State) : Out :=
  let slot := v.toNat % 2
  if p != .mgmt || !bit v.toNat 31 || s.opMode != 2 || s.mgmt.keys.closed ||
      !((s.getB Reg.KEY_AUTH && s.get Reg.KEY_ID == slot) || s.keysEmpty) then ok s
  else
    let new := wordBytes ((List.range 8).map fun i => s.get Reg.KEY_NEW i)
    let ws := leWords (keyWrap Config.deviceKey new)
    let s := forRange (fun i s => s.put Reg.KEY_WRAPPED i (ws.getD i 0)) 0 10 s
    ok (forRange (fun i s => s.put Reg.KEY_NEW i 0) 0 8 s)

/-- SCAN_CHAIN_ENABLE (R581). DEDUCED (log entry 39). -/
def execScanChainEnable (s : State) : Out := ok s.keyClear

/-! ## Provisioning slots (R572, R573) -/

/-- A record: TYPE, VERSION and body. -/
abbrev ProvRec := Nat × Nat × List Nat

/-- Records that fit a run of words exactly. -/
def provRecs : Nat → List Nat → Option (List ProvRec)
  | _, [] => some []
  | 0, _ => none
  | n + 1, h :: r =>
    let k := h % 65536
    if k ≤ r.length then (provRecs n (r.drop k)).map ((bits h 31 24, bits h 23 16, r.take k) :: ·) else none

/-- GEN and records of a slot image that is valid (R573). -/
def provParse (b : List Byte) : Option (Nat × List ProvRec) :=
  let ws := leWords b
  let w := fun i => ws.getD i 0
  let len := w 2
  if b.length < 16 + len ∨ w 0 ≠ 0x50524F56 ∨ len % 4 ≠ 0 ∨ 65520 < len ∨ crc32 (b.take 12 ++ (b.drop 16).take len) ≠ w 3 then none
  else (provRecs (len / 4 + 1) ((ws.drop 4).take (len / 4))).map fun r => (w 1, r)

/-- A slot of the flash. -/
def State.provSlot (s : State) (k : Nat) : Option (Nat × List ProvRec) := provParse (s.flashRead (0x10000 * k) 65536)

/-- Does the engine know a record's TYPE and VERSION? -/
def provKnown (r : ProvRec) : Bool := decide (1 ≤ r.1) && decide (r.1 ≤ 0x0A) && Config.provVersion r.1 r.2.1

/-- Body of the record of a TYPE. -/
def provBody (rs : List ProvRec) (t : Nat) : Option (List Nat) :=
  ((rs.filter provKnown).find? (·.1 == t)).map (·.2.2)

/-! ## Records -/

/-- FLT (R620): configuration of one source. -/
def State.fltSource (ws : List Nat) (src : Nat) (s : State) : State :=
  let a := fldAt Reg.FLTC_N src
  let old := (s.word a).toNat
  let put := fun (s : State) (v : Nat) =>
    let s := s.setWord a (BitVec.ofNat 32 v)
    if bits old 23 0 = bits v 23 0 then s
    else (s.put Reg.FLTS_IN_WINDOW src 0).modFlt fun f => { f with wins := tput {} f.wins src {} }
  let def' := (resetWord a).toNat
  if 0xC0 < src then (if ws.getD (1 + src) 0 = 0 then s else s.put0 Reg.FLT_PROV_ERR 1)
  else match ws[1 + src]? with
    | none => (put s def').put0 Reg.FLT_PROV_ERR 1
    | some v =>
      if bits v 23 16 = 0 ∨ bits v 15 0 = 0 then (put s def').put0 Reg.FLT_PROV_ERR 1
      else put s (bits v 31 30 * 2 ^ 30 + bits v 23 0)

/-- FLT record, or the defaults of R614 and R618 without one. -/
def State.fltLoad (s : State) (body : Option (List Nat)) : State := match body with
  | some ws => forRange (State.fltSource ws) 0 256 (s.put0 Reg.FLT_COMPAT (ws.getD 0 0 % 2))
  | none =>
    let e := s.get Reg.FLT_PROV_ERR
    (forRange (State.fltSource []) 0 256 (s.put0 Reg.FLT_COMPAT 0)).put0 Reg.FLT_PROV_ERR e

/-- FAN (R603): six words; a record that breaks the rules, or none, gives the defaults. DEDUCED (log entry 38). -/
def State.fanLoad (s : State) (body : Option (List Nat)) : State :=
  let ws := body.getD []
  let lo := sx 32 (ws.getD 0 0)
  let hi := sx 32 (ws.getD 1 0)
  let good := decide (6 ≤ ws.length) && decide (lo < hi) && decide (hi ≤ 400) && decide (ws.getD 2 0 ≤ ws.getD 3 0)
  (s.modMgmt fun m => if good then
      { m with fanTLo := lo, fanTHi := hi, fanDLo := ws.getD 2 0, fanDHi := ws.getD 3 0, fanTach := ws.getD 4 0, fanPulses := ws.getD 5 0 }
    else { m with fanTLo := 240, fanTHi := 380, fanDLo := 300, fanDHi := 1000, fanTach := 600, fanPulses := 2 }).fans

/-- SHED (R629): priorities of strips; 8 where the record does not reach. -/
def State.shedLoad (s : State) (body : Option (List Nat)) : State :=
  let ws := body.getD []
  s.modMgmt fun m => { m with shedPri := (List.range 3072).foldl (fun t i =>
    tput 8 t i (match ws[i / 8]? with | some v => bits v (4 * (i % 8) + 3) (4 * (i % 8)) | none => 8)) [] }

/-- KEYS (R579): two wrapped keys of 40 bytes, eight licence entries of 32 bytes, each an HMAC cut to 28 bytes and its feature word.
DEDUCED (log entry 38). DEDUCED (log entry 39). -/
def State.keysLoad (s : State) (body : Option (List Nat)) : State :=
  let b := wordBytes (body.getD [])
  let part := fun (k : Nat) => (b.drop (40 * k)).take 40
  let k0 := keyUnwrap Config.deviceKey (part 0)
  let k1 := keyUnwrap Config.deviceKey (part 1)
  let s := s.modMgmt fun m => { m with keys := { m.keys with key0 := k0, key1 := k1, closed := false } }
  let bad := fun (k : Nat) (o : Option (List Byte)) => (part k).length != 0 && o.isNone
  let s := ((s.putB Reg.KEY_LOADED0 0 k0.isSome).putB Reg.KEY_LOADED1 0 k1.isSome).putB Reg.KEY_ERR 0 (bad 0 k0 || bad 1 k1)
  let s := s.put0 Reg.KEY_CLEARED 0
  forRange (fun i s =>
    let e := (b.drop (80 + 32 * i)).take 32
    let feat := ofLeBytes (e.drop 28)
    let good := e.length == 32 && (match k0 with
      | some k => (hmac k (leBytes 4 (s.get Reg.KEY_UID) ++ leBytes 4 feat)).take 28 == e.take 28
      | none => false)
    s.put Reg.KEY_LIC_FEAT i (if good then feat else 0)) 0 8 s

/-- KEYCTR (R578): each counter takes the larger of its value and its floor. DEDUCED (log entry 38). -/
def State.keyCtrLoad (s : State) (body : Option (List Nat)) : State :=
  let ws := body.getD []
  let f := fun (k : Nat) => ws.getD (2 * k) 0 + 2 ^ 32 * ws.getD (2 * k + 1) 0
  let s := s.modMgmt fun m => { m with ctrFloor0 := f 0, ctrFloor1 := f 1 }
  (s.setKeyCtr 0 (max (s.keyCtr 0) (f 0))).setKeyCtr 1 (max (s.keyCtr 1) (f 1))

/-- ARB (R508 to R511): ARB_MODE, two words per arbiter as its page shows them, then six priority words per arbiter; without a
record every arbiter runs in COUNTERS mode at its defaults (R573). DESIGN CHOICE (log entry 12). DEDUCED (log entry 38). -/
def State.arbLoad (s : State) (body : Option (List Nat)) : State :=
  let word := fun (a i : Nat) (s : State) =>
    s.setWord a (match body with | some ws => BitVec.ofNat 32 (ws.getD i 0) | none => resetWord a)
  let s := s.put0 Reg.ARB_MODE (match body with | some ws => ws.getD 0 0 | none => 0)
  let s := forRange (fun a s => word (fldAt Reg.ARB_HOLD_MAX a) (2 + 2 * a) (word (fldAt Reg.ARB_WIN a) (1 + 2 * a) s)) 0 10 s
  forRange (fun j s =>
    let i := j / 6 * 8 + j % 6
    let s := word (fldAt Reg.ARB_PRI i) (21 + j) s
    let v := s.get Reg.ARB_PRI i &&& (if i % 8 < 5 then 0x77777777 else 0x7777)
    (s.put Reg.ARB_PRI i v).put Reg.ARB_PRI_SHADOW i (if s.shadow (i / 8) then v else 0)) 0 60 s

/-- HEL (R334): G0, G1, then C0 and C1 of each candidate. DESIGN CHOICE (log entry 12). -/
def State.helRecord (s : State) (body : Option (List Nat)) (commit : Bool) : State := match body with
  | some ws => s.helLoad (ws.getD 0 0) (ws.getD 1 0) ((List.range 8).map fun c => (ws.getD (2 + 2 * c) 0, ws.getD (3 + 2 * c) 0)) commit
  | none => s.helLoad 0x3C0 5 [] commit

/-- Apply the records of a block (R572): at START all of them, ARB only after a device reset; at a commit those so marked.
DEDUCED (log entry 38). -/
def State.provApply (s : State) (rs : List ProvRec) (start fromReset : Bool) : State :=
  let body := provBody rs
  let s := s.count Reg.PROV_UNKNOWN 0 (rs.filter (!provKnown ·)).length
  let s := if start then
      let lat := fun (i : Nat) => ((body 3).getD []).getD i 0
      let s := (s.setWord (fldAt Reg.TIME_LAT_A_TX 0) (BitVec.ofNat 32 (lat 0))).setWord (fldAt Reg.TIME_LAT_B_TX 0) (BitVec.ofNat 32 (lat 1))
      s.modMgmt fun m => { m with ident := ((body 1).getD []).map (BitVec.ofNat 32), laneTx := ((body 4).getD []).map (BitVec.ofNat 32) }
    else s
  let s := if start && fromReset then s.arbLoad (body 5) else s
  ((((((s.helRecord (body 2) (!start)).fanLoad (body 6)).shedLoad (body 7)).fltLoad (body 8)).keysLoad (body 9)).keyCtrLoad (body 10))

/-- The slot that START loads (R573): the valid one with the newer GEN. -/
def State.provPick (s : State) : Option (Nat × Nat × List ProvRec) := match s.provSlot 0, s.provSlot 1 with
  | some a, some b => if serialAfter b.1 a.1 then some (1, b) else some (0, a)
  | some a, none => some (0, a)
  | none, some b => some (1, b)
  | none, none => none

/-- The provisioning load of START (R573). -/
def State.provLoad (s : State) : State :=
  let fr := s.mode.fromReset
  match s.provPick with
  | some (k, gen, rs) =>
    let s := ((s.put0 Reg.PROV_ACTIVE_SLOT k).put0 Reg.PROV_GEN gen).put0 Reg.PROV_DEFAULT 0
    s.provApply rs true fr
  | none =>
    let s := ((s.put0 Reg.PROV_ACTIVE_SLOT 0).put0 Reg.PROV_GEN 0).put0 Reg.PROV_DEFAULT 1
    (s.provApply [] true fr).raise Src.PROV_INVALID { page := 0 }

/-! ## Commits (R574, R575) -/

/-- A commit or a window command ends (R611). -/
def State.provEnd (s : State) (commit : Bool) (st : Nat) : State :=
  let s := (s.put0 Reg.PROV_DONE 1).put0 Reg.PROV_STATUS st
  s.irq (if commit then Reg.PROV_IRQ_COMMIT else Reg.PROV_IRQ_FLASH)

/-- Offset in group 0 of an address, where `n` bytes lie in it. -/
def groupZero (addr n : Nat) : Option Nat :=
  if 0x10000000 ≤ addr ∧ addr + n ≤ 0x10800000 then some (addr - 0x10000000) else none

/-- The slot image at PROV_SRC_ADDR. DEDUCED (log entry 40). -/
def State.provImage (s : State) : List Byte := match groupZero (s.get Reg.PROV_SRC_ADDR) 16 with
  | none => []
  | some off =>
    let len := min 65520 (ofLeBytes (s.sramRead (off + 8) 4))
    if (groupZero (s.get Reg.PROV_SRC_ADDR) (16 + len)).isSome then s.sramRead off (16 + len) else []

/-- Does a block hold a key that unwraps (R575)? -/
def enrols (rs : List ProvRec) : Bool :=
  let b := wordBytes ((provBody rs 9).getD [])
  (keyUnwrap Config.deviceKey (b.take 40)).isSome || (keyUnwrap Config.deviceKey ((b.drop 40).take 40)).isSome

/-- The status of a commit request; 0 where it is accepted (R574, R575). DEDUCED (log entry 40). -/
def State.commitCheck (s : State) : Nat :=
  let auth := s.getB Reg.KEY_AUTH
  if s.mgmt.flashOp ≠ .none then 0x97
  else if s.opMode ≠ 2 then 0x90
  else if !auth ∧ !s.keysEmpty then 0x91
  else match provParse s.provImage with
    | none => 0x92
    | some (gen, rs) =>
      if gen ≠ (s.get Reg.PROV_GEN + 1) % 2 ^ 32 then 0x93
      else if !auth ∧ (s.mgmt.keys.closed ∨ !enrols rs) then 0x91 else 0

/-- PROV_COMMIT (R574, R575): a write of 1 from the management bus. -/
def execProvCommit (p : Plane) (s : State) : Out :=
  if p != .mgmt then ok s
  else
    let st := s.commitCheck
    let s := s.put0 Reg.PROV_DONE 0
    if st ≠ 0 then ok (s.provEnd true st)
    else
      let image := s.provImage
      let units := (image.length + 255) / 256
      let s := (s.flashErase (0x10000 * (1 - s.get Reg.PROV_ACTIVE_SLOT)) 0x10000).progress 0xF01 true 0 (2 * units)
      ok (s.modMgmt fun m => { m with flashOp := .commit image })

/-- PROV_COMMIT_END (R574): the inactive slot is programmed and read back. -/
def execProvCommitEnd (good : Bool) (s : State) : Out := match s.mgmt.flashOp with
  | .commit image =>
    let slot := 1 - s.get Reg.PROV_ACTIVE_SLOT
    let units := (image.length + 255) / 256
    let s := s.modMgmt fun m => { m with flashOp := .none }
    if !good then ok (((s.flashOpen (0x10000 * slot) image.length).progressStop 0xF01).provEnd true 0x96)
    else
      let s := (s.flashProgram (0x10000 * slot) image).progress 0xF01 false (2 * units) (2 * units)
      match provParse image with
      | some (gen, rs) =>
        let s := ((s.put0 Reg.PROV_ACTIVE_SLOT slot).put0 Reg.PROV_GEN gen).put0 Reg.PROV_DEFAULT 0
        ok ((s.provApply rs false false).provEnd true 0)
      | none => ok (s.provEnd true 0x92)
  | _ => ok s

/-! ## The flash window (R571) -/

/-- Does a range touch the provisioning slots or the firmware slot that was booted? -/
def State.flashProtected (s : State) (off n : Nat) : Bool :=
  let fw := if s.get Reg.PROV_FW_SLOT = 0 then 0x100000 else 0x500000
  decide (off < 0x20000) || (decide (off < fw + 0x400000) && decide (fw < off + n))

/-- The status of a window command; 0 where it is accepted. DEDUCED (log entry 40). -/
def State.windowCheck (s : State) : Nat :=
  if s.mgmt.flashOp ≠ .none then 0x97
  else if s.opMode ≠ 2 then 0x90
  else if !s.getB Reg.KEY_AUTH then 0x91 else 0

/-- A window command. DEDUCED (log entry 40). -/
def State.window (s : State) (p : Plane) (refuse : Nat) (op : FlashOp) : State :=
  if p != .mgmt then s
  else
    let st := s.windowCheck
    let st := if st = 0 then refuse else st
    let s := s.put0 Reg.PROV_DONE 0
    if st ≠ 0 then s.provEnd false st else s.modMgmt fun m => { m with flashOp := op }

/-- FLASH_ERASE: the sector that holds FLASH_ADDR. -/
def execFlashErase (p : Plane) (s : State) : Out :=
  let a := s.get Reg.PROV_FLASH_ADDR / 4096 * 4096
  ok (s.window p (if s.flashProtected a 4096 then 0x95 else 0) (.erase a))

/-- FLASH_PROGRAM: 256 bytes from group 0. -/
def execFlashProgram (p : Plane) (s : State) : Out :=
  let a := s.get Reg.PROV_FLASH_ADDR / 256 * 256
  match groupZero (s.get Reg.PROV_FLASH_SRC) 256 with
  | some off => ok (s.window p (if s.flashProtected a 256 then 0x95 else 0) (.program a (s.sramRead off 256)))
  | none => ok (s.window p 0x96 .none)

/-- FLASH_READ: 256 bytes into group 0. -/
def execFlashRead (p : Plane) (s : State) : Out := match groupZero (s.get Reg.PROV_FLASH_SRC) 256 with
  | some off => ok (s.window p 0 (.read (s.get Reg.PROV_FLASH_ADDR) off))
  | none => ok (s.window p 0x96 .none)

/-- FLASH_COMMAND_END (R571, R611). DESIGN CHOICE (log entry 5). DESIGN CHOICE (log entry 41). -/
def execFlashCommandEnd (good : Bool) (s : State) : Out :=
  let op := s.mgmt.flashOp
  let t := if good then s else s.flashCut
  let t := t.modMgmt fun m => { m with flashOp := .none }
  match op with
  | .erase a => ok ((if good then t.flashErase a 4096 else t).provEnd false (if good then 0 else 0x96))
  | .program a d => ok ((if good then t.flashProgram a d else t).provEnd false (if good then 0 else 0x96))
  | .read a off => ok ((if good then t.sramWrite off (t.flashRead a 256) else t).provEnd false (if good then 0 else 0x96))
  | _ => ok s

end Sys2Proof.Machine
end

