-- ==== Sys2Proof/Machine/Sample.lean ====
section
/-! DEFINITION. The sample boundary (R30, R31, R172, R297 to R302): the work of the period just ended, the hand-off to egress, commits,
latches, mirrored decisions and check windows; landings; and the loading of a strip program (R203 to R205). -/

namespace Sys2Proof.Machine

/-! ## The first boundary (R30, R347) -/

/-- Heliostat places the reference boundary on an MCLK edge; which one the manual does not fix: a free value. The PTP clock reads zero
there. DESIGN CHOICE (log entry 8). -/
def State.placeRef (s : State) : State :=
  let (v, s) := s.draw
  let edge := (s.clk.now + 15) / 16 * 16 + 16 * v
  let s := s.modClk fun c => { c with placed := true, ref := edge, pos := 0, idx := 0 }
  let s := s.advanceTo edge
  s.modPtp fun p => { p with base := 0, at0 := edge, run := true, secSeen := 0 }

/-! ## One strip in the period just ended -/

/-- Does an engine deliver nothing now: none serves the strip, or it is fenced, retired or under test (R199, R207)? -/
def State.engineDown (s : State) (e : Nat) : Bool := decide (34 ≤ e) || s.unitDown (seUnit e) || s.suspended (seUnit e)

/-- A strip delivers silence: its engine is being written (R204). -/
def State.quietStrip (out : Bool) (n : Nat) (s : State) : State :=
  s.setStrip out n fun t => { t with res := 0, dout := 0, send := 0, miss := 0, fade := 32 }

/-- What a strip of a loaded program has delivered at STRIP_END (R197); its meter taps are open. -/
def State.loadedStrip (out : Bool) (n : Nat) (res dout : Word) (send : Nat) (s : State) : State :=
  let k := s.free
  let taps := (List.range 5).map fun i => BitVec.ofNat 32 (Config.freeValue (k + i))
  let s := { s with free := k + 5 }
  s.setStrip out n fun t =>
    let m := fadeMul t
    tickFades { t with res := scaleWord res m.1 m.2, dout := scaleWord dout m.1 m.2, send := send, taps := taps, miss := 0 }

/-- The period's work of one strip. -/
def State.runStrip (w : SampleIn) (out : Bool) (n : Nat) (s : State) : State :=
  let e := s.stripEngine out n
  let key := shedKey out n
  let own := if s.get Reg.SE_PROG_ID e = vendorId then none
    else some ((s.eng e).done.find? (fun d => d.1 == out && d.2.1 == n))
  let miss := w.late.contains key || (s.engineDown e && !w.done.contains key) || own == some none
  if s.dp.shed.contains key then s
  else if s.prog.write || (miss && s.prog.mute != 0) then s.quietStrip out n
  else
    let s := if s.prog.mute = 0 then s else s.setStrip out n fun t => { t with mute := 1, fade := 32 }
    if miss then s.missStrip out n
    else match own with
      | some (some (_, _, r, d, x)) => s.loadedStrip out n r d x
      | _ => if out then s.runOut w.fetch n else s.runIn w.fetch n

/-- The strips of a kind that have anything to do in a period: those listed, those late, and those of engines that deliver nothing. -/
def State.workStrips (s : State) (w : SampleIn) (out : Bool) : List Nat :=
  let down := below 34 fun e => s.engineDown e && s.getB Hdr.RUNNING (0x10 + e)
  let lost := (s.flt.tests.map fun t => t.unit.page - 0x10) ++ (s.flt.resched.map fun u => u.page - 0x10) ++ down
  let lost := if lost.isEmpty then [] else below (stripCount out s.rate) fun n => lost.contains (s.stripEngine out n) && s.engineDown (s.stripEngine out n)
  let late := (w.late.filter (fun k => decide (2048 ≤ k) == out)).map fun k => if out then k - 2048 else k
  distinct ((if out then s.listedOuts else s.listedIns) ++ (late.filter (· < stripCount out s.rate)) ++ lost)

/-! ## The period's work (R300) -/

/-- Is the fabric out of service, rescheduled already (R40)? -/
def State.fabricDown (s : State) : Bool := s.unitDown { page := 0x40 } && !s.flt.resched.contains { page := 0x40 }

/-- The fabric's work; buses left unwritten repeat their sample and raise FAB_OVERRUN (R227). -/
def State.fabricWork (s : State) (unwritten : List Nat) : State :=
  if s.fabricDown then
    (forEach (fun b s => s.pushHist (0x800 + b) 0) (s.dp.bus.map (·.1)) s).modDp fun d => { d with bus := [] }
  else
    let s := s.runFabric unwritten
    if unwritten.isEmpty then s else (s.irq Reg.FAB_IRQ_FAB_OVERRUN).raise Src.FAB_OVERRUN { page := 0x40 }

/-- The strip results and the Bridge returns join the history rings (R228). -/
def State.pushResults (s : State) (ins : List Nat) : State :=
  let s := forEach (fun n s => s.pushHist n (if s.dp.shed.contains n then 0 else (s.inStrip n).res)) ins s
  forRange (fun c s => if s.isReturn c then s.pushHist (0xC00 + c) (ingress24 (tget 0 s.dp.rets c)) else s) 0 64 s

/-- The lanes' work; a Rate Converter out of service delivers silence. -/
def State.lanesWork (s : State) : State :=
  if s.unitDown { page := 0x60 } then forEach (fun m s => s.setLane m fun l => { l with out := 0 }) (s.dp.lanes.map (·.1)) s
  else forEach State.runLane s.listedLanes s

/-- A strip that has ramped out for a shedding stays silent (R628). -/
def State.muteShedding (s : State) : State :=
  forEach (fun k s =>
    let out := decide (2048 ≤ k)
    s.setStrip out (if out then k - 2048 else k) fun t => if t.fall = 0 then { t with mute := 1 } else t) s.dp.shedding s

/-- Additional cc of a strip while a block of its words runs as a pair (R133). -/
def pairCost (b : Nat) : Nat :=
  let o := b % 512
  if b < 0x300000 then (if o = 0x60 then 25 else if o = 0x80 then 31 else 4) else if o = 0x90 then 31 else 4

/-- The blocks of strip words that run as pairs in the present period. -/
def State.stripPairs (s : State) : List Nat :=
  distinct ((s.scn.runs.filter fun r => r.target.kind == 0 && decide (0x200000 ≤ r.target.addr) && decide (r.target.addr < 0x380000) &&
    r.rule == rXfade && !r.defer && decide (r.first ≤ s.idx) && decide (s.idx < r.first + r.dur)).map fun r => wordBlock r.target.addr)

/-- The strip that a block of words belongs to: output?, index. -/
def blockStrip (b : Nat) : Bool × Nat := if b < 0x300000 then (false, (b - 0x200000) / 512) else (true, (b - 0x300000) / 512)

/-- The cc that the vendor strips of an engine have used in the period just ended (R133): those of the strips that delivered; what a
strip that missed has used the manual does not say. DEDUCED (log entry 94). -/
def State.vendorUsed (s : State) (w : SampleIn) (pairs : List Nat) (e : Nat) : Nat :=
  if s.prog.write then 0
  else
    let down := s.engineDown e
    let named := (if down then w.done else w.late).filter fun k => s.stripEngine (decide (2048 ≤ k)) (if 2048 ≤ k then k - 2048 else k) == e
    let outs := (named.filter fun k => decide (2048 ≤ k)).length
    let ins := named.length - outs
    let extra := (pairs.filter fun b =>
      let t := blockStrip b
      s.stripEngine t.1 t.2 == e && named.contains (shedKey t.1 t.2) == down).map pairCost
    extra.sum + (if down then 182 * ins + 191 * outs else 182 * (s.get Reg.SE_IN_STRIPS e - ins) + 191 * (s.get Reg.SE_OUT_STRIPS e - outs))

/-- SE_CC_LAST and SE_CC_MAX of the engines that run the vendor strip (R174). -/
def State.vendorCycles (s : State) (w : SampleIn) : State :=
  let pairs := s.stripPairs
  forRange (fun e s =>
    if s.get Reg.SE_PROG_ID e ≠ vendorId then s
    else
      let used := s.vendorUsed w pairs e
      (s.put Reg.SE_CC_LAST e (min used 65535)).keepMax Reg.SE_CC_MAX e used) 0 34 s

/-- The whole work of the period just ended. -/
def State.periodWork (s : State) (w : SampleIn) : State :=
  let s := (s.vendorCycles w).muteShedding
  let s := State.bcCollect 1 (State.bcCollect 0 s)
  let ins := s.workStrips w false
  let s := forEach (State.runStrip w true) (s.workStrips w true) s
  let s := (s.fabricWork w.buses).sendCasc
  let s := s.modDp fun d => { d with cascK := min 32 (d.cascK + 1) }
  let s := forEach (State.runStrip w false) ins s
  let s := (s.pushResults ins).lanesWork
  let s := forEach State.feedStrip s.listedIns s
  { s with prog := { s.prog with mute := s.prog.mute - 1 } }

/-! ## The hand-off (R239 to R242, R298, R472) -/

/-- Egress entries that may name a source. -/
def State.egrListed (s : State) : List Nat :=
  distinct ((s.keysIn 0x408000 0x40B200 ++ (s.scn.runs.filter (fun r => r.target.kind == 0 && 0x408000 ≤ r.target.addr &&
    r.target.addr < 0x40B200)).map (·.target.addr)).map (fun k => (k - 0x408000) / 4))

/-- Is a local transmitter enabled? -/
def State.txOn (s : State) (p : Nat) : Bool := byPort p (fun t => s.getB Reg.AESTX_EN t)
  (fun m => s.getB Reg.MADI_TX_EN m) (fun q => s.getB Reg.TDM_TX_EN q)

/-- Destinations that are enabled: slots of enabled transmitters, channels of enabled streams, Bridge sends that are fed. -/
def State.enabledDests (s : State) : List Nat :=
  (below 60 s.txOn).flatMap (fun p => (List.range (s.rxChannels p)).map (rxSource p)) ++
  (s.streams true).flatMap (fun i => (List.range (w6Count (s.txw i 6))).map (w6Base (s.txw i 6) + ·)) ++
  (s.egrListed.filter fun d => 0xC40 ≤ d && s.inUse (egrWord d) != 0xFFF)

/-- The word that the egress patch takes for a destination. -/
def State.egrValue (s : State) (d : Nat) : Word :=
  let v := s.inUse (egrWord d)
  let x := if s.fabricDown then 0 else if v < 0x400 then (s.outStrip v).res else if v < 0xC00 then (s.inStrip (v - 0x400)).dout else 0
  let m := s.dips (· == egrWord d)
  scaleWord x m.1 m.2

/-- A network destination's word, for the packet that gathers it and for its meter. -/
def State.netEgress (s : State) (d : Nat) (x : Word) : State :=
  let m := s.egressMul d
  s.modDp fun k => { k with egrNow := tput 0 k.egrNow d (scaleWord x m.1 m.2) }

/-- Deliver a word to a destination. -/
def State.egrDeliver (s : State) (d : Nat) (x : Word) : State :=
  if d < 0x800 then s.netEgress d x
  else if 0xC40 ≤ d then (s.netEgress d x).modDp fun k => { k with sends := tput 0 k.sends (d - 0xC40) (egress24 x).1 }
  else s.pushEgress d x

/-- A destination that no rate of R242 suits carries silence; where it is fed, its bit is set. -/
def State.egrSilent (s : State) (on : Bool) (d : Nat) : State :=
  let s := if on && s.inUse (egrWord d) != 0xFFF && !s.mapBit Reg.FABG_EGR_DERR d then
      (s.setMapBit Reg.FABG_EGR_DERR d true).irq Reg.FABG_IRQ_EGR_DERR else s
  s.egrDeliver d 0

/-- A decimated destination (R242). -/
def State.egrDecimate (s : State) (by2 : Nat) (d : Nat) : State :=
  let st := Config.decimNext by2 (tget 0 s.dp.decim d) (s.egrValue d)
  let s := s.modDp fun k => { k with decim := tput 0 k.decim d st }
  if s.idx % (if by2 = 1 then 2 else 4) = 0 then s.egrDeliver d (Config.decimOut by2 st) else s

/-- Hand off one destination. -/
def State.handOne (on : List Nat) (d : Nat) (s : State) : State := match s.destClock d with
  | .same => s.egrDeliver d (s.egrValue d)
  | .by2 => s.egrDecimate 1 d
  | .by4 => s.egrDecimate 0 d
  | .silent => s.egrSilent (on.contains d) d

/-- Feed the words handed off into the check window (R472). -/
def State.crcWords (s : State) (ds : List Nat) : State :=
  let bytes := ds.flatMap fun d => leBytes 4 (tget 0 s.dp.egrNow d).toNat
  let c := crcFeed 32 0x1EDC6F41 true s.stby.crc bytes
  { s with stby := { s.stby with crc := c } }

/-- Inserts send their 24-bit words to the Bridge (R108, R172). -/
def State.insertSends (s : State) : State :=
  forEach (fun n s =>
    let v := s.inUse (inWord n 0xB0)
    if v % 2 = 1 then
      let x := (s.inStrip n).send
      s.modDp fun k => { k with sends := tput 0 k.sends (bits v 13 8) x }
    else s) s.listedIns s

/-- The egress hand-off of a boundary at PTP time `t`. -/
def State.handOff (s : State) (t : Nat) : State :=
  let on := s.enabledDests
  let claimed := s.routes.map s.expDst
  let all := on ++ s.egrListed
  let ds := below 0xC80 all.contains
  let s := s.modDp fun k => { k with sends := [] }
  let s := forEach (State.handOne on) (ds.filter (!claimed.contains ·)) s
  let s := s.insertSends
  let word := fun d => if claimed.contains d then (tget [] s.dp.egress d).getLastD (tget 0 s.dp.egrNow d) else tget 0 s.dp.egrNow d
  let s := s.txGatherAll t word
  let s := s.modDp fun k => { k with egress := k.egress.filter (0x800 ≤ ·.1) }
  let s := s.crcWords (ds.filter on.contains)
  let s := s.put0 Reg.FABG_EGR_ACTIVE (s.egrListed.filter fun d => s.inUse (egrWord d) != 0xFFF).length
  s.put0 Reg.FABG_RET_ACTIVE (below 64 s.isReturn).length

/-! ## Check windows (R472) -/

/-- Is a Bridge core being loaded or reseeded: windows that span it are not compared (R475, R550)? -/
def State.coresApart (s : State) : Bool := s.bc.any fun p => p.2.reseed || (p.2.load.isSome && p.2.ready)

/-- At the first boundary of a window the value of the window before it is kept, if all of it was seen. -/
def State.windowTick (s : State) : State :=
  let w := s.idx / 64
  if w = s.stby.window then s
  else
    let v := crcFinal 32 true 0xFFFFFFFF s.stby.crc
    let own := if s.stby.full then (s.stby.own ++ [(s.stby.window, v)]).drop (s.stby.own.length - 15) else s.stby.own
    let full := s.mode.running && s.idx % 64 == 0 && !s.coresApart
    { s with stby := { s.stby with own := own, crc := 0xFFFFFFFF, window := w, full := full } }

/-! ## Mirrored decisions (R467) -/

/-- A measured decision takes effect. -/
def State.applyMeas (m : Meas) (s : State) : State :=
  if m.kind = 0 then (if m.index < 1024 then s.laneRatio m.index m.v0 m.v1 else s)
  else if m.kind = 1 then (if m.index < 1024 ∧ m.v0 < 5 then s.laneSt m.index m.v0 m.v1 else s)
  else if m.kind = 2 then { s with stby := { s.stby with rxClocks := tput (0, 0) s.stby.rxClocks m.index (m.v0, m.v1) } }
  else if m.kind = 3 then { s with stby := { s.stby with classes := tput none s.stby.classes m.index (some (m.v0 % 4)) } }
  else if m.kind = 4 then (if m.index < 60 then s.rxMediaBit m.index (m.v0 % 2) else s)
  else if m.kind = 5 then (if m.index < 12288 then s.setNotch m.index m.v0 else s)
  else s

/-- Has the sample of a mirrored item come? -/
def sampleDue (idx sample : Nat) : Bool := decide ((idx + 65536 - sample % 65536) % 65536 < 32768)

/-- The measured decisions whose sample has come. -/
def State.takeMeas (s : State) : State :=
  let due := s.stby.meas.filter fun m => sampleDue s.idx m.sample
  let s := { s with stby := { s.stby with meas := s.stby.meas.filter fun m => !sampleDue s.idx m.sample } }
  forEach State.applyMeas due s

/-- Source classes while the partner follows (R467): a change is a measured decision; the first classes are told at once. -/
def State.decideClasses (s : State) : State :=
  if s.partnerFollows then
    forEach (fun src s =>
      let own := s.srcClassOwn src
      match tget none s.stby.classes src with
      | none =>
        let s := { s with stby := { s.stby with classes := tput none s.stby.classes src (some own) } }
        s.sendRecord 4 s.idx [3 + 256 * src, own, 0]
      | some c =>
        if own = c ∨ s.stby.meas.any (fun m => m.kind == 3 && m.index == src) then s
        else s.measured 3 src own 0 fun s => s) (s.dp.src.map (·.1)) s
  else if s.opMode = 3 then s
  else { s with stby := { s.stby with classes := [] } }

/-- A mirrored change of SHOW, HOLD or rate takes effect at its sample (R467). -/
def State.takeMode (s : State) : State := match s.stby.modeAt with
  | none => s
  | some (smp, m, r) =>
    if !sampleDue s.idx smp then s
    else
      let s := { s with stby := { s.stby with modeAt := none, pShow := if m = 5 then 5 else 4 } }
      if s.mode.running ∧ r ≠ s.rate ∧ s.opMode = 3 ∧ s.mode.trans = .none then s.transBegin (.rate 1 r none) 64 3 else s

/-- A standby's outputs follow the active engine's HOLD ramp. -/
def State.followHold (s : State) : State :=
  if s.opMode ≠ 3 ∨ !s.mode.running then s
  else s.modMode fun m => { m with holdGain := if s.stby.pShow = 5 then m.holdGain - 1 else min 64 (m.holdGain + 1) }

/-- A mirrored PTP clock: a step that keeps the clock running, or the load of a join (R467). -/
def State.takeTime (s : State) : State := match s.stby.timeAt with
  | none => s
  | some (smp, t) =>
    if !sampleDue s.idx smp then s
    else
      let s := { s with stby := { s.stby with timeAt := none } }
      let edge := s.clk.ref + s.clk.pos
      let diff : Int := (t : Int) - s.ptp.thirdsAt edge
      if s.ptp.valid ∧ diff % 62500 = 0 then (if diff = 0 then s else s.stepBy (diff / 62500))
      else s.modPtp fun p => { p with base := t, at0 := edge, run := true, valid := true, secSeen := secOf t, step := none }

/-- The mirrored items of a boundary. -/
def State.mirrorTick (s : State) : State := s.takeMeas.takeMode.followHold.takeTime.decideClasses

/-! ## What an active engine sends while its partner reseeds (R474, R475) -/

/-- Words that the spec leaves open: `n` of them. -/
def State.openWords (s : State) (n : Nat) : List Nat × State :=
  let k := s.free
  ((List.range n).map (fun i => Config.freeValue (k + i) % 2 ^ 32), { s with free := k + n })

/-- SEED records of one strip: its committed state block of 1,024 words, whose layout the spec leaves open. DESIGN CHOICE (log entry 92). -/
def State.seedStrip (k : Nat) (s : State) : State :=
  let out := decide (inStrips s.rate ≤ k)
  let n := if out then k - inStrips s.rate else k
  forRange (fun i s =>
    let (ws, s) := s.openWords (min 120 (1024 - 120 * i))
    s.sendRecord 0x0A s.idx ((n + out.toNat * 4096 + 120 * i * 65536) :: ws)) 0 9 s

/-- Snapshots are due: of these cores. A core at rest is sent at once, any other at its next WAITS. DEDUCED (log entry 76). -/
def State.wantCores (s : State) (cs : List Nat) : State :=
  let s := { s with stby := { s.stby with reload := s.stby.reload ++ cs.filter (!s.stby.reload.contains ·) } }
  forEach State.snapCore (s.stby.reload.filter (!s.bcUp ·)) s

/-- The next strips and cores of a reseed. A core whose snapshot went 4,096 samples ago, while the partner still reseeds, is sent
again (R475); a core that a load has changed is sent to a partner in any state (R550). DEDUCED (log entry 76). -/
def State.seedTick (s : State) : State :=
  if !s.partnerFollows then
    if s.stby.next = 0 ∧ s.stby.snaps = [] ∧ s.stby.reload = [] then s
    else { s with stby := { s.stby with next := 0, snaps := [], reload := [] } }
  else if s.stby.pSync ≠ 2 then
    (({ s with stby := { s.stby with next := 0, snaps := [] } }) : State).wantCores []
  else
    let n := inStrips s.rate + numBuses s.rate
    let k := s.stby.next
    let s := forRange (fun i s => s.seedStrip ((k + i) % n)) 0 8 s
    let s := { s with stby := { s.stby with next := (k + 8) % n } }
    s.wantCores ((List.range 2).filter fun c => !s.stby.snaps.any (fun x => x.1 == c && decide (s.idx ≤ x.2 + 4096)))

/-- A core whose log has filled (R475): a core that uses more than three quarters of its period leaves the pair STUCK; else the reseed
waits for another snapshot. -/
def State.reseedFull (c : Nat) (s : State) : State :=
  let b := s.bcore c
  if !b.reseed || decide (b.log.length < 32 * 4096) then s
  else
    let s := s.setBc c fun b => { b with halted := true, log := [] }
    if 3 * (periodEdges s.rate / s.clk.div) < 4 * s.get Reg.BC_CC_MAX c then s.setSync 5 else s

/-! ## The boundary -/

/-- Ephemeris entries that a step of the clock has passed fire (R280). -/
def State.firePassed (s : State) : State :=
  forEach (fun (x : EphEntry) s => match x.kind with
    | .commit i => s.fireCommit i x
    | .cueOut _ _ _ => s.fireCueOut x
    | .netLaunch _ _ => s) (s.eph.entries.filter (·.passed)) s

/-- Fenced units other than strip engines, around which the data plane reschedules at this boundary (R40, R226). -/
def State.reschedule (s : State) : State :=
  let mine := s.flt.resched.filter fun u => !(decide (0x10 ≤ u.page) && decide (u.page ≤ 0x31))
  if mine.isEmpty then s
  else
    let s := s.modFlt fun f => { f with resched := f.resched.filter fun u => !mine.contains u }
    let sheds := s.get Reg.FAB_BUS_SHED_CNT
    let lanes := (mine.filter fun u => u.page == 0x40 && u.index != 0).length
    let s := if lanes = 0 then s else (s.put0 Reg.FAB_LANES (s.get Reg.FAB_LANES - lanes)).fitBudget
    if s.get Reg.FAB_BUS_SHED_CNT = sheds then s else s.giveUpFor 1

/-- Counters that advance with every boundary of the data plane. -/
def State.boundaryCounts (s : State) : State :=
  let s := s.modDp fun d => { d with chMute := d.chMute.map fun p => (p.1, min 66 (p.2 + 1)) }
  (s.showMembers.put0 Reg.PATCH_DERR_CNT (s.listedIns.filter s.derr).length).showBudget

/-- Commits of a boundary (R267) and what follows from them. While a standby joins, a word keeps the sample of its last move (R473). -/
def State.commitTick (s : State) : State :=
  let s := s.leaveFlight.firePassed
  let (t, done) := s.meridian
  let t := t.moveEffects s done
  if s.opMode = 3 ∧ s.get Reg.STBY_SYNC = 1 then
    { t with stby := { t.stby with newest := done.foldl (fun n m => tput 0 n (targetKey m.target) t.idx) t.stby.newest } }
  else t

/-- Boundary `idx`: everything after the clocks have reached it. -/
def State.boundaryAt (s : State) (edge : Nat) (ran : Bool) : State :=
  let t := s.ptp.thirdsAt edge
  let s := s.tickTrans.expressDue.windowTick
  let s := if ran then (((s.handOff t).meterPeriod).eyePeriod) else s
  let s := s.commitTick.mirrorTick
  let s := (s.latchAll edge).rxLatchAll t
  let s := forRange State.rampLandings 0 60 s
  let s := if s.mode.running then forRange State.seBoundary 0 34 s else s
  let s := if s.mode.running then State.reseedFull 1 (State.reseedFull 0 (State.bcSend 1 (State.bcSend 0 s))) else s
  let s := s.meterEnable.expSilence
  let s := if s.mode.running then forEach State.lgEnforce (s.dp.outs.map (·.1)) s else s
  s.reschedule.boundaryCounts.seedTick.sendStatus

/-- SAMPLE_BOUNDARY (R30, R31, R301): the period just ended, and the boundary. DESIGN CHOICE (log entry 4). -/
def execSampleBoundary (w : SampleIn) (s : State) : Out :=
  if s.opMode = 0 then ok s
  else if !s.clk.placed then
    let s := s.placeRef
    ok (s.boundaryAt s.clk.now false)
  else
    let s := s.transOverdue.meterOverdue
    let s := if !s.dp.shedding.isEmpty && decide (s.dp.shedAt ≤ s.idx) then s.shedStop else s
    let ran := s.mode.running
    let s := if ran then s.periodWork w else s
    let edge := s.nextBoundary
    let p := s.clk.pos + periodEdges s.rate
    let s := (s.advanceTo edge).modClk fun c => { c with pos := p, idx := c.idx + 1 }
    ok (s.boundaryAt edge ran)

/-- SAMPLE_LANDING (R297, R379, R380): a sample of a locked local receiver, or a frame of an asynchronous stream, lands. -/
def execSampleLanding (src : Nat) (x : Word) (s : State) : Out :=
  if src < 0x800 then match s.streamOf false src with
    | some i => ok (s.rxLandAsync i)
    | none => ok s
  else match rxPortOf src with
    | some (p, ch) => ok (if s.rxEn p && s.rxLock p && decide (ch < s.rxChannels p) && s.portsUp then s.land src x else s)
    | none => ok s

/-! ## Loading a strip program (R203 to R205) -/

/-- PG_PROGRESS of every SE page. -/
def State.progProgress (s : State) (busy : Bool) (pos total : Nat) : State :=
  forRange (fun e s => s.progress (0x10 + e) busy pos total) 0 34 s

/-- Refusal of a load. DEDUCED (log entry 84). -/
def State.progRefuse (s : State) (q st info : Nat) : State :=
  (forRange (fun e s => s.progressStop (0x10 + e)) 0 34 s).ringEnd q 0 st info

/-- LOAD_STRIP_PROGRAM (R203, R205): the first pass fetches and checks the image. -/
def execLoadStripProgram (q : Nat) (image : Option (List Byte)) (s : State) : Out := match s.ringCmd q 0x11 with
  | none => ok s
  | some cmd =>
    let addr := cmd.a 1 + 2 ^ 32 * cmd.a 2
    if s.prog.next.isSome || s.prog.write then ok s
    else if !s.progMode then ok (s.ringEnd q 0 0x30 0)
    else match if bit (cmd.a 0) 0 then s.busRead 0x27 addr (64 + 8 * 8192) else if s.hostReadable then image else none with
      | none => ok (s.ringEnd q 0 0x04 0)
      | some b =>
        let n := (progBundles b).length
        let (st, k) := progStatus b
        if st ≠ 0 then ok ((s.progProgress true (if st = 0x34 then k else 0) (2 * n)).progRefuse q st k)
        else
          let s := (s.progProgress true n (2 * n)).ringBegan q
          let i := s.idx
          ok { s with prog := { s.prog with next := some (progHeader b, progBundles b), ring := q, since := i } }

/-- PROG_WRITE_START (R204): at the first boundary after acceptance the engines stop their strips. Where no boundary runs, at once. -/
def execProgWriteStart (s : State) : Out := match s.prog.next with
  | none => ok s
  | some _ =>
    if s.prog.write || (s.mode.running && s.idx == s.prog.since) then ok s
    else
      let at' := s.clk.now
      let s := if s.mode.running then s.rebuildStrips.amEqual else s
      let s := forRange (fun e s => if s.engineDown e then s else s.setEng e { s.eng e with strip := none, begun := [], done := [] }) 0 34 s
      ok { s with prog := { s.prog with write := true, at' := at', mute := 65 } }

/-- PROG_WRITE_END (R204): 8 bundles an fc later the program is in place. -/
def execProgWriteEnd (s : State) : Out := match s.prog.next with
  | none => ok s
  | some (h, bs) =>
    if !s.prog.write then ok s
    else
      let w := fun i => (h.getD i 0).toNat
      let s := s.advanceTo (s.prog.at' + 4 * ((bs.length + 7) / 8))
      let code : Tbl DWord := (bs.zipIdx).foldl (fun t p => tput 0 t p.2 p.1) []
      let s := forRange (fun e s =>
        if s.unitDown (seUnit e) then s
        else
          let s := s.setEng e { s.eng e with prog := code, pc := w 7 }
          ((s.put Reg.SE_PROG_ID e (w 1)).putB Hdr.PROG_VALID (0x10 + e) true).bumpEpoch (0x10 + e)) 0 34 s
      let q := s.prog.ring
      let s := { s with prog := { s.prog with entry := w 7, vec := w 8, wIn := w 4, wOut := w 5, next := none, write := false, mute := 65 } }
      ok ((s.progProgress false (2 * bs.length) (2 * bs.length)).ringEnd q 0 0 0)

end Sys2Proof.Machine
end

