-- ==== Sys2Proof/Machine/Standby.lean ====
section
/-! DEFINITION. The hot-standby pair (R461 to R487): the interlock, claims and give-ups, the heartbeat, the check windows, joins and
reseeds, and the records of the mirror link; with them what follows when a Kaztal link fails. -/

namespace Sys2Proof.Machine

/-- Change the stby part of the state. -/
def State.modStby (s : State) (f : Stby → Stby) : State := { s with stby := f s.stby }

/-- The STBY page as a unit. -/
def stbyUnit : UnitId := { page := 0xA8 }

/-- The line or a claim is at fault (R481, R483): fault source INTERLOCK_FAULT. -/
def State.interlock (s : State) (f : Fld) : State := (s.stbyFault f).raise Src.INTERLOCK_FAULT stbyUnit

/-! ## The claim (R465, R479, R481, R484) -/

/-- SHOW is entered by a claim: from START the data plane starts at the next boundary, from FOLLOW it runs already, unless the join was
incomplete. DESIGN CHOICE (log entry 73). -/
def State.claimShow (s : State) (p : Option Plane) : State :=
  let s := if p.isNone then s.irq Reg.MODE_IRQ_FORCED else s
  if s.opMode = 1 then (s.transBegin (.enter 4 p) 1 4).sendStatus
  else
    let s := s.setMode 4
    if !s.mode.running then s.preempt.transBegin (.enter 4 p) 1 4
    else
      let s := if s.transFresh then s.preempt else s
      match s.mode.trans with
      | .none => if s.mode.holdGain = 64 then (s.transBegin (.hold 4 p) 0 4).transDone else s.transBegin (.hold 4 p) 0 4
      | _ => (s.put0 Reg.MODE_TARGET 4).modeAnswerOf p 0

/-- The claim sequence from step 3 (R479): the line is driven, read back 8 pc later, and at step 5 the role is held. `low` is the
readback. DESIGN CHOICE (log entry 73). -/
def State.claim (s : State) (p : Option Plane) (low : Bool) : State :=
  let t := s.clk.now
  let s := s.modStby fun b => { b with decideAt := none, released := none }
  if !low then
    let s := (s.advanceTo (t + 72)).stbyFault Reg.STBY_READBACK
    s.modeAnswerOf p Mst.PARTNER_ACTIVE
  else
    let unsynced := s.opMode = 3 && s.get Reg.STBY_SYNC ≠ 4
    let s := s.advanceTo (t + 80)
    let s := s.modStby fun b => { b with drive := true, level := false, levelAt := t, pGiveup := none, stuck := false }
    let s := ((s.put0 Reg.STBY_ACTIVE 1).put0 Reg.STBY_LINE 0).put0 Reg.STBY_GAVE_UP 0
    let s := (s.put0 Reg.STBY_CLAIM_PC (min 127 ((s.clk.now - s.stby.relSeen) / 8))).put0 Reg.STBY_CLAIM_TS32 s.ts32
    let s := ((s.count Reg.STBY_HANDOVERS).irq Reg.STBY_IRQ_CLAIM).bumpEpoch 0xA8
    let s := if unsynced then s.stbyFault Reg.STBY_CLAIM_UNSYNCED else s
    s.stbyPins.claimShow p

/-- Has the stop sequence of this engine begun (R563)? -/
def State.stopBegun (s : State) : Bool := match s.mode.trans with
  | .stop _ _ => !s.transFresh
  | .shutdown _ => true
  | .heat => true
  | _ => false

/-- May this engine claim at all: a standby that has not given up, whose line is not stuck (R481, R482, R483, R563)?
DEDUCED (log entry 74). -/
def State.canClaim (s : State) : Bool :=
  s.getB Reg.STBY_PAIR && s.opMode == 3 && !s.getB Reg.STBY_ACTIVE && !s.getB Reg.STBY_GAVE_UP && !s.stby.stuck && !s.stopBegun

/-- May a request for SHOW claim (R465)? The line has been high for 16 pc, and for unit B for 2 ms without a STATUS that shows the
partner active. DEDUCED (log entry 74). -/
def State.lineFree (s : State) : Bool :=
  s.stby.level && decide (s.stby.levelAt ≤ s.clk.now) &&
  (!s.getB Reg.STBY_UNIT_B ||
    (decide (s.stby.levelAt + 6000000 ≤ s.clk.now) && s.stby.activeAt.all fun t => decide (t + 6000000 ≤ s.clk.now)))

/-- ACTIVE_N_CONFIRM (R477, R479, R481): the line has stood 16 pc at a new level. DEDUCED (log entry 74). -/
def execActiveNConfirm (level low : Bool) (s : State) : Out :=
  let now := s.clk.now
  let gave := s.stby.pGiveup.isSome
  let rel := if gave then min now s.clk.boundaryEdge else now - 128
  let s := (s.putB Reg.STBY_LINE 0 level).modStby fun b =>
    { b with level := level, levelAt := now, decideAt := none, relSeen := if level then rel else b.relSeen }
  if !level || !s.canClaim then ok s
  else if gave || !s.getB Reg.KZL_UP 1 then ok (s.claim none low)
  else ok (s.modStby fun b => { b with decideAt := some now })

/-- RELEASE_DECISION_TIMEOUT (R481): 4 µs have passed since a release without GIVEUP. -/
def execReleaseDecisionTimeout (low : Bool) (s : State) : Out := match s.stby.decideAt with
  | none => ok s
  | some t =>
    let s := (s.advanceTo (t + 4 * usEdges)).modStby fun b => { b with decideAt := none }
    if !s.canClaim then ok s
    else if s.getB Reg.STBY_PARTNER_ACTIVE && s.stby.pGiveup.isNone then ok (s.interlock Reg.STBY_RELEASED_WHILE_ACTIVE)
    else ok (s.claim none low)

/-- READBACK_FAULT (R477, R483): the line reads high for 16 pc while this engine drives it low; the role is kept.
DESIGN CHOICE (log entry 73). -/
def execReadbackFault (s : State) : Out :=
  ok (if s.stby.drive && s.getB Reg.STBY_ACTIVE then s.interlock Reg.STBY_READBACK else s)

/-- STUCK_LOW (R483): the line is still low 8 µs after GIVEUP. -/
def execStuckLow (s : State) : Out := match s.stby.pGiveup with
  | none => ok s
  | some t =>
    if s.stby.level || !s.getB Reg.STBY_PAIR || s.opMode ≠ 3 || s.getB Reg.STBY_ACTIVE then ok s
    else
      let s := (s.advanceTo (t + 8 * usEdges)).modStby fun b => { b with pGiveup := none }
      ok (s.interlock Reg.STBY_STUCK_LOW)

/-- What a pending decision becomes when KZL1 has left UP (R481). -/
def State.linkGone (s : State) (low : Bool) : State :=
  if s.stby.decideAt.isSome && s.canClaim then s.claim none low else s

/-! ## The heartbeat (R476, R483) -/

/-- HB_TOGGLE (R476): the boundary just reached is every 24th of the base grid. -/
def execHbToggle (s : State) : Out :=
  let beats := s.getB Reg.STBY_PAIR && (s.opMode == 3 || s.opMode == 4 || s.opMode == 5)
  if !beats || !s.clk.placed || s.clk.pos % (24 * 62500) ≠ 0 || s.stby.hbPos == some s.clk.pos then ok s
  else
    let p := s.clk.pos
    ok (s.modStby fun b => { b with hb := !b.hb, hbPos := some p })

/-- HB_IN_EDGE (R476): present after 4 edges within 2.5 ms. -/
def execHbInEdge (s : State) : Out :=
  if !s.getB Reg.STBY_PAIR then ok s
  else
    let now := s.clk.now
    let es := (now :: s.stby.hbEdges).filter fun t => decide (now ≤ t + 7500000)
    let s := s.modStby fun b => { b with hbEdges := es.take 4 }
    ok (if 4 ≤ es.length then s.put0 Reg.STBY_HB_IN_OK 1 else s)

/-- HB_LOST (R476, R483): no edge for 8 ms. A standby whose line reads low then has a stuck line. -/
def execHbLost (s : State) : Out :=
  if !s.getB Reg.STBY_HB_IN_OK then ok s
  else
    let s := s.advanceTo (s.stby.hbEdges.headD 0 + 8 * msEdges)
    let s := ((s.put0 Reg.STBY_HB_IN_OK 0).modStby fun b => { b with hbEdges := [] }).stbyFault Reg.STBY_HB_LOST
    let s := s.irq Reg.STBY_IRQ_HB_LOST
    if s.opMode = 3 ∧ !s.getB Reg.STBY_ACTIVE ∧ !s.stby.level then
      ok ((s.modStby fun b => { b with stuck := true }).interlock Reg.STBY_STUCK_LOW)
    else ok s

/-! ## Entering FOLLOW, sync states, reseeds (R471 to R475) -/

/-- An active engine becomes a standby: the line is released, FOLLOW entered and a join begun. The data plane runs on. -/
def State.standDown (s : State) (p : Option Plane) : State :=
  let s := if p.isNone then s.irq Reg.MODE_IRQ_FORCED else s
  let s := ((s.put0 Reg.STBY_ACTIVE 0).irq Reg.STBY_IRQ_RELEASE).bumpEpoch 0xA8
  let s := s.modStby fun b =>
    { b with drive := false, sel := false, giveup := none, pGiveup := none, decideAt := none, timeouts := 0, newest := [], check := none }
  let s := (s.setMode 3).setSync 1
  match s.mode.trans with
  | .giveUp _ => s.transDone
  | .none => (s.transBegin (.giveUp none) 0 3).transDone
  | _ => s.put0 Reg.MODE_TARGET 3

/-- Strips and cores reseeded so far, in PG_PROGRESS. -/
def State.showReseed (s : State) : State :=
  let n := inStrips s.rate + numBuses s.rate
  s.progress 0xA8 true (s.stby.seeded.length + 512 * s.stby.cores.length) (n + 1024)

/-- A reseed starts (R471, R487). -/
def State.reseed (s : State) : State :=
  let s := (s.setSync 2).count Reg.STBY_RESEEDS
  (s.modStby fun b => { b with seeded := [], seed := [], cores := [] }).showReseed

/-- Every strip and both cores are reseeded: CONFIRMING (R471). -/
def State.reseeded (s : State) : State :=
  let s := s.showReseed
  if s.get Reg.STBY_SYNC = 2 ∧ s.stby.seeded.length = inStrips s.rate + numBuses s.rate ∧ s.stby.cores.length = 2 then
    let n := inStrips s.rate + numBuses s.rate + 1024
    (s.setSync 3).progress 0xA8 false n n
  else s

/-- The standby compares a window (R472). DEDUCED (log entry 77). -/
def State.compareWindow (s : State) (w own partner : Nat) : State :=
  let same := own == partner
  let s := (s.put0 Reg.STBY_CHK_LOCAL own).put0 Reg.STBY_CHK_PARTNER partner
  let s := (s.count Reg.STBY_CHK_WINDOWS).sendRecord 5 s.idx [w, same.toNat]
  if same then
    let s := s.modStby fun b => { b with agree := b.agree + 1 }
    if s.get Reg.STBY_SYNC = 3 ∧ 4 ≤ s.stby.agree then (s.setSync 4).modStby fun b => { b with timeouts := 0 } else s
  else
    let s := ((s.count Reg.STBY_CHK_MISS).irq Reg.STBY_IRQ_DIVERGE).raise Src.STBY_DIVERGE stbyUnit
    s.reseed

/-- Compare when both values of a window are known. -/
def State.tryCompare (s : State) : State := match s.stby.check with
  | none => s
  | some (w, v) =>
    match s.stby.own.find? (fun o => o.1 % 1024 == w % 1024) with
    | none => s
    | some (_, mine) =>
      let s := s.modStby fun b => { b with check := none }
      if s.opMode = 3 ∧ (s.get Reg.STBY_SYNC = 3 ∨ s.get Reg.STBY_SYNC = 4) then s.compareWindow w mine v else s

/-- CHECK_WINDOW_END (R472): the value of the window just ended goes to the partner, or is compared with its value. -/
def execCheckWindowEnd (s : State) : Out := match s.stby.own.getLast? with
  | none => ok s
  | some (w, v) =>
    if w + 1 ≠ s.stby.window then ok s
    else
      let s := s.put0 Reg.STBY_CHK_LOCAL v
      if s.partnerFollows then
        if s.stby.check == some (w, v) then ok s
        else
          let s := s.modStby fun b => { b with check := some (w, v) }
          ok (s.sendRecord 5 s.idx [w % 1024, v])
      else ok s.tryCompare

/-- CONFIRM_TIMEOUT (R471): CONFIRMING has lasted 3 s; the third time in a row leaves the pair STUCK. -/
def execConfirmTimeout (s : State) : Out :=
  if s.get Reg.STBY_SYNC ≠ 3 then ok s
  else
    let s := s.advanceTo (s.stby.since + 3000 * msEdges)
    let s := s.modStby fun b => { b with timeouts := b.timeouts + 1 }
    ok (if 3 ≤ s.stby.timeouts then s.setSync 5 else s.reseed)

/-- A core counts as reseeded. -/
def State.coreDone (s : State) (c : Nat) : State :=
  (s.modStby fun b => { b with cores := if b.cores.contains c then b.cores else b.cores ++ [c] }).reseeded

/-- BC_CATCHUP_DONE (R475): the log is empty, and the core resumes normal pacing. -/
def execBcCatchupDone (c : Nat) (s : State) : Out :=
  let b := s.bcore c
  if 2 ≤ c || !b.reseed || b.halted || !b.log.isEmpty then ok s
  else ok ((s.setBc c fun b => { b with reseed := false, event := false }).coreDone c)

/-! ## The join, as the active engine sends it (R473) -/

/-- Is a register mirrored (R468, R473)? A register that software sets on a data-plane page, but for those that each engine has of its
own. -/
def mirrored (a : Nat) : Bool :=
  let page := a / 4096
  gated page && decide (page < 0x100) && decide (0x40 ≤ a % 4096) && regWriteMask a != 0 &&
  !(page == 0x81 || page == 0x89 || page == 0xA0 || page == 0xA1 || page == 0xA2 || page == 0xA8) &&
  !(atField Reg.NET_MAC_LO a || atField Reg.NET_MAC_HI a || atField Reg.NET_IP a)

/-- PAGE records of registers: SE_PROG_ID first, then every mirrored register. DEDUCED (log entry 75). -/
def State.sendRegs (s : State) : State :=
  let a := fldAt Reg.SE_PROG_ID 0
  let s := s.sendRecord 9 s.idx [a, (s.word a).toNat]
  forRange (fun page s =>
    if !gated page then s
    else forRange (fun k s =>
      let a := 4096 * page + 4 * k
      if mirrored a then s.sendRecord 9 s.idx [a, (s.word a).toNat] else s) 16 1008 s) 0 256 s

/-- PAGE records of the parameter window, 0x100000 to 0x8FFFFF, and of the crosspoints that are not off, each at 0x4000000 + its ID. -/
def State.sendParams (s : State) : State :=
  let s := forRange (fun i s =>
    let a := 0x100000 + 480 * i
    s.sendRecord 9 s.idx (a :: (List.range (min 120 ((0x900000 - a) / 4))).map fun j => (s.word (a + 4 * j)).toNat)) 0 17477 s
  forEach (fun id s => s.sendRecord 9 s.idx [xpKey id, (s.word (xpKey id)).toNat]) s.xpListed s

/-- MOVE and SLOT records of the moves admitted and not yet committed, and of those whose ramps run. -/
def State.sendMoves (s : State) : State :=
  let s := forRange (fun i s =>
    if 2 ≤ s.slotState i ∧ s.slotState i ≤ 4 then (forEach (fun m s => s.mirrorMove i 0 m) (s.slot i).moves s).mirrorSlot 1 i s.idx
    else s) 0 16 s
  let s := forEach (fun (p : SMove × Option Nat) s => s.mirrorMove 16 0 p.1) s.scn.live s
  forEach (fun (r : RunMove) s =>
    s.mirrorMove r.slot r.first { target := r.target, value := r.value, rule := r.rule, dur := r.dur, tag := 0 }) s.scn.runs s

/-- MODE: the mode and the rate mode from a sample on (R486). -/
def State.mirrorMode (s : State) (sample mode rate : Nat) : State :=
  if s.partnerFollows then s.sendRecord 7 sample [mode + 256 * rate] else s

/-- The whole join: pages, moves, mode and time, the time at the next base-grid boundary. DEDUCED (log entry 75). -/
def State.sendJoin (s : State) : State :=
  let s := (((s.sendRegs).sendParams).sendMoves).mirrorMode s.idx s.opMode s.rate
  s.mirrorStep 0

/-! ## Records received (R466, R467, R472 to R475, R486) -/

/-- A body word. -/
def bodyWord (body : List Word) (i : Nat) : Nat := (body.getD i 0).toNat

/-- The own sample, as a count since the reference boundary, that a partner sample names: the one nearest to the present (R457). -/
def State.absSample (s : State) (sample : Nat) : Nat :=
  let mine := s.ownSample 1 sample
  let d := (mine + 65536 - s.idx % 65536) % 65536
  if d < 32768 then s.idx + d else s.idx + d - 65536

/-- Is this engine a standby that takes records? -/
def State.follows (s : State) : Bool := s.getB Reg.STBY_PAIR && s.opMode == 3 && !s.getB Reg.STBY_ACTIVE

/-- STATUS_RECORD (R466, R486). -/
def execStatusRecord (_sample : Nat) (body : List Word) (s : State) : Out :=
  if !s.getB Reg.STBY_PAIR then ok s
  else
    let w := bodyWord body 0
    let now := s.clk.now
    let active := bit w 0
    let mode := bits w 6 4
    let sync := bits w 10 8
    let joins := mode == 3 && sync == 1 && !(s.stby.pMode == 3 && s.stby.pSync == 1)
    let s := (s.putB Reg.STBY_PARTNER_ACTIVE 0 active).putB Reg.STBY_PARTNER_READY 0 (sync == 4)
    let s := s.modStby fun b =>
      { b with statusAt := some now, activeAt := if active then some now else b.activeAt,
               pGiveup := if bit w 1 then (if b.pGiveup.isSome then b.pGiveup else some now) else if active then none else b.pGiveup,
               pGaveUp := bit w 2, pMode := mode, pSync := sync, pEpoch := bodyWord body 1,
               released := if active then none else b.released }
    if active && s.getB Reg.STBY_ACTIVE && s.getB Reg.STBY_UNIT_B then ok ((s.stbyFault Reg.STBY_DUAL_ACTIVE).standDown none)
    else if joins && s.partnerFollows then ok s.sendJoin
    else ok s

/-- The move of a MOVE record. -/
def bodyMove (body : List Word) : SMove :=
  let w := bodyWord body
  { target := { kind := bits (w 1) 31 28, addr := bits (w 1) 23 0 }, value := w 2, rule := bits (w 3) 31 28, dur := bits (w 3) 27 0,
    tag := bits (w 4) 15 0 }

/-- A ramp of the active engine is rebuilt (R473). The record names neither the gain nor the word before the Meridian: free values.
DEDUCED (log entry 76). -/
def State.rebuildRun (s : State) (slot first : Nat) (m : SMove) : State :=
  let (g, s) := s.draw
  let (o, s) := s.draw
  let r : RunMove := { target := m.target, slot := slot, rule := m.rule, dur := m.dur, old := o % 2 ^ 32, value := m.value,
                       start := gain16 (g % 65536), first := first }
  s.modScn fun x => { x with runs := x.runs ++ [r] }

/-- A mirrored move joins its slot, which begins anew unless it is DERIVING, or the live lane. -/
def State.takeMove (s : State) (lane : Nat) (m : SMove) : State :=
  let m := { m with derive := s.owed m }
  if lane = 16 then
    s.modScn fun x => { x with live := x.live.filter (fun p => p.1.target != m.target || p.2.isSome) ++ [(m, none)] }
  else
    let s := if s.slotState lane = 2 then s else (s.setSlot lane fun _ => {}).put Reg.SLOT_TRIG lane 0
    let s := (s.put Reg.SLOT_STATE lane 2).setSlot lane fun t => { t with moves := t.moves ++ [m] }
    State.showSlot lane s

/-- MOVE_RECORD (R467, R473, R486). -/
def execMoveRecord (_sample : Nat) (body : List Word) (s : State) : Out :=
  let w := bodyWord body 0
  let lane := bits w 4 0
  if !s.follows || 16 < lane then ok s
  else
    let m := bodyMove body
    let at' := bits w 31 16
    if at' ≠ 0 ∧ s.get Reg.STBY_SYNC = 1 then ok (s.rebuildRun lane (s.absSample at') m)
    else
      let s := s.takeMove lane m
      ok (if lane = 16 && s.scn.live.all (·.1.derive == 0) then s.reportStaged 16 else s)

/-- SLOT_RECORD (R467, R469, R486). -/
def execSlotRecord (sample : Nat) (body : List Word) (s : State) : Out :=
  let w := bodyWord body 0
  let op := bits w 3 0
  let lane := bits w 8 4
  if 16 < lane then ok s
  else if op = 4 then
    ok (if s.partnerFollows && !s.stby.staged.contains lane then s.modStby fun b => { b with staged := b.staged ++ [lane] } else s)
  else if !s.follows then ok s
  else if op = 1 then
    if lane = 16 then ok s
    else
      let s := s.settleSlot lane
      ok ((if s.slotState lane = 2 then s else s.reportStaged lane).showScn)
  else if op = 2 then ok (if lane < 16 && s.slotState lane != 0 then s.endSlot lane 0 else s)
  else if op = 3 then
    let at' := s.absSample sample
    if lane = 16 then
      ok (s.modScn fun x => { x with live := x.live.map fun p => if p.2.isNone && p.1.derive == 0 then (p.1, some at') else p })
    else
      let n := s.scn.orders + 1
      ok ((s.modScn fun x => { x with orders := n }).setSlot lane fun t => { t with commit := some at', order := n })
  else ok s

/-- MEAS_RECORD (R467): taken at its sample. -/
def execMeasRecord (sample : Nat) (body : List Word) (s : State) : Out :=
  if !s.follows then ok s
  else
    let w := bodyWord body 0
    let m : Meas := { sample := s.ownSample 1 sample, kind := bits w 7 0, index := bits w 31 8, v0 := bodyWord body 1, v1 := bodyWord body 2 }
    ok (s.modStby fun b => { b with meas := b.meas ++ [m] })

/-- CHECK_RECORD (R472): the active engine's value, or the standby's result. -/
def execCheckRecord (_sample : Nat) (body : List Word) (s : State) : Out :=
  let w := bodyWord body 0
  let v := bodyWord body 1
  if s.follows then ok ((s.modStby fun b => { b with check := some (w, v) }).tryCompare)
  else if s.partnerFollows then
    let s := s.count Reg.STBY_CHK_WINDOWS
    ok (if bit v 0 then s else s.count Reg.STBY_CHK_MISS)
  else ok s

/-- CASC_RECORD (R467, R486). -/
def execCascRecord (sample : Nat) (body : List Word) (s : State) : Out :=
  if !s.follows then ok s
  else
    let head := bodyWord body 0 + 2 ^ 32 * bodyWord body 1
    ok (s.cascTake (s.get Reg.FAB_LINK) head (s.ownSample 1 sample) ((body.drop 2).map (·.toNat)))

/-- MODE_RECORD (R467, R473): in a join the rate mode is adopted; later a switch takes effect at its sample. -/
def execModeRecord (sample : Nat) (body : List Word) (s : State) : Out :=
  let w := bodyWord body 0
  let m := bits w 3 0
  let r := bits w 9 8
  if !s.follows || 3 ≤ r then ok s
  else if s.get Reg.STBY_SYNC = 1 ∧ !s.mode.running then
    let s := if s.rate = r then s else (s.meterRateChange.put0 Reg.MODE_RATE r).refreshPorts
    ok (s.modStby fun b => { b with pShow := if m = 5 then 5 else 4 })
  else
    let at' := s.ownSample 1 sample
    ok (s.modStby fun b => { b with modeAt := some (at', m, r) })

/-- The sample count becomes the active engine's (R457, R473): what counts in samples moves with it. DEDUCED (log entry 77). -/
def State.adoptCount (s : State) : State :=
  let k := (65536 - s.get Reg.KZL_SMP_OFS 1) % 65536
  if k = 0 then s
  else
    let s := s.modClk fun c => { c with idx := c.idx + k }
    let s := s.modScn fun x =>
      { x with runs := x.runs.map fun r => { r with first := r.first + k },
               slots := x.slots.map fun p => (p.1, { p.2 with commit := p.2.commit.map (· + k) }),
               live := x.live.map fun p => (p.1, p.2.map (· + k)) }
    let s := s.modDp fun d =>
      { d with shedAt := d.shedAt + k, tagRuns := d.tagRuns.map fun p => (p.1, { p.2 with last := p.2.last + k }),
               casc := forEach (fun p t => tput none t (p.1 / 4096 * 4096 + (p.1 + k) % 4096) p.2) d.casc [] }
    let s := s.modStby fun b =>
      { b with meas := b.meas.map fun m => { m with sample := (m.sample + k) % 65536 },
               modeAt := b.modeAt.map fun m => ((m.1 + k) % 65536, m.2), full := false }
    s.put Reg.KZL_SMP_OFS 1 0

/-- Pages, moves and time have arrived: crosspoints that the active engine does not list are off, and the reseed starts (R473). -/
def State.joined (s : State) : State :=
  let gone := s.xpListed.filter fun id => (tget 0 s.stby.newest (xpKey id)) == 0 && (s.runsOn (xpKey id)).isEmpty
  let s := forEach (fun id s => s.setWord (xpKey id) 0x8000#32) gone s
  let s := s.adoptCount
  let s := (s.modStby fun b => { b with newest := [], timeouts := 0, check := none }).reseed
  match s.mode.trans with
  | .enter m p => if m = 3 then s.setTrans (.enter m p) 1 else s
  | _ => s

/-- TIME_RECORD (R467, R473): the clock at a base-grid boundary; in a join it comes last. DEDUCED (log entry 75). -/
def execTimeRecord (sample : Nat) (body : List Word) (s : State) : Out :=
  if !s.follows then ok s
  else
    let sec := bodyWord body 0 + 2 ^ 32 * (bodyWord body 1 % 65536)
    let t := sec * 3000000000 + bodyWord body 2
    let s := if s.get Reg.STBY_SYNC = 1 then s.joined else s
    let at' := s.ownSample 1 sample
    ok (s.modStby fun b => { b with timeAt := some (at', t) })

/-- A join that its SE_PROG_ID refuses (R473): the request answers PARTNER_ACTIVE, and START is entered again where the data plane has
not started; a running standby stays STUCK. DEDUCED (log entry 77). -/
def State.joinRefused (s : State) : State := match s.mode.trans with
  | .enter m p =>
    if m = 3 then
      let s := ((s.setMode 1).modeAnswerOf p Mst.PARTNER_ACTIVE).transIdle
      s.progressStop 0xA8
    else s.setSync 5
  | _ => s.setSync 5

/-- One word of a PAGE record, read at own sample `at'`: the newest of page value and mirrored move stays (R473). -/
def State.pageWord (at' : Nat) (a v : Nat) (s : State) : State :=
  let known := (if 0x4000000 ≤ a then true else if 0x100000 ≤ a then (paramAt a).isSome || decide (0x600000 ≤ a ∧ a < 0x604000) else mirrored a)
  if !known || decide (at' < tget 0 s.stby.newest a) then s
  else
    let t : MoveTarget := if 0x4000000 ≤ a then { kind := 1, addr := a - 0x4000000 }
      else if 0x100000 ≤ a then { kind := 0, addr := a } else { kind := 2, addr := a }
    let m : SMove := { target := t, value := v, rule := rStep, dur := 0, tag := 0 }
    let u := (s.storeMove m).moveEffects s [m]
    u.modStby fun b => { b with newest := tput 0 b.newest a (max 1 at') }

/-- PAGE_RECORD (R473). DEDUCED (log entry 75). -/
def execPageRecord (sample : Nat) (body : List Word) (s : State) : Out :=
  if !s.follows || s.get Reg.STBY_SYNC ≠ 1 then ok s
  else
    let a := bodyWord body 0
    if a = fldAt Reg.SE_PROG_ID 0 then ok (if bodyWord body 1 = s.get Reg.SE_PROG_ID 0 then s else s.joinRefused)
    else
      let at' := s.absSample sample
      ok (forEach (fun (p : Word × Nat) s => s.pageWord at' (a + 4 * p.2) p.1.toNat) (body.drop 1).zipIdx s)

/-- A strip takes the committed state block of the active engine (R474): its filter, dynamics and notch states are the block's, whose
layout the spec leaves open, so that each is free when it is used next. DESIGN CHOICE (log entry 92). -/
def State.installStrip (s : State) (out : Bool) (n : Nat) : State := s.setStrip out n fun t => { t with cells := [], miss := 0 }

/-- SEED_RECORD (R474): a strip's block of 1,024 words is installed when it is whole. DESIGN CHOICE (log entry 92). -/
def execSeedRecord (_sample : Nat) (body : List Word) (s : State) : Out :=
  let w := bodyWord body 0
  let out := bit w 12
  let n := bits w 11 0
  let off := bits w 31 16
  if !s.follows || s.get Reg.STBY_SYNC ≠ 2 || stripCount out s.rate ≤ n then ok s
  else
    let key := if out then inStrips s.rate + n else n
    let ws := body.drop 1
    let s := s.modStby fun b =>
      { b with seed := if off = 0 then ws else if off = b.seed.length then b.seed ++ ws else [] }
    if s.stby.seed.length < 1024 then ok s
    else
      let s := s.installStrip out n
      let s := s.modStby fun b => { b with seed := [], seeded := if b.seeded.contains key then b.seeded else b.seeded ++ [key] }
      ok s.reseeded

/-- A word of a core's snapshot, by its address: memory, then registers from 131,072 on. -/
def Bc.seedWord (a v : Nat) (b : Bc) : Bc :=
  if a < 131072 then { b with core := b.core.setMem a v }
  else
    let i := a - 131072
    if i < 128 then { b with core := { b.core with win := tput 0 b.core.win i (v % 2 ^ 24) } }
    else if i = 128 then { b with core := { b.core with ma := withBits b.core.ma 31 0 v } }
    else if i = 129 then { b with core := { b.core with ma := withBits b.core.ma 55 32 v } }
    else if i = 130 then { b with core := { b.core with mb := withBits b.core.mb 31 0 v } }
    else if i = 131 then { b with core := { b.core with mb := withBits b.core.mb 55 32 v } }
    else if i = 132 then { b with core := { b.core with pc := v % 2 ^ 24 } }
    else if i = 133 then { b with core := { b.core with flags := v % 8 } }
    else if i = 134 then { b with fp := bits v 2 0, res := bits v 7 4, held := bit v 8, waits := !bit v 9 }
    else if i = 135 then { b with parked := v % 65536 }
    else b

/-- A snapshot begins: the core is halted, and its sends are logged from the next sample on (R475). -/
def State.seedBegin (s : State) (c : Nat) : State :=
  let s := s.modStby fun b => { b with full := false, cores := b.cores.filter (· != c) }
  s.setBc c fun b => { b with reseed := true, halted := true, event := false, log := [] }

/-- A snapshot is whole: the core runs from the log. One that the active engine had at rest stays at rest. -/
def State.seedLoaded (s : State) (c : Nat) : State :=
  let rest := !(s.bcore c).waits
  let now := s.clk.now
  if rest then (s.setBc c fun b => { b with reseed := false, halted := true, log := [] }).coreDone c
  else
    let s := s.setBc c fun b => { b with halted := false, at' := now }
    let s := s.putB Hdr.RUNNING (bcPage c) (!s.getB Hdr.FENCED (bcPage c))
    if (s.bcore c).log.isEmpty then s else s.bcReplay c

/-- BCSEED_RECORD (R475). In RESEEDING a core already reseeded keeps its own state. -/
def execBcseedRecord (_sample : Nat) (body : List Word) (s : State) : Out :=
  let w := bodyWord body 0
  let c := bits w 0 0
  let a := bits w 19 1
  if !s.follows || s.get Reg.STBY_SYNC < 2 || (s.get Reg.STBY_SYNC == 2 && s.stby.cores.contains c) then ok s
  else
    let s := if a = 0 then s.seedBegin c else s
    if !((s.bcore c).reseed && (s.bcore c).halted) then ok s
    else
      let ws := body.drop 1
      let s := s.setBc c fun b => (ws.zipIdx).foldl (fun b p => b.seedWord (a + p.2) p.1.toNat) b
      ok (if a + ws.length = 131072 + 136 then s.seedLoaded c else s)

/-! ## Giving up (R478 to R482, R560) -/

/-- Has the standby acknowledged STATUS with GIVEUP: KZL1 is UP and the frame is neither queued nor held? DEDUCED (log entry 75). -/
def State.giveupAcked (s : State) : Bool :=
  let x := s.link 1
  s.getB Reg.KZL_UP 1 && !x.held.any (·.seq == s.stby.giveSeq) &&
  decide (x.queue.length ≤ (s.stby.giveSeq + 2 ^ 32 - s.get Reg.KZL_TX_SEQ 1) % 2 ^ 32)

/-- GIVEUP_RELEASE (R479 step 1, R482, R560): the first boundary after the acknowledgement, or after 8 µs without one. -/
def execGiveupRelease (s : State) : Out := match s.stby.giveup with
  | none => ok s
  | some (_, t) =>
    if !s.getB Reg.STBY_ACTIVE || decide (s.clk.boundaryEdge ≤ t) || !(s.giveupAcked || decide (t + 8 * usEdges ≤ s.clk.now)) then ok s
    else
      let now := s.clk.now
      let s := s.standDown (transPlane s.mode.trans)
      let s := s.put0 Reg.STBY_GAVE_UP 1
      ok ((s.modStby fun b => { b with released := some now }).sendStatus)

/-- GIVEUP_RECLAIM (R482): 8 µs after the release no STATUS has shown the partner active; the claim runs from step 3. -/
def execGiveupReclaim (low : Bool) (s : State) : Out := match s.stby.released with
  | none => ok s
  | some t =>
    if !s.getB Reg.STBY_GAVE_UP || s.opMode ≠ 3 || s.stopBegun then ok s
    else
      let s := (s.advanceTo (t + 8 * usEdges)).modStby fun b => { b with relSeen := t }
      let s := s.claim none low
      if low then ok (((s.stbyFault Reg.STBY_GIVEUP_FAILED).put0 Reg.MODE_DEGRADED 1).irq Reg.MODE_IRQ_DEGRADED) else ok s

/-- STBY_FORCE (R484): FORCE_CLAIM, a mode request of the manager for SHOW that ignores the line and the heartbeat.
DEDUCED (log entry 74). -/
def execStbyForce (p : Plane) (v : Word) (low : Bool) (s : State) : Out := s.atPage 0xA8 fun s =>
  if p ≠ .mgmt ∨ !s.getB Reg.KEY_AUTH ∨ !s.getB Reg.STBY_PAIR then ok s
  else if v.toNat ≠ s.epoch 0xA8 then ok (s.raise Src.VIEW_MISMATCH stbyUnit)
  else
    let s := ((s.putP p Reg.MODE_DONE 0 0).putP p Reg.MODE_BUSY 0 1).putP p Reg.MODE_REQ_MODE 0 4
    if s.mode.trans ≠ .none then ok (s.modeAnswer p Mst.MODE_BUSY)
    else if (s.opMode ≠ 1 ∧ s.opMode ≠ 3) ∨ s.getB Reg.STBY_ACTIVE then ok (s.modeAnswer p Mst.MODE_ILLEGAL)
    else if s.opMode = 1 ∧ !s.getB Reg.MODE_START_DONE then ok (s.modeAnswer p Mst.NOT_READY)
    else if s.getB Reg.STBY_GAVE_UP then ok (s.modeAnswer p Mst.PARTNER_ACTIVE)
    else
      let s := s.stbyFault Reg.STBY_FORCED
      let now := s.clk.now
      ok ((s.modStby fun b => { b with relSeen := if b.level then b.levelAt - 128 else now }).claim (some p) low)

/-! ## The mirror link comes and goes (R458, R467, R481, R483) -/

/-- What follows where the work of a link command has taken KZL1 out of UP or into it. DEDUCED (log entry 77). -/
def State.linkChanged (s before : State) (low : Bool) : State :=
  let was := before.getB Reg.KZL_UP 1
  let is := s.getB Reg.KZL_UP 1
  if was && !is then s.linkGone low
  else if !was && is then
    let s := s.modStby fun b => { b with pMode := 0, pSync := 0, staged := [] }
    let s := if s.follows && s.get Reg.STBY_SYNC != 1 && s.get Reg.STBY_SYNC != 5 then s.setSync 1 else s
    s.sendStatus
  else s

/-- KZL_FRAME_RX (R449). -/
def execKzlFrameRx (k : Nat) (frame : List DWord) (s : State) : Out :=
  let deaf := (lanesOf k).any fun l => s.suspended { page := 0xA0, index := l }
  ok (if k < 2 && !deaf then (s.kzlReceive k frame).linkChanged s true else s)

/-- KZL_FRAME_TX (R448). -/
def execKzlFrameTx (k : Nat) (low : Bool) (s : State) : Out := ok (if k < 2 then (s.kzlSlot k).linkChanged s low else s)

/-- KZL_LINK_FAIL (R451). -/
def execKzlLinkFail (k cause : Nat) (low : Bool) (s : State) : Out :=
  ok (if k < 2 ∧ cause < 6 then (s.kzlFail k cause).linkChanged s low else s)

/-- LANE_CDR_LOST (R458): a running lane loses its lock, and its link with it. -/
def execLaneCdrLost (l : Nat) (low : Bool) (s : State) : Out :=
  if 14 ≤ l ∨ !s.getB Reg.LANE_CDR_LOCK l then ok s
  else
    let t := (State.laneDark l s).irq Reg.LANE_IRQ_CDR_LOST
    let t := match linkOfLane l with
      | some k => if t.getB Reg.KZL_UP k then t.kzlFail k 1 else t
      | none => if l < 2 then State.linkDown l t else t
    ok (t.linkChanged s low)

end Sys2Proof.Machine
end

