-- ==== Sys2Proof/Machine/Modes.lean ====
section
/-! DEFINITION. Device reset and boot (R558, R568, R569), the steps of START (R558, R631, R632, R637), and requests for a mode or a rate
(R559 to R565). -/

namespace Sys2Proof.Machine

/-! ## Boot (R568, R569) -/

/-- Flash offset of a firmware slot. DEDUCED (log entry 87). -/
def fwBase (b : Bool) : Nat := if b then 0x500000 else 0x100000

/-- VERSION, LENGTH and LOAD of a firmware slot whose header is well formed. DEDUCED (log entry 87). -/
def State.fwHeader (s : State) (b : Bool) : Option (Nat × Nat × Nat) :=
  let h := s.flashRead (fwBase b) 256
  let w := fun k => (leWords h).getD k 0
  let zero := (h.drop 0x14).take 0x2C ++ h.drop 0xC0
  if w 0 = 0x504D4657 ∧ 4 ≤ w 2 ∧ w 2 ≤ 4194048 ∧ w 2 % 4 = 0 ∧ w 3 % 256 = 0 ∧ w 3 + w 2 ≤ 0x800000 ∧ zero.all (· == 0) then
    some (w 1, w 2, w 3)
  else none

/-- Copy a slot's image into group 0 and run from it (R568, step 4). DEDUCED (log entry 87). -/
def State.fwCopy (s : State) (b : Bool) : State := match s.fwHeader b with
  | none => s
  | some (_, len, load) =>
    let s := s.sramWrite load (s.flashRead (fwBase b + 256) len)
    ((s.put0 Reg.MEM_REMAP 1).putB Reg.PROV_FW_SLOT 0 b).modMgmt fun m => { m with booted := true, inRom := false }

/-- The controller boots: of the slots that verify (`a`, `b`), the one with the higher VERSION, A on a tie; with none it stays in the boot
ROM with START_FAIL (R568, R569). DESIGN CHOICE (log entry 29). DEDUCED (log entry 49). -/
def State.boot (s : State) (a b : Bool) : State :=
  let va := if a then s.fwHeader false else none
  let vb := if b then s.fwHeader true else none
  match va, vb with
  | some x, some y => s.fwCopy (decide (x.1 < y.1))
  | some _, none => s.fwCopy false
  | none, some _ => s.fwCopy true
  | none, none =>
    ((((s.put0 Reg.MODE_START_FAIL 1).put0 Reg.MODE_IN_TRANSITION 0).setTrans .none 0).modMgmt fun m => { m with inRom := true }).progressStop 0x01

/-- The state after a device reset, before boot: everything is at its reset value but what no reset changes: the flash, the eFuse table
with its repairs, memory of the host, commands that wait, and SUP_RESET_CAUSE (R15, R594, R604, R637, R652, R661).
DESIGN CHOICE (log entry 29). -/
def State.afterReset (s : State) (rail : Option Nat) (straps : Nat) : State :=
  let s := (s.flashCut).fuseStop
  let cause := match rail with
    | some r => if r = 2 then 0 else withBit (s.get Reg.SUP_RESET_CAUSE) r true
    | none => s.get Reg.SUP_RESET_CAUSE
  let t : State := { State.reset with
    pending := s.pending, free := s.free, host := { mem := s.host.mem },
    mgmt := { flash := s.mgmt.flash, fuseUsed := s.mgmt.fuseUsed, repairs := s.mgmt.repairs.filter (·.fused) },
    pwr := { tripped := s.pwr.tripped && rail.isSome } }
  let t := (t.put0 Reg.SUP_RESET_CAUSE cause).putB Reg.GLOBAL_UNIT_B 0 (bit straps 0)
  let t := ((t.putB Reg.STBY_UNIT_B 0 (bit straps 0)).putB Reg.GLOBAL_QSPI_4B 0 (bit straps 1)).put0 Reg.GLOBAL_SMB_ADDR (bits straps 3 2)
  ((t.put0 Reg.REP_FUSE_LEFT (256 - t.mgmt.fuseUsed)).showRepairs).progress 0x01 true 0 7

/-- DEVICE_RESET (R558, R568, R569, R594). A reset by a supply rail follows 4 samples below its reset threshold (R591).
DESIGN CHOICE (log entry 29). -/
def execDeviceReset (rail : Option Nat) (straps : Nat) (slotA slotB : Bool) (s : State) : Out := match rail with
  | some r =>
    if 4 ≤ (tget {} s.pwr.rails r).belowReset then ok ((s.afterReset rail straps).boot slotA slotB) else ok s
  | none => ok ((s.afterReset rail straps).boot slotA slotB)

/-- The straps as sampled last. DESIGN CHOICE (log entry 11). DESIGN CHOICE (log entry 29). -/
def State.straps (s : State) : Nat := s.get Reg.GLOBAL_UNIT_B + 2 * s.get Reg.GLOBAL_QSPI_4B + 4 * s.get Reg.GLOBAL_SMB_ADDR

/-- SMBUS_FW_IMAGE (R569): while no slot is valid, an image goes into slot A; it resets the device if it verifies, and is discarded
otherwise. DESIGN CHOICE (log entry 50). -/
def execSmbusFwImage (image : List Byte) (verified : Bool) (s : State) : Out :=
  if !s.mgmt.inRom then ok s
  else
    let s := (s.flashErase 0x100000 0x400000).flashProgram 0x100000 (image.take 0x400000)
    if verified && (s.fwHeader false).isSome then ok ((s.afterReset none s.straps).boot true false)
    else ok (s.flashErase 0x100000 0x400000)

/-! ## START (R558) -/

/-- A step of START is complete. -/
def State.startStep (s : State) (k : Nat) : State := match s.mode.trans with
  | .start _ p => ((s.put0 Reg.MODE_STEP k).progress 0x01 (decide (k < 7)) k 7).setTrans (.start k p) 0
  | _ => s

/-- A step of START cannot complete. DEDUCED (log entry 30). -/
def State.startFail (s : State) : State :=
  let p := transPlane s.mode.trans
  ((((s.put0 Reg.MODE_START_FAIL 1).progressStop 0x01).progressStop 0xD4).transIdle).modeAnswerOf p Mst.NOT_READY

/-- May START go on: the controller has booted, and no thermal shutdown holds step 1 (R568, R598)? DEDUCED (log entry 30). -/
def State.startRuns (s : State) : Bool := s.mgmt.booted && s.get Reg.THERM_STATE != 3

/-- Step 1: power, and the vendor strip microcode in every engine (R584, R672). -/
def State.startPower (s : State) : State :=
  let s := s.domainsOn
  let s := forRange (fun e s =>
    ((s.setEng e { pc := Config.vendorEntry }).put Reg.SE_PROG_ID e vendorId).putB Hdr.PROG_VALID (0x10 + e) true) 0 34 s
  let s := { s with prog := { entry := Config.vendorEntry, vec := Config.vendorVec } }
  (forRange (fun k s => s.linkAdvance k) 0 2 s).startStep 1

/-- A domain is ready, or exceeds its limit, in step 1 of START (R558, R584). The last domain of the sequence, PD_LINK, completes the
step. DEDUCED (log entry 30). -/
def State.startPhase (s : State) (d : Nat) (ready : Bool) : State := match s.mode.trans with
  | .start 0 _ =>
    if !s.startRuns then s else if !ready then s.startFail else if d = 14 then s.startPower else s.setDom d 3
  | _ => s

/-- DOMAIN_READY (R583, R584): a waking domain is ready; a phase that exceeds its limit sets START_FAIL.
DESIGN CHOICE (log entry 3). DEDUCED (log entry 35). -/
def execDomainReady (d : Nat) (ready : Bool) (s : State) : Out :=
  if 17 ≤ d then ok s
  else if s.domState d ≠ 2 then ok (s.startPhase d ready)
  else if !ready then ok (((s.setDom d 0).modPwr fun p => { p with waking := tput 0 p.waking d 0 }).put0 Reg.MODE_START_FAIL 1)
  else
    let due := tget 0 s.pwr.waking d
    ok ((s.advanceTo due).wakeDone d (wakeUs (d == 4 && s.opMode == 0) d))

/-- The newest health record, and its age in seconds by BIST_NOW_SEC where that was written in time (R632). DESIGN CHOICE (log entry 21). -/
def State.recordAge (s : State) : Option (Health × Option Int) :=
  s.newestHealth.map fun (_, h) =>
    let now : Int := s.get Reg.BIST_NOW_SEC_LO + 2 ^ 32 * s.get Reg.BIST_NOW_SEC_HI
    let timely := s.getB Reg.BIST_VALID && s.mode.nowSecAt.any fun t =>
      decide (t ≤ s.mode.startAt + 500 * msEdges ∧ s.mode.startAt ≤ t + 500 * msEdges)
    (h, if timely && h.timeValid then some (now - h.sec) else none)

/-- The choice of the self-check and what page 0x0D4 shows of it (R632, R643): quick? -/
def State.chooseCheck (s : State) : Bool × State := match s.recordAge with
  | none =>
    let s := ((s.put0 Reg.BIST_FOUND 0).put0 Reg.BIST_GOOD 0).put0 Reg.BIST_YOUNG 0
    (false, ((s.put0 Reg.BIST_USED 0).put0 Reg.BIST_REC_SEQ 0).put0 Reg.BIST_REC_AGE (2 ^ 32 - 1))
  | some (h, age) =>
    let good := h.kind == 2 && h.good && h.timeValid
    let young := age.any fun a => decide (0 ≤ a ∧ a < 2592000)
    let quick := !s.mode.fullCheck && good && young
    let s := ((s.put0 Reg.BIST_FOUND 1).putB Reg.BIST_GOOD 0 h.good).putB Reg.BIST_YOUNG 0 young
    let known := age.elim (2 ^ 32 - 1) fun a => if 0 ≤ a ∧ a < 2 ^ 32 then a.toNat else 2 ^ 32 - 1
    (quick, ((s.putB Reg.BIST_USED 0 quick).put0 Reg.BIST_REC_SEQ h.seq).put0 Reg.BIST_REC_AGE known)

/-- Memories that a destructive self-check has been through (R631): groups 1 to 7, the strip engines' and the Bridge cores'. -/
def State.checkedMemories (s : State) : State :=
  let s := forRange (fun g s => s.dropSram g) 1 7 s
  let s := forRange (fun e s => s.setEng e { s.eng e with x := [], y := [] }) 0 34 s
  forRange (fun c s => ((s.setBc c fun _ => {}).put Reg.BC_CHAN_LOADED c 0).putB Hdr.RUNNING (bcPage c) false) 0 2 s

/-- The end of a self-check as page 0x0D4 shows it (R643). -/
def State.bistShow (s : State) (kind : Nat) : State :=
  (((s.put0 Reg.BIST_DONE 1).put0 Reg.BIST_BUSY 0).put0 Reg.BIST_KIND kind).irq Reg.BIST_IRQ_DONE

/-- Passing START lifts every fence, every retirement and every shedding, and clears DEGRADED (R42, R558, R482). A lift is
none of the state changes that R46 lists, so no epoch moves. DEDUCED (log entry 20). -/
def State.liftAll (s : State) : State :=
  let fenced := below 0x100 fun p => (blockOf p).isSome && unitPage p == p && (s.getB Hdr.FENCED p || s.getB Hdr.RETIRED p)
  let pages := distinct (fenced ++ (s.flt.retired.map fun u => unitPage u.page))
  let s := forEach (fun p s => (s.putB Hdr.FENCED p false).putB Hdr.RETIRED p false) pages s
  let s := forRange (fun c s => s.putB BC_HALTED (bcPage c) false) 0 2 s
  let s := forRange (fun e s => s.putB Hdr.SPARE (0x10 + e) (decide (32 ≤ e))) 0 34 s
  let s := s.modFlt fun f => { f with paths := [], retired := [], resched := [] }
  let s := s.modMem fun m => { m with masked := [] }
  let s := s.modDp fun d => { d with shed := [], shedding := [], displaced := [], slotEng := [], chMute := [] }
  let s := forRange (fun k s => s.put Reg.FAB_BUS_SHED k 0) 0 32 ((s.put0 Reg.FAB_LANES 72).put0 Reg.FAB_BUS_SHED_CNT 0)
  let s := ((s.put0 Reg.MODE_DEGRADED 0).put0 Reg.MODE_SHED 0).put0 Reg.FLTS_SPARES_LEFT 2
  let s := (((s.put0 Reg.FLTS_SE_RETIRED0 0).put0 Reg.FLTS_SE_RETIRED1 0).put0 Reg.FLTS_BC_RETIRED 0).put0 Reg.FLTS_SERDES_RETIRED 0
  let s := ((s.put0 Reg.FLTS_LANE_RETIRED0 0).put0 Reg.FLTS_LANE_RETIRED1 0).put0 Reg.FLTS_LANE_RETIRED2 0
  let s := forRange (fun k s => s.put Reg.FLTS_PORT_RETIRED k 0) 0 4 s
  let s := forRange (fun k s => (if s.get Reg.KZL_STATE k = 6 then s.linkTo k 0 else s).linkAdvance k) 0 2 s
  (s.put0 Reg.STBY_GAVE_UP 0).modStby fun b => { b with stuck := false, released := none }

/-- Steps 2 to 4: the self-check with what it found, the provisioning load, and the repairs (R573, R631, R632, R637).
DEDUCED (log entry 30). -/
def State.startCheck (s : State) (failMap : Nat) (rows : List (Nat × Nat)) (memFail : Bool) : State :=
  let (quick, s) := s.keyClear.chooseCheck
  let s := (s.putB Reg.MODE_FULL 0 (!quick)).putB Reg.MODE_RECORD_USED 0 quick
  let listed := if quick then (s.newestHealth.map fun h => h.2.rows).getD [] else []
  let s := ((s.checkedMemories.bistFail failMap).bistShow (if quick then 1 else 2)).put0 Reg.BIST_STATUS 0
  let s := s.healthWrite 1 false (!quick) failMap rows
  let s := s.progress 0xD4 false 1 1
  let s := s.modMode fun m => { m with rows := rows, nowSecAt := none }
  if failMap % 2 ^ 17 ≠ 0 ∨ memFail then s.startFail
  else
    let s := ((s.startStep 2).provLoad).startStep 3
    let s := s.modMgmt fun m => { m with withheld := [] }
    let s := forEach (fun r s => State.repairRow (decide (8 ≤ r.1)) false r s) rows s
    let s := forEach (fun r s => State.repairRow (decide (8 ≤ r.1)) true r s) (listed.filter (!rows.contains ·)) s
    (s.showRepairs.liftAll).startStep 4

/-- Steps 1 to 4. -/
def State.startUpTo4 (s : State) (failMap : Nat) (rows : List (Nat × Nat)) (memFail : Bool) : State := match s.mode.trans with
  | .start k _ => if k = 0 then s.startPower.startCheck failMap rows memFail else if k = 1 then s.startCheck failMap rows memFail else s
  | _ => s

/-- BIST_DONE (R631, R632, R643): the self-check of START ends, and with it steps 1 to 4; or the full check of MAINT. -/
def execBistDone (failMap : Nat) (rows : List (Nat × Nat)) (memFail : Bool) (s : State) : Out := match s.mode.trans with
  | .start k _ => ok (if 2 ≤ k || !s.startRuns then s else s.startUpTo4 failMap rows memFail)
  | _ =>
    if !s.getB Reg.BIST_BUSY then ok s
    else
      let s := (((s.checkedMemories.bistFail failMap).bistShow 2).put0 Reg.BIST_STATUS 0).progress 0xD4 false 1 1
      ok (s.modMode fun m => { m with rows := rows })

/-- The end of DRAM training (R505, R524). DESIGN CHOICE (log entry 95). -/
def State.dramTrained (s : State) (success : Bool) (mr4 : Nat) : State :=
  let s := (s.irq Reg.DRAM_IRQ_TRAINED).put0 Reg.DRAM_MR4 mr4
  let s := s.putB Reg.DRAM_DERATE 0 (Config.mr4Derate (mr4 % 32))
  let s := (s.putB Reg.DRAM_READY 0 success).putB Reg.DRAM_TRAIN_FAIL 0 (!success)
  if success then s.progress 0xB8 false 24 24 else s.progressStop 0xB8

/-- DRAM_TRAINING_DONE (R505): step 5 of START. -/
def execDramTrainingDone (success : Bool) (mr4 : Nat) (s : State) : Out :=
  let s := s.dramTrained success mr4
  match s.mode.trans with
  | .start 4 _ => ok (if success then s.startStep 5 else s.startFail)
  | _ => ok s

/-- Steps 6 and 7: groups 1 to 7 pass to FREE, zeroed (R515); the engine is ready. -/
def State.startEnd (s : State) : State :=
  let s := forRange (fun g s => s.dropSram g) 1 7 s
  let s := (s.modMem fun m => { m with bufs := [], passes := [] }).showPasses.startStep 6
  let s := ((s.startStep 7).put0 Reg.MODE_START_DONE 1).irq Reg.MODE_IRQ_START_DONE
  (s.transDone).showScn

/-- START_DONE (R558): every step that is left completes, or one fails. DEDUCED (log entry 30). -/
def execStartDone (good : Bool) (s : State) : Out := match s.mode.trans with
  | .start _ _ =>
    if !s.startRuns then ok s
    else if !good then ok s.startFail
    else
      let s := s.startUpTo4 0 [] false
      let s := match s.mode.trans with
        | .start 4 _ => (s.dramTrained true (s.get Reg.DRAM_MR4)).startStep 5
        | _ => s
      ok s.startEnd
  | _ => ok s

/-! ## Requests (R559 to R565) -/

/-- A request is received: MODE_REQ_STAT shows it in progress. DEDUCED (log entry 17). DEDUCED (log entry 26). -/
def State.modeRequest (s : State) (p : Plane) (m : Nat) : State :=
  ((s.putP p Reg.MODE_DONE 0 0).putP p Reg.MODE_BUSY 0 1).putP p Reg.MODE_REQ_MODE 0 m

/-- Serve a request unless a transition runs (R563). DEDUCED (log entry 26). -/
def State.whenIdle (s : State) (p : Plane) (f : State → State) : State :=
  if s.mode.trans = .none then f s else s.modeAnswer p Mst.MODE_BUSY

/-- START is over, with success. -/
def State.startOk (s : State) : Bool := s.getB Reg.MODE_START_DONE

/-- The ramp between SHOW and HOLD begins at the next boundary, and the partner follows at the same sample (R467, R562). -/
def State.holdRamp (s : State) (p : Plane) (m : Nat) : State := (s.transBegin (.hold m (some p)) 1 m).mirrorMode (s.idx + 1) m s.rate

/-- The stop of the data plane begins at the next boundary; HOLD, START and MAINT need no ramp (R561). -/
def State.stopBegin (s : State) (p : Plane) (m : Nat) : State :=
  let ramp := s.opMode == 3 || s.opMode == 4
  s.transBegin (.stop m (some p)) (if ramp then 65 else 1) m

/-- A claim by request (R465). -/
def State.claimRequest (s : State) (p : Plane) (low : Bool) : State :=
  if s.lineFree then s.claim (some p) low else s.modeAnswer p Mst.PARTNER_ACTIVE

/-- The effect of a request for SHOW where no transition runs. -/
def State.showRequest (p : Plane) (low : Bool) (s : State) : State :=
  let m := s.opMode
  if m = 1 then
    if !s.startOk then s.modeAnswer p Mst.NOT_READY
    else if s.getB Reg.STBY_PAIR && !s.getB Reg.STBY_ACTIVE then s.claimRequest p low
    else s.transBegin (.enter 4 (some p)) 1 4
  else if m = 5 then s.holdRamp p 4
  else if m = 3 then (if s.canClaim then s.claimRequest p low else s.modeAnswer p Mst.PARTNER_ACTIVE)
  else s.modeAnswer p Mst.MODE_ILLEGAL

/-- Does a ramp toward SHOW or HOLD run that a request for the other reverses (R562)? DEDUCED (log entry 26). -/
def State.reverses (s : State) (goal : Nat) : Bool := match s.mode.trans with
  | .hold m _ => m != goal && s.mode.left == 0
  | _ => false

/-- The request whose ramp is reversed is over; the new ramp begins at the next boundary from the gain reached. -/
def State.holdReverse (s : State) (p : Plane) (goal : Nat) : State :=
  let old := transPlane s.mode.trans
  let s := if old == some p then s else s.modeAnswerOf old 0
  s.holdRamp p goal

/-- REQ_SHOW (R559, R562, R465). -/
def execReqShow (p : Plane) (low : Bool) (s : State) : Out :=
  let rev := s.reverses 4
  let t := s.modeRequest p 4
  ok (if rev then t.holdReverse p 4 else t.whenIdle p (State.showRequest p low))

/-- REQ_HOLD (R559, R562). -/
def execReqHold (p : Plane) (s : State) : Out :=
  let rev := s.reverses 5
  let t := s.modeRequest p 5
  ok (if rev then t.holdReverse p 5
    else t.whenIdle p fun s => if s.opMode = 4 then s.holdRamp p 5 else s.modeAnswer p Mst.MODE_ILLEGAL)

/-- Does the partner hold the active role in SHOW or HOLD over an UP mirror link (R465)? -/
def State.partnerLeads (s : State) : Bool :=
  s.getB Reg.STBY_PAIR && s.getB Reg.KZL_UP 1 && s.getB Reg.STBY_PARTNER_ACTIVE && (s.stby.pMode == 4 || s.stby.pMode == 5)

/-- The effect of a request for FOLLOW where no transition runs: a join (R465, R473) or a planned give-up (R560). DEDUCED (log entry 26). -/
def State.followRequest (p : Plane) (s : State) : State :=
  let m := s.opMode
  if m = 1 then
    if !s.startOk then s.modeAnswer p Mst.NOT_READY
    else if !s.partnerLeads then s.modeAnswer p Mst.PARTNER_ACTIVE
    else (s.transBegin (.enter 3 (some p)) 1 3).modStby fun b => { b with newest := [], check := none, timeouts := 0, decideAt := none }
  else if m = 4 ∨ m = 5 then
    if !s.holdsRole || !s.partnerReady then s.modeAnswer p Mst.PARTNER_NOT_READY
    else (s.transBegin (.giveUp (some p)) 0 3).giveUpStart 0
  else s.modeAnswer p Mst.MODE_ILLEGAL

/-- REQ_FOLLOW (R465, R559, R560). -/
def execReqFollow (p : Plane) (s : State) : Out := ok ((s.modeRequest p 3).whenIdle p (State.followRequest p))

/-- REQ_START (R559). From PARK no boundary runs, and START begins at once. DESIGN CHOICE (log entry 27). -/
def execReqStart (p : Plane) (full : Bool) (s : State) : Out :=
  ok ((s.modeRequest p 1).whenIdle p fun s =>
    let keep := fun (s : State) => s.modMode fun m => { m with fullCheck := full }
    let m := s.opMode
    if m = 0 then (keep s).enterStart (some p)
    else if m = 3 ∨ m = 4 ∨ m = 5 then (keep s).stopBegin p 1
    else if m = 2 then (if p = .mgmt then (keep s).transBegin (.enter 1 (some p)) 1 1 else s.modeAnswer p Mst.MODE_DENIED)
    else s.modeAnswer p Mst.MODE_ILLEGAL)

/-- REQ_MAINT (R559). -/
def execReqMaint (p : Plane) (s : State) : Out :=
  ok ((s.modeRequest p 2).whenIdle p fun s =>
    if s.opMode ≠ 1 then s.modeAnswer p Mst.MODE_ILLEGAL
    else if p ≠ .mgmt then s.modeAnswer p Mst.MODE_DENIED
    else s.transBegin (.enter 2 (some p)) 1 2)

/-- REQ_PARK (R559, R561). -/
def execReqPark (p : Plane) (s : State) : Out :=
  ok ((s.modeRequest p 0).whenIdle p fun s => if s.opMode = 0 then s.modeAnswer p Mst.MODE_ILLEGAL else s.stopBegin p 0)

/-- A rate mode takes effect at once: no audio runs. The next boundary is one of the new mode's (R31). -/
def State.rateNow (s : State) (r : Nat) : State :=
  let s := s.modClk fun c => { c with pos := c.pos / periodEdges r * periodEdges r }
  ((s.meterRateChange.put0 Reg.MODE_RATE r).irq Reg.RCONV_IRQ_RATE_SWITCH).refreshPorts.showRate

/-- The effect of a request for a rate mode where no transition runs (R81, R564). DEDUCED (log entry 26). -/
def State.rateRequest (p : Plane) (r : Nat) (s : State) : State :=
  let m := s.opMode
  if m = 0 ∨ m = 3 then s.modeAnswer p Mst.MODE_ILLEGAL
  else if m = 1 ∧ !s.startOk then s.modeAnswer p Mst.NOT_READY
  else if s.budgetAt r s.clk.div (s.tiersAt r) < s.reservationAt r then s.modeAnswer p Mst.RATE_BUDGET
  else if r = s.rate then s.modeAnswer p 0
  else if m = 1 ∨ m = 2 then (s.rateNow r).modeAnswer p 0
  else (s.transBegin (.rate 1 r (some p)) 64 m).mirrorMode (s.idx + 1) m r

/-- SET_RATE (R81, R225, R564). -/
def execSetRate (p : Plane) (rate : Nat) (s : State) : Out :=
  let s := (s.putP p Reg.MODE_DONE 0 0).putP p Reg.MODE_BUSY 0 1
  ok (if 3 ≤ rate then s.modeAnswer p Mst.MODE_BAD_ARG else s.whenIdle p (State.rateRequest p rate))

end Sys2Proof.Machine
end

