-- ==== Sys2Proof/Machine/Faults.lean ====
section
/-! DEFINITION. Fences by command, retirement, the end of a targeted test, self-checks, marches, repairs and the watchdog
(R39, R199 to R201, R621 to R638). -/

namespace Sys2Proof.Machine

/-! ## Fencing and retiring a unit (R625, R630) -/

/-- The port channel that a unit is. -/
def portOfUnit (u : UnitId) : Option (Bool × Nat) :=
  ((List.range 60).flatMap fun p => [(false, p), (true, p)]).find? fun c => portUnit c.1 c.2 == u

/-- What the fence of a sub-unit does beyond it: a port channel begins its mute, a SERDES lane takes its port or link down. -/
def State.subUnitOut (s : State) (u : UnitId) : State :=
  if u.page = 0xA0 then
    let s := State.laneDark u.index s
    match linkOfLane u.index with
    | some k => s.kzlFail k 5
    | none => if u.index < 2 then State.linkDown u.index s else s
  else match portOfUnit u with
    | some (tx, p) => s.modDp fun d => { d with chMute := tput 0 d.chMute (muteKey tx p) 1 }
    | none => s

/-- Fence a unit that can be fenced, with retirement or without. DEDUCED (log entry 43). -/
def State.fenceUnit (s : State) (u : UnitId) (retire : Bool) : State := (s.fenceOut u retire).subUnitOut u

/-- FENCE (R39): the fence of a unit, without retirement. -/
def execFence (unit : UnitId) (s : State) : Out :=
  ok (if fenceable unit && !s.unitDown unit then s.fenceUnit unit false else s)

/-- Answer a fence command (R630). DEDUCED (log entry 42). -/
def State.fenceAnswer (s : State) (st : Nat) : State :=
  ((s.put0 Reg.FLT_STATUS st).put0 Reg.FLT_DONE 1).irq Reg.FLT_IRQ_FENCE_DONE

/-- FLT_FENCE_GO (R630). DEDUCED (log entry 42). -/
def execFltFenceGo (p : Plane) (v : Word) (s : State) : Out :=
  if p ≠ .mgmt ∨ v.toNat % 2 = 0 then ok s
  else
    let s := s.put0 Reg.FLT_DONE 0
    let w := s.get Reg.FLT_FENCE_UNIT
    let u := unitOfWord w
    if w ≠ unitWord u || !fenceable u then ok (s.fenceAnswer 2)
    else if s.get Reg.FLT_FENCE_EPOCH ≠ s.epoch u.page then ok ((s.raise Src.VIEW_MISMATCH u).fenceAnswer 1)
    else if s.unitDown u then ok (s.fenceAnswer 3)
    else ok ((s.fenceUnit u false).fenceAnswer 0)

/-- Bit of FLT_PORT_RETIRED of a port channel (R641). -/
def portRetiredBit (tx : Bool) (p : Nat) : Nat :=
  if p < 32 then p + 32 * tx.toNat else if p < 36 then p + 32 + 4 * tx.toNat else p + 36 + 24 * tx.toNat

/-- Set a bit of a map held in a register field. -/
def State.mark (s : State) (f : Fld) (k : Nat) : State := s.put0 f (withBit (s.get f) k true)

/-- The retirement maps of R641. -/
def State.showRetired (s : State) (u : UnitId) : State :=
  if 0x10 ≤ u.page ∧ u.page ≤ 0x2F then s.mark Reg.FLTS_SE_RETIRED0 (u.page - 0x10)
  else if u.page = 0x30 ∨ u.page = 0x31 then s.mark Reg.FLTS_SE_RETIRED1 (u.page - 0x30)
  else if u.page = 0xC0 ∨ u.page = 0xC1 then s.mark Reg.FLTS_BC_RETIRED (u.page - 0xC0)
  else if u.page = 0xA0 then s.mark Reg.FLTS_SERDES_RETIRED u.index
  else if u.page = 0x40 ∧ u.index ≠ 0 then
    let l := u.index - 1
    s.mark (if l < 32 then Reg.FLTS_LANE_RETIRED0 else if l < 64 then Reg.FLTS_LANE_RETIRED1 else Reg.FLTS_LANE_RETIRED2) (l % 32)
  else match portOfUnit u with
    | some (tx, p) => s.setMapBit Reg.FLTS_PORT_RETIRED (portRetiredBit tx p) true
    | none => s

/-- Rows, as bank and row, that a row's unit ID names. -/
def rowOfUnit (u : UnitId) : Nat × Nat := (8 * (u.page - 0xB0) + u.index / 1024, u.index % 1024)

/-- Retire a unit (R625); answers whether it was retired. A row without a spare stays in use, and the management controller is
never retired. DEDUCED (log entry 47). -/
def State.retireUnit (s : State) (u : UnitId) (addr : Word) : Bool × State :=
  if fenceable u && s.unitDown u then
    let s := if isSubUnit u then s else s.put Hdr.RETIRED (unitPage u.page) 1
    (true, ((s.bumpEpoch u.page).showRetired u).irq Reg.FLT_IRQ_RETIRE)
  else if fenceable u then (true, ((s.fenceUnit u true).showRetired u).irq Reg.FLT_IRQ_RETIRE)
  else if u.page = 0x40 then
    let s := (s.modFlt fun f => { f with retired := f.retired ++ [u], resched := f.resched ++ [u] }).bumpEpoch 0x40
    (true, (s.showRetired u).irq Reg.FLT_IRQ_RETIRE)
  else if 0xB0 ≤ u.page ∧ u.page ≤ 0xB7 then
    if (s.spareRow (rowOfUnit u).1).isSome then
      (true, (((State.repairRow false false (rowOfUnit u) s).bumpEpoch u.page).showRepairs).irq Reg.FLT_IRQ_RETIRE)
    else (false, State.repairRow false false (rowOfUnit u) s)
  else if u.page = 0xB8 then
    let b := (addr.toNat - 0x80000000) / 64
    if s.flt.badDram.contains b then (true, s)
    else if s.flt.badDram.length < 256 then
      let s := (s.modFlt fun f => { f with badDram := f.badDram ++ [b] }).bumpEpoch 0xB8
      (true, (s.put0 Reg.FLTS_DRAM_BAD s.flt.badDram.length).irq Reg.FLT_IRQ_RETIRE)
    else (false, s.raise Src.REPAIR_FAIL u addr)
  else if u.page = 0xB9 then
    (true, ((s.modFlt fun f => { f with paths := f.paths ++ [u.index], retired := f.retired ++ [u] }).bumpEpoch 0xB9).irq Reg.FLT_IRQ_RETIRE)
  else (false, s)

/-! ## Targeted tests (R621 to R626) -/

/-- Frame rate of a port channel under test, Hz. DESIGN CHOICE (log entry 45). -/
def State.portRate (s : State) (u : UnitId) : Nat := match portOfUnit u with
  | some (true, p) => (s.txRate p).getD 48000
  | some (false, p) => if (s.rxp p).rate = 0 then 48000 else (s.rxp p).rate
  | none => 48000

/-- Duration of a targeted test (R622) in its unit of R642: cc for SE, BC and summing lane tests, fc otherwise. A DRAM test takes at
most 4 µs; how long, the manual leaves open. DESIGN CHOICE (log entry 45). -/
def State.testTicks (s : State) (t : FltTest) : Nat := match t.kind with
  | .dram => Config.freeValue t.stamp % (testTime .dram + 1)
  | .port => 4 * 750000000 / max 1 (s.portRate t.unit)
  | .serdes =>
    if 6 ≤ t.unit.index then 29607 else if s.get Reg.NET_SPEED t.unit.index = 0 then testTime .serdes else 76260
  | k => testTime k

/-- The same in root edges. DESIGN CHOICE (log entry 45). -/
def State.testEdges (s : State) (t : FltTest) : Nat := match t.kind with
  | .se => s.testTicks t * s.clk.div
  | .bc => s.testTicks t * s.clk.div
  | .lane => s.testTicks t * s.clk.div
  | _ => s.testTicks t * 4

/-- Worst cases of the strips of an engine that it has not begun (R200). -/
def State.stripsToCome (s : State) (e : Nat) : Nat :=
  let left := fun (out : Bool) => ((s.stripsOf out e).filter fun n => !(s.eng e).begun.contains (out, n)).length
  left false * s.prog.wIn + left true * s.prog.wOut

/-- An engine drops what it was doing; a handler that ran is pending again. DEDUCED (log entry 46). -/
def Se.abandon (t : Se) : Se :=
  let again := match t.handler with
    | some h => if t.events.any (·.1 == h.code) then [] else [(h.code, t.cc)]
    | none => []
  { t with queue := [], ups := [], sticky := 0, zn := none, space := none, branch := none, reps := [], iterEnd := false, div := none,
           gather := none, handler := none, gfault := false, events := again ++ t.events }

/-- A strip engine after a passed test (R199, R200): the strip under way is run again from its checkpoint where the rest of the period
holds it and the strips to come; otherwise it has missed, and the runtime goes on. Answers whether a rerun is made.
DEDUCED (log entry 46). -/
def State.seResume (s : State) (e since : Nat) : Bool × State :=
  let spent := (s.clk.now - max since s.clk.boundaryEdge) / max 1 s.clk.div
  let t := { s.eng e with cc := (s.eng e).cc + spent }
  match t.strip with
  | none => (false, s.setEng e t)
  | some (out, n) =>
    let r := min ((s.nextBoundary - s.clk.boundaryEdge) / max 1 s.clk.div - (t.cc - t.cc0)) ((s.nextBoundary - s.clk.now) / max 1 s.clk.div)
    let w := if out then s.prog.wOut else s.prog.wIn
    if w + s.stripsToCome e ≤ r then
      let t := if t.gfault then { t with gfault := false } else { t.abandon with regs := t.entry, pc := t.entryPc }
      (true, (s.setEng e t).stripEvent out n (if out then Reg.OUTR_RETRY else Reg.INR_RETRY))
    else
      let pc := s.prog.entry
      (false, s.setEng e { t.abandon with regs := t.entry, strip := none, pc := pc })

/-- A word of a strip engine whose error could not be corrected (R201, R624): a program word comes from the lowest engine in service,
a word of X or Y reads 0. -/
def State.seWord (s : State) (e : Nat) (addr : Word) : State :=
  let a := addr.toNat
  let t := s.eng e
  let m := Config.eccMemory a % 3
  if m = 0 then s.setEng e { t with x := tput 0 t.x (a % 32768) 0 }
  else if m = 1 then s.setEng e { t with y := tput 0 t.y (a % 32768) 0 }
  else match (below 34 fun k => !s.unitDown (seUnit k)).head? with
    | some k =>
      let w := tget 0 (s.eng k).prog (a % 8192)
      s.setEng e { t with prog := tput 0 t.prog (a % 8192) w }
    | none => s

/-- The granule of memory whose error could not be corrected reads 0 (R624, R637). DEDUCED (log entry 47). -/
def State.zeroGranule (s : State) (u : UnitId) (addr : Word) : State :=
  let a := addr.toNat / 8 * 8
  if 0x10000000 ≤ a ∧ a < 0x14000000 ∧ rowUnit (a - 0x10000000) = u then s.sramWrite (a - 0x10000000) (List.replicate 8 0)
  else if 0x80000000 ≤ a ∧ u.page = 0xB8 then s.dramWrite (a - 0x80000000) (List.replicate 8 0)
  else s

/-- What a test has restored by its end (R201, R624). -/
def State.restored (s : State) (t : FltTest) : State := match t.kind with
  | .se => if t.src < 0x22 then s.seWord (t.unit.page - 0x10) t.addr else s
  | .row => s.zeroGranule t.unit t.addr
  | .dram => s.zeroGranule t.unit t.addr
  | _ => s

/-- The action of R614 after a passed test. Answers whether a strip is run again. DEDUCED (log entry 46). -/
def State.testResume (s : State) (t : FltTest) : Bool × State := match t.kind with
  | .se => s.seResume (t.unit.page - 0x10) t.since
  | .row =>
    if t.unit.page = 0x60 then
      let hit := (s.dp.lanes.map (·.1)).filter fun m => laneEn (s.lane m).entry && Config.rconvRow t.addr.toNat m
      (false, forEach (fun m s => (s.laneTo m 1).setLane m fun l => { l with fill := 0, keep := false, hist := 0 }) hit s)
    else (false, s)
  | _ => (false, s)

/-- Queued tests start while fewer than four run, in stamp order (R621). -/
def State.startTests (s : State) : State :=
  let free := 4 - (s.flt.tests.filter (·.running)).length
  let next := ((s.flt.tests.filter (!·.running)).take free).map (·.unit)
  let now := s.clk.now
  (s.modFlt fun f =>
    { f with tests := f.tests.map fun t => if next.contains t.unit then { t with running := true, begun := now } else t }).showTests

/-- TARGETED_TEST_END (R622 to R626): the test of a unit ends. DEDUCED (log entry 44). -/
def execTargetedTestEnd (unit : UnitId) (pass : Bool) (s : State) : Out :=
  match s.flt.tests.find? (fun t => t.unit == unit && t.running) with
  | none => ok s
  | some t =>
    let ticks := s.testTicks t
    let s := s.advanceTo (t.begun + s.testEdges t)
    let s := (s.modFlt fun f => { f with tests := f.tests.filter (·.unit != unit) }).restored t
    let log := fun (outcome : Nat) (retry retired : Bool) (s : State) =>
      s.logEvent t.stamp t.ts32 t.src outcome retry retired t.severe unit t.addr ticks
    let s :=
      if pass && !t.esc then
        let (retry, s) := s.testResume t
        log logPass retry false (s.count Reg.FLT_PASS)
      else
        let (gone, s) := (s.count Reg.FLT_FAIL).retireUnit unit t.addr
        log (if pass then logEscalated else logFail) false gone s
    ok (s.irq Reg.FLT_IRQ_TEST).startTests

/-! ## The watchdog (R627) -/

/-- FLT_WDT_KICK. DESIGN CHOICE (log entry 21). -/
def execFltWdtKick (p : Plane) (v : Word) (s : State) : Out :=
  if p = .mgmt ∧ v.toNat % 2 = 1 then
    let now := s.clk.now
    ok (s.modFlt fun f => { f with wdtKick := now })
  else ok s

/-- WDT_EXPIRE: MGMT_WDT, KEY_AUTH cleared, the controller restarts at the boot ROM; audio and the data plane go on.
DEDUCED (log entry 49). -/
def execWdtExpire (s : State) : Out :=
  let n := s.get Reg.FLT_WDT
  if n = 0 then ok s
  else
    let s := s.advanceTo (s.flt.wdtKick + n * msEdges)
    let s := (s.raise Src.MGMT_WDT { page := 0 }).put0 Reg.KEY_AUTH 0
    let now := s.clk.now
    let s := (s.modFlt fun f => { f with wdtKick := now }).modMgmt fun m => { m with restarts := m.restarts + 1 }
    if (s.fwHeader false).isSome || (s.fwHeader true).isSome then ok (s.boot true true)
    else ok (s.modMgmt fun m => { m with inRom := true, booted := false })

/-! ## Self-checks and marches (R631, R635, R636, R643, R644) -/

/-- A supply warning is in force (R592). -/
def State.warned (s : State) : Bool := s.get Reg.SUP_WARN_NOW != 0

/-- BIST_GO (R631, R643): a full check in MAINT; it clears the key store first. -/
def execBistGo (p : Plane) (v : Word) (s : State) : Out :=
  if p ≠ .mgmt ∨ v.toNat % 2 = 0 then ok s
  else if s.opMode ≠ 2 then ok (s.put0 Reg.BIST_STATUS 0xB0)
  else if s.getB Reg.BIST_BUSY then ok (s.put0 Reg.BIST_STATUS 0xB1)
  else if s.warned || s.hot then ok (s.put0 Reg.BIST_STATUS 0xB2)
  else ok ((((s.put0 Reg.BIST_DONE 0).put0 Reg.BIST_BUSY 1).put0 Reg.BIST_STATUS 0).keyClear.progress 0xD4 true 0 1)

/-- The status that refuses a march (R636), 0 for none. -/
def State.marchRefusal (s : State) : Nat :=
  let destructive := !s.getB Reg.MARCH_PRESERVE
  if s.opMode = 0 ∨ (destructive ∧ (s.opMode ≠ 2 ∨ s.get Reg.MARCH_GROUP = 0)) then 0xC0
  else if s.mgmt.marchRun then 0xC1
  else if s.get Reg.MARCH_BANK_MASK = 0 ∨ s.get Reg.MARCH_BG = 0 ∨ s.get Reg.MARCH_ALG = 3 then 0xC2
  else 0

/-- MARCH_GO (R636): the request of MARCH_REQ starts. DESIGN CHOICE (log entry 48). -/
def execMarchGo (p : Plane) (v : Word) (s : State) : Out :=
  if p ≠ .mgmt ∨ v.toNat % 2 = 0 then ok s
  else
    let st := s.marchRefusal
    if st ≠ 0 then ok (s.put0 Reg.MARCH_STATUS st)
    else
      let req := (s.word (fldAt Reg.MARCH_BANK_MASK 0)).toNat
      let s := ((s.put0 Reg.MARCH_STATUS 0).put0 Reg.MARCH_DONE 0).put0 Reg.MARCH_BUSY 1
      let s := s.putB Reg.MARCH_PAUSED 0 (s.warned || s.hot)
      ok (s.modMgmt fun m => { m with marchRun := true, marchReq := req })

/-- Show the oldest entry of the MARCH_FIFO. -/
def State.showMarch (s : State) : State :=
  let f := s.mgmt.marchFifo
  let e := f.headD (0, 0)
  let s := (s.put0 Reg.MARCH_FIFO_CNT f.length).putB Reg.MARCH_FIFO_VALID 0 (!f.isEmpty)
  (s.put0 Reg.MARCH_FIFO_BANK e.1).put0 Reg.MARCH_FIFO_ROW e.2

/-- A failing row enters the FIFO; a full one takes no more. -/
def State.marchFail (r : Nat × Nat) (s : State) : State :=
  let s := s.count Reg.MARCH_FAIL_CNT
  if 64 ≤ s.mgmt.marchFifo.length then s else s.modMgmt fun m => { m with marchFifo := m.marchFifo ++ [r] }

/-- What a destructive march leaves in a bank (R635): the background of its last run. Which words of the checkerboard hold ones, the
manual does not say. DESIGN CHOICE (log entry 48). -/
def State.marchLeaves (req phase bank : Nat) (s : State) : State :=
  if !bit (bits req 7 0) bank then s
  else
    let g := bits req 10 8
    let off := fun row col => g * 0x800000 + row * 0x2000 + col * 256 + bank * 32
    let s := s.modMem fun m => { m with sram := m.sram.filter fun p => !(p.1 / 0x800000 == g && sramBank p.1 % 8 == bank) }
    if !bit (bits req 17 16) 1 then s
    else forRange (fun row s => forRange (fun col s =>
      if (row + col + phase) % 2 = 0 then s else s.sramWrite (off row col) (List.replicate 32 0xFF#8)) 0 32 s) 0 1024 s

/-- MARCH_DONE (R635, R636): the march ends; `rows` are the failing rows, as bank (8 × group + bank) and row. It does not end while a
supply warning or shedding pauses it. DESIGN CHOICE (log entry 48). -/
def execMarchDone (rows : List (Nat × Nat)) (s : State) : Out :=
  if !s.mgmt.marchRun || s.warned || s.hot then ok s
  else
    let req := s.mgmt.marchReq
    let rows := rows.filter fun r => r.1 / 8 == bits req 10 8 && bit (bits req 7 0) (r.1 % 8) && decide (r.2 < 1024)
    let s := s.modMgmt fun m => { m with marchRun := false }
    let s := (forEach State.marchFail rows s).showMarch
    let s := if rows.isEmpty then s else s.irq Reg.MARCH_IRQ_FAIL
    let (v, s) := s.draw
    let s := if bit req 31 then s else forRange (State.marchLeaves req v) 0 8 s
    ok ((((s.put0 Reg.MARCH_BUSY 0).put0 Reg.MARCH_PAUSED 0).put0 Reg.MARCH_DONE 1).irq Reg.MARCH_IRQ_DONE)

/-- MARCH_FIFO_READ (R644): the read answers with the oldest entry and removes it. DESIGN CHOICE (log entry 48). -/
def State.marchRead (s : State) (p : Plane) : State :=
  let s := s.setRead p (s.readWord p (fldAt Reg.MARCH_FIFO_VALID 0))
  (s.modMgmt fun m => { m with marchFifo := m.marchFifo.tail }).showMarch
def execMarchFifoRead (p : Plane) (s : State) : Out := ok (s.marchRead p)

/-! ## The eFuse table (R638) -/

/-- Soft repairs in bank order. -/
def State.softRepairs (s : State) : List (Nat × Nat × Nat) :=
  (List.range 64).flatMap fun b => (s.mgmt.repairs.filter fun r => r.bank == b && !r.fused).map fun r => (r.bank, r.row, r.spare)

/-- The status that refuses a burn, 0 for none. DEDUCED (log entry 86). -/
def State.fuseRefusal (s : State) : Nat :=
  if s.opMode ≠ 2 then 0xA0 else if !s.getB Reg.KEY_AUTH then 0xA1 else if 380 < s.tj ∨ s.warned then 0xA2 else 0

/-- REP_FUSE_GO (R638): every soft repair that the free entries hold is burnt. -/
def execRepFuseGo (p : Plane) (v : Word) (s : State) : Out :=
  if p ≠ .mgmt ∨ v.toNat % 2 = 0 ∨ s.mgmt.burn.isSome then ok s
  else
    let s := s.put0 Reg.REP_DONE 0
    let ended := fun (st : Nat) (s : State) => ((s.put0 Reg.REP_STATUS st).put0 Reg.REP_DONE 1).irq Reg.REP_IRQ_FUSE_DONE
    let st := s.fuseRefusal
    let all := s.softRepairs
    let left := all.take (256 - s.mgmt.fuseUsed)
    if st ≠ 0 then ok (ended st s)
    else if left.isEmpty then ok (ended (if all.isEmpty then 0 else 0xA3) s)
    else ok (((s.put0 Reg.REP_BUSY 1).modMgmt fun m => { m with burn := some { left := left } }).progress 0xD6 true 0 left.length)

/-- FUSE_BURN_DONE (R638): the burn ends, stopped by a condition of FUSE_COND or a shutdown, or with a read-back that differs.
DEDUCED (log entry 86). -/
def execFuseBurnDone (verified stopped : Bool) (s : State) : Out := match s.mgmt.burn with
  | none => ok s
  | some b =>
    let n := b.left.length
    if stopped then ok s.fuseStop
    else if verified then ok (s.fuseEnd n n (if n < s.softRepairs.length then 0xA3 else 0))
    else
      let (v, s) := s.draw
      ok (s.fuseEnd (v % n) (v % n + 1) 0xA5)

end Sys2Proof.Machine
end

