-- ==== Sys2Proof/Machine/Control.lean ====
section
/-! DEFINITION. Accesses to the register pages by a plane, a ring or a master (R14 to R18, R531 to R541, R548), and requests on the
interconnect (R489 to R494). -/

namespace Sys2Proof.Machine

/-- The state in which a machine goes on after an outcome. -/
def State.goOn (s : State) : Out → State
  | .next t => t
  | _ => s

/-! ## Writes (R14, R535 to R541) -/

/-- The effect of a write on the register of a field, where the word is one of its words: `act` takes the instance. -/
def onFld (f : Fld) (a : Nat) (act : Nat → State → Out) (s : State) : Option State := (fldIdx? f a).map fun i => s.goOn (act i s)

/-- The first effect that applies, or another. -/
def firstOf (l : List (Option State)) (t : State) : State := (l.findSome? id).getD t

/-- The bits of a word in fields of some access types. -/
def accMask (a : Nat) (accs : List Acc) : Nat :=
  ((fieldsAt a).filter fun f => accs.contains f.acc).foldl (fun m f => m ||| fldMask f) 0

/-- Each 1 written clears a W1C bit, in the frozen copy as well (R14, R537). The bits of a check-value unit take the writes of R520. -/
def State.writeW1c (s : State) (p : Plane) (a v : Nat) : State :=
  let page := a / 4096
  let m := if a % 4096 = 0x010 then v else v &&& accMask a [.w1c]
  if m = 0 ∨ (0xBC ≤ page ∧ page ≤ 0xBF ∧ 0x040 ≤ a % 4096 ∧ !s.cvuWritable p (page - 0xBC)) then s
  else
    let w := (s.word a).toNat
    (s.setWord a (BitVec.ofNat 32 (w - (w &&& m)))).thaw a m

/-- Store the RW, RWS and W1S bits of a word, in the writing plane's copy where it has one. -/
def State.writeRw (s : State) (p : Plane) (a v : Nat) : State :=
  let m := accMask a [.rw, .rws]
  let set := accMask a [.w1s]
  if m = 0 ∧ set = 0 then s
  else
    let k := viewKey p a
    let w := (s.word k).toNat
    s.setWord k (BitVec.ofNat 32 ((w - (w &&& m)) ||| (v &&& m) ||| (v &&& set)))

/-- A write of MODE_REQ (R559 to R566). The readback of a claim is outside the machine: a free value. DEDUCED (log entry 17). -/
def execModeReq (p : Plane) (v : Nat) (s : State) : Out :=
  let mode := bits v 2 0
  let full := bit v 12
  let bad := fun (s : State) => (((s.putP p Reg.MODE_DONE 0 0).putP p Reg.MODE_BUSY 0 1).modeAnswer p Mst.MODE_BAD_ARG)
  if bit v 3 == bit v 10 then ok (bad s)
  else if bit v 10 then execSetRate p (bits v 9 8) s
  else if 6 ≤ mode || (full && mode != 1) then ok (bad (s.putP p Reg.MODE_REQ_MODE 0 mode))
  else if mode = 0 then execReqPark p s
  else if mode = 1 then execReqStart p full s
  else if mode = 2 then execReqMaint p s
  else if mode = 3 then execReqFollow p s
  else if mode = 5 then execReqHold p s
  else let (r, s) := s.draw; execReqShow p (r % 2 == 1) s

/-- A write of SCN_CMD (R284, R285). What a MOVES command reads from host memory is outside the machine: free values. -/
def execScnCmd (p : Plane) (v : Nat) (s : State) : Out :=
  let op := bits v 3 0
  let slot := bits v 8 4
  let who := Origin.reg p
  if op = 1 then execOpenSlot who s
  else if op = 2 then execClose who slot s
  else if op = 3 then execArm who slot s
  else if op = 4 then execAbort who slot s
  else if op = 5 then execLoadImage who slot s
  else if op = 6 then
    let n := 4 * bits (s.getP p Reg.SCNC_ARG 2) 12 0
    let k := s.free
    execMoves who slot (some ((List.range n).map fun i => BitVec.ofNat 32 (Config.freeValue (k + i)))) { s with free := k + n }
  else if s.pageDark 0x51 then ok s
  else ok (((s.putP p Reg.SCNC_CMD_DONE 0 1).putP p Reg.SCNC_STAT_SLOT 0 slot).putP p Reg.SCNC_CMD_STATUS 0 Scs.BAD_ARG)

/-- A write of a network ring's doorbell (R392): descriptors of host queues come from outside the machine, as free values. -/
def execNetDb (p : Plane) (i : Nat) (v : Word) (s : State) : Out :=
  let n := max 1 (s.get Reg.NETR_RING_SLOTS i)
  let k := s.free
  let descs := (List.range n).map fun d => (List.range 8).map fun w => BitVec.ofNat 32 (Config.freeValue (k + 8 * d + w))
  execNetRingDb p (i / 4) (i % 4) v descs { s with free := k + 8 * n }

/-- A write to a WO register of a gated page. DEDUCED (log entry 18). -/
def State.writeGated (s : State) (p : Plane) (a : Nat) (v : Word) : State :=
  firstOf [
    onFld Reg.SE_QSEL a (fun e => execSeQsel e v) s,
    onFld Reg.BC_QSEL a (fun c => execBcQsel c v) s,
    onFld Reg.RCONV_QSEL a (fun _ => execRconvQsel v) s,
    onFld Reg.PATCH_QSEL a (fun _ => execPatchQsel v) s,
    onFld Reg.FABX_XP_QSEL a (fun _ => execFabXpQsel v) s,
    onFld Reg.FABL_SRC_QSEL a (fun _ => execFabSrcQsel v) s,
    onFld Reg.MTR_RD_SET a (fun _ => execMtrRdSet v) s,
    onFld Reg.EYE_RD_SET a (fun t => execEyeRdSet t v) s,
    onFld Reg.NETR_RING_DB a (fun i => execNetDb p i v) s,
    onFld Reg.NETR_CPL_RD_SET a (fun i s => ok (s.put Reg.NETR_CPL_RD i (bits v.toNat 12 0))) s,
    onFld Reg.STBY_FORCE a (fun _ s => let (r, s) := s.draw; execStbyForce p v (r % 2 == 1) s) s] s

/-- A write to a register of HOSTQ (R552, R555): the ring's base and size words take writes only while EN = 0. -/
def State.writeHostq (s : State) (p : Plane) (a : Nat) (v : Word) : State :=
  let q := (a % 4096 - 0x40) / 64
  let sized := [Reg.HOSTQ_RING_BASE_LO, Reg.HOSTQ_RING_BASE_HI, Reg.HOSTQ_RING_SLOTS, Reg.HOSTQ_CPL_BASE_LO, Reg.HOSTQ_CPL_BASE_HI,
    Reg.HOSTQ_CPL_SLOTS].any fun f => (fldIdx? f a).isSome
  if sized then (if s.getB Reg.HOSTQ_EN q then s.pageErr hostqPage else s.writeRw p a v.toNat)
  else firstOf [
    onFld Reg.HOSTQ_EN a (fun q => execHostqRingEn q (bit v.toNat 0)) s,
    onFld Reg.HOSTQ_RING_DB a (fun q => execHostqRingDb q v) s,
    onFld Reg.HOSTQ_CPL_RD_SET a (fun q s => ok (s.cplRead q (bits v.toNat 12 0))) s,
    onFld Reg.HOSTQ_RING_REPLAY a (fun q => execRingReplay q v) s] s

/-- A write to a register of the scene engine, the Ephemeris, the time or the calendar. -/
def State.writeScn (s : State) (p : Plane) (a : Nat) (v : Word) : State :=
  firstOf [
    onFld Reg.SCNC_CMD_OP a (fun _ => execScnCmd p v.toNat) s,
    onFld Reg.SCNC_PORT_PUSH a (fun _ => execScnPortPush p (bits v.toNat 4 0)) s,
    onFld Reg.SCNQ_QW0 a (fun _ => execScnQw0 v) s,
    onFld Reg.SCNQ_CUE_EN a (fun i s =>
      ok (if s.getB Reg.SCNQ_CUE_EN i == bit v.toNat 0 then s else (s.putB Reg.SCNQ_CUE_EN i (bit v.toNat 0)).bumpEpoch 0x50)) s,
    onFld Reg.EPH_PUSH a (fun _ => execEphPush p v) s,
    onFld Reg.EPH_CANCEL a (fun _ => execEphCancel v) s,
    onFld Reg.TIME_TXTS_POP a (fun _ => execTimeTxtsPop p v) s,
    onFld Reg.TIME_PUSH a (fun x => execSvxPush p x v) s,
    onFld Reg.TIME_EN a (fun x s => ok (if p == .mgmt then s.servoCtrl x v.toNat else s)) s,
    onFld Reg.CAL_SET_GO a (fun _ => execCalSetGo v) s,
    onFld Reg.CAL_TAI_UTC_ARM a (fun _ => execCalTaiUtcArm v) s,
    onFld Reg.CAL_AUTO a (fun _ s =>
      let was := s.getB Reg.CAL_AUTO
      let on := bit v.toNat 0
      ok ((s.putB Reg.CAL_AUTO 0 on).modPtp fun t => { t with calLoad := on && (t.calLoad || !was) })) s]
    (if 0x100 ≤ a % 4096 ∧ a / 4096 = 0x74 ∧ p = .host then s else s.writeRw p a v.toNat)

/-- A write to a register of the memory substrate (R495, R511, R513, R520, R526). -/
def State.writeMem (s : State) (p : Plane) (a : Nat) (v : Word) : State :=
  firstOf [
    onFld Reg.ARB_QSEL_A a (fun _ => execArbQsel v) s,
    onFld Reg.OWN_QADDR a (fun _ => execOwnQaddr v) s,
    onFld Reg.CVU_EN a (fun u => execCvuEnable p u v) s]
    (let page := a / 4096
     if 0xBC ≤ page then (if s.cvuWritable p (page - 0xBC) then s.writeRw p a v.toNat else s)
     else if p = .host then s
     else firstOf [
       if a = fldAt Reg.MEM_REMAP 0 then some (s.goOn (execRemap p v s)) else none,
       onFld Reg.ARB_PRI_SHADOW a (fun i s => ok (s.shadowWrite p i v.toNat)) s,
       onFld Reg.MEM_SCRUB_EN a (fun g s =>
         ok (if s.getB Reg.MEM_SCRUB_EN g == bit v.toNat 0 then s else (s.putB Reg.MEM_SCRUB_EN g (bit v.toNat 0)).bumpEpoch (0xB0 + g))) s] s)

/-- A write by the manager to a register of the fault, self-test, power or key pages (R606 to R612, R639 to R645). -/
def State.writeMgmt (s : State) (a : Nat) (v : Word) : State :=
  let p := Plane.mgmt
  let plain := s.writeRw p a v.toNat
  firstOf [
    onFld Reg.FLT_LEVEL a (fun _ s =>
      let l := v.toNat % 2
      let s := s.put0 Reg.FLT_LEVEL l
      ok (if s.getB Reg.FLT_PULSE then s else s.put0 Reg.FLT_PIN l)) s,
    onFld Reg.FLT_WDT a (fun _ s => let now := s.clk.now; ok ((s.writeRw p a v.toNat).modFlt fun f => { f with wdtKick := now })) s,
    onFld Reg.FLT_FENCE_GO a (fun _ => execFltFenceGo p v) s,
    onFld Reg.FLT_WDT_KICK a (fun _ => execFltWdtKick p v) s,
    onFld Reg.BIST_GO a (fun _ => execBistGo p v) s,
    onFld Reg.BIST_NOW_SEC_HI a (fun _ s => let now := s.clk.now; ok ((s.writeRw p a v.toNat).modMode fun m => { m with nowSecAt := some now })) s,
    onFld Reg.MARCH_GO a (fun _ => execMarchGo p v) s,
    onFld Reg.REP_FUSE_GO a (fun _ => execRepFuseGo p v) s,
    onFld Reg.PWR_DVFS_REQ a (fun _ => execDvfsReq p v) s,
    onFld Reg.PWR_PARK_SRAM0 a (fun _ s => ok (let t := s.writeRw p a v.toNat; if s.opMode = 0 then t.parkSram0 else t)) s,
    onFld Reg.FAN_MIN a (fun _ s => ok (s.writeRw p a v.toNat).fans) s,
    onFld Reg.KEY_DATA a (fun _ => execKeyData p v) s,
    onFld Reg.KEY_CHECK a (fun _ s => if v.toNat % 2 = 1 then execKeyCheck p s else ok s) s,
    onFld Reg.KEY_DONE a (fun _ s => if v.toNat % 2 = 1 then execKeyDone p s else ok s) s,
    onFld Reg.KEY_NEW a (fun i s => ok (s.put Reg.KEY_NEW i v.toNat)) s,
    onFld Reg.KEY_WRAP_GO a (fun _ => execKeyWrap p v) s,
    onFld Reg.PROV_COMMIT a (fun _ s => if v.toNat % 2 = 1 then execProvCommit p s else ok s) s,
    onFld Reg.PROV_FLASH_CMD a (fun _ s =>
      let c := v.toNat % 4
      if c = 1 then execFlashErase p s else if c = 2 then execFlashProgram p s else if c = 3 then execFlashRead p s else ok s) s] plain

/-- A write to a register of a page that the gate does not guard. DEDUCED (log entry 19). -/
def State.writePlain (s : State) (p : Plane) (a : Nat) (v : Word) : State :=
  let page := a / 4096
  if page = 0x01 then firstOf [onFld Reg.MODE_SET_MODE a (fun _ => execModeReq p v.toNat) s] s
  else if page = 0x02 then
    firstOf [onFld Reg.INTC_EOI a (fun k => execIntcEoi k v) s]
      (if (fldIdx? Reg.INTC_MGMT_EN a).isSome && p == .host then s else s.writeRw p a v.toNat)
  else if page = hostqPage then s.writeHostq p a v
  else if 0x50 ≤ page ∧ page ≤ 0x75 then s.writeScn p a v
  else if 0xB0 ≤ page ∧ page ≤ 0xBF then s.writeMem p a v
  else if 0xD0 ≤ page then (if p = .host then s else s.writeMgmt a v)
  else s.writeRw p a v.toNat

/-- A write to PG_CTRL (R535 to R537). DEDUCED (log entry 19). -/
def State.writeCtrl (s : State) (p : Plane) (page v : Nat) : State :=
  if gated page then s.goOn (execLiveWrite (4096 * page + 8) (BitVec.ofNat 32 v) s)
  else
    let s := s.freezePage page (bit v 2)
    if bit v 1 then s.softResetNow p page else s

/-- Ring registers of a management queue take no host writes (R392). DEDUCED (log entry 19). -/
def hostBarred (a : Nat) : Bool := (a / 4096 == 0x81 || a / 4096 == 0x89) && decide (0x0C0 ≤ a % 4096) && decide (a % 4096 < 0x140)

/-- A write of one word of BAR0 by a plane. -/
def State.writeWord (p : Plane) (a : Nat) (v : Word) (s : State) : State :=
  let page := a / 4096
  let off := a % 4096
  if 0x100 ≤ page ∧ page ≤ 0x8FF then (if s.pageDark page then s else (s.wakeFor page).pageErr 0x50)
  else if (blockOf page).isNone || (decide (0xF00 ≤ page) && p == .host) || s.pageDark page then s
  else
    let s := (s.wakeFor page).writeW1c p a v.toNat
    if off = 0x008 then s.writeCtrl p page v.toNat
    else if off = 0x014 then (if gated page then s.goOn (execLiveWrite a v s) else s.put Hdr.IRQ_EN page v.toNat)
    else if off = 0x020 then (if page = 0xB9 then s.goOn (execArbCommit p v s) else s)
    else if off < 0x040 || (hostBarred a && p == .host) then s
    else if gated page then (s.goOn (execLiveWrite a v s)).writeGated p a v
    else s.writePlain p a v

/-- An access that breaks R531: counted, and a read answers with an abort or an error response. -/
def State.badAccess (s : State) (p : Plane) (isRead : Bool) : State :=
  let s := (s.count Reg.GLOBAL_BAD_ACCESS).irq Reg.GLOBAL_IRQ_BAD_ACCESS
  if !isRead then s
  else s.modHost fun h => match p with
    | .host => { h with readHost := [], abortHost := true }
    | .mgmt => { h with readMgmt := [], abortMgmt := true }

/-- Words of a write, in address order. -/
def State.writeWords (p : Plane) (off : Nat) : List Nat → State → State
  | [], s => s
  | v :: r, s => State.writeWords p (off + 4) r (State.writeWord p off (BitVec.ofNat 32 v) s)

/-- A write to the register pages (R531). -/
def State.regWrite (p : Plane) (off : Nat) (data : List Byte) (s : State) : State :=
  if off % 4 ≠ 0 ∨ data.length % 4 ≠ 0 ∨ data = [] then s.badAccess p false else State.writeWords p off (leWords data) s

/-- REGISTER_WRITE (R14, R531). DESIGN CHOICE (log entry 6). -/
def execRegisterWrite (p : Plane) (off : Nat) (data : List Byte) (s : State) : Out := ok (State.regWrite p off data s)

/-- SOFT_RESET (R536): a write of 1 to PG_CTRL[1]; on a gated page it is a move, with FREEZE as it stands. DEDUCED (log entry 85). -/
def execSoftReset (p : Plane) (page : Nat) (s : State) : Out :=
  if gated page then ok (s.writeCtrl p page (2 + 4 * s.get Hdr.FREEZE page)) else ok (s.softResetNow p page)

/-- FREEZE (R537): a write of PG_CTRL[2]. -/
def execFreeze (p : Plane) (page : Nat) (on : Bool) (s : State) : Out :=
  ok (State.writeWord p (4096 * page + 8) (BitVec.ofNat 32 (4 * on.toNat)) s)

/-! ## Reads (R14, R17, R531) -/

/-- What the reading plane has received. -/
def State.lastRead (s : State) (p : Plane) : List Nat := match p with
  | .host => s.host.readHost.map (·.toNat)
  | .mgmt => s.host.readMgmt.map (·.toNat)

/-- Store what a read answers. -/
def State.setReads (s : State) (p : Plane) (l : List Nat) : State :=
  let ws := l.map (BitVec.ofNat 32)
  s.modHost fun h => match p with
    | .host => { h with readHost := ws, abortHost := false }
    | .mgmt => { h with readMgmt := ws, abortMgmt := false }

/-- The RC fields of a word that has been read clear, in the frozen copy as well (R17, R537): to 0, or to the reset value of a minimum.
DEDUCED (log entry 22). -/
def State.clearRc (s : State) (a : Nat) : State :=
  let rc := (fieldsAt a).filter (·.acc == .rc)
  if rc.isEmpty then s
  else
    let m := rc.foldl (fun m f => m ||| fldMask f) 0
    let w := (s.word a).toNat
    let z := rc.foldl (fun x f => x + f.rst * 2 ^ f.lo) 0
    (s.setWord a (BitVec.ofNat 32 ((w - (w &&& m)) + z))).thaw a m

/-- DRAM_UTIL (R524): how busy the DRAM bus was over the last 1 ms depends on timing outside the model; with the DRAM ready a read
finds a free value from 0 to 1,000. DESIGN CHOICE (log entry 95). -/
def State.utilShown (s : State) (a : Nat) : State :=
  if a = fldAt Reg.DRAM_UTIL 0 ∧ s.getB Reg.DRAM_READY then
    let (v, s) := s.draw
    s.put0 Reg.DRAM_UTIL (v % 1001)
  else s

/-- A read of one word by a plane, with what it latches or clears; answers the value. What a PRBS checker has counted since the last
command of its lane is outside the machine: free values. -/
def State.readOne (s : State) (p : Plane) (a : Nat) : Nat × State :=
  let page := a / 4096
  if s.pageDark page then (0, s)
  else
    let s := s.wakeFor page
    let special := [
      onFld Reg.TIME_SEC_LO a (fun _ => execTimeSecLoRead p) s,
      onFld Reg.CAL_YEAR a (fun _ => execCalDateRead p) s,
      onFld Reg.EPH_NEXT_SEC_LO a (fun _ => execEphNextSecLoRead p) s,
      onFld Reg.CVU_RESULT_LO a (fun u => execCvuResultLoRead p u) s,
      onFld Reg.LANE_ERR_LO a (fun l s =>
        let (b, s) := s.draw
        let (e, s) := s.draw
        execLaneErrLoRead p l b (e % (b + 1)) s) s,
      onFld Reg.MARCH_FIFO_VALID a (fun _ => execMarchFifoRead p) s].findSome? id
    match special with
    | some t => ((t.lastRead p).headD 0, t)
    | none =>
      let s := s.utilShown a
      (s.readWord p a, if 0xF00 ≤ page ∧ p = .host then s else s.clearRc a)

/-- Reads of `n` words in address order, each a read of its own (R531). -/
def State.readMany (p : Plane) (off : Nat) : Nat → State → List Nat × State
  | 0, s => ([], s)
  | n + 1, s =>
    let (v, s) := s.readOne p off
    let (r, s) := State.readMany p (off + 4) n s
    (v :: r, s)

/-- A read of the register pages (R531). -/
def State.regRead (p : Plane) (off n : Nat) (s : State) : State :=
  if off % 4 ≠ 0 ∨ n % 4 ≠ 0 ∨ n = 0 then s.badAccess p true
  else
    let (l, s) := State.readMany p off (n / 4) s
    s.setReads p l

/-- RC_READ (R14, R17, R531): a read of the register pages; its RC fields clear. DEDUCED (log entry 22). -/
def execRcRead (p : Plane) (off n : Nat) (s : State) : Out := ok (State.regRead p off n s)

/-! ## Ring commands (R548) -/

/-- REG_WRITE (R548): COUNT consecutive words, with exactly the effect of BAR0 writes. DEDUCED (log entry 23). -/
def execRegWrite (q : Nat) (s : State) : Out := match s.ringCmd q 0x01 with
  | none => ok s
  | some c =>
    let vals := (List.range (c.a 1)).map fun i => c.a (2 + i)
    ok ((State.writeWords .host (c.a 0) vals (s.ringBegan q)).ringEnd q 0 0 0)

/-- REG_READ (R548): COUNT consecutive words as BAR0 reads, written to host memory. DEDUCED (log entry 23). -/
def execRegRead (q : Nat) (s : State) : Out := match s.ringCmd q 0x02 with
  | none => ok s
  | some c =>
    let (l, s) := State.readMany .host (c.a 0) (c.a 1) (s.ringBegan q)
    let (s, w) := s.hostWrite (c.a 2 + 2 ^ 32 * c.a 3) (wordBytes l)
    let s := if w then s else s.pageErr hostqPage
    ok (s.ringEnd q 0 0 (c.a 1))

/-! ## The interconnect (R489 to R494) -/

/-- The plane as which a master reaches the register pages (R491). -/
def planeOf (master : Nat) : Plane := if master = 0x27 then .host else .mgmt

/-- A request for the register pages, by the host through BAR0 or by the manager. -/
def State.regRequest (s : State) (master addr off : Nat) (acc : MemAcc) : State :=
  let p := planeOf master
  match acc with
  | .write d => (State.regWrite p off d s).respond master addr false []
  | _ =>
    let n := accLen acc
    let s := State.regRead p off n s
    let bad := match p with | .host => s.host.abortHost | .mgmt => s.host.abortMgmt
    s.respond master addr bad (wordBytes (s.lastRead p))

/-- A request for host memory (R491, R533): what a read finds there is outside the machine, free values. -/
def State.hostRequest (s : State) (master addr : Nat) (acc : MemAcc) : State := match acc with
  | .write d => (s.hostWrite addr d).1.respond master addr false []
  | _ =>
    if !s.hostReadable then s.respond master addr true []
    else
      let k := s.free
      let n := accLen acc
      let data := (List.range n).map fun i => BitVec.ofNat 8 (Config.freeValue (k + i))
      ({ s with free := k + n }).respond master addr false data

/-- An access to a memory whose domain is off stalls until it has woken (R583, R586). DEDUCED (log entry 24). -/
def State.wakeMem (s : State) (d : Nat) : State :=
  if s.domState d = 3 then s
  else
    let us := wakeUs (s.domState d == 1) d
    let s := s.wakeStart d
    (s.advanceTo (tget 0 s.pwr.waking d)).wakeDone d us

/-- A memory that is off in PARK, where no access wakes it (R586). DEDUCED (log entry 24). -/
def State.memDark (s : State) (d : Nat) : Bool := s.opMode == 0 && s.domState d != 3 && !(d == 4 && s.domState d == 1)

/-- INTERCONNECT_REQUEST (R489 to R494): a request is decoded. One for SRAM or DRAM waits at its arbiter; one without a path or an
address gets an error response, which a strip engine takes as DMA_ERR. DESIGN CHOICE (log entry 6). -/
def execInterconnectRequest (master : Nat) (host : Bool) (addr : Nat) (acc : MemAcc) (s : State) : Out :=
  let lock := match acc with | .lockRead _ => true | _ => false
  let t := s.target master host addr acc
  let sram := match t with | .sram _ => true | _ => false
  if lock && (!sram || !s.lockAllowed master addr (accLen acc)) && t != .none then ok (s.respond master addr true [])
  else match t with
  | .sram o =>
    let d := 4 + o / 0x800000
    ok (if s.memDark d then s.respond master addr true [] else (s.wakeMem d).raiseReq (o / 0x800000) master (0x10000000 + o) acc)
  | .dram _ => ok (if s.memDark 15 then s.respond master addr true [] else (s.wakeMem 15).raiseReq 8 master addr acc)
  | .regs o => ok (s.regRequest master addr o acc)
  | .rom o => ok (s.respond master addr false ((List.range (accLen acc)).map fun i => Config.bootRom (o + i)))
  | .hostMem a => ok (s.hostRequest master a acc)
  | .none =>
    let s := (s.decodeError master addr).respond master addr true []
    ok (if master < 34 then s.seEvent 0 master else s)

end Sys2Proof.Machine
end

