-- ==== Sys2Proof/Machine/Dispatch.lean ====
section
/-! DEFINITION. One arm per command: each calls the meaning of that command. -/

namespace Sys2Proof.Machine

def exec (i : Instr) (s : State) : Host.Outcome State Fault Refusal :=
  match i with
  | .deviceReset rail straps slotA slotB => Sys2Proof.Machine.execDeviceReset rail straps slotA slotB s
  | .startDone good => Sys2Proof.Machine.execStartDone good s
  | .hostIfReset linkDown d3 => Sys2Proof.Machine.execHostIfReset linkDown d3 s
  | .smbusFwImage image verified => Sys2Proof.Machine.execSmbusFwImage image verified s
  | .sampleBoundary w => Sys2Proof.Machine.execSampleBoundary w s
  | .sampleLanding src x => Sys2Proof.Machine.execSampleLanding src x s
  | .laneLock m ratio rate => Sys2Proof.Machine.execLaneLock m ratio rate s
  | .laneUnlock m input => Sys2Proof.Machine.execLaneUnlock m input s
  | .laneUnlockRampEnd m => Sys2Proof.Machine.execLaneUnlockRampEnd m s
  | .rangeEnter m rate => Sys2Proof.Machine.execRangeEnter m rate s
  | .rangeExit m rate => Sys2Proof.Machine.execRangeExit m rate s
  | .setRate p rate => Sys2Proof.Machine.execSetRate p rate s
  | .rconvQsel v => Sys2Proof.Machine.execRconvQsel v s
  | .patchQsel v => Sys2Proof.Machine.execPatchQsel v s
  | .seQsel e v => Sys2Proof.Machine.execSeQsel e v s
  | .bcQsel c v => Sys2Proof.Machine.execBcQsel c v s
  | .fabXpQsel v => Sys2Proof.Machine.execFabXpQsel v s
  | .fabSrcQsel v => Sys2Proof.Machine.execFabSrcQsel v s
  | .scnQw0 v => Sys2Proof.Machine.execScnQw0 v s
  | .arbQsel v => Sys2Proof.Machine.execArbQsel v s
  | .ownQaddr v => Sys2Proof.Machine.execOwnQaddr v s
  | .snapshotDone q => Sys2Proof.Machine.execSnapshotDone q s
  | .stripBegin e out n => Sys2Proof.Machine.execStripBegin e out n s
  | .stripEnd e res dout send => Sys2Proof.Machine.execStripEnd e res dout send s
  | .derivationDone lane word => Sys2Proof.Machine.execDerivationDone lane word s
  | .stripMigration e => Sys2Proof.Machine.execStripMigration e s
  | .stripShed e => Sys2Proof.Machine.execStripShed e s
  | .lgFrameEnd cands => Sys2Proof.Machine.execLgFrameEnd cands s
  | .lgNotchRelax n k => Sys2Proof.Machine.execLgNotchRelax n k s
  | .macNop e => Sys2Proof.Machine.execMacNop e s
  | .mpy e src q mask => Sys2Proof.Machine.execMpy e src q mask s
  | .mac e src q mask => Sys2Proof.Machine.execMac e src q mask s
  | .msu e src q mask => Sys2Proof.Machine.execMsu e src q mask s
  | .clr e mask => Sys2Proof.Machine.execClr e mask s
  | .lda e src mask => Sys2Proof.Machine.execLda e src mask s
  | .adda e src mask => Sys2Proof.Machine.execAdda e src mask s
  | .suba e src mask => Sys2Proof.Machine.execSuba e src mask s
  | .add e dd ds dt => Sys2Proof.Machine.execAdd e dd ds dt s
  | .sub e dd ds dt => Sys2Proof.Machine.execSub e dd ds dt s
  | .adds e dd ds dt => Sys2Proof.Machine.execAdds e dd ds dt s
  | .subs e dd ds dt => Sys2Proof.Machine.execSubs e dd ds dt s
  | .neg e dd ds => Sys2Proof.Machine.execNeg e dd ds s
  | .absD e dd ds => Sys2Proof.Machine.execAbsD e dd ds s
  | .andD e dd ds dt => Sys2Proof.Machine.execAndD e dd ds dt s
  | .orD e dd ds dt => Sys2Proof.Machine.execOrD e dd ds dt s
  | .xorD e dd ds dt => Sys2Proof.Machine.execXorD e dd ds dt s
  | .cmp e ds dt => Sys2Proof.Machine.execCmp e ds dt s
  | .div e dd ds dt => Sys2Proof.Machine.execDiv e dd ds dt s
  | .divComplete e => Sys2Proof.Machine.execDivComplete e s
  | .asr e dd ds dt => Sys2Proof.Machine.execAsr e dd ds dt s
  | .lsr e dd ds dt => Sys2Proof.Machine.execLsr e dd ds dt s
  | .lsl e dd ds dt => Sys2Proof.Machine.execLsl e dd ds dt s
  | .lsls e dd ds dt => Sys2Proof.Machine.execLsls e dd ds dt s
  | .asri e dd count => Sys2Proof.Machine.execAsri e dd count s
  | .lsri e dd count => Sys2Proof.Machine.execLsri e dd count s
  | .lsli e dd count => Sys2Proof.Machine.execLsli e dd count s
  | .lslsi e dd count => Sys2Proof.Machine.execLslsi e dd count s
  | .asra e acc count => Sys2Proof.Machine.execAsra e acc count s
  | .lsra e acc count => Sys2Proof.Machine.execLsra e acc count s
  | .lsla e acc count => Sys2Proof.Machine.execLsla e acc count s
  | .lslsa e acc count => Sys2Proof.Machine.execLslsa e acc count s
  | .load e slot space an mode reg ecc => Sys2Proof.Machine.execLoad e slot space an mode reg ecc s
  | .store e slot space an mode reg => Sys2Proof.Machine.execStore e slot space an mode reg s
  | .loadAddressFile e slot space an mode reg ecc => Sys2Proof.Machine.execLoadAddressFile e slot space an mode reg ecc s
  | .auAddOffset e an nm => Sys2Proof.Machine.execAuAddOffset e an nm s
  | .auLoadBase e an => Sys2Proof.Machine.execAuLoadBase e an s
  | .nop e => Sys2Proof.Machine.execNop e s
  | .br e target => Sys2Proof.Machine.execBr e target s
  | .brc e cond target => Sys2Proof.Machine.execBrc e cond target s
  | .bri e ds => Sys2Proof.Machine.execBri e ds s
  | .brk e => Sys2Proof.Machine.execBrk e s
  | .rep e count last => Sys2Proof.Machine.execRep e count last s
  | .repd e ds last => Sys2Proof.Machine.execRepd e ds last s
  | .gath16 e src dsp ad isp ai base => Sys2Proof.Machine.execGath16 e src dsp ad isp ai base s
  | .gatherComplete e => Sys2Proof.Machine.execGatherComplete e s
  | .gatherFault e k cause => Sys2Proof.Machine.execGatherFault e k cause s
  | .ldi e dd v => Sys2Proof.Machine.execLdi e dd v s
  | .mvtc e cr ds => Sys2Proof.Machine.execMvtc e cr ds s
  | .mvfc e cr dd => Sys2Proof.Machine.execMvfc e cr dd s
  | .rte e => Sys2Proof.Machine.execRte e s
  | .dmaErr e depends => Sys2Proof.Machine.execDmaErr e depends s
  | .eventAccept e => Sys2Proof.Machine.execEventAccept e s
  | .eventLatency e code => Sys2Proof.Machine.execEventLatency e code s
  | .waits c => Sys2Proof.Machine.execWaits c s
  | .enter c => Sys2Proof.Machine.execEnter c s
  | .leave c => Sys2Proof.Machine.execLeave c s
  | .park3 c => Sys2Proof.Machine.execPark3 c s
  | .unpark c => Sys2Proof.Machine.execUnpark c s
  | .trapx c => Sys2Proof.Machine.execTrapx c s
  | .testAndSet c addr => Sys2Proof.Machine.execTestAndSet c addr s
  | .bridgeInstruction c instr => Sys2Proof.Machine.execBridgeInstruction c instr s
  | .loadStripProgram q image => Sys2Proof.Machine.execLoadStripProgram q image s
  | .loadBridge q image => Sys2Proof.Machine.execLoadBridge q image s
  | .bridgeLoadWrite c => Sys2Proof.Machine.execBridgeLoadWrite c s
  | .bridgeCoreStart c => Sys2Proof.Machine.execBridgeCoreStart c s
  | .mtrRdSet v => Sys2Proof.Machine.execMtrRdSet v s
  | .eyeBlockEnd t => Sys2Proof.Machine.execEyeBlockEnd t s
  | .eyeRdSet t v => Sys2Proof.Machine.execEyeRdSet t v s
  | .openSlot who => Sys2Proof.Machine.execOpenSlot who s
  | .close who slot => Sys2Proof.Machine.execClose who slot s
  | .arm who slot => Sys2Proof.Machine.execArm who slot s
  | .abort who slot => Sys2Proof.Machine.execAbort who slot s
  | .loadImage who slot => Sys2Proof.Machine.execLoadImage who slot s
  | .imageLoadEnd image err => Sys2Proof.Machine.execImageLoadEnd image err s
  | .moves who slot data => Sys2Proof.Machine.execMoves who slot data s
  | .scnPortPush p lane => Sys2Proof.Machine.execScnPortPush p lane s
  | .liveWrite off v => Sys2Proof.Machine.execLiveWrite off v s
  | .ephPush p v => Sys2Proof.Machine.execEphPush p v s
  | .ephCancel v => Sys2Proof.Machine.execEphCancel v s
  | .ephCommitFire slot => Sys2Proof.Machine.execEphCommitFire slot s
  | .cueOutFire handle => Sys2Proof.Machine.execCueOutFire handle s
  | .cueOutPulseEnd line => Sys2Proof.Machine.execCueOutPulseEnd line s
  | .cueEdgeConfirm line level => Sys2Proof.Machine.execCueEdgeConfirm line level s
  | .measurementInstant raw trim phase => Sys2Proof.Machine.execMeasurementInstant raw trim phase s
  | .activityLoss c declared => Sys2Proof.Machine.execActivityLoss c declared s
  | .calSetGo v => Sys2Proof.Machine.execCalSetGo v s
  | .calTaiUtcArm v => Sys2Proof.Machine.execCalTaiUtcArm v s
  | .timeSecLoRead p => Sys2Proof.Machine.execTimeSecLoRead p s
  | .calDateRead p => Sys2Proof.Machine.execCalDateRead p s
  | .ephNextSecLoRead p => Sys2Proof.Machine.execEphNextSecLoRead p s
  | .timeTxtsPop p v => Sys2Proof.Machine.execTimeTxtsPop p v s
  | .svxPush p x v => Sys2Proof.Machine.execSvxPush p x v s
  | .mpdTimeout x => Sys2Proof.Machine.execMpdTimeout x s
  | .netRxFrame x frame fcsOk => Sys2Proof.Machine.execNetRxFrame x frame fcsOk s
  | .rxStreamWait n => Sys2Proof.Machine.execRxStreamWait n s
  | .rxLegDown n leg => Sys2Proof.Machine.execRxLegDown n leg s
  | .hostFrameTx x data => Sys2Proof.Machine.execHostFrameTx x data s
  | .mgmtFrameTx x => Sys2Proof.Machine.execMgmtFrameTx x s
  | .netRingDb p x q v descs => Sys2Proof.Machine.execNetRingDb p x q v descs s
  | .netLinkUp x an => Sys2Proof.Machine.execNetLinkUp x an s
  | .netLinkDown x => Sys2Proof.Machine.execNetLinkDown x s
  | .aes3RxFrame r f => Sys2Proof.Machine.execAes3RxFrame r f s
  | .aes3LockLoss r => Sys2Proof.Machine.execAes3LockLoss r s
  | .lossOfSignal p => Sys2Proof.Machine.execLossOfSignal p s
  | .losRampEnd p => Sys2Proof.Machine.execLosRampEnd p s
  | .signalReturn p => Sys2Proof.Machine.execSignalReturn p s
  | .mediaSet p => Sys2Proof.Machine.execMediaSet p s
  | .aes3TxFrame t => Sys2Proof.Machine.execAes3TxFrame t s
  | .madiRxFrame m f => Sys2Proof.Machine.execMadiRxFrame m f s
  | .madiTxFrame m => Sys2Proof.Machine.execMadiTxFrame m s
  | .tdmFsEdge q count => Sys2Proof.Machine.execTdmFsEdge q count s
  | .tdmRxFrame q slots rate => Sys2Proof.Machine.execTdmRxFrame q slots rate s
  | .tdmTxFrame q => Sys2Proof.Machine.execTdmTxFrame q s
  | .restart q => Sys2Proof.Machine.execRestart q s
  | .vcxoLoopUpdate v off => Sys2Proof.Machine.execVcxoLoopUpdate v off s
  | .pmuxRelease n => Sys2Proof.Machine.execPmuxRelease n s
  | .pmuxTake n => Sys2Proof.Machine.execPmuxTake n s
  | .pmuxFirstFrame n => Sys2Proof.Machine.execPmuxFirstFrame n s
  | .laneCdrLock l pcie => Sys2Proof.Machine.execLaneCdrLock l pcie s
  | .laneCdrLost l low => Sys2Proof.Machine.execLaneCdrLost l low s
  | .laneAdaptDone l ctle dfe eye => Sys2Proof.Machine.execLaneAdaptDone l ctle dfe eye s
  | .prbsChkLock l => Sys2Proof.Machine.execPrbsChkLock l s
  | .prbsChkRelock l bits errs => Sys2Proof.Machine.execPrbsChkRelock l bits errs s
  | .prbsClr l => Sys2Proof.Machine.execPrbsClr l s
  | .laneErrLoRead p l bits errs => Sys2Proof.Machine.execLaneErrLoRead p l bits errs s
  | .kzlFrameRx k frame => Sys2Proof.Machine.execKzlFrameRx k frame s
  | .kzlFrameTx k low => Sys2Proof.Machine.execKzlFrameTx k low s
  | .kzlRto k => Sys2Proof.Machine.execKzlRto k s
  | .kzlLinkFail k cause low => Sys2Proof.Machine.execKzlLinkFail k cause low s
  | .kzlAlignDone k map skew partnerB partnerLink => Sys2Proof.Machine.execKzlAlignDone k map skew partnerB partnerLink s
  | .kzlStateTimeout k => Sys2Proof.Machine.execKzlStateTimeout k s
  | .activeNConfirm level low => Sys2Proof.Machine.execActiveNConfirm level low s
  | .releaseDecisionTimeout low => Sys2Proof.Machine.execReleaseDecisionTimeout low s
  | .giveupReclaim low => Sys2Proof.Machine.execGiveupReclaim low s
  | .stbyForce p v low => Sys2Proof.Machine.execStbyForce p v low s
  | .bcCatchupDone c => Sys2Proof.Machine.execBcCatchupDone c s
  | .statusRecord sample body => Sys2Proof.Machine.execStatusRecord sample body s
  | .moveRecord sample body => Sys2Proof.Machine.execMoveRecord sample body s
  | .slotRecord sample body => Sys2Proof.Machine.execSlotRecord sample body s
  | .measRecord sample body => Sys2Proof.Machine.execMeasRecord sample body s
  | .checkRecord sample body => Sys2Proof.Machine.execCheckRecord sample body s
  | .cascRecord sample body => Sys2Proof.Machine.execCascRecord sample body s
  | .modeRecord sample body => Sys2Proof.Machine.execModeRecord sample body s
  | .timeRecord sample body => Sys2Proof.Machine.execTimeRecord sample body s
  | .pageRecord sample body => Sys2Proof.Machine.execPageRecord sample body s
  | .seedRecord sample body => Sys2Proof.Machine.execSeedRecord sample body s
  | .bcseedRecord sample body => Sys2Proof.Machine.execBcseedRecord sample body s
  | .interconnectRequest master host addr acc => Sys2Proof.Machine.execInterconnectRequest master host addr acc s
  | .arbGrant a ecc => Sys2Proof.Machine.execArbGrant a ecc s
  | .arbWindowEnd a => Sys2Proof.Machine.execArbWindowEnd a s
  | .holdCut a beats => Sys2Proof.Machine.execHoldCut a beats s
  | .lockRead master addr n => Sys2Proof.Machine.execLockRead master addr n s
  | .lockBreak bank => Sys2Proof.Machine.execLockBreak bank s
  | .scrubStep bank ecc => Sys2Proof.Machine.execScrubStep bank ecc s
  | .fence unit => Sys2Proof.Machine.execFence unit s
  | .darkFramePassStart base => Sys2Proof.Machine.execDarkFramePassStart base s
  | .darkFrameComplete base => Sys2Proof.Machine.execDarkFrameComplete base s
  | .dramTrainingDone ok mr4 => Sys2Proof.Machine.execDramTrainingDone ok mr4 s
  | .remap p v => Sys2Proof.Machine.execRemap p v s
  | .cvuEnable p u v => Sys2Proof.Machine.execCvuEnable p u v s
  | .cvuResultLoRead p u => Sys2Proof.Machine.execCvuResultLoRead p u s
  | .arbCommit p v => Sys2Proof.Machine.execArbCommit p v s
  | .registerWrite p off data => Sys2Proof.Machine.execRegisterWrite p off data s
  | .rcRead p off n => Sys2Proof.Machine.execRcRead p off n s
  | .softReset p page => Sys2Proof.Machine.execSoftReset p page s
  | .freeze p page on => Sys2Proof.Machine.execFreeze p page on s
  | .msixMessage v on funcMask vecMask => Sys2Proof.Machine.execMsixMessage v on funcMask vecMask s
  | .intcEoi k v => Sys2Proof.Machine.execIntcEoi k v s
  | .hostqRingDb q v => Sys2Proof.Machine.execHostqRingDb q v s
  | .hostqFetch q desc => Sys2Proof.Machine.execHostqFetch q desc s
  | .ringReplay q v => Sys2Proof.Machine.execRingReplay q v s
  | .hostqRingEn q on => Sys2Proof.Machine.execHostqRingEn q on s
  | .cmdNop q => Sys2Proof.Machine.execCmdNop q s
  | .regWrite q => Sys2Proof.Machine.execRegWrite q s
  | .regRead q => Sys2Proof.Machine.execRegRead q s
  | .reqShow p low => Sys2Proof.Machine.execReqShow p low s
  | .reqHold p => Sys2Proof.Machine.execReqHold p s
  | .reqFollow p => Sys2Proof.Machine.execReqFollow p s
  | .reqStart p full => Sys2Proof.Machine.execReqStart p full s
  | .reqMaint p => Sys2Proof.Machine.execReqMaint p s
  | .reqPark p => Sys2Proof.Machine.execReqPark p s
  | .dataPlaneStop failMap rows memFail => Sys2Proof.Machine.execDataPlaneStop failMap rows memFail s
  | .flashErase p => Sys2Proof.Machine.execFlashErase p s
  | .flashProgram p => Sys2Proof.Machine.execFlashProgram p s
  | .flashRead p => Sys2Proof.Machine.execFlashRead p s
  | .provCommit p => Sys2Proof.Machine.execProvCommit p s
  | .keyData p v => Sys2Proof.Machine.execKeyData p v s
  | .keyCheck p => Sys2Proof.Machine.execKeyCheck p s
  | .keyDone p => Sys2Proof.Machine.execKeyDone p s
  | .keyWrap p v => Sys2Proof.Machine.execKeyWrap p v s
  | .domainIdleOff d => Sys2Proof.Machine.execDomainIdleOff d s
  | .domainWake d => Sys2Proof.Machine.execDomainWake d s
  | .domainReady d ready => Sys2Proof.Machine.execDomainReady d ready s
  | .dvfsReq p v => Sys2Proof.Machine.execDvfsReq p v s
  | .supplySample mv => Sys2Proof.Machine.execSupplySample mv s
  | .sensorRead t => Sys2Proof.Machine.execSensorRead t s
  | .fanFail f rpm => Sys2Proof.Machine.execFanFail f rpm s
  | .fanRecover f rpm => Sys2Proof.Machine.execFanRecover f rpm s
  | .fltWdtKick p v => Sys2Proof.Machine.execFltWdtKick p v s
  | .faultEvent src unit addr => Sys2Proof.Machine.execFaultEvent src unit addr s
  | .targetedTestEnd unit pass => Sys2Proof.Machine.execTargetedTestEnd unit pass s
  | .fltFenceGo p v => Sys2Proof.Machine.execFltFenceGo p v s
  | .bistGo p v => Sys2Proof.Machine.execBistGo p v s
  | .bistDone failMap rows memFail => Sys2Proof.Machine.execBistDone failMap rows memFail s
  | .marchGo p v => Sys2Proof.Machine.execMarchGo p v s
  | .marchDone rows => Sys2Proof.Machine.execMarchDone rows s
  | .marchFifoRead p => Sys2Proof.Machine.execMarchFifoRead p s
  | .repFuseGo p v => Sys2Proof.Machine.execRepFuseGo p v s
  | .fuseBurnDone verified stopped => Sys2Proof.Machine.execFuseBurnDone verified stopped s
  | .activityEvent c => Sys2Proof.Machine.execActivityEvent c s
  | .pcieLinkUp width speed master => Sys2Proof.Machine.execPcieLinkUp width speed master s
  | .flashCommandEnd good => Sys2Proof.Machine.execFlashCommandEnd good s
  | .provCommitEnd good => Sys2Proof.Machine.execProvCommitEnd good s
  | .scanChainEnable => Sys2Proof.Machine.execScanChainEnable s
  | .rateSwitch => Sys2Proof.Machine.execRateSwitch s
  | .rateRampIn => Sys2Proof.Machine.execRateRampIn s
  | .rateChangeDone => Sys2Proof.Machine.execRateChangeDone s
  | .shedStop => Sys2Proof.Machine.execShedStop s
  | .automixUpdate => Sys2Proof.Machine.execAutomixUpdate s
  | .progWriteStart => Sys2Proof.Machine.execProgWriteStart s
  | .progWriteEnd => Sys2Proof.Machine.execProgWriteEnd s
  | .meterFrameBoundary => Sys2Proof.Machine.execMeterFrameBoundary s
  | .sceneCutoff => Sys2Proof.Machine.execSceneCutoff s
  | .deferredXfadeStart => Sys2Proof.Machine.execDeferredXfadeStart s
  | .acqTimeout => Sys2Proof.Machine.execAcqTimeout s
  | .acqHoldoffExpire => Sys2Proof.Machine.execAcqHoldoffExpire s
  | .wtrExpire => Sys2Proof.Machine.execWtrExpire s
  | .ptpStep => Sys2Proof.Machine.execPtpStep s
  | .secondsCarry => Sys2Proof.Machine.execSecondsCarry s
  | .packetLaunch => Sys2Proof.Machine.execPacketLaunch s
  | .readbackFault => Sys2Proof.Machine.execReadbackFault s
  | .hbToggle => Sys2Proof.Machine.execHbToggle s
  | .hbInEdge => Sys2Proof.Machine.execHbInEdge s
  | .hbLost => Sys2Proof.Machine.execHbLost s
  | .giveupRelease => Sys2Proof.Machine.execGiveupRelease s
  | .checkWindowEnd => Sys2Proof.Machine.execCheckWindowEnd s
  | .confirmTimeout => Sys2Proof.Machine.execConfirmTimeout s
  | .dataPlaneStart => Sys2Proof.Machine.execDataPlaneStart s
  | .holdRampEnd => Sys2Proof.Machine.execHoldRampEnd s
  | .dvfsDividerChange => Sys2Proof.Machine.execDvfsDividerChange s
  | .dvfsRailConfirm => Sys2Proof.Machine.execDvfsRailConfirm s
  | .dvfsVoltTimeout => Sys2Proof.Machine.execDvfsVoltTimeout s
  | .supplyHoldEnd => Sys2Proof.Machine.execSupplyHoldEnd s
  | .thermalStateChange => Sys2Proof.Machine.execThermalStateChange s
  | .wdtExpire => Sys2Proof.Machine.execWdtExpire s
  | .faultNPulseEnd => Sys2Proof.Machine.execFaultNPulseEnd s
  | .stuckLow => Sys2Proof.Machine.execStuckLow s

end Sys2Proof.Machine
end

