-- ==== Sys2Proof/Machine/Step.lean ====
section
/-! DEFINITION. One step of the block: the command at the front of its queue, or the passage of one root edge. -/

namespace Sys2Proof.Machine

/-- One edge of the 3.0 GHz root passes with no command (R26). DESIGN CHOICE (log entry 2). -/
def State.tick (s : State) : State := { s with clk := { s.clk with now := s.clk.now + 1 } }

/-- One step: the command at the front of the queue acts on the state with the rest of the queue; with an empty queue time passes
by one root edge. -/
def step (s : State) : Host.Outcome State Fault Refusal :=
  match s.pending with
  | [] => .next s.tick
  | c :: rest => exec c { s with pending := rest }

/-- The state with the command that a word spells put at the front of its queue; unchanged where the word spells none. -/
def State.withFetchWord (s : State) (nbits w : Nat) : State :=
  match decodeTableWord nbits w with
  | none => s
  | some c => { s with pending := c :: s.pending }

end Sys2Proof.Machine
end

