-- ==== Sys2Proof/WellFormed.lean ====
section
/-! DEFINITION. Well-formed commands: every operand is one that the hardware's command can carry (an engine that exists, a register
number its field can spell, a list of the length its source delivers). A meaning is total on other operands as well. -/

namespace Sys2Proof

/-- A unit ID's fields (R613). -/
def unitWf (u : UnitId) : Bool := decide (u.page < 4096) && decide (u.index < 65536)

/-- A syndrome has 8 bits (R500, R642). -/
def eccWf : Ecc → Bool
  | .clean => true
  | .corrected syn => decide (syn < 256)
  | .uncorrectable syn => decide (syn < 256)

/-- A ring that issues commands exists (R546). -/
def originWf : Origin → Bool
  | .reg _ => true
  | .ring q => decide (q < 4)

/-- A request moves at least one byte (R489). -/
def accWf : MemAcc → Bool
  | .read n => decide (0 < n)
  | .lockRead n => decide (0 < n)
  | .write data => decide (0 < data.length)

/-- The audio field of an AES3 subframe has 24 bits (R405). -/
def subWf (f : AesSub) : Bool := decide (f.audio < 2 ^ 24)

/-- A failing row: bank 0 to 63 of the SRAM (R637). -/
def rowsWf (rows : List (Nat × Nat)) : Bool := rows.all fun r => decide (r.1 < 64)

/-- Is a command well-formed? -/
def Instr.wf (i : Instr) : Bool :=
  match i with
  | .deviceReset rail straps _ _ => rail.all (fun r => decide (r < 10)) && decide (straps < 16)
  | .startDone _ => true
  | .hostIfReset _ _ => true
  | .smbusFwImage _ _ => true
  | .sampleBoundary _ => true
  | .sampleLanding src _ => decide (src < 4096)
  | .laneLock m _ _ => decide (m < 1024)
  | .laneUnlock m _ => decide (m < 1024)
  | .laneUnlockRampEnd m => decide (m < 1024)
  | .rangeEnter m _ => decide (m < 1024)
  | .rangeExit m _ => decide (m < 1024)
  | .setRate _ rate => decide (rate < 4)
  | .rconvQsel _ => true
  | .patchQsel _ => true
  | .seQsel e _ => decide (e < 34)
  | .bcQsel c _ => decide (c < 2)
  | .fabXpQsel _ => true
  | .fabSrcQsel _ => true
  | .scnQw0 _ => true
  | .arbQsel _ => true
  | .ownQaddr _ => true
  | .snapshotDone _ => true
  | .stripBegin e out n => decide (e < 34) && decide (n < if out then 1024 else 2048)
  | .stripEnd e _ _ send => decide (e < 34) && decide (send < 0x1000000)
  | .derivationDone lane _ => decide (lane < 17)
  | .stripMigration e => decide (e < 34)
  | .stripShed e => decide (e < 34)
  | .lgFrameEnd cands => cands.all (fun c => decide (c.1 < 1024) && decide (c.2 < 2 ^ 24))
  | .lgNotchRelax n k => decide (n < 1024) && decide (k < 12)
  | .macNop e => decide (e < 34)
  | .mpy e src q mask => decide (e < 34) && decide (src < 16) && decide (q < 4) && decide (mask < 16)
  | .mac e src q mask => decide (e < 34) && decide (src < 16) && decide (q < 4) && decide (mask < 16)
  | .msu e src q mask => decide (e < 34) && decide (src < 16) && decide (q < 4) && decide (mask < 16)
  | .clr e mask => decide (e < 34) && decide (mask < 16)
  | .lda e src mask => decide (e < 34) && decide (src < 16) && decide (mask < 16)
  | .adda e src mask => decide (e < 34) && decide (src < 16) && decide (mask < 16)
  | .suba e src mask => decide (e < 34) && decide (src < 16) && decide (mask < 16)
  | .add e dd ds dt => decide (e < 34) && decide (dd < 16) && decide (ds < 16) && decide (dt < 16)
  | .sub e dd ds dt => decide (e < 34) && decide (dd < 16) && decide (ds < 16) && decide (dt < 16)
  | .adds e dd ds dt => decide (e < 34) && decide (dd < 16) && decide (ds < 16) && decide (dt < 16)
  | .subs e dd ds dt => decide (e < 34) && decide (dd < 16) && decide (ds < 16) && decide (dt < 16)
  | .neg e dd ds => decide (e < 34) && decide (dd < 16) && decide (ds < 16)
  | .absD e dd ds => decide (e < 34) && decide (dd < 16) && decide (ds < 16)
  | .andD e dd ds dt => decide (e < 34) && decide (dd < 16) && decide (ds < 16) && decide (dt < 16)
  | .orD e dd ds dt => decide (e < 34) && decide (dd < 16) && decide (ds < 16) && decide (dt < 16)
  | .xorD e dd ds dt => decide (e < 34) && decide (dd < 16) && decide (ds < 16) && decide (dt < 16)
  | .cmp e ds dt => decide (e < 34) && decide (ds < 16) && decide (dt < 16)
  | .div e dd ds dt => decide (e < 34) && decide (dd < 16) && decide (ds < 16) && decide (dt < 16)
  | .divComplete e => decide (e < 34)
  | .asr e dd ds dt => decide (e < 34) && decide (dd < 16) && decide (ds < 16) && decide (dt < 16)
  | .lsr e dd ds dt => decide (e < 34) && decide (dd < 16) && decide (ds < 16) && decide (dt < 16)
  | .lsl e dd ds dt => decide (e < 34) && decide (dd < 16) && decide (ds < 16) && decide (dt < 16)
  | .lsls e dd ds dt => decide (e < 34) && decide (dd < 16) && decide (ds < 16) && decide (dt < 16)
  | .asri e dd count => decide (e < 34) && decide (dd < 16) && decide (count < 256)
  | .lsri e dd count => decide (e < 34) && decide (dd < 16) && decide (count < 256)
  | .lsli e dd count => decide (e < 34) && decide (dd < 16) && decide (count < 256)
  | .lslsi e dd count => decide (e < 34) && decide (dd < 16) && decide (count < 256)
  | .asra e acc count => decide (e < 34) && decide (acc < 4) && decide (count < 256)
  | .lsra e acc count => decide (e < 34) && decide (acc < 4) && decide (count < 256)
  | .lsla e acc count => decide (e < 34) && decide (acc < 4) && decide (count < 256)
  | .lslsa e acc count => decide (e < 34) && decide (acc < 4) && decide (count < 256)
  | .load e slot space an mode reg ecc => decide (e < 34) && decide (slot < 2) && decide (space < 2) && decide (an < 8) && decide (mode < 4) && decide (reg < 32) && eccWf ecc
  | .store e slot space an mode reg => decide (e < 34) && decide (slot < 2) && decide (space < 2) && decide (an < 8) && decide (mode < 4) && decide (reg < 32)
  | .loadAddressFile e slot space an mode reg ecc => decide (e < 34) && decide (slot < 2) && decide (space < 2) && decide (an < 8) && decide (mode < 4) && decide (reg < 32) && eccWf ecc
  | .auAddOffset e an nm => decide (e < 34) && decide (an < 8) && decide (nm < 8)
  | .auLoadBase e an => decide (e < 34) && decide (an < 8)
  | .nop e => decide (e < 34)
  | .br e target => decide (e < 34) && decide (target < 8192)
  | .brc e cond target => decide (e < 34) && decide (cond < 16) && decide (target < 8192)
  | .bri e ds => decide (e < 34) && decide (ds < 16)
  | .brk e => decide (e < 34)
  | .rep e count last => decide (e < 34) && decide (count < 65536) && decide (last < 8192)
  | .repd e ds last => decide (e < 34) && decide (ds < 16) && decide (last < 8192)
  | .gath16 e src dsp ad isp ai base => decide (e < 34) && decide (src < 4) && decide (dsp < 2) && decide (ad < 8) && decide (isp < 2) && decide (ai < 8) && decide (base < 16)
  | .gatherComplete e => decide (e < 34)
  | .gatherFault e k cause => decide (e < 34) && decide (k < 16) && decide (cause < 2)
  | .ldi e dd _ => decide (e < 34) && decide (dd < 16)
  | .mvtc e cr ds => decide (e < 34) && decide (cr < 128) && decide (ds < 16)
  | .mvfc e cr dd => decide (e < 34) && decide (cr < 128) && decide (dd < 16)
  | .rte e => decide (e < 34)
  | .dmaErr e _ => decide (e < 34)
  | .eventAccept e => decide (e < 34)
  | .eventLatency e code => decide (e < 34) && decide (code < 4)
  | .waits c => decide (c < 2)
  | .enter c => decide (c < 2)
  | .leave c => decide (c < 2)
  | .park3 c => decide (c < 2)
  | .unpark c => decide (c < 2)
  | .trapx c => decide (c < 2)
  | .testAndSet c addr => decide (c < 2) && decide (addr < 0x100000000)
  | .bridgeInstruction c _ => decide (c < 2)
  | .loadStripProgram q _ => decide (q < 4)
  | .loadBridge q _ => decide (q < 4)
  | .bridgeLoadWrite c => decide (c < 2)
  | .bridgeCoreStart c => decide (c < 2)
  | .mtrRdSet _ => true
  | .eyeBlockEnd t => decide (t < 8)
  | .eyeRdSet t _ => decide (t < 8)
  | .openSlot who => originWf who
  | .close who slot => originWf who && decide (slot < 16)
  | .arm who slot => originWf who && decide (slot < 16)
  | .abort who slot => originWf who && decide (slot < 16)
  | .loadImage who slot => originWf who && decide (slot < 16)
  | .imageLoadEnd _ _ => true
  | .moves who slot _ => originWf who && decide (slot < 16)
  | .scnPortPush _ lane => decide (lane < 17)
  | .liveWrite off _ => decide (off < 0x1000000)
  | .ephPush _ _ => true
  | .ephCancel _ => true
  | .ephCommitFire slot => decide (slot < 16)
  | .cueOutFire _ => true
  | .cueOutPulseEnd line => decide (line < 4)
  | .cueEdgeConfirm line _ => decide (line < 4)
  | .measurementInstant raw _ _ => decide (raw.length = 8)
  | .activityLoss c _ => decide (c < 8)
  | .calSetGo _ => true
  | .calTaiUtcArm _ => true
  | .timeSecLoRead _ => true
  | .calDateRead _ => true
  | .ephNextSecLoRead _ => true
  | .timeTxtsPop _ _ => true
  | .svxPush _ x _ => decide (x < 2)
  | .mpdTimeout x => decide (x < 2)
  | .netRxFrame x _ _ => decide (x < 2)
  | .rxStreamWait _ => true
  | .rxLegDown _ leg => decide (leg < 2)
  | .hostFrameTx x _ => decide (x < 2)
  | .mgmtFrameTx x => decide (x < 2)
  | .netRingDb _ x q _ _ => decide (x < 2) && decide (q < 4)
  | .netLinkUp x _ => decide (x < 2)
  | .netLinkDown x => decide (x < 2)
  | .aes3RxFrame r f => decide (r < 32) && subWf f.a && subWf f.b
  | .aes3LockLoss r => decide (r < 32)
  | .lossOfSignal p => decide (p < 60)
  | .losRampEnd p => decide (p < 60)
  | .signalReturn p => decide (p < 60)
  | .mediaSet p => decide (p < 60)
  | .aes3TxFrame t => decide (t < 32)
  | .madiRxFrame m f => decide (m < 4) && decide (f.chans.length ≤ 64) && f.chans.all (fun c => decide (c.audio < 2 ^ 24))
  | .madiTxFrame m => decide (m < 4)
  | .tdmFsEdge q _ => decide (q < 24)
  | .tdmRxFrame q slots _ => decide (q < 24) && slots.all (fun x => decide (x < 2 ^ 24))
  | .tdmTxFrame q => decide (q < 24)
  | .restart q => decide (q < 24)
  | .vcxoLoopUpdate v _ => decide (v < 4)
  | .pmuxRelease n => decide (n < 192)
  | .pmuxTake n => decide (n < 192)
  | .pmuxFirstFrame n => decide (n < 192)
  | .laneCdrLock l pcie => decide (l < 14) && decide (pcie < 16)
  | .laneCdrLost l _ => decide (l < 14)
  | .laneAdaptDone l ctle _ _ => decide (l < 14) && decide (ctle < 16)
  | .prbsChkLock l => decide (l < 14)
  | .prbsChkRelock l _ _ => decide (l < 14)
  | .prbsClr l => decide (l < 14)
  | .laneErrLoRead _ l _ _ => decide (l < 14)
  | .kzlFrameRx k frame => decide (k < 2) && decide (frame.length = 64)
  | .kzlFrameTx k _ => decide (k < 2)
  | .kzlRto k => decide (k < 2)
  | .kzlLinkFail k cause _ => decide (k < 2) && decide (cause < 16)
  | .kzlAlignDone k map skew _ _ => decide (k < 2) && decide (map < 0x100000000) && decide (skew < 0x100000000)
  | .kzlStateTimeout k => decide (k < 2)
  | .activeNConfirm _ _ => true
  | .releaseDecisionTimeout _ => true
  | .giveupReclaim _ => true
  | .stbyForce _ _ _ => true
  | .bcCatchupDone c => decide (c < 2)
  | .statusRecord _ _ => true
  | .moveRecord _ _ => true
  | .slotRecord _ _ => true
  | .measRecord _ _ => true
  | .checkRecord _ _ => true
  | .cascRecord _ _ => true
  | .modeRecord _ _ => true
  | .timeRecord _ _ => true
  | .pageRecord _ _ => true
  | .seedRecord _ _ => true
  | .bcseedRecord _ _ => true
  | .interconnectRequest master _ addr acc => decide (master < 64) && decide (addr < 0x10000000000000000) && accWf acc
  | .arbGrant a ecc => decide (a < 10) && eccWf ecc
  | .arbWindowEnd a => decide (a < 10)
  | .holdCut a beats => decide (a < 10) && decide (beats < 65536)
  | .lockRead master addr n => decide (master < 64) && decide (addr < 0x100000000) && decide (0 < n)
  | .lockBreak bank => decide (bank < 64)
  | .scrubStep bank ecc => decide (bank < 64) && eccWf ecc
  | .fence unit => unitWf unit
  | .darkFramePassStart _ => true
  | .darkFrameComplete _ => true
  | .dramTrainingDone _ _ => true
  | .remap _ _ => true
  | .cvuEnable _ u _ => decide (u < 4)
  | .cvuResultLoRead _ u => decide (u < 4)
  | .arbCommit _ _ => true
  | .registerWrite _ off data => decide (off < 0x1000000) && decide (0 < data.length)
  | .rcRead _ off n => decide (off < 0x1000000) && decide (0 < n)
  | .softReset _ page => decide (page < 4096)
  | .freeze _ page _ => decide (page < 4096)
  | .msixMessage v _ _ _ => decide (v < 64)
  | .intcEoi k _ => decide (k < 2)
  | .hostqRingDb q _ => decide (q < 4)
  | .hostqFetch q desc => decide (q < 4) && desc.all (fun d => decide (d.length = 16))
  | .ringReplay q _ => decide (q < 4)
  | .hostqRingEn q _ => decide (q < 4)
  | .cmdNop q => decide (q < 4)
  | .regWrite q => decide (q < 4)
  | .regRead q => decide (q < 4)
  | .reqShow _ _ => true
  | .reqHold _ => true
  | .reqFollow _ => true
  | .reqStart _ _ => true
  | .reqMaint _ => true
  | .reqPark _ => true
  | .dataPlaneStop failMap rows _ => decide (failMap < 0x20000) && rowsWf rows
  | .flashErase _ => true
  | .flashProgram _ => true
  | .flashRead _ => true
  | .provCommit _ => true
  | .keyData _ _ => true
  | .keyCheck _ => true
  | .keyDone _ => true
  | .keyWrap _ _ => true
  | .domainIdleOff d => decide (d < 17)
  | .domainWake d => decide (d < 17)
  | .domainReady d _ => decide (d < 17)
  | .dvfsReq _ _ => true
  | .supplySample mv => decide (mv.length = 10)
  | .sensorRead t => decide (t.length = 8)
  | .fanFail f _ => decide (f < 2)
  | .fanRecover f _ => decide (f < 2)
  | .fltWdtKick _ _ => true
  | .faultEvent src unit _ => decide (src < 193) && unitWf unit
  | .targetedTestEnd unit _ => unitWf unit
  | .fltFenceGo _ _ => true
  | .bistGo _ _ => true
  | .bistDone failMap rows _ => decide (failMap < 0x20000) && rowsWf rows
  | .marchGo _ _ => true
  | .marchDone rows => rowsWf rows
  | .marchFifoRead _ => true
  | .repFuseGo _ _ => true
  | .fuseBurnDone _ _ => true
  | .activityEvent c => decide (c < 8)
  | .pcieLinkUp width speed _ => decide (width = 1 ∨ width = 2 ∨ width = 4) && decide (speed < 16)
  | .flashCommandEnd _ => true
  | .provCommitEnd _ => true
  | .scanChainEnable => true
  | .rateSwitch => true
  | .rateRampIn => true
  | .rateChangeDone => true
  | .shedStop => true
  | .automixUpdate => true
  | .progWriteStart => true
  | .progWriteEnd => true
  | .meterFrameBoundary => true
  | .sceneCutoff => true
  | .deferredXfadeStart => true
  | .acqTimeout => true
  | .acqHoldoffExpire => true
  | .wtrExpire => true
  | .ptpStep => true
  | .secondsCarry => true
  | .packetLaunch => true
  | .readbackFault => true
  | .hbToggle => true
  | .hbInEdge => true
  | .hbLost => true
  | .giveupRelease => true
  | .checkWindowEnd => true
  | .confirmTimeout => true
  | .dataPlaneStart => true
  | .holdRampEnd => true
  | .dvfsDividerChange => true
  | .dvfsRailConfirm => true
  | .dvfsVoltTimeout => true
  | .supplyHoldEnd => true
  | .thermalStateChange => true
  | .wdtExpire => true
  | .faultNPulseEnd => true
  | .stuckLow => true

end Sys2Proof
end

