-- ==== Sys2Proof/Safety.lean ====
section
/-! DEFINITION. What counts as a safe run, the invariant of the state, and the frames and views that statements are written in. -/

namespace Sys2Proof.Machine

/-! ## Safe runs and the invariant -/

/-- No step of a run from a state stops it with a fault or a refusal. -/
def Safe (s : State) : Prop := ∀ k, ∃ t, Host.Core.run core k s = .next t

/-- The byte memories and the register words stand in their canonical form: keys strictly rising, and no entry equal to what an
unlisted key reads as. Equal contents are then equal data. -/
def Memory.wf (s : State) : Bool :=
  twf (fun _ => 0) s.mem.sram && twf (fun _ => 0) s.mem.dram && twf (fun _ => 0xFF) s.mgmt.flash
    && twf (fun _ => 0) s.host.mem && twf resetWord s.regs

/-! ## Frames -/

/-- Only register words change, and of them only those listed. -/
def OnlyWords (ks : List Nat) (s t : State) : Prop :=
  t = { s with regs := t.regs } ∧ ∀ a, a ∉ ks → t.word a = s.word a

/-! ## Strip engines in words -/

/-- A data register as a word, an accumulator as its 72 bits. -/
def Se.dw (t : Se) (i : Nat) : Word := BitVec.ofNat 32 (t.reg (cD i))
def Se.accw (t : Se) (i : Nat) : BitVec 72 := BitVec.ofNat 72 (t.reg (cAcc i))

/-- The Z and N pair of a result. -/
def znWord {w : Nat} (v : BitVec w) : Nat := (decide (v = 0)).toNat + 2 * v.msb.toNat

/-- An ALU result on its way to a register, which the next bundle sees, with Z and N from it and stickies set. -/
def Se.aluResult {w : Nat} (t : Se) (c : Nat) (v : BitVec w) (sticky : Nat) : Se :=
  { t.write c 0 w v.toNat 1 3 with zn := some (znWord v), sticky := t.sticky ||| sticky }

/-- The 72-bit saturation of an accumulation (R154). -/
def sat72 (x : Int) : BitVec 72 :=
  if 2 ^ 71 - 1 < x then 0x7FFFFFFFFFFFFFFFFF#72 else if x < -2 ^ 71 then 0x800000000000000000#72 else BitVec.ofInt 72 x

/-- Accumulator results on their way: for each lane of MASK, the exact value saturated at 72 bits, V where one saturated. -/
def Se.accResults (t : Se) (mask : Nat) (f : Nat → Int) : Se :=
  { t with
    queue := t.queue ++ (below 4 (bit mask)).map fun i =>
      { reg := t.key (0x10 + i), width := 72, val := (sat72 (f i)).toNat, due := t.n + 1, issue := t.n, slot := 3 }
    sticky := if (below 4 (bit mask)).any (fun i => decide (f i < -2 ^ 71 ∨ 2 ^ 71 ≤ f i)) then t.sticky ||| 8 else t.sticky }

/-- A shift by a count from −128 to +127 (R162, R163): kind 0 arithmetic right, 1 logical right, 2 left, 3 saturating left. Answers
the result and the sticky flag it sets. -/
def leftOf {w : Nat} (x : BitVec w) (k : Nat) : BitVec w × Nat := (x <<< k, if (x <<< k).toNat = x.toNat * 2 ^ k then 0 else 8)
def satLeftOf {w : Nat} (x : BitVec w) (k : Nat) : BitVec w × Nat :=
  if (x <<< k).toInt = x.toInt * 2 ^ k then (x <<< k, 0) else (if x.msb then BitVec.intMin w else BitVec.intMax w, 4)
def shiftBy {w : Nat} (kind : Nat) (x : BitVec w) (count : BitVec 8) : BitVec w × Nat :=
  let k := count.toInt.natAbs
  if count.msb then (if kind ≤ 1 then leftOf x k else if kind = 2 then (x >>> k, 0) else (x.sshiftRight k, 0))
  else (if kind = 0 then (x.sshiftRight k, 0) else if kind = 1 then (x >>> k, 0) else if kind = 2 then leftOf x k else satLeftOf x k)

/-- The quotient of DIV and the sticky flag it sets (R160, R163). -/
def quotientOf (a b : Word) : Word × Nat :=
  if b = 0 then (if a = 0 then 0 else if a.msb then 0x80000000 else 0x7FFFFFFF, 16)
  else if a = 0x80000000 ∧ b = -1 then (0x7FFFFFFF, 8)
  else (a.sdiv b, 0)

end Sys2Proof.Machine
end

