-- ==== Sys2Proof/Certificates/Slice0/Obligations.lean ====
section
/-! DEFINITION. The statements for the provers, from the rules of the specification, chapter by chapter. -/

open Sys2Proof Sys2Proof.Machine

/-- A step with a command at the front of the queue is that command's effect on the state with the rest of the queue. A step with an empty queue is the passage of one root edge and nothing else, which is the model's choice (log entry 2). -/
def Obligations.StepRunsTheFrontCommand : Prop :=
  (∀ (s : State) (c : Instr) (cs : List Instr), step { s with pending := c :: cs } = exec c { s with pending := cs }) ∧
  ∀ s : State, s.pending = [] → step s = .next { s with clk := { s.clk with now := s.clk.now + 1 } }

/-- Every command, with any operands and in every state, answers a next state: no command stops the block. So a run from any state never meets a fault or a refusal. -/
def Obligations.EveryCommandCompletes : Prop :=
  (∀ (c : Instr) (s : State), ∃ t : State, exec c s = .next t) ∧ ∀ s : State, Safe s

/-- After reset the byte memories and the register words stand in their canonical form, no command waits, every register word reads as its reset word, and the mode is START in transition. Where the specification gives no reset value, the value is the model's choice that the log names (entries 10 to 13). -/
def Obligations.ResetIsCanonical : Prop :=
  Memory.wf State.reset = true ∧ State.reset.pending = [] ∧ (∀ a, State.reset.word a = resetWord a) ∧
    State.reset.opMode = 1 ∧ State.reset.get Reg.MODE_IN_TRANSITION = 1

/-- If the byte memories of SRAM, DRAM, flash and host and the register words are in canonical form, their keys strictly rising with no entry equal to what an unlisted key reads as, then so they are after any step that answers a next state, whatever the command and its operands. -/
def Obligations.EveryStepKeepsTablesCanonical : Prop :=
  ∀ s t : State, Memory.wf s = true → step s = .next t → Memory.wf t = true

/-- MPY, MAC, MSU, CLR, LDA, ADDA and SUBA on an engine that executes give, for each lane i of MASK, an accumulator result for the
next bundle: S × Ci, ACCi + S × Ci, ACCi − S × Ci, 0, S aligned, ACCi + S aligned, ACCi − S aligned, saturated at 72 bits with V set
where one saturates. Ci is D(4Q + i) and S aligned is S × 2^30. Lanes outside MASK, every register, the engine's memories and
everything outside the engine stay as they are. The MAC slot's NOP changes nothing. -/
def Obligations.SeAccumulatorOperations : Prop :=
  ∀ (s : State) (e src q mask : Nat), s.seUp e = true →
    let t := s.eng e
    let x := (t.dw src).toInt
    let a := fun i => (t.accw i).toInt
    let c := fun i => (t.dw (4 * q + i)).toInt
    exec (.macNop e) s = .next (s.setEng e t) ∧
    exec (.mpy e src q mask) s = .next (s.setEng e (t.accResults mask fun i => x * c i)) ∧
    exec (.mac e src q mask) s = .next (s.setEng e (t.accResults mask fun i => a i + x * c i)) ∧
    exec (.msu e src q mask) s = .next (s.setEng e (t.accResults mask fun i => a i - x * c i)) ∧
    exec (.clr e mask) s = .next (s.setEng e (t.accResults mask fun _ => 0)) ∧
    exec (.lda e src mask) s = .next (s.setEng e (t.accResults mask fun _ => x * 2 ^ 30)) ∧
    exec (.adda e src mask) s = .next (s.setEng e (t.accResults mask fun i => a i + x * 2 ^ 30)) ∧
    exec (.suba e src mask) s = .next (s.setEng e (t.accResults mask fun i => a i - x * 2 ^ 30))

/-- ADD and SUB give the wrapped 32-bit sum and difference and set V on signed overflow; ADDS and SUBS give the sum and difference, at
full scale of the exact result's sign where it overflows, and set SAT then; NEG and ABS give −Ds and |Ds|, of 0x8000_0000 the word
0x7FFF_FFFF with V. Z and N follow the result. The result reaches Dd for the next bundle; nothing else of the engine's registers and
memories and nothing outside the engine changes.
AND, OR and XOR give the bitwise result with Z and N from it and set no sticky flag. CMP sets Z and N from the exact difference
Ds − Dt: Z where the words are equal, N where Ds is the smaller as a signed number; it writes no register. -/
def Obligations.SeSumsBitwiseAndCompare : Prop :=
  (∀ (s : State) (e dd ds dt : Nat), s.seUp e = true →
    let t := s.eng e
    let a := t.dw ds
    let b := t.dw dt
    let full := fun (neg : Bool) => if neg then (0x80000000 : Word) else 0x7FFFFFFF
    exec (.add e dd ds dt) s = .next (s.setEng e (t.aluResult (cD dd) (a + b) (if a.saddOverflow b then 8 else 0))) ∧
    exec (.sub e dd ds dt) s = .next (s.setEng e (t.aluResult (cD dd) (a - b) (if a.ssubOverflow b then 8 else 0))) ∧
    exec (.adds e dd ds dt) s = .next (s.setEng e
      (if a.saddOverflow b then t.aluResult (cD dd) (full a.msb) 4 else t.aluResult (cD dd) (a + b) 0)) ∧
    exec (.subs e dd ds dt) s = .next (s.setEng e
      (if a.ssubOverflow b then t.aluResult (cD dd) (full a.msb) 4 else t.aluResult (cD dd) (a - b) 0)) ∧
    exec (.neg e dd ds) s = .next (s.setEng e
      (if a = 0x80000000 then t.aluResult (cD dd) (0x7FFFFFFF : Word) 8 else t.aluResult (cD dd) (-a) 0)) ∧
    exec (.absD e dd ds) s = .next (s.setEng e
      (if a = 0x80000000 then t.aluResult (cD dd) (0x7FFFFFFF : Word) 8 else t.aluResult (cD dd) (if a.msb then -a else a) 0))) ∧
  (∀ (s : State) (e dd ds dt : Nat), s.seUp e = true →
    let t := s.eng e
    let a := t.dw ds
    let b := t.dw dt
    exec (.andD e dd ds dt) s = .next (s.setEng e (t.aluResult (cD dd) (a &&& b) 0)) ∧
    exec (.orD e dd ds dt) s = .next (s.setEng e (t.aluResult (cD dd) (a ||| b) 0)) ∧
    exec (.xorD e dd ds dt) s = .next (s.setEng e (t.aluResult (cD dd) (a ^^^ b) 0)) ∧
    exec (.cmp e ds dt) s = .next (s.setEng e { t with zn := some ((a == b).toNat + 2 * (a.slt b).toNat) }))

/-- ASR, LSR, LSL and LSLS shift Ds by the signed count in Dt[7:0]; their immediate forms shift Dd, and their accumulator forms shift
ACCn at width 72, by the immediate count. A negative count shifts the other way. LSL sets V where a 1 bit leaves the top; LSLS goes to
full scale of the operand's sign and sets SAT where the shifted value is not exact. Z and N follow the result. Nothing outside the
engine changes. -/
def Obligations.SeShifts : Prop :=
  ∀ (s : State) (e dd ds dt acc count : Nat), s.seUp e = true →
    let t := s.eng e
    let reg := fun (k : Nat) => let r := shiftBy k (t.dw ds) (BitVec.ofNat 8 (t.dw dt).toNat)
      Host.Outcome.next (φ := Fault) (ρ := Refusal) (s.setEng e (t.aluResult (cD dd) r.1 r.2))
    let imm := fun (k : Nat) => let r := shiftBy k (t.dw dd) (BitVec.ofNat 8 count)
      Host.Outcome.next (φ := Fault) (ρ := Refusal) (s.setEng e (t.aluResult (cD dd) r.1 r.2))
    let wide := fun (k : Nat) => let r := shiftBy k (t.accw acc) (BitVec.ofNat 8 count)
      Host.Outcome.next (φ := Fault) (ρ := Refusal) (s.setEng e (t.aluResult (cAcc acc) r.1 r.2))
    (exec (.asr e dd ds dt) s = reg 0 ∧ exec (.lsr e dd ds dt) s = reg 1 ∧
      exec (.lsl e dd ds dt) s = reg 2 ∧ exec (.lsls e dd ds dt) s = reg 3) ∧
    (exec (.asri e dd count) s = imm 0 ∧ exec (.lsri e dd count) s = imm 1 ∧
      exec (.lsli e dd count) s = imm 2 ∧ exec (.lslsi e dd count) s = imm 3) ∧
    (exec (.asra e acc count) s = wide 0 ∧ exec (.lsra e acc count) s = wide 1 ∧
      exec (.lsla e acc count) s = wide 2 ∧ exec (.lslsa e acc count) s = wide 3)

/-- DIV with no division in flight notes its operands and changes nothing else. DIV_COMPLETE, for a division in flight whose register
no later write has taken, writes the quotient, truncated toward zero, to Dd, with Z and N from it in FLAGS and DZ or V as the edges of
R163 say, and no division is in flight after it; only the engine changes. -/
def Obligations.SeDivision : Prop :=
  ∀ (s : State) (e : Nat), s.seUp e = true →
    let t := s.eng e
    (∀ dd ds dt, t.div = none →
      exec (.div e dd ds dt) s =
        .next (s.setEng e { t with div := some { dd := dd % 16, ds := t.reg (cD ds), dt := t.reg (cD dt), issue := t.n } })) ∧
    (∀ d : SeDiv, t.div = some d → d.lost = false →
      ∃ u, exec (.divComplete e) s = .next (s.setEng e u) ∧ u.div = none ∧
        u.dw d.dd = (quotientOf (BitVec.ofNat 32 d.ds) (BitVec.ofNat 32 d.dt)).1 ∧
        bits (u.reg cFlags) 1 0 = znWord (quotientOf (BitVec.ofNat 32 d.ds) (BitVec.ofNat 32 d.dt)).1 ∧
        (BitVec.ofNat 32 d.dt = 0 → bit (u.reg cFlags) 4 = true) ∧
        (BitVec.ofNat 32 d.ds = 0x80000000 ∧ BitVec.ofNat 32 d.dt = -1 → bit (u.reg cFlags) 3 = true) ∧
        u.x = t.x ∧ u.y = t.y ∧ u.pc = t.pc)

/-- A sum issued by ADD is not seen by the bundle that issues it, and is what Dd holds once that bundle has ended with a NOP in its
control slot, where no other result is in flight to the engine's registers. -/
def Obligations.SeResultReachesNextBundle : Prop :=
  ∀ (s : State) (e dd ds dt : Nat), s.seUp e = true →
    (s.eng e).queue = [] → (s.eng e).ups = [] → (s.eng e).div = none →
    ∃ t u, exec (.add e dd ds dt) s = .next t ∧ (t.eng e).dw dd = (s.eng e).dw dd ∧ exec (.nop e) t = .next u ∧
      (u.eng e).dw dd = (s.eng e).dw ds + (s.eng e).dw dt ∧ (u.eng e).n = (s.eng e).n + 1

/-- A 32-bit word enters an accumulator aligned: LDA of Ds leaves Ds, sign-extended, times 2^30 in each accumulator of its mask, ADDA and SUBA add or subtract that product, saturated at 72 bits, and a LOAD with REG
0x10 to 0x13 leaves the memory word times 2^30. LDA, ADDA and SUBA are read after the bundle that a NOP ends, the LOAD after one more, on an engine that executes with no other result in flight. -/
def Obligations.WordsEnterAccumulatorsAligned : Prop :=
  ∀ (s : State) (e src mask i : Nat), s.seUp e = true → i < 4 → bit mask i = true →
    (s.eng e).queue = [] → (s.eng e).ups = [] → (s.eng e).div = none →
    let t := s.eng e
    let x := (t.dw src).toInt * 2 ^ 30
    let holds := fun (o : Out) (v : BitVec 72) =>
      ∃ u r : State, o = .next u ∧ exec (.nop e) u = .next r ∧ (r.eng e).accw i = v
    holds (exec (.lda e src mask) s) (BitVec.ofInt 72 x) ∧
    holds (exec (.adda e src mask) s) (sat72 ((t.accw i).toInt + x)) ∧
    holds (exec (.suba e src mask) s) (sat72 ((t.accw i).toInt - x)) ∧
    ∀ slot space an mode, ∃ u : State, exec (.load e slot space an mode (0x10 + i) .clean) s = .next u ∧
      holds (exec (.nop e) u) (BitVec.ofInt 72 ((t.mem (space % 2) (t.reg (cA an))).toInt * 2 ^ 30))

/-- BRC on an engine that executes, outside a delay slot, takes its target after two delay slots exactly where its COND holds on FLAGS: Z, not Z, N, not N, Z or N, neither, SAT, V for 0 to 7. The codes 8 to 15 are reserved: the
operation executes as a NOP and raises SE_ILLEGAL. -/
def Obligations.BranchConditions : Prop :=
  ∀ (s : State) (e target : Nat), s.seUp e = true → (s.eng e).branch = none → (s.eng e).reps = [] →
    let f := (s.eng e).reg cFlags
    let branch := fun (cond : Nat) (holds : Bool) => ∃ u : Se, exec (.brc e cond target) s = .next (s.setEng e u) ∧
      u.branch = if holds then some (target % 8192, 2) else none
    branch 0 (bit f 0) ∧ branch 1 (!bit f 0) ∧ branch 2 (bit f 1) ∧ branch 3 (!bit f 1) ∧
    branch 4 (bit f 0 || bit f 1) ∧ branch 5 (!(bit f 0 || bit f 1)) ∧ branch 6 (bit f 2) ∧ branch 7 (bit f 3) ∧
    ∀ cond, 8 ≤ cond → cond < 16 → exec (.brc e cond target) s = .next (s.ctrlIllegal e)

/-- On an engine that executes, a LOAD without an uncorrectable error takes the memory word at An, as An stands at the start of the
bundle, to Dn, or aligned to ACCn, for the second bundle after; a STORE of Dn writes Dn at An, and of ACCn the scaled, rounded and
saturated sample; raw parts L, H and G move 32, 32 and 8 bits of ACCn as they stand, G stored sign-extended; a LOAD to the address file takes 15 bits to An or Bn, 16 bits to Nn, and 16 bits limited to 32,768 to Ln. Each move
and the AU slot note their update of An for the end of the bundle. Only the engine changes.
LDI takes its immediate to Dd for the next bundle; MVTC takes the low bits of Ds to the control register for the second bundle after; MVFC
takes the control register to Dd for the next bundle, SCLn sign-extended and every other register zero-extended. Each ends its bundle; only
the engine changes. A reserved control register code executes as a NOP and raises SE_ILLEGAL. -/
def Obligations.SeMovesOfEveryKind : Prop :=
  (∀ (s : State) (e slot space an mode : Nat), s.seUp e = true →
    let t := s.eng e
    let w := t.mem (space % 2) (t.reg (cA an))
    let sl := mvSlot slot
    let moved := fun (u : Se) => Host.Outcome.next (φ := Fault) (ρ := Refusal) (s.setEng e (u.moveMode sl an mode))
    (∀ reg, reg < 16 → exec (.load e slot space an mode reg .clean) s =
      moved ((t.access (space % 2)).write (cD reg) 0 32 w.toNat 2 sl)) ∧
    (∀ reg, 16 ≤ reg → reg < 20 → exec (.load e slot space an mode reg .clean) s =
      moved ((t.access (space % 2)).write (cAcc reg) 0 72 (BitVec.ofInt 72 (w.toInt * 2 ^ 30)).toNat 2 sl)) ∧
    (∀ reg, reg < 16 → exec (.store e slot space an mode reg) s =
      moved ((t.access (space % 2)).setMem (space % 2) (t.reg (cA an)) (t.dw reg))) ∧
    (∀ reg, 16 ≤ reg → reg < 20 →
      let k := t.scl reg
      let y := if 30 ≤ k then (t.accw reg).toInt * 2 ^ (k - 30).toNat else roundHalfEven (t.accw reg).toInt (2 ^ (30 - k).toNat)
      let v : Word := if y < -2 ^ 31 then 0x80000000 else if 2 ^ 31 ≤ y then 0x7FFFFFFF else BitVec.ofInt 32 y
      let u := ((t.access (space % 2)).setMem (space % 2) (t.reg (cA an)) v).moveMode sl an mode
      exec (.store e slot space an mode reg) s =
        .next (s.setEng e { u with sticky := if y < -2 ^ 31 ∨ 2 ^ 31 ≤ y then t.sticky ||| 4 else t.sticky })) ∧
    (∀ i, i < 4 → exec (.load e slot space an mode (0x14 + 3 * i) .clean) s =
        moved ((t.access (space % 2)).write (cAcc i) 0 32 w.toNat 2 sl) ∧
      exec (.load e slot space an mode (0x15 + 3 * i) .clean) s =
        moved ((t.access (space % 2)).write (cAcc i) 32 32 w.toNat 2 sl) ∧
      exec (.load e slot space an mode (0x16 + 3 * i) .clean) s =
        moved ((t.access (space % 2)).write (cAcc i) 64 8 (w.toNat % 256) 2 sl) ∧
      exec (.store e slot space an mode (0x14 + 3 * i)) s =
        moved ((t.access (space % 2)).setMem (space % 2) (t.reg (cA an)) ((t.accw i).extractLsb' 0 32)) ∧
      exec (.store e slot space an mode (0x15 + 3 * i)) s =
        moved ((t.access (space % 2)).setMem (space % 2) (t.reg (cA an)) ((t.accw i).extractLsb' 32 32)) ∧
      exec (.store e slot space an mode (0x16 + 3 * i)) s =
        moved ((t.access (space % 2)).setMem (space % 2) (t.reg (cA an)) (((t.accw i).extractLsb' 64 8).signExtend 32))) ∧
    (∀ i, i < 8 → exec (.loadAddressFile e slot space an mode i .clean) s =
        moved ((t.access (space % 2)).write (cA i) 0 15 w.toNat 2 sl) ∧
      exec (.loadAddressFile e slot space an mode (8 + i) .clean) s =
        moved ((t.access (space % 2)).write (cN i) 0 16 w.toNat 2 sl) ∧
      exec (.loadAddressFile e slot space an mode (16 + i) .clean) s =
        moved ((t.access (space % 2)).write (cL i) 0 16 (min (w.toNat % 65536) 32768) 2 sl) ∧
      exec (.loadAddressFile e slot space an mode (24 + i) .clean) s =
        moved ((t.access (space % 2)).write (cB i) 0 15 w.toNat 2 sl)) ∧
    (∀ nm, exec (.auAddOffset e an nm) s = .next (s.setEng e (t.update 2 an (sx 16 (t.reg (cN nm))) false))) ∧
    exec (.auLoadBase e an) s = .next (s.setEng e (t.update 2 an 0 true))) ∧
  (∀ (s : State) (e : Nat), s.seUp e = true →
    let t := s.eng e
    (∀ dd v, exec (.ldi e dd v) s = .next (s.setEng e ((t.write (cD dd) 0 32 v.toNat 1 1).endBundle none none))) ∧
    (∀ ds, (∀ i, i < 3 → exec (.mvtc e i ds) s = .next (s.setEng e ((t.write (0x38 + i) 0 16 (t.reg (cD ds)) 2 1).endBundle none none))) ∧
      (∀ i, i < 4 → exec (.mvtc e (3 + i) ds) s =
        .next (s.setEng e ((t.write (0x14 + i) 0 5 (t.reg (cD ds)) 2 1).endBundle none none))) ∧
      exec (.mvtc e 7 ds) s = .next (s.setEng e ((t.write 0x3B 0 5 (t.reg (cD ds)) 2 1).endBundle none none)) ∧
      exec (.mvtc e 8 ds) s = .next (s.setEng e ((t.write 0x3C 0 4 (t.reg (cD ds)) 2 1).endBundle none none)) ∧
      ∀ cr, 9 ≤ cr → exec (.mvtc e cr ds) s = .next (s.ctrlIllegal e)) ∧
    (∀ dd, (∀ i, i < 3 → exec (.mvfc e i dd) s = .next (s.setEng e ((t.write (cD dd) 0 32 (t.reg (0x38 + i)) 1 1).endBundle none none))) ∧
      (∀ i, i < 4 → exec (.mvfc e (3 + i) dd) s =
        .next (s.setEng e ((t.write (cD dd) 0 32 (BitVec.ofInt 32 (t.scl i)).toNat 1 1).endBundle none none))) ∧
      exec (.mvfc e 7 dd) s = .next (s.setEng e ((t.write (cD dd) 0 32 (t.reg 0x3B) 1 1).endBundle none none)) ∧
      exec (.mvfc e 8 dd) s = .next (s.setEng e ((t.write (cD dd) 0 32 (t.reg 0x3C) 1 1).endBundle none none)) ∧
      ∀ cr, 9 ≤ cr → exec (.mvfc e cr dd) s = .next (s.ctrlIllegal e)))

/-- On an engine that executes, outside a delay slot, with no repeat active and no division in flight: the bundle after a NOP, a
branch, REP or REPD is the next one; BR, BRI and a BRC whose COND holds leave two delay slots before their target, and a BRC whose
COND does not hold leaves none; REP and REPD with a count open a repeat from the next bundle to END with counter LC0; a count of 0
goes to END + 1. BRK with one repeat active closes it and leaves two delay slots before END + 1. Only the engine changes. In a delay
slot a branch, BRK, REP or REPD executes as a NOP and raises SE_ILLEGAL. -/
def Obligations.SeBranchesAndRepeats : Prop :=
  (∀ (s : State) (e : Nat), s.seUp e = true → (s.eng e).branch = none → (s.eng e).reps = [] → (s.eng e).div = none →
    let t := s.eng e
    let goes := fun (o : Out) (b : Option (Nat × Nat)) =>
      ∃ u, o = .next (s.setEng e u) ∧ u.pc = (t.pc + 1) % 8192 ∧ u.branch = b ∧ u.reps = []
    let opens := fun (o : Out) (last : Nat) =>
      ∃ u, o = .next (s.setEng e u) ∧ u.pc = (t.pc + 1) % 8192 ∧ u.branch = none ∧
        u.reps = [{ first := (t.pc + 1) % 8192, last := last % 8192, lc := 0 }]
    goes (exec (.nop e) s) none ∧
    (∀ target, goes (exec (.br e target) s) (some (target % 8192, 2))) ∧
    (∀ cond target, cond < 8 → goes (exec (.brc e cond target) s)
      (if condHolds cond (t.reg cFlags) = some true then some (target % 8192, 2) else none)) ∧
    (∀ ds, goes (exec (.bri e ds) s) (some ((t.dw ds).toNat % 8192, 2))) ∧
    (∀ count last, 0 < count % 65536 → last % 8192 ≠ t.pc → opens (exec (.rep e count last) s) last) ∧
    (∀ ds last, 0 < (t.dw ds).toNat % 65536 → last % 8192 ≠ t.pc → opens (exec (.repd e ds last) s) last) ∧
    (∀ count last, count % 65536 = 0 → ∃ u, exec (.rep e count last) s = .next (s.setEng e u) ∧
      u.pc = (last % 8192 + 1) % 8192 ∧ u.branch = none ∧ u.reps = [])) ∧
  (∀ (s : State) (e : Nat) (r : SeRepeat), s.seUp e = true → (s.eng e).branch = none → (s.eng e).reps = [r] →
    (s.eng e).div = none →
    ∃ u, exec (.brk e) s = .next (s.setEng e u) ∧ u.reps = [] ∧ u.pc = ((s.eng e).pc + 1) % 8192 ∧
      u.branch = some ((r.last + 1) % 8192, 2)) ∧
  (∀ (s : State) (e target ds count last : Nat), s.seUp e = true → (s.eng e).branch.isSome = true →
    exec (.br e target) s = .next (s.ctrlIllegal e) ∧ exec (.bri e ds) s = .next (s.ctrlIllegal e) ∧
    exec (.brk e) s = .next (s.ctrlIllegal e) ∧ exec (.rep e count last) s = .next (s.ctrlIllegal e) ∧
    exec (.repd e ds last) s = .next (s.ctrlIllegal e))

/-- On an engine that executes, outside a delay slot, GATH16 notes the gather of its operands and stalls the engine. For a local gather
whose 16 source words exist, from another memory than its destination, GATHER_COMPLETE writes every element from GATHER_POS on, returns
GATHER_POS to 0, clears GFLT_VALID and ends the stall. A fault at an element from GATHER_POS on ends such a gather at that element: GATHER_POS and
the fault words name it, and the engine's fault source is raised. No other engine changes.
At an acceptance point, EVENT_ACCEPT takes the pending event of lowest code: its bit clears, the handler saves the next bundle and the
repeats, no repeat is active and the bundle at VEC_BASE + 8 × code issues. RTE in a handler, outside a delay slot, with no repeat of its own and no division in
flight, goes back to the saved bundle with the saved repeats. A pending event that has not been reported raises EVENT_LATENCY and stays
pending. DMA_ERR pends code 0, and suspends nothing where no strip depends on the transfer. -/
def Obligations.SeGathersAndEvents : Prop :=
  ((∀ (s : State) (e src dsp ad isp ai base : Nat), s.seUp e = true → (s.eng e).branch = none →
    src = 2 ∨ (src < 2 ∧ base < 8) →
    let t := s.eng e
    let g : SeGather := { src := src, dsp := dsp % 2, dst := t.reg (cA ad),
                          base := if src = 2 then t.reg (cD base) else t.reg (cB base),
                          offs := t.offsets (isp % 2) (t.reg (cA ai)) }
    exec (.gath16 e src dsp ad isp ai base) s = .next (s.setEng e { t with gather := some g })) ∧
  (∀ (s : State) (e : Nat) (g : SeGather), (s.eng e).gather = some g → g.src < 2 → g.dsp < 2 → g.src ≠ g.dsp → g.offs.length = 16 →
    (∀ i, i < 16 → g.base + g.offs.getD i 0 ≤ 0x7FFF) → (s.eng e).reg cGather < 16 →
    ∃ u : State, exec (.gatherComplete e) s = .next u ∧ (u.eng e).gather = none ∧ (u.eng e).reg cGather = 0 ∧
      u.get Reg.SE_GFLT_VALID e = 0 ∧ (∀ e', e' ≠ e → u.eng e' = s.eng e') ∧
      ∀ i, (s.eng e).reg cGather ≤ i → i < 16 →
        (u.eng e).mem g.dsp (g.dst + i) = (s.eng e).mem g.src (g.base + g.offs.getD i 0)) ∧
  (∀ (s : State) (e k cause : Nat) (g : SeGather), (s.eng e).gather = some g → g.src < 2 → g.dsp < 2 →
    (∀ i, i < 16 → g.base + g.offs.getD i 0 ≤ 0x7FFF) → (s.eng e).reg cGather ≤ k → k < 16 →
    ∃ u : State, exec (.gatherFault e k cause) s =
        .next (u.raise (Src.SE_GATHER e) (seUnit e) (BitVec.ofNat 32 (g.base + g.offs.getD k 0))) ∧
      (u.eng e).gather = none ∧ (u.eng e).reg cGather = k ∧ (u.eng e).gfault = true ∧
      u.get Reg.SE_GFLT_VALID e = 1 ∧ u.get Reg.SE_IDX e = k ∧ u.get Reg.SE_CAUSE e = cause % 2 ∧
      (∀ e', e' ≠ e → u.eng e' = s.eng e'))) ∧
  ((∀ (s : State) (e c : Nat), s.seUp e = true → (s.eng e).acceptPoint = true → c < 4 →
    (s.eng e).events.any (·.1 == c) = true → (∀ b, b < c → (s.eng e).events.any (·.1 == b) = false) →
    ∃ u, exec (.eventAccept e) s = .next (s.setEng e u) ∧ u.pc = (s.prog.vec + 8 * c) % 8192 ∧
      u.handler = some { code := c, pc := (s.eng e).pc, reps := (s.eng e).reps } ∧ u.reps = [] ∧
      u.events.any (·.1 == c) = false ∧ u.div = none ∧ u.queue = []) ∧
  (∀ (s : State) (e : Nat) (h : SeHandler), s.seUp e = true → (s.eng e).branch = none → (s.eng e).handler = some h →
    (s.eng e).reps = [] → (s.eng e).div = none →
    ∃ u, exec (.rte e) s = .next (s.setEng e u) ∧ u.pc = h.pc % 8192 ∧ u.handler = none ∧ u.reps = h.reps) ∧
  (∀ (s : State) (e code at' : Nat), (s.eng e).events.find? (·.1 == code) = some (code, at') →
    (s.eng e).slow.contains code = false →
    ∃ u, exec (.eventLatency e code) s = .next ((s.setEng e u).raise Src.EVENT_LATENCY (seUnit e)) ∧
      u.events = (s.eng e).events ∧ u.slow.contains code = true) ∧
  (∀ (s : State) (e : Nat), e < 34 →
    ∃ u : State, exec (.dmaErr e false) s = .next u ∧ (u.eng e).events.any (·.1 == 0) = true ∧
      u = { s with se := u.se } ∧ (∀ e', e' ≠ e → u.eng e' = s.eng e') ∧
      exec (.dmaErr e true) s = .next (u.raise (Src.SE_MEM_ECC e) (seUnit e))))

/-- STRIP_BEGIN of a strip assigned to the engine, outside a delay slot and a handler, makes it the strip under way with the strip bank as its entry
checkpoint and GATHER_POS 0 in it. STRIP_END delivers the strip's result, direct out and 24-bit send and leaves no strip under way. Neither changes
another engine. A STRIP_BEGIN of another engine's strip executes as a NOP and raises SE_ILLEGAL. SE_QSEL clears QVALID and selects the register
for the next strip boundary. -/
def Obligations.SeStripBoundaries : Prop :=
  (∀ (s : State) (e n : Nat) (out : Bool), s.seUp e = true → (s.eng e).branch = none → (s.eng e).handler = none →
    s.stripEngine out n = e → n < (if out then numBuses s.rate else inStrips s.rate) →
    ∃ u : State, exec (.stripBegin e out n) s = .next u ∧ (u.eng e).strip = some (out, n) ∧
      tget 0 (u.eng e).entry cGather = 0 ∧ (∀ r, r < 16 → tget 0 (u.eng e).entry r = (s.eng e).reg r) ∧
      u.get Reg.SE_GFLT_VALID e = 0 ∧ ∀ e', e' ≠ e → u.eng e' = s.eng e') ∧
  (∀ (s : State) (e n : Nat) (out : Bool), s.seUp e = true → (s.eng e).branch = none →
    s.stripEngine out n ≠ e → exec (.stripBegin e out n) s = .next (s.ctrlIllegal e)) ∧
  (∀ (s : State) (e n send : Nat) (res dout : Word) (out : Bool), s.seUp e = true → (s.eng e).branch = none →
    (s.eng e).handler = none → (s.eng e).strip = some (out, n) →
    ∃ u : State, exec (.stripEnd e res dout send) s = .next u ∧ (u.eng e).strip = none ∧
      (u.eng e).done = (s.eng e).done ++ [(out, n, res, dout, send % 2 ^ 24)] ∧ ∀ e', e' ≠ e → u.eng e' = s.eng e') ∧
  (∀ (s : State) (e : Nat) (v : Word), e < 34 → s.domState (pageDomain (0x10 + e)) = 3 →
    ∃ u : State, exec (.seQsel e v) s = .next (u.setEng e { s.eng e with qsel := v.toNat % 128 + 1 }) ∧
      OnlyWords [fldAt Reg.SE_QVALID e] s u ∧ u.get Reg.SE_QVALID e = 0)

/-- Where no partner follows or leads: an acquiring lane with a full filter history of a synchronous source locks on the exact ratio, one of an asynchronous source after 20 ms
on the measured one; a locked lane unlocks; after its ramp, with input, it acquires; an enabled lane whose input is out of range enters RANGE, and leaves it to
acquire. The maps, counts and interrupt bits follow; every other lane and the rest of the block stay. -/
def Obligations.RateConverterLanes : Prop :=
  ∀ (s : State) (m : Nat), m < 1024 → s.opMode ≠ 3 → s.partnerFollows = false →
    let l := s.lane m
    let cls := s.srcClass (laneSrc l.entry)
    let goes := fun (o : Out) (st ratio rate : Nat) => ∃ t : State, o = .next t ∧ (t.lane m).state = st ∧ (t.lane m).ramp = 0 ∧
      (t.lane m).acqAt = s.clk.now ∧ (t.lane m).ratio = ratio ∧ (t.lane m).rate = rate ∧ (t.lane m).entry = l.entry ∧
      t.mapBit Reg.RCONV_LOCKED m = (st == 2) ∧ (∀ k, k ≠ m → t.lane k = s.lane k) ∧
      (st = 2 → t.get Reg.RCONV_IRQ_LOCK = 1) ∧ (st = 3 → t.get Reg.RCONV_IRQ_UNLOCK = 1 ∧ t.mapBit Reg.RCONV_UNLOCK m = true) ∧
      (st = 4 → t.get Reg.RCONV_IRQ_RANGE = 1 ∧ t.mapBit Reg.RCONV_RANGE m = true) ∧
      t = { s with regs := t.regs, dp := { s.dp with lanes := t.dp.lanes } }
    (l.state = 1 → cls = 1 ∨ cls = 2 → filtDelay (laneFilt l.entry) ≤ l.fill → ∀ ratio rate,
      goes (exec (.laneLock m ratio rate) s) 2 (exactRatio (s.srcRate (laneSrc l.entry)) s.hz) (s.srcRate (laneSrc l.entry))) ∧
    (l.state = 1 → cls = 3 → l.keep = false → l.acqAt + 60000000 ≤ s.clk.now → ∀ ratio rate,
      goes (exec (.laneLock m ratio rate) s) 2 ratio rate) ∧
    (l.state = 2 → ∀ input, goes (exec (.laneUnlock m input) s) 3 l.ratio l.rate) ∧
    (l.state = 3 → 64 ≤ l.ramp → l.input = true → goes (exec (.laneUnlockRampEnd m) s) 1 l.ratio l.rate) ∧
    (laneEn l.entry = true → l.state ≠ 0 → l.state ≠ 4 → ∀ rate, rate < 31500 ∨ 194000 < rate →
      goes (exec (.rangeEnter m rate) s) 4 l.ratio rate) ∧
    (l.state = 4 → ∀ rate, 31500 ≤ rate → rate ≤ 194000 → goes (exec (.rangeExit m rate) s) 1 l.ratio rate)

/-- In PARK no boundary happens. The first boundary places the reference on an MCLK edge not in the past and starts the PTP clock from zero there. Where no transition, frame, block or shedding
is overdue, a boundary runs the work of the period where the data plane runs, moves time on to the CCLK edge at or before its exact position,
one sample on, and performs the boundary there. A sample that lands on a locked, enabled receiver without express routes or lanes waits in its ingress
buffer with its time, and nothing else changes. -/
def Obligations.BoundariesAndLandings : Prop :=
  (∀ (s : State) (w : SampleIn), s.opMode = 0 → exec (.sampleBoundary w) s = .next s) ∧
  (∀ (s : State) (w : SampleIn), s.opMode ≠ 0 → s.clk.placed = false →
    ∃ u : State, exec (.sampleBoundary w) s = .next (u.boundaryAt u.clk.ref false) ∧ u.clk.placed = true ∧ u.clk.ref % 16 = 0 ∧
      s.clk.now ≤ u.clk.ref ∧ u.clk.now = u.clk.ref ∧ u.clk.idx = 0 ∧ u.clk.pos = 0 ∧ u.thirds = 0 ∧ u.regs = s.regs ∧ u.dp = s.dp ∧
      u.scn = s.scn) ∧
  (∀ (s : State) (w : SampleIn), s.opMode ≠ 0 → s.clk.placed = true → s.mode.trans = .none → s.meterDue = false →
    (∀ t, t < 8 → (s.eye t).running = false) → s.dp.shedding = [] →
    let v := if s.mode.running then s.periodWork w else s
    let edge := v.clk.ref + (v.clk.pos + periodEdges v.rate) / v.clk.div * v.clk.div
    exec (.sampleBoundary w) s = .next (State.boundaryAt
      { v with clk := { v.clk with now := max v.clk.now edge, pos := v.clk.pos + periodEdges v.rate, idx := v.clk.idx + 1 } }
      edge s.mode.running)) ∧
  (∀ (s : State) (src p ch : Nat) (x : Word), rxPortOf src = some (p, ch) → 0x800 ≤ src → s.rxEn p = true → s.rxLock p = true →
    ch < s.rxChannels p → s.portsUp = true → s.routes = [] → s.listedLanes = [] →
    ∃ t : State, exec (.sampleLanding src x) s = .next t ∧
      (tget {} t.dp.src src).queue = ((tget {} s.dp.src src).queue ++ [(s.clk.now, x)]).drop
        (if s.mode.running then 0 else (tget {} s.dp.src src).queue.length - 3) ∧
      (∀ k, k ≠ src → tget {} t.dp.src k = tget {} s.dp.src k) ∧ t = { s with dp := { s.dp with src := t.dp.src } })

/-- A load outside START, MAINT and HOLD, of an image that cannot be read, or of one that fails a check, completes with its status. A good image waits while its
command runs. At the write's start every engine that is up drops its strip; at its end, 8 bundles an fc later, every engine that is up
holds the bundles, starts at the entry, shows the program's ID and PROG_VALID, and the command completes with OK. -/
def Obligations.StripProgramLoads : Prop :=
  (∀ (s : State) (q : Nat) (image : Option (List Byte)) (c : RingCmd), (s.hostRing q).cmd = some c → c.op = 0x11 → c.began = false →
    s.prog.next = none → s.prog.write = false →
    (s.progMode = false → exec (.loadStripProgram q image) s = .next (s.ringEnd q 0 0x30 0)) ∧
    (s.progMode = true → bit (c.a 0) 0 = false → image = none ∨ s.hostReadable = false →
      exec (.loadStripProgram q image) s = .next (s.ringEnd q 0 0x04 0)) ∧
    (∀ b st k, s.progMode = true → bit (c.a 0) 0 = false → s.hostReadable = true → image = some b → progStatus b = (st, k) →
      (st ≠ 0 → ∃ u : State, exec (.loadStripProgram q image) s = .next (u.ringEnd q 0 st k) ∧ u.prog = s.prog ∧
        (∀ e, e < 34 → u.get Hdr.BUSY (0x10 + e) = 0) ∧ u = { s with regs := u.regs }) ∧
      (st = 0 → ∃ t : State, exec (.loadStripProgram q image) s = .next t ∧
        t.prog = { s.prog with next := some (progHeader b, progBundles b), ring := q, since := s.idx } ∧
        (∀ e, e < 34 → t.get Hdr.BUSY (0x10 + e) = 1) ∧ t.se = s.se))) ∧
  (∀ (s : State) (h : List Word) (bs : List DWord), s.prog.next = some (h, bs) → s.prog.write = false →
    s.mode.running = false ∨ s.idx ≠ s.prog.since →
    ∃ t : State, exec .progWriteStart s = .next t ∧ t.prog = { s.prog with write := true, at' := s.clk.now, mute := 65 } ∧
      ∀ e, e < 34 → s.engineDown e = false → t.eng e = { s.eng e with strip := none, begun := [], done := [] }) ∧
  (∀ (s : State) (h : List Word) (bs : List DWord), s.prog.next = some (h, bs) → s.prog.write = true →
    ∃ u : State, exec .progWriteEnd s = .next (u.ringEnd s.prog.ring 0 0 0) ∧ u.prog.next = none ∧ u.prog.write = false ∧
      u.prog.mute = 65 ∧ u.prog.entry = (h.getD 7 0).toNat ∧ u.prog.vec = (h.getD 8 0).toNat ∧
      s.prog.at' + 4 * ((bs.length + 7) / 8) ≤ u.clk.now ∧
      ∀ e, e < 34 → s.unitDown (seUnit e) = false →
        (u.eng e).pc = (h.getD 7 0).toNat ∧ (∀ i, tget 0 (u.eng e).prog i = bs.getD i 0) ∧
        u.get Reg.SE_PROG_ID e = (h.getD 1 0).toNat ∧ u.get Hdr.PROG_VALID (0x10 + e) = 1)

/-- The strips of a fenced engine move to the lowest idle spare, which then runs, with their slots; the fenced engine's counts read 0. With no spare left, as many
strips of each kind as the engine ran, highest priority value first, ramp over 32 samples, and DEGRADED is set with the number of strips shed. When
they stop they are shed and nothing is left to move. Loaded programs, the scene engine and memory stay. -/
def Obligations.MigrationAndShedding : Prop :=
  (∀ (s : State) (e sp : Nat), e < 34 → s.flt.resched.contains (seUnit e) = true → s.idleSpare = some sp → sp ≠ e →
    ((s.stripsOf false e).isEmpty && (s.stripsOf true e).isEmpty) = false →
    ∃ t : State, exec (.stripMigration e) s = .next t ∧ (∀ n ∈ s.stripsOf false e, t.stripEngine false n = sp) ∧
      (∀ n ∈ s.stripsOf true e, t.stripEngine true n = sp) ∧ t.get Reg.SE_IN_STRIPS e = 0 ∧ t.get Reg.SE_OUT_STRIPS e = 0 ∧
      t.get Hdr.RUNNING (0x10 + sp) = 1 ∧ t.get Hdr.SPARE (0x10 + sp) = 0 ∧
      (∀ w, w < 32 → t.slotServer w = if s.slotServer w = e then sp else s.slotServer w) ∧
      t.flt.resched = s.flt.resched.filter (· != seUnit e) ∧ t.mem = s.mem ∧ t.scn = s.scn ∧ t.prog = s.prog ∧ t.se = s.se) ∧
  (∀ (s : State) (e : Nat), e < 34 → s.flt.resched.contains (seUnit e) = true → s.idleSpare = none →
    ((s.stripsOf false e).isEmpty && (s.stripsOf true e).isEmpty) = false →
    let ins := s.shedChoice false (s.stripsOf false e).length
    let outs := s.shedChoice true (s.stripsOf true e).length
    ∃ t : State, exec (.stripShed e) s = .next t ∧ (∀ n ∈ ins, (t.inStrip n).fall = 32) ∧ (∀ n ∈ outs, (t.outStrip n).fall = 32) ∧
      t.dp.shedding = s.dp.shedding ++ ins ++ outs.map (2048 + ·) ∧ t.dp.shedAt = s.idx + 32 ∧
      t.get Reg.MODE_DEGRADED = 1 ∧ t.get Reg.MODE_IRQ_DEGRADED = 1 ∧ t.dp.shed = s.dp.shed ∧
      (∀ w, w < 32 → t.slotServer w = if s.slotServer w = e then 34 else s.slotServer w) ∧ t.mem = s.mem ∧ t.scn = s.scn) ∧
  (∀ (s : State), s.dp.shedding ≠ [] → s.dp.shedAt ≤ s.idx →
    ∃ t : State, exec .shedStop s = .next t ∧ t.dp.shed = s.dp.shed ++ s.dp.shedding ∧ t.dp.shedding = [] ∧ t.dp.displaced = [] ∧
      t.mem = s.mem ∧ t.scn = s.scn ∧ t.se = s.se)

/-- An update that is due where no group has a member sets the timer to its due time and changes no gain; a frame of Loop Guard that is due without candidates does the
same for its timer and raises LG_FRAME on the engines that run output strips. A candidate on an open strip with a free section, in no band of a notch, glides a new notch in
at 3.0 dB or the deepest depth allowed, and changes no other word but the report's. A notch left alone long enough rises by 3.0 dB. -/
def Obligations.AutomixAndLoopGuard : Prop :=
  (∀ (s : State), s.mode.running = true → s.dp.amAt + s.amInterval ≤ s.clk.pos → (∀ g, g < 16 → s.amMembers g = []) →
    exec .automixUpdate s = .next { s with dp := { s.dp with amAt := s.clk.pos - (s.clk.pos - s.dp.amAt) % s.amInterval } }) ∧
  (∀ (s : State), s.mode.running = true → s.dp.lgAt + s.lgFrame ≤ s.clk.pos →
    ∃ t : State, exec (.lgFrameEnd []) s = .next t ∧
      t.dp = { s.dp with lgAt := s.clk.pos - (s.clk.pos - s.dp.lgAt) % s.lgFrame, lgLong := s.hot } ∧
      (∀ e ∈ s.runningEngines, s.get Reg.SE_OUT_STRIPS e ≠ 0 → (t.eng e).events.any (·.1 == 2) = true) ∧
      t = { s with dp := t.dp, se := t.se }) ∧
  (∀ (s : State) (n f i : Nat), s.mode.running = true → s.dp.lgAt + s.lgFrame ≤ s.clk.pos → n < numBuses s.rate → s.opMode ≠ 3 →
    s.partnerFollows = false → s.dp.shed.contains (2048 + n) = false →
    s.inUse (outWord n 0xA4) % 4 = 1 → 100 * bits (s.inUse (outWord n 0xAC)) 15 0 ≤ f →
    f ≤ 100 * bits (s.inUse (outWord n 0xAC)) 31 16 → s.lgLocked n f = false → 6 ≤ s.lgMax n →
    (∀ j, j < 12 → (notchState (s.notchWord (12 * n + j)) != 0 && near 12 f (notchFreq (s.notchWord (12 * n + j)))) = false) →
    (List.range 12).find? (fun j => notchState (s.notchWord (12 * n + j)) == 0) = some i →
    ∃ t : State, exec (.lgFrameEnd [(n, f)]) s = .next t ∧
      t.word (fldAt Reg.OUTR_NOTCH_STATE (12 * n + i)) = BitVec.ofNat 32 (mkNotch 1 6 f) ∧
      OnlyWords [fldAt Reg.OUTR_NOTCH_STATE (12 * n + i)] { s with dp := t.dp, se := t.se } t) ∧
  (∀ (s : State) (n k : Nat), n < 1024 → k < 12 → s.opMode ≠ 3 → s.partnerFollows = false →
    let w := s.notchWord (12 * n + k)
    notchState w ≠ 0 → notchDepth w ≠ 0 → s.inUse (outWord n 0xA4) % 4 = 1 →
    (tget {} (s.outStrip n).notches k).since + (if notchState w = 2 then 30000000000 else 180000000000) ≤ s.clk.now →
    ∃ t : State, exec (.lgNotchRelax n k) s = .next t ∧
      t.word (fldAt Reg.OUTR_NOTCH_STATE (12 * n + k)) = BitVec.ofNat 32 (mkNotch 2 (notchDepth w - 6) (notchFreq w)) ∧
      OnlyWords [fldAt Reg.OUTR_NOTCH_STATE (12 * n + k)] { s with dp := t.dp } t)

/-- A meter frame with all its samples is written to host memory at its slot where the ring has room and the host bus takes it: MTR_WR moves on and the frame
bit is set; otherwise it is discarded, counted as an error of the page, with the drop bit. A block of a tap likewise, with its samples. The read indices take the value
written. -/
def Obligations.MeterFramesAndBlocks : Prop :=
  (∀ (s : State), s.meterDue = true →
    let f := s.dp.frame
    let slots := max 1 f.slots
    let wr := s.get Reg.MTR_WR
    let full := ringFull wr (s.get Reg.MTR_RD) slots
    let w2 := f.count % 2 ^ 14 + s.rate * 2 ^ 16 + f.sel * 2 ^ 20 + f.discont.toNat * 2 ^ 25
    let words := [f.seq, f.ts32, w2, 0x1000, 0, 0, 0, 0] ++ (List.range 4096).map fun p => meterEntry f.count (tget {} s.dp.meters p)
    (full = false → s.hostReadable = true → s.getB Reg.MTR_EN = false →
      ∃ t : State, exec .meterFrameBoundary s = .next t ∧ t.get Reg.MTR_WR = (wr + 1) % slots % 2 ^ 11 ∧ t.get Reg.MTR_IRQ_FRAME = 1 ∧
        (∀ b, tget 0 t.host.mem b = if f.base + 16416 * wr ≤ b ∧ b < f.base + 16416 * wr + 16416
          then (wordBytes words).getD (b - (f.base + 16416 * wr)) 0 else tget 0 s.host.mem b) ∧
        t.dp.frame.discont = false ∧ t.dp.frame.running = false) ∧
    (full = true ∨ s.hostReadable = false → s.getB Reg.MTR_EN = false →
      ∃ t : State, exec .meterFrameBoundary s = .next t ∧ t.get Hdr.ERR_CNT 0x46 = satInc 32 (s.get Hdr.ERR_CNT 0x46) 1 ∧
        t.get Reg.MTR_IRQ_DROP = 1 ∧ t.host = s.host ∧ t.dp.frame.discont = true)) ∧
  (∀ (s : State) (v : Word), s.domState 3 = 3 →
    ∃ t : State, exec (.mtrRdSet v) s = .next t ∧ t.get Reg.MTR_RD = v.toNat % 2 ^ 11 ∧ OnlyWords [fldAt Reg.MTR_RD 0] s t) ∧
  (∀ (s : State) (t : Nat) (v : Word), t < 8 → s.domState 3 = 3 →
    ∃ u : State, exec (.eyeRdSet t v) s = .next u ∧ u.get Reg.EYE_RD t = v.toNat % 2 ^ 12 ∧ OnlyWords [fldAt Reg.EYE_RD t] s u) ∧
  (∀ (s : State) (t : Nat), t < 8 → (s.eye t).running = true → 256 ≤ (s.eye t).count → s.get Reg.EYE_MODE t = 1 →
    let f := s.eye t
    let slots := max 1 f.slots
    let wr := s.get Reg.EYE_WR t
    (ringFull wr (s.get Reg.EYE_RD t) slots = false → s.hostReadable = true →
      ∃ u v : State, exec (.eyeBlockEnd t) s = .next (v.eyeStart t) ∧ v = { u with dp := v.dp } ∧
        u.get Reg.EYE_WR t = (wr + 1) % slots % 2 ^ 12 ∧ bit (u.get Reg.EYE_IRQ_BLOCK) t = true ∧
        tget 0 u.host.mem (f.base + 1040 * wr) = BitVec.ofNat 8 f.seq) ∧
    (ringFull wr (s.get Reg.EYE_RD t) slots = true → ∃ v : State, exec (.eyeBlockEnd t) s = .next (v.eyeStart t) ∧
      v.get Hdr.ERR_CNT 0x47 = satInc 32 (s.get Hdr.ERR_CNT 0x47) 1 ∧ bit (v.get Reg.EYE_IRQ_DROP) t = true ∧ v.host = s.host ∧
      (v.eye t).discont = true))

/-- On a running core outside the trap window: ENTER with a window left and LEAVE with another frame resident move FP by one, round seven windows, and count residents. ENTER
without one and LEAVE without one but with parked frames take a frame trap: the trap window is current, keeps the address of the instruction and the old FP,
and events are held. In the trap window, or with nothing parked, the core stops with a double trap, is reported and fenced. PARK3 moves three frames to memory from the pointer on; UNPARK brings back up to three;
TRAPX returns to the instruction. No other core and no bus memory changes. The next address is free. -/
def Obligations.BridgeWindowsAndTraps : Prop :=
  ∀ (s : State) (c : Nat), s.bcRuns c = true →
    let b := s.bcore c
    let ends := fun (o : Out) (b' : Bc) => ∃ t : State, o = .next t ∧ t.bcore c = { b' with core := { b'.core with pc := (t.bcore c).core.pc } } ∧
      (∀ k, k ≠ c → t.bcore k = s.bcore k) ∧ t = { s with bc := t.bc, free := t.free }
    let trapped : Bc := { b with
      core := (b.core.setReg 7 14 b.core.pc).setReg 7 13 (withBits (b.core.reg 7 13) 2 0 b.fp), fp := 7, held := true }
    let double := fun (o : Out) => ∃ u : State, o = .next (if u.unitDown (bcUnit c) then u else u.fenceOut (bcUnit c) false) ∧
      ∃ v : State, u = v.raise Src.BC_DOUBLE_TRAP (bcUnit c) ∧ v.bcore c = { b with halted := true } ∧
        v.get BC_HALTED (bcPage c) = 1 ∧ v.get Hdr.RUNNING (bcPage c) = 0 ∧ v = { s with bc := v.bc, regs := v.regs }
    (b.fp ≠ 7 → b.res < 7 → ends (exec (.enter c) s) { b with fp := (b.fp + 6) % 7, res := b.res + 1 }) ∧
    (b.fp ≠ 7 → 7 ≤ b.res → ends (exec (.enter c) s) trapped) ∧
    (b.fp ≠ 7 → 1 < b.res → ends (exec (.leave c) s) { b with fp := (b.fp + 1) % 7, res := b.res - 1 }) ∧
    (b.fp ≠ 7 → b.res ≤ 1 → 0 < b.parked → ends (exec (.leave c) s) trapped) ∧
    (b.fp = 7 → double (exec (.enter c) s) ∧ double (exec (.leave c) s)) ∧
    (b.res ≤ 1 → b.parked = 0 → double (exec (.leave c) s)) ∧
    (3 < b.res → b.parked + 3 < 2 ^ 16 →
      let f := b.fpOld
      let p := b.core.reg 7 15
      ends (exec (.park3 c) s) { b with
        core := (((b.core.park ((f + 6) % 7) p).park ((f + 5) % 7) (p + 16)).park ((f + 4) % 7) (p + 32)).setReg 7 15 (p + 48),
        res := b.res - 3, parked := b.parked + 3 }) ∧
    (b.res ≤ 4 → b.parked = 1 →
      let p := (b.core.reg 7 15 + 2 ^ 24 - 16) % 2 ^ 24
      ends (exec (.unpark c) s) { b with core := (b.core.setReg 7 15 p).unpark ((b.fpOld + b.res) % 7) p, res := b.res + 1, parked := 0 }) ∧
    (∃ t : State, exec (.trapx c) s = .next t ∧
      t.bcore c = { b with fp := b.fpOld, held := false, core := { b.core with pc := b.core.reg 7 14 } } ∧
      (∀ k, k ≠ c → t.bcore k = s.bcore k) ∧ t = { s with bc := t.bc })

/-- WAITS of a running core clears its sticky flags into BC_ARITH and, with no event pending, waits. A TEST_AND_SET of a word of SRAM that no one holds up rewrites
its four bytes as the instruction does and no other byte; a word that may not be locked gets an error response and no byte changes. Another instruction keeps FP,
residents and the pending event, the words of the core beyond its window and all registers of the block. -/
def Obligations.BridgeCoresAtWork : Prop :=
  ∀ (s : State) (c : Nat), s.bcRuns c = true →
    let b := s.bcore c
    (b.reseed = false → b.event = false → b.qsel = 0 → s.partnerFollows = false →
      ∃ t : State, exec (.waits c) s = .next t ∧ (t.bcore c).waits = true ∧ (t.bcore c).core.flags = 0 ∧
        t.get Reg.BC_SAT c = (if bit b.core.flags 0 then 1 else s.get Reg.BC_SAT c) ∧
        t.get Reg.BC_V c = (if bit b.core.flags 1 then 1 else s.get Reg.BC_V c) ∧
        t.get Reg.BC_DZ c = (if bit b.core.flags 2 then 1 else s.get Reg.BC_DZ c) ∧
        (∀ k, k ≠ c → t.bcore k = s.bcore k) ∧ t = { s with bc := t.bc, regs := t.regs, free := t.free }) ∧
    (b.reseed = false → b.event = true → b.held = false → b.qsel = 0 → s.partnerFollows = false →
      ∃ t : State, exec (.waits c) s = .next t ∧ (t.bcore c).waits = false ∧ (t.bcore c).event = false) ∧
    (∀ addr, s.flt.paths.contains (0x28 + c) = false → s.lockAllowed (0x28 + c) addr 4 = true →
      s.blocked ((addr - 0x10000000) / 0x800000)
        { master := 0x28 + c, access := .lockRead 4, addr := addr, since := s.clk.now } = false →
      ∃ t : State, exec (.testAndSet c addr) s = .next t ∧ t.mem.dram = s.mem.dram ∧ t.mem.locks = s.mem.locks ∧
        ∀ a, tget 0 t.mem.sram a = if addr - 0x10000000 ≤ a ∧ a < addr - 0x10000000 + 4 then
            (leBytes 4 (Config.tasWord (ofLeBytes (s.sramRead (addr - 0x10000000) 4)) % 2 ^ 32)).getD (a - (addr - 0x10000000)) 0
          else tget 0 s.mem.sram a) ∧
    (∀ addr, s.lockAllowed (0x28 + c) addr 4 = false →
      ∃ t : State, exec (.testAndSet c addr) s = .next t ∧ tget none t.mem.resp (0x28 + c) = some ⟨addr, true, []⟩ ∧
        t.mem.sram = s.mem.sram ∧ t.mem.dram = s.mem.dram ∧ t.mem.locks = s.mem.locks) ∧
    (∀ instr, ∃ t : State, exec (.bridgeInstruction c instr) s = .next t ∧ (t.bcore c).fp = b.fp ∧ (t.bcore c).res = b.res ∧
      (t.bcore c).parked = b.parked ∧ (t.bcore c).event = b.event ∧
      (∀ w h, w ≠ b.fp → h < 16 → (t.bcore c).core.reg w h = b.core.reg w h) ∧
      (∀ a, (t.bcore c).core.word a < 2 ^ 24) ∧ (∀ k, k ≠ c → t.bcore k = s.bcore k) ∧ t = { s with bc := t.bc })

/-- A load outside START, MAINT, SHOW and HOLD, or of more than 131,072 words, completes with its status; one of an unreadable image with 0x04, one whose check value is wrong
with 0x39. A good load waits with its words, and at the first boundary after is written from word 0 on: the core stops, with one frame resident, none parked and no event. At the
boundary after that it starts at word 0, waiting for nothing, and its command completes with OK. -/
def Obligations.BridgeLoads : Prop :=
  (∀ (s : State) (q : Nat) (image : Option (List Byte)) (cmd : RingCmd), (s.hostRing q).cmd = some cmd → cmd.op = 0x12 →
    cmd.began = false →
    let c := cmd.a 0 % 2
    let n := cmd.a 4
    let mode := s.opMode = 1 ∨ s.opMode = 2 ∨ s.opMode = 4 ∨ s.opMode = 5
    (¬ mode → exec (.loadBridge q image) s = .next (s.ringEnd q 0 0x38 0)) ∧
    (mode → 131072 < n → exec (.loadBridge q image) s = .next (s.ringEnd q 0 0x3A 0)) ∧
    (mode → n ≤ 131072 → (s.bcore c).load = none → bit (cmd.a 0) 1 = false →
      (0 < n → image = none ∨ s.hostReadable = false → exec (.loadBridge q image) s = .next (s.ringEnd q 0 0x04 0)) ∧
      (∀ bs, image = some bs → s.hostReadable = true → bs.length = 4 * n → 0 < n →
        (crc32 bs ≠ cmd.a 5 → ∃ u : State, exec (.loadBridge q image) s = .next (u.ringEnd q 0 0x39 0) ∧ u.bc = s.bc ∧
          u.get Hdr.BUSY (bcPage c) = 0) ∧
        (crc32 bs = cmd.a 5 → ∃ t : State, exec (.loadBridge q image) s = .next t ∧
          t.bcore c = { s.bcore c with load := some (cmd.a 1, (leWords bs).map (· % 2 ^ 24)), ring := q, since := s.idx, ready := false } ∧
          t.get Hdr.BUSY (bcPage c) = 1 ∧ t = { s with regs := t.regs, host := t.host, bc := t.bc })))) ∧
  (∀ (s : State) (c mask : Nat) (ws : List Nat), c < 2 → (s.bcore c).load = some (mask, ws) → (s.bcore c).ready = false →
    (s.bcore c).since ≠ s.idx → ws ≠ [] → ws.length ≤ 131072 →
    ∃ t : State, exec (.bridgeLoadWrite c) s = .next t ∧ (t.bcore c).halted = true ∧ (t.bcore c).ready = true ∧
      (t.bcore c).fp = 0 ∧ (t.bcore c).res = 1 ∧ (t.bcore c).parked = 0 ∧ (t.bcore c).event = false ∧ (t.bcore c).since = s.idx ∧
      (∀ i, i < ws.length → i < bcWords → (t.bcore c).core.word i = ws.getD i 0 % 2 ^ 24) ∧
      (∀ i, ws.length ≤ i → (t.bcore c).core.word i = (s.bcore c).core.word i) ∧
      (t.bcore c).core.win = (s.bcore c).core.win ∧ ∀ k, k ≠ c → t.bcore k = s.bcore k) ∧
  (∀ (s : State) (c mask : Nat) (ws : List Nat), c < 2 → (s.bcore c).load = some (mask, ws) → (s.bcore c).ready = true →
    (s.bcore c).since ≠ s.idx →
    ∃ u : State, exec (.bridgeCoreStart c) s = .next (u.ringEnd (s.bcore c).ring 0 0 0) ∧
      u.bcore c = { s.bcore c with core := { (s.bcore c).core with pc := 0, flags := 0 }, halted := false, waits := false, event := false,
                                   at' := s.clk.now, load := none, ready := false } ∧
      (∀ k, k ≠ c → u.bcore k = s.bcore k) ∧ u.get Hdr.BUSY (bcPage c) = 0 ∧
      u.getB Hdr.RUNNING (bcPage c) = !s.getB Hdr.FENCED (bcPage c))

/-- Where the mode allows staging: OPEN takes the lowest FREE slot, OPEN and without moves, and answers its number; with none it answers SLOTS_FULL; other slots stay. A ring's CLOSE under HOLD
of a slot whose moves are admitted makes it READY, or DERIVING while derivations are owed; one that is refused frees the slot with the refusal. ARM of a READY slot under NEXT makes it
ARMED with its trigger fired. ABORT frees a staged slot. Each answers SLOT_STATE for a slot in another state, and SCN_MODE where staging is not allowed. -/
def Obligations.SlotCommands : Prop :=
  (∀ (s : State) (p : Plane) (slot : Nat), s.getP p Reg.SCNC_CMD_BUSY = 0 → slot < 32 →
    let answered := fun (t : State) (st n : Nat) => t.getP p Reg.SCNC_CMD_BUSY = 0 ∧ t.getP p Reg.SCNC_CMD_DONE = 1 ∧
      t.getP p Reg.SCNC_CMD_STATUS = st ∧ t.getP p Reg.SCNC_STAT_SLOT = n
    (s.stagingOff = false →
      (∀ i, (List.range 16).find? (fun j => s.slotState j == 0) = some i →
        ∃ t : State, exec (.openSlot (.reg p)) s = .next t ∧ answered t 0 i ∧ t.slotState i = 1 ∧ t.slot i = {} ∧
          ∀ j, j < 16 → j ≠ i → t.slotState j = s.slotState j ∧ t.slot j = s.slot j) ∧
      ((∀ i, i < 16 → s.slotState i ≠ 0) →
        ∃ t : State, exec (.openSlot (.reg p)) s = .next t ∧ t.getP p Reg.SCNC_CMD_STATUS = 0x40 ∧ t = { s with regs := t.regs }) ∧
      (16 ≤ slot → ∃ t : State, exec (.abort (.reg p) slot) s = .next t ∧ answered t 0x53 slot ∧ t = { s with regs := t.regs }) ∧
      (slot < 16 → s.slotState slot = 0 ∨ s.slotState slot = 5 →
        ∃ t : State, exec (.abort (.reg p) slot) s = .next t ∧ answered t 0x41 slot ∧ t = { s with regs := t.regs })) ∧
    (s.stagingOff = true → s.pageDark 0x51 = false →
      (∃ t : State, exec (.close (.reg p) slot) s = .next t ∧ answered t 0x49 slot ∧ t = { s with regs := t.regs }) ∧
      ∃ t : State, exec (.arm (.reg p) slot) s = .next t ∧ answered t 0x49 slot ∧ t = { s with regs := t.regs })) ∧
  (∀ (s : State) (q i : Nat) (c : RingCmd), s.ringCmd q 0x10 = some c → bits (c.a 0) 8 4 = i → i < 16 → s.stagingOff = false →
    s.partnerFollows = false → s.scn.load = none →
    (bits (c.a 0) 3 0 = 2 → c.a 1 = 3 → s.slotState i = 1 → (s.slot i).failed = 0 →
      (s.admission s.stagedMoves (s.slot i).moves = 0 →
        ∃ u : State, exec (.close (.ring q) i) s = .next (u.ringEnd q i 0 0) ∧ (u.slot i).moves = (s.slot i).moves ∧
          u.get Reg.SLOT_TRIG i = 3 ∧ u.slotState i = if (s.slot i).moves.all (·.derive == 0) then 3 else 2) ∧
      (∀ st, st ≠ 0 → s.admission s.stagedMoves (s.slot i).moves = st →
        ∃ u : State, exec (.close (.ring q) i) s = .next (u.ringEnd q i st 0) ∧ u.slotState i = 0 ∧ u.slot i = {} ∧
          u.get Reg.SCN_IRQ_REFUSED = 1)) ∧
    (bits (c.a 0) 3 0 = 2 → c.a 1 = 3 → s.slotState i ≠ 1 →
      exec (.close (.ring q) i) s = .next ((s.ringBegan q).ringEnd q i 0x41 0)) ∧
    (bits (c.a 0) 3 0 = 3 → c.a 1 = 0 → s.slotState i = 3 → s.opMode = 4 ∨ s.opMode = 5 →
      ∃ u : State, exec (.arm (.ring q) i) s = .next (u.ringEnd q i 0 0) ∧ u.slotState i = 4 ∧ (u.slot i).fired = true ∧
        (u.slot i).order = s.scn.orders + 1 ∧ (u.slot i).moves = (s.slot i).moves ∧ u.get Reg.SLOT_TRIG i = 0) ∧
    (bits (c.a 0) 3 0 = 3 → c.a 1 = 0 → s.slotState i ≠ 3 →
      exec (.arm (.ring q) i) s = .next ((s.ringBegan q).ringEnd q i 0x41 0)) ∧
    (bits (c.a 0) 3 0 = 4 → 1 ≤ s.slotState i → s.slotState i ≤ 4 →
      ∃ u : State, exec (.abort (.ring q) i) s = .next (u.ringEnd q i 0 0) ∧ u.slotState i = 0 ∧ u.slot i = {} ∧
        ∀ x ∈ u.eph.entries, isCommitOf i x = false))

/-- A ring's LOAD_IMAGE into an open, empty slot with its check-value unit free starts the load and claims the unit; while another load runs it frees the slot with IMG_BUSY. An image whose
header is wrong frees the slot with IMG_HEADER, and its unit; one whose records are received and admitted, nothing to derive, with the right check value, leaves the slot READY under
HOLD and the unit free. MOVES without data answers BUS_ERR, with data the status and index of the first failure. -/
def Obligations.ImagesAndMoves : Prop :=
  (∀ (s : State) (q i : Nat) (c : RingCmd), s.ringCmd q 0x10 = some c → bits (c.a 0) 8 4 = i → i < 16 → s.stagingOff = false →
    let dram := c.a 3 % 2 == 1
    let addr := argAddr (c.a 1) (c.a 2) 6
    let cvu := bits (c.a 3) 5 4
    (bits (c.a 0) 3 0 = 5 → imageAddrOk dram addr = true → s.slotState i = 1 → (s.slot i).moves = [] →
      (s.scn.load = none → s.getB Reg.CVU_EN cvu = false → s.getB Reg.CVU_CLAIMED cvu = false →
        ∃ t : State, exec (.loadImage (.ring q) i) s = .next t ∧
          t.scn.load = some { who := .ring q, slot := i, dram := dram, addr := addr, cvu := cvu } ∧ t.get Reg.CVU_CLAIMED cvu = 1 ∧
          t.get Reg.CVU_EN cvu = 1 ∧ t.get Hdr.BUSY 0x50 = 1 ∧ t.slotState i = 1) ∧
      (s.scn.load ≠ none → s.partnerFollows = false →
        ∃ u : State, exec (.loadImage (.ring q) i) s = .next (u.ringEnd q i 0x50 0) ∧ u.slotState i = 0 ∧ u.scn.load = s.scn.load)) ∧
    (bits (c.a 0) 3 0 = 6 → s.slotState i = 1 → 1 ≤ c.a 3 % 8192 → c.a 3 % 8192 ≤ 4096 →
      exec (.moves (.ring q) i none) s = .next ((s.ringBegan q).ringEnd q i 0x04 0) ∧
      ∀ ws : List Word, s.hostReadable = true → ws.length = 4 * (c.a 3 % 8192) →
        ∃ (st k : Nat) (u : State), (s.ringBegan q).slotReceiveAll i 0 (recsOf (ws.map (·.toNat))) = ((st, k), u) ∧
          exec (.moves (.ring q) i (some ws)) s = .next (u.ringEnd q i st k))) ∧
  (∀ (s : State) (q : Nat) (l : ImageLoad) (image : List Byte), s.scn.load = some l → l.closing = false → l.who = .ring q →
    l.dram = false → l.slot < 16 → s.hostReadable = true → s.partnerFollows = false →
    let n := 64 + 16 * (imgHead (image.take 64)).count
    let b := image.take n
    image.length = n →
    ((imgHead b).good = false →
      ∃ u : State, exec (.imageLoadEnd image false) s = .next (u.ringEnd q l.slot 0x4E 0) ∧ u.slotState l.slot = 0 ∧
        u.scn.load = none ∧ u.get Reg.CVU_EN l.cvu = 0 ∧ u.get Reg.SCN_IRQ_IMG_DONE = 1) ∧
    (∀ u v, (imgHead b).good = true → (imgHead b).prog = 0 →
      (((s.put Reg.SLOT_IMAGE l.slot 1).put Reg.SLOT_SCENE l.slot (imgHead b).scene).cvuFeed l.cvu (b.take 0x38 ++ b.drop 64)).slotReceiveAll
        l.slot 0 (recsOf (leWords (b.drop 64))) = ((0, 0), u) →
      u.cvuResult l.cvu = (imgHead b).check → u.closeSlot l.slot = (0, v) → v.slotState l.slot = 2 →
      (v.slot l.slot).moves.all (·.derive == 0) = true →
      ∃ w : State, exec (.imageLoadEnd image false) s = .next (w.ringEnd q l.slot 0 0) ∧ w.slotState l.slot = 3 ∧
        w.get Reg.SLOT_TRIG l.slot = 3 ∧ w.scn.load = none ∧ w.get Reg.CVU_EN l.cvu = 0))

/-- At the cutoff, no earlier than its time, an ARMED slot whose trigger has fired is marked to commit at the coming boundary, as is every derived live move; slots that do not commit keep their moves. In FOLLOW
nothing is marked. Pairs that waited for a running pair begin at their first sample, and nothing else changes.
A record pushed at a port into an open slot that receives it is kept there; into another slot it answers SLOT_STATE. A live write that is received and admitted in SHOW or HOLD waits in the live lane
with no word changed; in MAINT it takes effect at once; where staging is not allowed it is counted and reported as refused. The last derivation of a slot under HOLD makes it READY. -/
def Obligations.PortsLiveLaneAndCutoff : Prop :=
  ((∀ (s : State), s.opMode ≠ 3 → s.partnerFollows = false →
    ∃ t : State, exec .sceneCutoff s = .next t ∧ s.cutoff s.nextBoundary ≤ t.clk.now ∧ t.clk.idx = s.clk.idx ∧ t.scn.runs = s.scn.runs ∧
      (∀ i, i < 16 → s.slotState i = 4 → (s.slot i).fired = true → (s.slot i).commit = none →
        t.slot i = { s.slot i with commit := some (s.clk.idx + 1) } ∧ t.slotState i = 4) ∧
      (∀ i, i < 16 → (s.slot i).fired = false → t.slot i = s.slot i) ∧
      t.scn.live = s.scn.live.map fun x => if x.2.isNone && x.1.derive == 0 then (x.1, some (s.clk.idx + 1)) else x) ∧
  (∀ (s : State), s.opMode = 3 →
    ∃ t : State, exec .sceneCutoff s = .next t ∧ t = { s with clk := { s.clk with now := t.clk.now } }) ∧
  (∀ (s : State), ∃ t : State, exec .deferredXfadeStart s = .next t ∧ t = { s with scn := { s.scn with runs := t.scn.runs } } ∧
    t.scn.runs = s.scn.runs.map fun r => { r with defer := r.defer && !decide (r.first ≤ s.clk.idx) })) ∧
  ((∀ (s : State) (p : Plane) (lane : Nat), lane < 16 → s.domState 3 = 3 → s.stagingOff = false →
    let r := recOf ((List.range 4).map fun i => s.getP p Reg.SCNC_PORT_W i)
    (∀ m, s.slotState lane = 1 → s.checkReceipt lane r = (0, some m) →
      ∃ t : State, exec (.scnPortPush p lane) s = .next t ∧ t.getP p Reg.SCNC_PORT_DONE = 1 ∧ t.getP p Reg.SCNC_PORT_STATUS = 0 ∧
        (t.slot lane).moves = (s.slot lane).moves ++ [m] ∧ t.get Reg.SLOT_STATE lane = 1 ∧ t.scn.live = s.scn.live ∧
        t.scn.runs = s.scn.runs) ∧
    (s.slotState lane ≠ 1 → ∃ t : State, exec (.scnPortPush p lane) s = .next t ∧ t.getP p Reg.SCNC_PORT_DONE = 1 ∧
      t.getP p Reg.SCNC_PORT_STATUS = 0x41 ∧ t = { s with regs := t.regs })) ∧
  (∀ (s : State) (off : Nat) (v : Word) (m : SMove), off % 4 = 0 → regWriteMask off ≠ 0 → s.domState (pageDomain (off / 4096)) = 3 →
    s.partnerFollows = false → s.checkReceipt 16 (liveRec off v.toNat) = (0, some m) → s.admission s.stagedMoves [m] = 0 →
    (∀ x ∈ s.scn.live, x.1.target ≠ m.target) → s.opMode = 4 ∨ s.opMode = 5 →
    ∃ t : State, exec (.liveWrite off v) s = .next t ∧ t.scn.live = s.scn.live ++ [(m, none)] ∧ t.word off = s.word off ∧
      t.scn.slots = s.scn.slots ∧ t.scn.runs = s.scn.runs ∧ t.dp = s.dp) ∧
  (∀ (s : State) (v : Word) (m : SMove), s.domState 3 = 3 → s.opMode = 2 → s.scn.live = [] →
    s.checkReceipt 16 (liveRec (fldAt Reg.MTR_BASE_HI 0) v.toNat) = (0, some m) → s.admission s.stagedMoves [m] = 0 →
    ∃ t : State, exec (.liveWrite (fldAt Reg.MTR_BASE_HI 0) v) s = .next t ∧ t.get Reg.MTR_BASE_HI = v.toNat ∧ t.scn.live = [] ∧
      t.get Reg.SCN_LIVE_CNT = satInc 32 (s.get Reg.SCN_LIVE_CNT) 1 ∧ t.dp = s.dp) ∧
  (∀ (s : State) (off : Nat) (v : Word), off % 4 = 0 → regWriteMask off ≠ 0 → s.domState (pageDomain (off / 4096)) = 3 → off < 2 ^ 24 →
    s.stagingOff = true →
    ∃ t : State, exec (.liveWrite off v) s = .next t ∧ t.get Reg.SCN_LIVE_REFUSED = satInc 32 (s.get Reg.SCN_LIVE_REFUSED) 1 ∧
      t.get Reg.SCN_STATUS = 0x49 ∧ t.get Reg.SCN_TARGET = off ∧ t.get Reg.SCN_IRQ_LIVE_REFUSED = 1 ∧ t = { s with regs := t.regs }) ∧
  (∀ (s : State) (i word : Nat), i < 16 → s.slotState i = 2 → s.scn.load = none → s.get Reg.SLOT_TRIG i = 3 → s.opMode = 4 ∨ s.opMode = 5 →
    (∀ m ∈ (s.slot i).moves, m.derive = 0 ∨ (m.target.kind = 0 ∧ m.target.addr = word)) →
    ∃ t : State, exec (.derivationDone i word) s = .next t ∧ t.slotState i = 3 ∧ (t.slot i).moves.length = (s.slot i).moves.length ∧
      (∀ m ∈ (t.slot i).moves, m.derive = 0) ∧ t.get Reg.SCN_IRQ_READY = 1 ∧ t.dp = s.dp))

/-- A CUE_OUT entry with good fields, with room, 512 thirds of a nanosecond or more ahead, is inserted and answered with its handle; one that is not is refused with BAD_ARG, EPH_FULL or EPH_PAST. A cancel removes the cue entry
of the handle and no other. A cue output fires no earlier than its time, leaves the Ephemeris and drives its line to the pulse's level; the end of its only pulse returns the line. A confirmed edge fires the triggers that
wait for it. The read of the next time answers the earliest entry's. -/
def Obligations.EphemerisAndCues : Prop :=
  (∀ (s : State) (p : Plane) (v : Word), s.domState 3 = 3 → v.toNat % 2 = 1 →
    let t := statedTime (s.getP p Reg.EPH_W1) (s.getP p Reg.EPH_W2) (s.getP p Reg.EPH_W3)
    let kind := EphKind.cueOut (s.getP p Reg.EPH_LINE) (s.getP p Reg.EPH_POL == 1) (s.getP p Reg.EPH_WIDTH)
    let good := s.getP p Reg.EPH_KIND = 2 ∧ s.getP p Reg.EPH_WIDTH ≠ 0 ∧ s.getP p Reg.EPH_W3 < 1000000000
    let refused := fun (st : Nat) => ∃ u : State, exec (.ephPush p v) s = .next u ∧ u.getP p Reg.EPH_STATUS = st ∧
      u.getP p Reg.EPH_DONE = 1 ∧ u.eph = s.eph ∧ u = { s with regs := u.regs }
    (¬ good → refused 0x53) ∧ (good → s.ephRoom = false → refused 0x4A) ∧
    (good → s.ephRoom = true → t < s.thirds + 512 → refused 0x4B) ∧
    (good → s.ephRoom = true → s.thirds + 512 ≤ t →
      ∃ (h : Nat) (u : State), exec (.ephPush p v) s = .next u ∧ u.getP p Reg.EPH_STATUS = 0 ∧ u.getP p Reg.EPH_DONE = 1 ∧
        u.getP p Reg.EPH_HANDLE = h % 2 ^ fldWidth Reg.EPH_HANDLE ∧
        u.eph.entries = ephInsert { time := t, kind := kind, handle := h } s.eph.entries ∧ u.dp = s.dp ∧ u.scn = s.scn)) ∧
  (∀ (s : State) (v : Word), s.domState 3 = 3 →
    ∃ u : State, exec (.ephCancel v) s = .next u ∧ u = { s with regs := u.regs, eph := { s.eph with entries := u.eph.entries } } ∧
      u.eph.entries = s.eph.entries.filter fun x => !(isCueOut x && x.handle == v.toNat % 4096)) ∧
  (∀ (s : State) (x : EphEntry) (line width : Nat) (pol : Bool), s.eph.entries.find? isCueOut = some x → x.kind = .cueOut line pol width →
    x.passed = false → s.ptp.run = true →
    (∀ y ∈ s.eph.pulses, y.line ≠ line) →
    ∃ u : State, exec (.cueOutFire x.handle) s = .next u ∧ tget false u.eph.lines line = !pol ∧
      u.eph.entries = s.eph.entries.filter (fun y => !(y == x)) ∧ u.get Reg.EPH_IRQ_CUE_OUT = 1 ∧
      u.get Reg.EPH_FIRED = satInc 32 (s.get Reg.EPH_FIRED) 1 ∧ s.edgeOf x.time ≤ u.clk.now ∧
      u.eph.pulses = s.eph.pulses ++ [{ line := line, pol := pol, start := u.clk.now, stop := u.clk.now + 3000 * width }]) ∧
  (∀ (s : State) (line : Nat), s.eph.pulses.filter (·.line == line) = [] → exec (.cueOutPulseEnd line) s = .next s) ∧
  (∀ (s : State) (line : Nat) (y : Pulse), s.eph.pulses = [y] → y.line = line →
    ∃ u : State, exec (.cueOutPulseEnd line) s = .next u ∧ u.eph.pulses = [] ∧ y.stop ≤ u.clk.now ∧ tget false u.eph.lines line = y.pol ∧
      u.regs = s.regs) ∧
  (∀ (s : State) (line i : Nat) (level : Bool), line < 4 → i < 16 → s.onBall 0x0A line = true → s.getB Reg.SCNQ_CUE_EN line = true →
    s.get Reg.SLOT_TRIG i = 2 → s.slotState i = 4 → (s.slot i).fired = false → (s.slot i).cue = line →
    (s.slot i).edge = (if level then 0 else 1) →
    ∃ u : State, exec (.cueEdgeConfirm line level) s = .next u ∧ (u.slot i).fired = true ∧
      bit (u.get Reg.SCNQ_CUE_LEVEL) line = level ∧ u.get Reg.SCNQ_CUE_CNT line = satInc 32 (s.get Reg.SCNQ_CUE_CNT line) 1 ∧
      u = { s with regs := u.regs, scn := { s.scn with slots := u.scn.slots } }) ∧
  (∀ (s : State) (slot : Nat) (x : EphEntry), s.eph.entries.find? (isCommitOf slot) = some x → x.passed = false →
    x.time ≤ s.ptp.thirdsAt s.nextBoundary →
    ∃ u : State, exec (.ephCommitFire slot) s = .next u ∧ (u.slot slot).fired = true ∧
      u.eph.entries = s.eph.entries.filter (fun y => !(y == x)) ∧ s.cutoff s.nextBoundary ≤ u.clk.now ∧ u.dp = s.dp) ∧
  (∀ (s : State) (x : EphEntry) (xs : List EphEntry), s.domState 3 = 3 → s.eph.entries = x :: xs →
    ∃ u : State, exec (.ephNextSecLoRead .host) s = .next u ∧ u.host.readHost = [BitVec.ofNat 32 (secOf x.time)] ∧
      u.getP .host Reg.EPH_NEXT_SEC_HI = secOf x.time / 2 ^ 32 % 2 ^ fldWidth Reg.EPH_NEXT_SEC_HI ∧
      u.getP .host Reg.EPH_NEXT_NS = nsOf x.time % 2 ^ fldWidth Reg.EPH_NEXT_NS)

/-- In PARK measurement instants and the timers do nothing. An event of a candidate marks its time and makes it active; a candidate without activity loses none. Losing it, by declaration in PARK, makes it inactive, ABSENT and unmeasured. A measurement
instant comes an eighth of a second after the last, no earlier, and Heliostat's timers of ACQUIRE, HOLDOVER and WTR run out no earlier than they are due, where they lead to the decision of R322. -/
def Obligations.HeliostatCandidatesAndTimers : Prop :=
  (∀ (s : State) (raw : List (Option Int)) (trim phase : Int), s.opMode = 0 → exec (.measurementInstant raw trim phase) s = .next s ∧
    exec .acqTimeout s = .next s ∧ exec .acqHoldoffExpire s = .next s ∧ exec .wtrExpire s = .next s) ∧
  (∀ (s : State) (c : Nat), c < 8 → s.opMode = 0 →
    (∃ t : State, exec (.activityEvent c) s = .next t ∧ (t.cand c).last = s.clk.now ∧ (t.cand c).since.isSome = true ∧
      (∀ k, k ≠ c → t.cand k = s.cand k) ∧ ((s.cand c).since = none → t.get Reg.HEL_ACTIVE c = 1) ∧
      t = { s with regs := t.regs, hel := t.hel }) ∧
    ((s.cand c).since = none → exec (.activityLoss c true) s = .next s) ∧
    ((s.cand c).since ≠ none → ∃ t : State, exec (.activityLoss c true) s = .next t ∧ (t.cand c).since = none ∧
      (t.cand c).meas = false ∧ t.get Reg.HEL_ACTIVE c = 0 ∧ t.get Reg.HEL_STATUS c = 0 ∧ t.get Reg.HEL_IN_RANGE c = 0 ∧
      t = { s with regs := t.regs, hel := t.hel })) ∧
  (∀ (s : State) (c : Nat), c < 8 → s.opMode ≠ 0 → s.candEn c = true → (s.cand c).since = none → s.get Reg.HEL_STATUS c = 0 →
    ∃ t : State, exec (.activityEvent c) s = .next t ∧ t.get Reg.HEL_STATUS c = 1 ∧ (t.cand c).since = some s.clk.now) ∧
  (∀ (s : State) (raw : List (Option Int)) (trim phase : Int), s.opMode ≠ 0 →
    ∃ u : State, exec (.measurementInstant raw trim phase) s = .next u.showHold ∧ u.hel.inst = max s.clk.now (s.hel.inst + 375000000) ∧
      u.clk.now = u.hel.inst ∧ u.clk.idx = s.clk.idx) ∧
  (∀ (s : State), s.opMode ≠ 0 →
    (s.helState = 1 → ∃ u : State, exec .acqTimeout s = .next u.helDecide ∧
      u = { s with clk := { s.clk with now := max s.clk.now (s.hel.since + 90000000000) } }) ∧
    (s.helState = 3 → ∃ u : State, exec .acqHoldoffExpire s = .next u.helDecide ∧
      u = { s with clk := { s.clk with now := max s.clk.now (s.hel.since + s.helHoldoff * 3000000000) } }) ∧
    (∀ a, s.helState = 2 → s.helWtr ≠ 0 →
      (s.candsBy fun c => s.get Reg.HEL_STATUS c == 2 && decide (s.candPrio c < s.candPrio s.helSel)) = [a] →
      ∃ u : State, exec .wtrExpire s = .next u.helDecide ∧
        u = { s with clk := { s.clk with now := max s.clk.now ((s.cand a).accAt + s.helWtr * 3000000000) } }))

/-- A decided step moves the clock by whole base periods at a base-grid boundary, counts it and shows it. A read of the time answers the low word and latches the others of one instant for the reading plane. A pop by the manager drops the oldest timestamp; the
host's does nothing. A push of a disabled servo or with nanoseconds out of range is counted as rejected; a SYNC push without a path delay shows no measurement. The path delay is invalid 64 s after its last.
At a carry of the seconds, with no set, load or armed change waiting, the calendar counts one second on by the Gregorian rules, and a wrap of the century is shown. A set with a date the calendar holds waits for the next carry, which shows it; another date is an error. Arming takes
effect where 1 is written. A read of the date answers it and latches the time for the reading plane. -/
def Obligations.PtpClockServosAndCalendar : Prop :=
  ((∀ (s : State), s.ptp.step = none → exec .ptpStep s = .next s) ∧
  (∀ (s : State) (n : Int), s.ptp.step = some n → s.ptp.run = true →
    ∃ u : State, exec .ptpStep s = .next (u.stepBy n) ∧ u = { s with clk := { s.clk with now := max s.clk.now s.nextGrid } } ∧
      ∃ t : State, u.stepBy n = t ∧ t.ptp.step = none ∧ t.ptp.steps = s.ptp.steps + 1 ∧ t.ptp.at0 = u.clk.now ∧
        t.ptp.base = (((u.thirds : Int) + n * 62500) % (ptpModulus : Int)).toNat) ∧
  (∀ (s : State), s.domState 3 = 3 →
    ∃ t : State, exec (.timeSecLoRead .host) s = .next t ∧ t.host.readHost = [BitVec.ofNat 32 (secOf s.thirds)] ∧
      t.word (planeKey .host (fldAt Reg.TIME_SEC_HI 0)) = BitVec.ofNat 32 (secOf s.thirds / 2 ^ 32) ∧
      t.word (planeKey .host (fldAt Reg.TIME_NS 0)) = BitVec.ofNat 32 (nsOf s.thirds) ∧
      t.word (planeKey .host (fldAt Reg.TIME_FRAC 0)) = BitVec.ofNat 32 (fracOf s.thirds) ∧
      t.word (planeKey .host (fldAt Reg.TIME_TS32 0)) = BitVec.ofNat 32 (ts32Of s.thirds) ∧
      t = { s with regs := t.regs, host := t.host }) ∧
  (∀ (s : State) (v : Word), s.domState 3 = 3 → exec (.timeTxtsPop .host v) s = .next s ∧
    (v.toNat % 2 = 1 → ∃ t : State, exec (.timeTxtsPop .mgmt v) s = .next t ∧ t.ptp = { s.ptp with txts := s.ptp.txts.tail } ∧
      t.get Reg.TIME_TXTS_CNT = s.ptp.txts.tail.length % 2 ^ fldWidth Reg.TIME_TXTS_CNT ∧
      t = { s with regs := t.regs, ptp := t.ptp })) ∧
  (∀ (s : State) (x : Nat) (v : Word), x < 2 → s.domState 3 = 3 → v.toNat % 2 = 1 →
    (s.getB Reg.TIME_EN x = false ∨ 1000000000 ≤ s.get Reg.TIME_TA_NS x ∨ 1000000000 ≤ s.get Reg.TIME_TB_NS x →
      ∃ t : State, exec (.svxPush .mgmt x v) s = .next t ∧ t.get Reg.TIME_REJ_CNT x = satInc 32 (s.get Reg.TIME_REJ_CNT x) 1 ∧
        t.get Reg.TIME_IRQ_PUSH_REJ = 1 ∧ t = { s with regs := t.regs }) ∧
    (s.getB Reg.TIME_EN x = true → s.get Reg.TIME_TA_NS x < 1000000000 → s.get Reg.TIME_TB_NS x < 1000000000 →
      let ta : Int := (((s.get Reg.TIME_TA_SEC_LO x + 2 ^ 32 * s.get Reg.TIME_TA_SEC_HI x) * 1000000000 + s.get Reg.TIME_TA_NS x : Nat) : Int)
      let tb : Int := (((s.get Reg.TIME_TB_SEC_LO x + 2 ^ 32 * s.get Reg.TIME_TB_SEC_HI x) * 1000000000 + s.get Reg.TIME_TB_NS x : Nat) : Int)
      let d := (tb - ta) * 65536 - sx 64 (s.get Reg.TIME_CORR_LO x + 2 ^ 32 * s.get Reg.TIME_CORR_HI x)
      (s.get Reg.TIME_KIND x = 0 → s.getB Reg.TIME_MPD_VALID x = false →
        ∃ t : State, exec (.svxPush .mgmt x v) s = .next t ∧ (t.servo x).lastS = some d ∧ t.get Reg.TIME_MEAS_VALID x = 0 ∧
          t = { s with regs := t.regs, ptp := t.ptp }) ∧
      (∀ q, s.get Reg.TIME_KIND x = 1 → (s.servo x).lastS = some q →
        ∃ t : State, exec (.svxPush .mgmt x v) s = .next t ∧ (t.servo x).pairs = ({ s := q, d := d } :: (s.servo x).pairs).take 16 ∧
          (t.servo x).mpdAt = s.clk.now ∧ t.get Reg.TIME_MPD_VALID x = 1 ∧ t = { s with regs := t.regs, ptp := t.ptp })) ∧
    exec (.svxPush .host x v) s = .next s) ∧
  (∀ (s : State) (x : Nat), x < 2 → s.getB Reg.TIME_MPD_VALID x = true →
    ∃ t : State, exec (.mpdTimeout x) s = .next t ∧ (t.servo x).pairs = [] ∧ t.get Reg.TIME_MPD_VALID x = 0 ∧
      (s.servo x).mpdAt + 192000000000 ≤ t.clk.now)) ∧
  ((∀ (s : State), s.ptp.run = false → exec .secondsCarry s = .next s) ∧
  (∀ (s : State), s.ptp.run = true → s.getB Reg.CAL_TAI_UTC_ARM = false → s.getB Reg.CAL_AUTO = false → s.calendar.ok = true →
    (s.ptp.calSet = none →
      ∃ t : State, exec .secondsCarry s = .next t ∧ t.calendar = s.calendar.tick.1 ∧ t.calendar.ok = true ∧
        (s.calendar.tick.2 = true → t.get Reg.CAL_CENTURY_WRAP = 1) ∧ t.dp = s.dp ∧
        s.edgeOf ((secOf s.thirds + 1) * 3000000000) ≤ t.clk.now) ∧
    (∀ c : Civil, s.ptp.calSet = some (c.year, c.month, c.day, c.hour, c.minute, c.second) → c.ok = true →
      ∃ t : State, exec .secondsCarry s = .next t ∧ t.calendar = c ∧ t.ptp.calSet = none)) ∧
  (∀ c : Civil, c.ok = true → c.tick.1.ok = true ∧
    (c.tick.2 = true ↔ c = { year := 2199, month := 12, day := 31, hour := 23, minute := 59, second := 59 })) ∧
  (∀ (s : State) (v : Word), s.domState 3 = 3 →
    let c : Civil := { year := s.get Reg.CAL_SET_YEAR, month := s.get Reg.CAL_SET_MONTH, day := s.get Reg.CAL_SET_DAY,
                       hour := s.get Reg.CAL_SET_HOUR, minute := s.get Reg.CAL_SET_MINUTE, second := s.get Reg.CAL_SET_SECOND }
    (v.toNat % 2 = 0 → exec (.calSetGo v) s = .next s ∧ exec (.calTaiUtcArm v) s = .next s) ∧
    (v.toNat % 2 = 1 →
      (c.ok = true → ∃ t : State, exec (.calSetGo v) s = .next t ∧
        t.ptp = { s.ptp with calSet := some (c.year, c.month, c.day, c.hour, c.minute, c.second), calLoad := false } ∧
        t.get Reg.CAL_AUTO = 0 ∧ OnlyWords [fldAt Reg.CAL_AUTO 0] { s with ptp := t.ptp } t) ∧
      (c.ok = false → ∃ t : State, exec (.calSetGo v) s = .next t ∧ t.get Reg.CAL_DATE_ERR = 1 ∧ t.get Reg.CAL_IRQ_DATE_ERR = 1 ∧
        t = { s with regs := t.regs }) ∧
      ∃ t : State, exec (.calTaiUtcArm v) s = .next t ∧ t.get Reg.CAL_TAI_UTC_ARM = 1 ∧
        OnlyWords [fldAt Reg.CAL_TAI_UTC_ARM 0] s t)) ∧
  (∀ (s : State), s.domState 3 = 3 →
    ∃ t : State, exec (.calDateRead .host) s = .next t ∧ t.host.readHost = [s.word (fldAt Reg.CAL_YEAR 0)] ∧
      t.word (planeKey .host (fldAt Reg.CAL_HOUR 0)) = s.word (fldAt Reg.CAL_HOUR 0) ∧ t = { s with regs := t.regs, host := t.host }))

/-- A valid AES3 or clean MADI frame counts toward LOCK at an unlocked, enabled port with its ball; the eighth in a row locks it, with the frame's rate, and raises its interrupt; a MADI frame with the wrong channel count shows
FRAME_ERR and starts the count again. A port that is disabled or has no ball takes none. Lock loss of an AES3 receiver clears LOCK, MEDIA, BLK and the rate no earlier than 3 frame times after the last frame. Loss of signal sets LOS, clears LOCK and
begins the ramp of an enabled locked port, no earlier than 3 frame times; 64 samples on, the ramp has ended; a transition clears LOS. An EXTERNAL declared locked port gets MEDIA no earlier than 1 s after its phase held. A frame-sync edge in time at a TDM slave clears LOS, one out of
time counts an error, and one that was waited for locks. A frame at a master port in test gives LOCK. Only words, the ports and time change; no other port does. -/
def Obligations.PortReceivers : Prop :=
  ∀ (s : State), s.portsUp = true →
    let only := fun (p : Nat) (t : State) => t = { s with regs := t.regs, ports := t.ports } ∧ ∀ k, k ≠ p → t.rxp k = s.rxp k
    let onlyT := fun (p : Nat) (t : State) =>
      t = { s with regs := t.regs, ports := t.ports, clk := { s.clk with now := t.clk.now } } ∧ ∀ k, k ≠ p → t.rxp k = s.rxp k
    let late := fun (p : Nat) (t : State) => (s.rxp p).lastAt + s.threeFrames p ≤ t.clk.now
    (∀ r f, r < 32 → s.getB Reg.AESRX_EN r = true → s.onBall 0x01 r = true → s.rxLock r = false → (r ≠ s.aes11Port ∨ s.candEn 4 = false) →
      f.a.good = true → f.b.good = true → ∃ t : State, exec (.aes3RxFrame r f) s = .next t ∧ only r t ∧ t.get Reg.AESRX_LOS r = 0 ∧
        (t.rxp r).lastAt = s.clk.now ∧
        (if (s.rxp r).good < 7 then (t.rxp r).good = (s.rxp r).good + 1 ∧ t.rxLock r = false
         else t.get Reg.AESRX_LOCK r = 1 ∧ t.get Reg.AESRX_RATE r = f.rate % 2 ^ 18 ∧ t.get Reg.AESRX_IRQ_LOCK = 1 ∧
           bit (t.get Reg.AESRX_LOCK_MAP) r = true)) ∧
    (∀ r f, s.getB Reg.AESRX_EN r = false ∨ s.onBall 0x01 r = false → exec (.aes3RxFrame r f) s = .next s) ∧
    (∀ r, r < 32 → s.rxLock r = true → ∃ t : State, exec (.aes3LockLoss r) s = .next t ∧ onlyT r t ∧ t.get Reg.AESRX_LOCK r = 0 ∧
      t.get Reg.AESRX_MEDIA r = 0 ∧ t.get Reg.AESRX_BLK r = 0 ∧ t.get Reg.AESRX_RATE r = 0 ∧ bit (t.get Reg.AESRX_LOCK_MAP) r = false ∧ late r t) ∧
    (∀ p, p < 60 → s.rxLos p = false → (p ≠ s.aes11Port ∨ s.candEn 4 = false) →
      ∃ t : State, exec (.lossOfSignal p) s = .next t ∧ onlyT p t ∧ t.rxLos p = true ∧ t.rxLock p = false ∧ late p t ∧
        (t.rxp p).ramp = (if s.rxLock p && s.rxEn p then some 0 else none) ∧ (36 ≤ p → (t.rxp p).waitFs = true)) ∧
    (∀ p k, (s.rxp p).ramp = some k → 64 ≤ k →
      ∃ t : State, exec (.losRampEnd p) s = .next t ∧ only p t ∧ t.regs = s.regs ∧ (t.rxp p).ramp = none ∧ (t.rxp p).media = false) ∧
    (∀ p, p < 60 → ∃ t : State, exec (.signalReturn p) s = .next t ∧ only p t ∧ t.rxLos p = false ∧ (t.rxp p).lastAt = s.clk.now) ∧
    (∀ p, p < 36 → s.rxLock p = true → s.rxDecl p = true → s.rxFollow p = false → (s.rxp p).phase.isSome = true → s.opMode ≠ 3 →
      s.partnerFollows = false → ∃ t : State, exec (.mediaSet p) s = .next t ∧ onlyT p t ∧ t.rxMedia p = true ∧
        (s.rxp p).phaseAt + 3000000000 ≤ t.clk.now) ∧
    (∀ p, s.rxLock p = false → exec (.mediaSet p) s = .next s) ∧
    (∀ m f, m < 4 → s.getB Reg.MADI_RX_EN m = true → s.onBall 0x03 m = true → s.rxLock (32 + m) = false → f.mark = true →
      (∀ c ∈ f.chans, c.symbol = true ∧ c.parity = true) →
      (if s.get Reg.MADI_FRAME m = 2 then 64000 ≤ f.rate ∧ f.rate ≤ 108000 else 32000 ≤ f.rate ∧ f.rate ≤ 54000) →
      ∃ t : State, exec (.madiRxFrame m f) s = .next t ∧ only (32 + m) t ∧ t.get Reg.MADI_LOS m = 0 ∧
        (if f.chans.length = s.madiSlots m then
          (if (s.rxp (32 + m)).good < 7 then (t.rxp (32 + m)).good = (s.rxp (32 + m)).good + 1 ∧ t.rxLock (32 + m) = false
           else t.get Reg.MADI_LOCK m = 1 ∧ t.get Reg.MADI_RATE m = f.rate % 2 ^ 18 ∧ t.get Reg.MADI_IRQ_LOCK = 1)
         else t.get Reg.MADI_FRAME_ERR m = 1 ∧ (t.rxp (32 + m)).good = 0 ∧ t.rxLock (32 + m) = false)) ∧
    (∀ q n, q < 24 → s.tdmMaster q = false → s.tdmClocked q = true → ∃ t : State, exec (.tdmFsEdge q n) s = .next t ∧ only (36 + q) t ∧
      t.get Reg.TDM_LOS q = 0 ∧ (t.rxp (36 + q)).lastAt = s.clk.now ∧ (t.rxp (36 + q)).waitFs = false ∧
      ((s.rxp (36 + q)).waitFs = true → t.get Reg.TDM_LOCK q = 1 ∧ t.get Reg.TDM_RESTART q = 0) ∧
      ((s.rxp (36 + q)).waitFs = false → t.get Reg.TDM_FS_ERR q =
        if n = 32 * s.tdmSlots q then s.get Reg.TDM_FS_ERR q else satInc 16 (s.get Reg.TDM_FS_ERR q) 1)) ∧
    (∀ q slots rate, q < 24 → s.getB Reg.TDM_RX_EN q = true → s.tdmMaster q = true → s.getB Reg.TDM_RATE_ERR q = false →
      s.onBall 0x07 q = true → s.suspended (portUnit false (36 + q)) = true →
      ∃ t : State, exec (.tdmRxFrame q slots rate) s = .next t ∧ only (36 + q) t ∧ t.get Reg.TDM_LOCK q = 1 ∧ t.get Reg.TDM_LOS q = 0 ∧
        (t.rxp (36 + q)).rate = s.get Reg.TDM_RATE q)

/-- A frame of an enabled transmitter whose rate is possible is sent while outputs are driven: RUN shows 1, the frame is counted, it has the slots of its framing, and every slot of an AES3 or MADI line has even parity. A TDM slave without MEDIA sends silence in each slot. A
transmitter that is off or whose rate is impossible sends nothing. A restart of a master TDM port completes, one of a slave waits for its frame-sync edge. A VCXO output moves its code by no more than the slew allows while its loop runs; one whose loop does not run keeps
it. A ball that switches leaves its outgoing function at the release, stays held through the take, and carries its incoming function from its first frame on, with the interrupt. -/
def Obligations.PortTransmitters : Prop :=
  (∀ audio v u c, ones 32 (lineWord audio v u c) % 2 = 0) ∧
  ∀ (s : State),
    (∀ t, t < 32 → s.outputsUp = true → (s.txRate t).isSome = true → ∃ u : State, exec (.aes3TxFrame t) s = .next u ∧
      u.get Reg.AESTX_RUN t = 1 ∧ (u.txp t).frames = (s.txp t).frames + 1 ∧ (u.txp t).line.length = 2 ∧
      (∀ w ∈ (u.txp t).line, ones 32 w % 2 = 0) ∧ u.clk = s.clk ∧ u.mem = s.mem ∧ u.scn = s.scn) ∧
    (∀ t, s.txRate t = none → t < 32 → exec (.aes3TxFrame t) s = .next s) ∧
    (∀ m, m < 4 → s.outputsUp = true → (s.txRate (32 + m)).isSome = true → ∃ u : State, exec (.madiTxFrame m) s = .next u ∧
      u.get Reg.MADI_TX_RUN m = 1 ∧ (u.txp (32 + m)).frames = (s.txp (32 + m)).frames + 1 ∧
      (u.txp (32 + m)).line.length = s.madiSlots m ∧ (∀ w ∈ (u.txp (32 + m)).line, ones 32 w % 2 = 0) ∧
      u.clk = s.clk ∧ u.mem = s.mem ∧ u.scn = s.scn) ∧
    (∀ m, m < 4 → s.txRate (32 + m) = none → exec (.madiTxFrame m) s = .next s) ∧
    (∀ q, q < 24 → s.outputsUp = true → s.getB Reg.TDM_TX_EN q = true → s.getB Reg.TDM_RATE_ERR q = false → s.tdmMaster q = true →
      ∃ u : State, exec (.tdmTxFrame q) s = .next u ∧ u.get Reg.TDM_TX_RUN q = 1 ∧
        (u.txp (36 + q)).frames = (s.txp (36 + q)).frames + 1 ∧ (u.txp (36 + q)).line.length = s.tdmSlots q) ∧
    (∀ q, q < 24 → s.outputsUp = true → s.getB Reg.TDM_TX_EN q = true → s.getB Reg.TDM_RATE_ERR q = false → s.tdmMaster q = false →
      s.tdmClocked q = true → (s.rxp (36 + q)).waitFs = false → s.rxMedia (36 + q) = false →
      ∃ u : State, exec (.tdmTxFrame q) s = .next u ∧ u.get Reg.TDM_TX_RUN q = 1 ∧
        (u.txp (36 + q)).line = List.replicate (s.tdmSlots q) 0 ∧ u = { s with regs := u.regs, ports := u.ports }) ∧
    (∀ q, q < 24 → s.getB Reg.TDM_RESTART q = true → ∃ u : State, exec (.restart q) s = .next u ∧
      if s.tdmMaster q then u.get Reg.TDM_RESTART q = 0 ∧ OnlyWords [fldAt Reg.TDM_RESTART q] s u
      else u.regs = s.regs ∧ (u.rxp (36 + q)).waitFs = true ∧ u = { s with ports := u.ports }) ∧
    (∀ q, s.getB Reg.TDM_RESTART q = false → exec (.restart q) s = .next s) ∧
    (∀ v off, v < 4 → s.loopRuns v = true → ∃ u : State, exec (.vcxoLoopUpdate v off) s = .next u ∧ u.get Reg.PMUX_RUN v = 1 ∧
      (let room := s.get Reg.PMUX_VCXO_SLEW v * (s.clk.now - tget 0 s.ports.vcxoAt v) / 3000000000
       u.get Reg.PMUX_CODE v ≤ s.get Reg.PMUX_CODE v + room ∧ s.get Reg.PMUX_CODE v ≤ u.get Reg.PMUX_CODE v + room) ∧
      u = { s with regs := u.regs, ports := u.ports, free := s.free + 1 }) ∧
    (∀ v off, v < 4 → s.loopRuns v = false → ∃ u : State, exec (.vcxoLoopUpdate v off) s = .next u ∧ u.get Reg.PMUX_RUN v = 0 ∧
      u.get Reg.PMUX_CODE v = s.get Reg.PMUX_CODE v ∧ u = { s with regs := u.regs, ports := u.ports }) ∧
    (∀ n b, s.ports.balls.find? (·.ball == n) = some b → b.step = 0 → s.ballNow n = b.old ∧
      ∃ u : State, exec (.pmuxRelease n) s = .next u ∧ u.ballNow n = 0 ∧ u = { s with ports := { s.ports with balls := u.ports.balls } }) ∧
    (∀ n b, s.ports.balls.find? (·.ball == n) = some b → b.step = 1 → s.ballNow n = 0 ∧
      ∃ u : State, exec (.pmuxTake n) s = .next u ∧ u.ports.balls.find? (·.ball == n) = some { b with step := 2 } ∧ u.ballNow n = 0 ∧
        u = { s with ports := { s.ports with balls := u.ports.balls } }) ∧
    (∀ n b, n < 192 → s.ports.balls = [b] → b.ball = n → b.step = 2 → ∃ u : State, exec (.pmuxFirstFrame n) s = .next u ∧
      u.ballNow n = s.ballWord n ∧ u.get Reg.PMUX_PENDING = 0 ∧ u.get Reg.PMUX_IRQ_SWITCH = 1 ∧
      u = { s with regs := u.regs, ports := u.ports })

/-- A port without link receives nothing. A received frame is counted; one with a wrong FCS, a wrong length or no taker counts where R371 says and changes nothing else; one the host wants uses up the head descriptor of its ring, or counts a drop. A stream whose packets stop waits with its buffer
flushed and its paths down, no earlier than 8 packet times; a leg likewise. A launch takes its packet no earlier than its time, and outside SHOW and HOLD it is only counted as muted; with the port's link up a frame leaves and is counted, with it down it is dropped. A host or management frame at the head of its ring completes: with LINK_DOWN, with a read error, or sent with exactly its bytes; management
frames go first. A doorbell that runs behind fetches nothing; the expected descriptor joins the ring, one whose length is out of range completes at once. A link that comes up or goes down shows it, with its interrupt. -/
def Obligations.NetworkPorts : Prop :=
  ∀ (s : State),
    let regsOnly := fun (t : State) => t = { s with regs := t.regs }
    (∀ x f ok, s.netOn = false ∨ s.netUp x = false → exec (.netRxFrame x f ok) s = .next s) ∧
    (∀ x f, x < 2 → s.netOn = true → s.netUp x = true → ∃ t : State, exec (.netRxFrame x f false) s = .next t ∧ regsOnly t ∧
      t.get Reg.NET_RX_FRAMES x = satInc 32 (s.get Reg.NET_RX_FRAMES x) 1 ∧
      t.get Reg.NET_RX_FCS_ERR x = satInc 32 (s.get Reg.NET_RX_FCS_ERR x) 1 ∧ t.get Reg.NET_RX_DROP x = s.get Reg.NET_RX_DROP x) ∧
    (∀ x f, x < 2 → s.netOn = true → s.netUp x = true →
      (f.length < 60 ∨ 1518 < f.length ∨ (parseFrame f).ip = none ∧ s.hostWants x (parseFrame f).dst = false) →
      ∃ t : State, exec (.netRxFrame x f true) s = .next t ∧ regsOnly t ∧
        t.get Reg.NET_RX_FRAMES x = satInc 32 (s.get Reg.NET_RX_FRAMES x) 1 ∧
        t.get Reg.NET_RX_DROP x = satInc 32 (s.get Reg.NET_RX_DROP x) 1 ∧ t.get Reg.NET_RX_FCS_ERR x = s.get Reg.NET_RX_FCS_ERR x) ∧
    (∀ x f, x < 2 → s.netOn = true → s.netUp x = true → 60 ≤ f.length → f.length ≤ 1518 → (parseFrame f).etype ≠ 0x8808 →
      (parseFrame f).ip = none → s.hostWants x (parseFrame f).dst = true → ∃ t : State, exec (.netRxFrame x f true) s = .next t ∧
        ((s.netRing (ringIx x 1)).descs = [] →
          regsOnly t ∧ t.get Reg.NET_HOST_RX_DROP x = satInc 32 (s.get Reg.NET_HOST_RX_DROP x) 1) ∧
        (∀ d, (s.netRing (ringIx x 1)).descs.head? = some d →
          (t.netRing (ringIx x 1)).descs = (s.netRing (ringIx x 1)).descs.filter (·.seq != d.seq) ∧
          ((t.netRing (ringIx x 1)).records.head?.map (·.seq)) = some d.seq ∧ t.dp = s.dp ∧ t.clk = s.clk)) ∧
    (∀ i, s.get Reg.RXS_STATE i ≠ 2 → exec (.rxStreamWait i) s = .next s) ∧
    (∀ i, i < 256 → s.get Reg.RXS_STATE i = 2 → ∃ t : State, exec (.rxStreamWait i) s = .next t ∧ t.get Reg.RXS_STATE i = 1 ∧
      t.get Reg.RXS_PATH_A_UP i = 0 ∧ t.get Reg.RXS_PATH_B_UP i = 0 ∧ t.rxs i = {} ∧ t.get Reg.RXS_IRQ_RX_LOST (i / 64) = 1 ∧
      (s.rxs i).lastAt + 8 * packetEdges (s.rxw i 6) ≤ t.clk.now ∧ (∀ k, k ≠ i → t.rxs k = s.rxs k) ∧
      t = { s with regs := t.regs, net := t.net, clk := { s.clk with now := t.clk.now } }) ∧
    (∀ i at', i < 256 → (s.rxs i).legA = some at' → ∃ t : State, exec (.rxLegDown i 0) s = .next t ∧ t.get Reg.RXS_PATH_A_UP i = 0 ∧
      (t.rxs i).legA = none ∧ (t.rxs i).legB = (s.rxs i).legB ∧ (t.rxs i).buf = (s.rxs i).buf ∧
      at' + 8 * packetEdges (s.rxw i 6) ≤ t.clk.now ∧
      t = { s with regs := t.regs, net := t.net, clk := { s.clk with now := t.clk.now } }) ∧
    (∀ i, (s.rxs i).legB = none → exec (.rxLegDown i 1) s = .next s) ∧
    (∀ e j n i p rest, s.eph.entries = [e] → e.kind = .netLaunch j n → e.handle = 4096 + i → i < 256 → (s.txs i).ready = p :: rest →
      ∃ t : State, exec .packetLaunch s = .next t ∧ (t.txs i).ready = rest ∧ s.edgeOf e.time ≤ t.clk.now ∧
        (s.opMode ≠ 4 ∧ s.opMode ≠ 5 → t.get Reg.TXS_TX_MUTED i = satInc 16 (s.get Reg.TXS_TX_MUTED i) 1 ∧ t.net.sent = s.net.sent) ∧
        (s.opMode = 4 ∨ s.opMode = 5 → bits (s.txw i 0) 30 29 = 0 →
          (s.netUp 0 = true → t.get Reg.TXS_TX_PKTS i = satInc 32 (s.get Reg.TXS_TX_PKTS i) 1 ∧ t.net.sent.map (·.port) = some 0) ∧
          (s.netUp 0 = false → t.get Reg.TXS_TX_DROP i = satInc 16 (s.get Reg.TXS_TX_DROP i) 1 ∧ t.get Reg.TXS_DROP i = 1 ∧
            t.net.sent = s.net.sent))) ∧
    (s.eph.entries = [] → exec .packetLaunch s = .next s) ∧
    (∀ x data, s.txHead x 0 = none ∨ (s.txHead x 2).isSome = true → exec (.hostFrameTx x data) s = .next s) ∧
    (∀ x data q (d : NetDesc), x < 2 → s.netOn = true → s.txHead x q = some d → (q = 0 ∧ s.txHead x 2 = none ∨ q = 2) →
      ∃ t : State, exec (if q = 0 then .hostFrameTx x data else .mgmtFrameTx x) s = .next t ∧
        let got := if q = 0 then (if s.hostReadable then data.map (·.take d.len) else none) else s.busRead netMaster d.addr d.len
        let record := (t.netRing (ringIx x q)).records.head?
        let gone := (t.netRing (ringIx x q)).descs = (s.netRing (ringIx x q)).descs.filter (·.seq != d.seq)
        (s.netUp x = false → gone ∧ t.net.sent = s.net.sent ∧
          record = some { seq := d.seq, words := netCpl d.seq 0 0x62 s.ts32 d.cookie }) ∧
        (s.netUp x = true → got = none → gone ∧ t.net.sent = s.net.sent ∧
          record = some { seq := d.seq, words := netCpl d.seq 0 0x63 s.ts32 d.cookie }) ∧
        (∀ bytes, s.netUp x = true → got = some bytes → s.nextLaunch x = none → gone ∧ record.map (·.seq) = some d.seq ∧
          ∃ f, t.net.sent = some f ∧ f.port = x ∧ f.bytes = bytes ∧ f.stop = f.start + (max 60 bytes.length + 4) * s.byteTime x)) ∧
    (∀ x, s.txHead x 2 = none → exec (.mgmtFrameTx x) s = .next s) ∧
    (∀ x q v ds, 2 ≤ q ∨ s.netOn = false → exec (.netRingDb .host x q v ds) s = .next s) ∧
    (∀ p x q v ds, 2 ^ 31 ≤ (v.toNat + 2 ^ 32 - s.get Reg.NETR_RING_EXPECT (ringIx x q)) % 2 ^ 32 →
      exec (.netRingDb p x q v ds) s = .next s) ∧
    (∀ p x q (v : Word) ws, x < 2 → q < 2 → s.netOn = true → s.hostReadable = true → v.toNat = s.get Reg.NETR_RING_EXPECT (ringIx x q) →
      (ws.getD 0 0) = v → ∃ t : State, exec (.netRingDb p x q v [ws]) s = .next t ∧
        t.get Reg.NETR_RING_EXPECT (ringIx x q) = (v.toNat + 1) % 2 ^ 32 ∧
        let len := ((ws.getD 1 0).toNat) % 65536
        (if q = 0 then 60 ≤ len ∧ len ≤ 1518 else 1536 ≤ len) →
        (t.netRing (ringIx x q)).descs = (s.netRing (ringIx x q)).descs ++ [{ seq := v.toNat, words := ws }] ∧
        t = { s with regs := t.regs, net := t.net }) ∧
    (∀ x an, x < 2 → s.netOn = true → s.getB Reg.NET_UP x = false → s.unitDown { page := 0xA0, index := x } = false →
      ∃ t : State, exec (.netLinkUp x an) s = .next t ∧ regsOnly t ∧ t.get Reg.NET_UP x = 1 ∧
        t.get Reg.NET_SPEED_NOW x = s.get Reg.NET_SPEED x ∧ t.getB Reg.NET_AN_DONE x = (an && s.getB Reg.NET_AN x) ∧
        t.getB Reg.NET_FEC_LOCK x = s.getB Reg.NET_FEC x ∧ t.get Reg.NET_IRQ_LINK_UP x = 1) ∧
    (∀ x, s.getB Reg.NET_UP x = false → exec (.netLinkDown x) s = .next s) ∧
    (∀ x, x < 2 → s.getB Reg.NET_UP x = true → ∃ t : State, exec (.netLinkDown x) s = .next t ∧ regsOnly t ∧ t.get Reg.NET_UP x = 0 ∧
      t.get Reg.NET_LINK_DOWN_CNT x = satInc 32 (s.get Reg.NET_LINK_DOWN_CNT x) 1 ∧ t.get Reg.NET_IRQ_LINK_DOWN x = 1)

/-- A powered lane that locks shows CDR_LOCK, its signal, its rate code and its bit of the map; in PARK only the PCIe lanes do. A lane of no link in UP that loses its lock shows all of that cleared, with the interrupt. Adaptation shows its settings, or keeps those of a frozen lane. A checker that locks counts from then on; a checker that loses lock has
counted its bits and mismatches, saturating at 52 and 48 bits, counts a relock and raises the interrupt; one without lock counts nothing; a clear makes both counters and the relock count 0. A read of LANE_ERR_LO counts, answers the low word and latches the high word for the plane that reads. -/
def Obligations.SerdesLanes : Prop :=
  ∀ (s : State) (l : Nat), l < 14 →
    let counted := fun (bits errs : Nat) => (if s.getB Reg.LANE_CHK_LOCK l && s.getB Reg.LANE_PRBS_CHK l then
      { err := min (2 ^ 48 - 1) ((s.laneHw l).err + errs), bits := min (2 ^ 52 - 1) ((s.laneHw l).bits + bits) } else s.laneHw l : LaneHw)
    (∀ pcie, s.opMode ≠ 0 ∨ 2 ≤ l ∧ l < 6 → laneDomain l = 0 ∨ s.domState (laneDomain l) = 3 →
      s.unitDown { page := 0xA0, index := l } = false → ∃ t : State, exec (.laneCdrLock l pcie) s = .next t ∧ t.get Reg.LANE_CDR_LOCK l = 1 ∧
        t.get Reg.LANE_SIG_DET l = 1 ∧ t.get Reg.LANE_RATE l = s.laneRate l pcie % 16 ∧ bit (t.get Reg.LANE_CDR_MAP) l = true ∧
        t = { s with regs := t.regs, kzl := t.kzl }) ∧
    (∀ pcie, s.opMode = 0 → l < 2 ∨ 6 ≤ l → exec (.laneCdrLock l pcie) s = .next s) ∧
    (∀ low, s.getB Reg.LANE_CDR_LOCK l = false → exec (.laneCdrLost l low) s = .next s) ∧
    (∀ low, s.getB Reg.LANE_CDR_LOCK l = true → (∀ k, linkOfLane l = some k → s.getB Reg.KZL_UP k = false) →
      ∃ t : State, exec (.laneCdrLost l low) s = .next t ∧ t.get Reg.LANE_CDR_LOCK l = 0 ∧ t.get Reg.LANE_ADAPT_DONE l = 0 ∧
        t.get Reg.LANE_BLOCK_LOCK l = 0 ∧ t.get Reg.LANE_RATE l = 0 ∧ bit (t.get Reg.LANE_CDR_MAP) l = false ∧
        t.get Reg.LANE_IRQ_CDR_LOST = 1 ∧ (l < 2 → t.get Reg.NET_UP l = 0) ∧ t = { s with regs := t.regs }) ∧
    (∀ ctle dfe eye, s.getB Reg.LANE_CDR_LOCK l = false → exec (.laneAdaptDone l ctle dfe eye) s = .next s) ∧
    (∀ ctle dfe eye, s.getB Reg.LANE_CDR_LOCK l = true → ∃ t : State, exec (.laneAdaptDone l ctle dfe eye) s = .next t ∧
      t.get Reg.LANE_ADAPT_DONE l = 1 ∧
      t.get Reg.LANE_CTLE l = (if s.getB Reg.LANE_ADAPT_FREEZE l then s.get Reg.LANE_CTLE l else ctle % 16) ∧
      t.get Reg.LANE_EYE_H l = (if s.getB Reg.LANE_ADAPT_FREEZE l then s.get Reg.LANE_EYE_H l else bits eye.toNat 25 16) ∧
      t = { s with regs := t.regs, kzl := t.kzl }) ∧
    (∃ t : State, exec (.prbsChkLock l) s = .next t ∧
      t.get Reg.LANE_CHK_LOCK l = (if s.getB Reg.LANE_PRBS_CHK l then 1 else s.get Reg.LANE_CHK_LOCK l) ∧
      OnlyWords [fldAt Reg.LANE_CHK_LOCK l] s t) ∧
    (∀ n e, s.getB Reg.LANE_CHK_LOCK l = false → exec (.prbsChkRelock l n e) s = .next s) ∧
    (∀ n e, s.getB Reg.LANE_CHK_LOCK l = true → ∃ t : State, exec (.prbsChkRelock l n e) s = .next t ∧ t.laneHw l = counted n e ∧
      t.get Reg.LANE_CHK_LOCK l = 0 ∧ t.get Reg.LANE_CHK_RELOCK l = satInc 16 (s.get Reg.LANE_CHK_RELOCK l) 1 ∧
      t.get Reg.LANE_IRQ_CHK_LOST = 1 ∧ (∀ j, j ≠ l → t.laneHw j = s.laneHw j) ∧ t = { s with regs := t.regs, lanes := t.lanes }) ∧
    (∃ t : State, exec (.prbsClr l) s = .next t ∧ t.laneHw l = {} ∧ t.get Reg.LANE_CHK_RELOCK l = 0 ∧
      (∀ j, j ≠ l → t.laneHw j = s.laneHw j) ∧ t = { s with regs := t.regs, lanes := t.lanes }) ∧
    (∀ p n e, ∃ t : State, exec (.laneErrLoRead p l n e) s = .next t ∧ t.laneHw l = counted n e ∧
      (if p = .host then t.host.readHost else t.host.readMgmt) = [BitVec.ofNat 32 ((counted n e).err % 2 ^ 32)] ∧
      t.word (planeKey p (fldAt Reg.LANE_ERR_HI l)) = BitVec.ofNat 32 ((counted n e).err / 2 ^ 32) ∧
      t.word (planeKey p (fldAt Reg.LANE_BITS l)) = BitVec.ofNat 32 ((counted n e).bits / 2 ^ 20) ∧
      t = { s with regs := t.regs, lanes := t.lanes, host := t.host })

/-- A link in ALIGN with its lanes aligned goes to HELLO with their order and skew shown; a state that lasts 10 times its limit, no earlier, goes back to CDR and is counted. A frame of a valid CRC whose link word shows a ready partner takes a link in HELLO to UP. In UP the expected sequenced frame is accepted and RX_EXPECT moves on; one ahead counts a gap, asks for
retransmission and is not taken; an old one counts as a duplicate; a frame with a bad CRC is only counted; a link with a lane in test, or not in HELLO or UP, takes none. A slot of an UP link sends the oldest queued frame, 64 words, with the next SEQ, and holds it; other slots in use send an IDLE frame that takes no SEQ. A retransmit timer that runs out, no earlier than T_RTO, starts a go-back from
the oldest frame held. A link in UP that fails leaves UP with the cause shown, its buffers empty and its drop counted; cause 5 leaves it FENCED. -/
def Obligations.KaztalLinks : Prop :=
  ∀ (s : State) (k : Nat), k < 2 →
    let st := s.get Reg.KZL_STATE k
    (∀ map skew b pl, st = 3 → s.linkOn k = true → skew ≤ 528 → ∃ t : State, exec (.kzlAlignDone k map skew b pl) s = .next t ∧
      t.get Reg.KZL_STATE k = 4 ∧ t.get Reg.KZL_SKEW k = skew ∧ t.get Reg.KZL_LANE_MAP k = map % 256 ∧ t.getB Reg.KZL_PARTNER_B k = b ∧
      (∀ l, l ∈ lanesOf k → t.get Reg.LANE_BLOCK_LOCK l = 1) ∧ t = { s with regs := t.regs, kzl := t.kzl }) ∧
    (∀ map skew b pl, st ≠ 3 ∨ 528 < skew → exec (.kzlAlignDone k map skew b pl) s = .next s) ∧
    (1 ≤ st → st ≤ 3 → ∃ t : State, exec (.kzlStateTimeout k) s = .next t ∧ t.get Reg.KZL_STATE k = 1 ∧
      t.get Reg.KZL_ALIGN_FAIL k = satInc 16 (s.get Reg.KZL_ALIGN_FAIL k) 1 ∧ t.get Reg.KZL_IRQ_ALIGN_FAIL k = 1 ∧
      (s.link k).since + 10 * linkLimit st ≤ t.clk.now ∧
      t = { s with regs := t.regs, kzl := t.kzl, clk := { s.clk with now := t.clk.now } }) ∧
    (st = 0 ∨ 3 < st → exec (.kzlStateTimeout k) s = .next s) ∧
    ((s.link k).held = [] → exec (.kzlRto k) s = .next s) ∧
    (∀ f fs, (s.link k).held = f :: fs → ∃ t : State, exec (.kzlRto k) s = .next t ∧ (t.link k).back = some f.seq ∧
      (t.link k).held = f :: fs ∧ t.get Reg.KZL_TIMEOUT k = satInc 32 (s.get Reg.KZL_TIMEOUT k) 1 ∧ t.get Reg.KZL_IRQ_RTX k = 1 ∧
      f.sentAt + s.rto k < t.clk.now ∧ t = { s with regs := t.regs, kzl := t.kzl, clk := { s.clk with now := t.clk.now } }) ∧
    (∀ frame : List DWord,
      let deaf := (lanesOf k).any fun l => s.suspended { page := 0xA0, index := l }
      let w := fun i => (frame.getD i 0).toNat
      let valid := frame.length = 64 ∧ w 63 % 2 ^ 32 = crc32c ((frame.take 63).flatMap fun d => leBytes 8 d.toNat) ∧ bits (w 1) 31 28 ≤ 2
      let seq := bits (w 1) 63 32
      let expect := s.get Reg.KZL_RX_EXPECT k
      (deaf = true ∨ st ≠ 4 ∧ st ≠ 5 → exec (.kzlFrameRx k frame) s = .next s) ∧
      (deaf = false → st = 4 ∨ st = 5 → s.linkOn k = true → ¬ valid → ∃ t : State, exec (.kzlFrameRx k frame) s = .next t ∧
        t.get Reg.KZL_CRC_ERR k = satInc 32 (s.get Reg.KZL_CRC_ERR k) 1 ∧ OnlyWords [fldAt Reg.KZL_CRC_ERR k] s t) ∧
      (deaf = false → st = 4 → s.linkOn k = true → valid → bit (w 0) 29 = true → ∃ t : State, exec (.kzlFrameRx k frame) s = .next t ∧
        t.get Reg.KZL_STATE k = 5 ∧ t.get Reg.KZL_UP k = 1 ∧ t.get Reg.KZL_IRQ_UP k = 1) ∧
      (deaf = false → st = 5 → s.linkOn k = true → valid → bits (w 1) 31 28 ≠ 0 → ∃ t : State, exec (.kzlFrameRx k frame) s = .next t ∧
        t.get Reg.KZL_RX_EXPECT k = (if seq = expect then (expect + 1) % 2 ^ 32 else expect) ∧
        (seq ≠ expect → (expect + 2 ^ 32 - seq) % 2 ^ 32 ≤ 2 ^ 31 → t.get Reg.KZL_DUP k = satInc 32 (s.get Reg.KZL_DUP k) 1) ∧
        (seq ≠ expect → 2 ^ 31 < (expect + 2 ^ 32 - seq) % 2 ^ 32 →
          t.get Reg.KZL_GAP k = satInc 32 (s.get Reg.KZL_GAP k) 1 ∧ (t.link k).ask = true))) ∧
    (∀ low, st = 0 ∨ st = 6 ∨ s.linkOn k = false → exec (.kzlFrameTx k low) s = .next s) ∧
    (∀ low, 1 ≤ st → st ≤ 4 → s.linkOn k = true → ∃ t : State, exec (.kzlFrameTx k low) s = .next t ∧ (t.link k).sent.length = 64 ∧
      (t.link k).queue = (s.link k).queue ∧ (t.link k).held = (s.link k).held ∧ t = { s with kzl := t.kzl }) ∧
    (∀ low f fs, st = 5 → s.linkOn k = true → (s.link k).back = none → (s.link k).queue = f :: fs → (s.link k).held.length < 256 →
      ∃ t : State, exec (.kzlFrameTx k low) s = .next t ∧ (t.link k).sent.length = 64 ∧ (t.link k).queue = fs ∧
        t.get Reg.KZL_TX_SEQ k = (s.get Reg.KZL_TX_SEQ k + 1) % 2 ^ 32 ∧
        (t.link k).held = (s.link k).held ++ [{ f with seq := s.get Reg.KZL_TX_SEQ k, sentAt := s.clk.now, tries := 1 }]) ∧
    (∀ cause low, k = 0 → st = 5 → cause < 6 → ∃ t : State, exec (.kzlLinkFail k cause low) s = .next t ∧ t.get Reg.KZL_UP k = 0 ∧
      t.get Reg.KZL_LAST_FAIL k = cause ∧ t.get Reg.KZL_DOWN_CNT k = satInc 16 (s.get Reg.KZL_DOWN_CNT k) 1 ∧
      (t.link k).held = [] ∧ (t.link k).queue = [] ∧ (if cause = 5 then t.get Reg.KZL_STATE k = 6 else t.get Reg.KZL_STATE k = 2 ∨ t.get Reg.KZL_STATE k = 3))

/-- A confirmed level of ACTIVE_N shows in LINE. A standby that may claim and sees the line go high after a GIVEUP, or without a mirror link, claims: with a low readback it drives the line, is active in SHOW and counts the handover; with a high one READBACK is set and it stays a standby. Without GIVEUP it decides 4 µs later, no earlier, and does not claim while the partner says it is active. A readback that fails an active engine, or a line still low 8 µs after
GIVEUP, is a fault of the interlock. The heartbeat toggles once at each 24th boundary of the grid; four edges within 2.5 ms show HB_IN_OK; it is lost no earlier than 8 ms after the last edge, and a standby whose line is low then has a stuck line. A give-up is released at the first boundary after it that is acknowledged or 8 µs old: the role is gone, GAVE_UP is set, the engine follows. It
is reclaimed no earlier than 8 µs after. FORCE_CLAIM needs the manager's authorisation and the epoch. -/
def Obligations.StandbyInterlock : Prop :=
  ∀ (s : State),
    let claims := fun (o : Out) => ∃ t : State, o = .next t ∧ t.get Reg.STBY_ACTIVE = 1 ∧ t.get Reg.STBY_LINE = 0 ∧ t.get Reg.STBY_GAVE_UP = 0 ∧
      t.stby.drive = true ∧ t.opMode = 4 ∧ t.get Reg.STBY_HANDOVERS = satInc 16 (s.get Reg.STBY_HANDOVERS) 1 ∧ t.get Reg.STBY_IRQ_CLAIM = 1 ∧
      s.clk.now + 80 ≤ t.clk.now
    let fault := fun (f : Fld) (t : State) => t.get f = 1 ∧ t.get Reg.STBY_IRQ_INTERLOCK = 1
    (∀ level low, level = false ∨ s.canClaim = false → ∃ t : State, exec (.activeNConfirm level low) s = .next t ∧
      t.getB Reg.STBY_LINE = level ∧ t.stby.level = level ∧ t.stby.levelAt = s.clk.now ∧ t.stby.drive = s.stby.drive ∧
      OnlyWords [fldAt Reg.STBY_LINE 0] { s with stby := t.stby } t) ∧
    (∀ low, s.canClaim = true → s.stby.pGiveup = none → s.getB Reg.KZL_UP 1 = true → ∃ t : State, exec (.activeNConfirm true low) s = .next t ∧
      t.get Reg.STBY_LINE = 1 ∧ t.stby.decideAt = some s.clk.now ∧ t.get Reg.STBY_ACTIVE = 0 ∧ OnlyWords [fldAt Reg.STBY_LINE 0] { s with stby := t.stby } t) ∧
    (s.canClaim = true → s.stby.pGiveup.isSome = true ∨ s.getB Reg.KZL_UP 1 = false →
      claims (exec (.activeNConfirm true true) s) ∧
      ∃ t : State, exec (.activeNConfirm true false) s = .next t ∧ t.get Reg.STBY_ACTIVE = 0 ∧ fault Reg.STBY_READBACK t ∧ t.opMode = 3 ∧
        t.stby.drive = s.stby.drive) ∧
    (∀ low, s.stby.decideAt = none → exec (.releaseDecisionTimeout low) s = .next s) ∧
    (∀ at', s.stby.decideAt = some at' →
      (s.canClaim = true → s.getB Reg.STBY_PARTNER_ACTIVE = true → s.stby.pGiveup = none → ∀ low, ∃ t : State,
        exec (.releaseDecisionTimeout low) s = .next t ∧ fault Reg.STBY_RELEASED_WHILE_ACTIVE t ∧ t.get Reg.STBY_ACTIVE = 0 ∧
        t.stby.decideAt = none ∧ at' + 12000 ≤ t.clk.now) ∧
      (s.canClaim = true → s.getB Reg.STBY_PARTNER_ACTIVE = false → claims (exec (.releaseDecisionTimeout true) s))) ∧
    (if s.stby.drive && s.getB Reg.STBY_ACTIVE then ∃ t : State, exec .readbackFault s = .next t ∧ fault Reg.STBY_READBACK t ∧ t.get Reg.STBY_ACTIVE = 1
     else exec .readbackFault s = .next s) ∧
    (s.stby.pGiveup = none ∨ s.stby.level = true → exec .stuckLow s = .next s) ∧
    (∀ at', s.stby.pGiveup = some at' → s.stby.level = false → s.follows = true → ∃ t : State, exec .stuckLow s = .next t ∧
      fault Reg.STBY_STUCK_LOW t ∧ t.stby.pGiveup = none ∧ at' + 24000 ≤ t.clk.now ∧ t.get Reg.STBY_ACTIVE = 0) ∧
    (s.getB Reg.STBY_PAIR = true → 3 ≤ s.opMode → s.opMode ≤ 5 → s.clk.placed = true → s.clk.pos % 1500000 = 0 → s.stby.hbPos ≠ some s.clk.pos →
      exec .hbToggle s = .next { s with stby := { s.stby with hb := !s.stby.hb, hbPos := some s.clk.pos } }) ∧
    (s.getB Reg.STBY_PAIR = false ∨ s.stby.hbPos = some s.clk.pos → exec .hbToggle s = .next s) ∧
    (s.getB Reg.STBY_PAIR = true → ∃ t : State, exec .hbInEdge s = .next t ∧ t.stby.hbEdges.head? = some s.clk.now ∧
      (if 4 ≤ ((s.clk.now :: s.stby.hbEdges).filter fun e => decide (s.clk.now ≤ e + 7500000)).length then t.get Reg.STBY_HB_IN_OK = 1
       else t.regs = s.regs) ∧ OnlyWords [fldAt Reg.STBY_HB_IN_OK 0] { s with stby := t.stby } t) ∧
    (s.getB Reg.STBY_HB_IN_OK = false → exec .hbLost s = .next s) ∧
    (s.getB Reg.STBY_HB_IN_OK = true → ∃ t : State, exec .hbLost s = .next t ∧ t.get Reg.STBY_HB_IN_OK = 0 ∧ fault Reg.STBY_HB_LOST t ∧
      t.get Reg.STBY_IRQ_HB_LOST = 1 ∧ s.stby.hbEdges.headD 0 + 24000000 ≤ t.clk.now ∧
      t.stby.stuck = (s.stby.stuck || (s.opMode == 3 && !s.getB Reg.STBY_ACTIVE && !s.stby.level))) ∧
    (s.stby.giveup = none → exec .giveupRelease s = .next s) ∧
    (∀ c at', s.stby.giveup = some (c, at') →
      (s.clk.boundaryEdge ≤ at' → exec .giveupRelease s = .next s) ∧
      (s.getB Reg.STBY_ACTIVE = true → at' < s.clk.boundaryEdge → s.giveupAcked = true ∨ at' + 24000 ≤ s.clk.now →
        ∃ t : State, exec .giveupRelease s = .next t ∧ t.get Reg.STBY_ACTIVE = 0 ∧ t.get Reg.STBY_GAVE_UP = 1 ∧ t.stby.drive = false ∧
          t.opMode = 3 ∧ t.stby.giveup = none ∧ t.stby.released = some s.clk.now ∧ t.get Reg.STBY_IRQ_RELEASE = 1)) ∧
    (s.stby.released = none → ∀ low, exec (.giveupReclaim low) s = .next s) ∧
    (∀ at', s.stby.released = some at' → s.getB Reg.STBY_GAVE_UP = true → s.opMode = 3 → s.stopBegun = false →
      claims (exec (.giveupReclaim true) s) ∧ ∃ t : State, exec (.giveupReclaim true) s = .next t ∧ at' + 24000 ≤ t.clk.now ∧
        fault Reg.STBY_GIVEUP_FAILED t ∧ t.get Reg.MODE_DEGRADED = 1) ∧
    (s.domState (pageDomain 0xA8) = 3 →
      (∀ p v low, p = .host ∨ s.getB Reg.KEY_AUTH = false ∨ s.getB Reg.STBY_PAIR = false → exec (.stbyForce p v low) s = .next s) ∧
      (∀ v : Word, s.getB Reg.KEY_AUTH = true → s.getB Reg.STBY_PAIR = true → v.toNat = s.epoch 0xA8 → s.mode.trans = .none → s.opMode = 3 →
        s.getB Reg.STBY_ACTIVE = false → s.getB Reg.STBY_GAVE_UP = false → claims (exec (.stbyForce .mgmt v true) s) ∧
        ∃ t : State, exec (.stbyForce .mgmt v true) s = .next t ∧ t.get Reg.STBY_FORCED = 1))

/-- A window that ends is sent by an active engine with a standby, once. A comparison shows both values and counts; an equal one keeps the pair in step, one that differs counts a miss and starts a reseed. CONFIRMING that times out, no earlier than 3 s, reseeds, the third time it is STUCK. A core whose log is empty is reseeded. STATUS shows the partner's role and readiness, and unit B
stands down where both are active. An engine that does not follow takes no MOVE, MEAS, CASC, MODE, TIME, PAGE, SEED or BCSEED record; one that follows adds the move to its slot, rebuilds a running ramp, commits or ends a slot, keeps a measured value for its sample, notes the partner's rate, adopts the rate, mode and time, stays STUCK where SE_PROG_ID differs, keeps the newer
word, and gathers a strip's 1,024 words until they are whole; a BCSEED at word 0 halts the core for its snapshot. -/
def Obligations.StandbyRecords : Prop :=
  ∀ (s : State) (n : Nat) (body : List Word),
    let w := fun i => (body.getD i 0).toNat
    let stby := fun (t : State) => t = { s with stby := t.stby }
    (s.stby.own = [] → exec .checkWindowEnd s = .next s) ∧
    (∀ k v, s.stby.own.getLast? = some (k, v) → k + 1 = s.stby.window → s.partnerFollows = true → s.stby.check ≠ some (k, v) →
      ∃ t : State, exec .checkWindowEnd s = .next t ∧ t.get Reg.STBY_CHK_LOCAL = v % 2 ^ 32 ∧ t.stby.check = some (k, v) ∧
        (t.link 1).queue.length = (s.link 1).queue.length + 1 ∧ t = { s with regs := t.regs, stby := t.stby, kzl := t.kzl }) ∧
    (s.get Reg.STBY_SYNC ≠ 3 → exec .confirmTimeout s = .next s) ∧
    (s.get Reg.STBY_SYNC = 3 → ∃ t : State, exec .confirmTimeout s = .next t ∧ s.stby.since + 9000000000 ≤ t.clk.now ∧
      t.stby.timeouts = s.stby.timeouts + 1 ∧ (if 2 ≤ s.stby.timeouts then t.get Reg.STBY_SYNC = 5
        else t.get Reg.STBY_SYNC = 2 ∧ t.get Reg.STBY_RESEEDS = satInc 16 (s.get Reg.STBY_RESEEDS) 1)) ∧
    (∀ c, c < 2 → (s.bcore c).reseed = true → (s.bcore c).halted = false → (s.bcore c).log = [] → ∃ t : State,
      exec (.bcCatchupDone c) s = .next t ∧ (t.bcore c).reseed = false ∧ c ∈ t.stby.cores) ∧
    (∀ c, (s.bcore c).log ≠ [] → exec (.bcCatchupDone c) s = .next s) ∧
    (s.getB Reg.STBY_PAIR = false → exec (.statusRecord n body) s = .next s) ∧
    (s.getB Reg.STBY_PAIR = true → ∃ t : State, exec (.statusRecord n body) s = .next t ∧ t.getB Reg.STBY_PARTNER_ACTIVE = bit (w 0) 0 ∧
      t.getB Reg.STBY_PARTNER_READY = (bits (w 0) 10 8 == 4) ∧ t.stby.statusAt = some s.clk.now ∧ t.stby.pMode = bits (w 0) 6 4 ∧
      t.stby.pSync = bits (w 0) 10 8 ∧ (bit (w 0) 0 = true → s.getB Reg.STBY_ACTIVE = true → s.getB Reg.STBY_UNIT_B = true →
        t.get Reg.STBY_DUAL_ACTIVE = 1 ∧ t.get Reg.STBY_ACTIVE = 0 ∧ t.opMode = 3)) ∧
    (s.follows = false → exec (.moveRecord n body) s = .next s ∧ exec (.measRecord n body) s = .next s ∧ exec (.cascRecord n body) s = .next s ∧
      exec (.modeRecord n body) s = .next s ∧ exec (.timeRecord n body) s = .next s ∧ exec (.pageRecord n body) s = .next s ∧
      exec (.seedRecord n body) s = .next s ∧ exec (.bcseedRecord n body) s = .next s) ∧
    (∀ lane, s.partnerFollows = true → w 0 = 4 + 16 * lane → lane ≤ 16 → lane ∉ s.stby.staged →
      exec (.slotRecord n body) s = .next { s with stby := { s.stby with staged := s.stby.staged ++ [lane] } }) ∧
    (s.partnerFollows = true → ∃ t : State, exec (.checkRecord n body) s = .next t ∧
      t.get Reg.STBY_CHK_WINDOWS = satInc 32 (s.get Reg.STBY_CHK_WINDOWS) 1 ∧
      t.get Reg.STBY_CHK_MISS = (if bit (w 1) 0 then s.get Reg.STBY_CHK_MISS else satInc 32 (s.get Reg.STBY_CHK_MISS) 1) ∧
      OnlyWords [fldAt Reg.STBY_CHK_WINDOWS 0, fldAt Reg.STBY_CHK_MISS 0] s t) ∧
    (s.follows = true →
      (∀ lane, w 0 = lane → lane < 16 → ∃ (t : State) (d : Nat), exec (.moveRecord n body) s = .next t ∧ t.slotState lane = 2 ∧
        (t.slot lane).moves = (if s.slotState lane = 2 then (s.slot lane).moves else []) ++ [{ bodyMove body with derive := d }] ∧ t.dp = s.dp) ∧
      (∀ m0, s.get Reg.STBY_SYNC = 1 → bits (w 0) 4 0 < 16 → bits (w 0) 31 16 = m0 → m0 ≠ 0 → ∃ (t : State) (r : RunMove),
        exec (.moveRecord n body) s = .next t ∧ t.scn.runs = s.scn.runs ++ [r] ∧ r.target = (bodyMove body).target ∧
        r.value = (bodyMove body).value ∧ r.first = s.absSample m0 ∧ t = { s with scn := t.scn, free := s.free + 2 }) ∧
      (∀ lane, w 0 = 3 + 16 * lane → lane < 16 → ∃ t : State, exec (.slotRecord n body) s = .next t ∧
        (t.slot lane).commit = some (s.absSample n) ∧ t = { s with scn := t.scn }) ∧
      (∀ lane, w 0 = 2 + 16 * lane → lane < 16 → s.slotState lane ≠ 0 → ∃ t : State, exec (.slotRecord n body) s = .next t ∧
        t.slotState lane = 0 ∧ (t.slot lane).moves = []) ∧
      exec (.measRecord n body) s = .next { s with stby := { s.stby with meas := s.stby.meas ++
        [{ sample := s.ownSample 1 n, kind := w 0 % 256, index := w 0 / 256, v0 := w 1, v1 := w 2 }] } } ∧
      (∀ k mine, s.stby.own.find? (fun o => o.1 % 1024 == w 0 % 1024) = some (k, mine) → s.get Reg.STBY_SYNC = 4 → mine < 2 ^ 32 →
        ∃ t : State, exec (.checkRecord n body) s = .next t ∧ t.get Reg.STBY_CHK_LOCAL = mine ∧ t.get Reg.STBY_CHK_PARTNER = w 1 ∧
          t.get Reg.STBY_CHK_WINDOWS = satInc 32 (s.get Reg.STBY_CHK_WINDOWS) 1 ∧ t.stby.check = none ∧
          (if mine = w 1 then t.get Reg.STBY_SYNC = 4 ∧ t.get Reg.STBY_CHK_MISS = s.get Reg.STBY_CHK_MISS
           else t.get Reg.STBY_SYNC = 2 ∧ t.get Reg.STBY_CHK_MISS = satInc 32 (s.get Reg.STBY_CHK_MISS) 1 ∧ t.get Reg.STBY_IRQ_DIVERGE = 1)) ∧
      (∃ t : State, exec (.cascRecord n body) s = .next t ∧ t.getB Reg.FAB_RATE_MISMATCH = (bits (w 0 + 2 ^ 32 * w 1) 9 8 != s.rate)) ∧
      (∀ r, bits (w 0) 9 8 = r → r < 3 →
        (s.get Reg.STBY_SYNC = 1 → s.mode.running = false → ∃ t : State, exec (.modeRecord n body) s = .next t ∧ t.rate = r ∧
          t.stby.pShow = if bits (w 0) 3 0 = 5 then 5 else 4) ∧
        (s.get Reg.STBY_SYNC ≠ 1 → exec (.modeRecord n body) s =
          .next { s with stby := { s.stby with modeAt := some (s.ownSample 1 n, bits (w 0) 3 0, r) } })) ∧
      (∃ t : State, exec (.timeRecord n body) s = .next t ∧
        t.stby.timeAt.map (·.2) = some ((w 0 + 2 ^ 32 * (w 1 % 65536)) * 3000000000 + w 2) ∧
        (if s.get Reg.STBY_SYNC = 1 then t.get Reg.STBY_SYNC = 2 else stby t ∧ t.stby.timeAt.map (·.1) = some (s.ownSample 1 n))) ∧
      (s.get Reg.STBY_SYNC = 1 → w 0 = fldAt Reg.SE_PROG_ID 0 → (w 1 = s.get Reg.SE_PROG_ID 0 → exec (.pageRecord n body) s = .next s) ∧
        (w 1 ≠ s.get Reg.SE_PROG_ID 0 → s.mode.trans = .none → ∃ t : State, exec (.pageRecord n body) s = .next t ∧ t.get Reg.STBY_SYNC = 5)) ∧
      (∀ v, s.get Reg.STBY_SYNC = 1 → w 0 ≠ fldAt Reg.SE_PROG_ID 0 → body = [BitVec.ofNat 32 (w 0), v] →
        s.absSample n < tget 0 s.stby.newest (w 0) → exec (.pageRecord n body) s = .next s) ∧
      (∀ out i, s.get Reg.STBY_SYNC = 2 → w 0 = 4096 * out.toNat + i → i < stripCount out s.rate → i < 4096 →
        (body.length < 1025 → ∃ t : State, exec (.seedRecord n body) s = .next t ∧ t.stby.seed = body.drop 1 ∧ t.stby.seeded = s.stby.seeded ∧ stby t) ∧
        (1025 ≤ body.length → ∃ t : State, exec (.seedRecord n body) s = .next t ∧ t.stby.seed = [] ∧
          (if out then inStrips s.rate + i else i) ∈ t.stby.seeded)) ∧
      (∀ c, w 0 = c → c < 2 → body.length < 100 → 2 ≤ s.get Reg.STBY_SYNC → c ∉ s.stby.cores → ∃ t : State,
        exec (.bcseedRecord n body) s = .next t ∧ (t.bcore c).halted = true ∧ (t.bcore c).reseed = true ∧ (t.bcore c).log = [] ∧ t.dp = s.dp))

/-- A request of a master with an open path for bytes that lie in SRAM or in DRAM, neither locked nor for a memory whose domain is off,
waits at the arbiter of its group or of the DRAM port with its address, access and time, and changes no byte of memory. A request that
decodes to no target gets an error response and is counted and recorded as a decode error with its master and address. A read of the
boot ROM answers at once. -/
def Obligations.InterconnectRequestsReachTheirTarget : Prop :=
  (∀ (s : State) (master addr : Nat) (acc : MemAcc), master ≤ 0x2B → s.flt.paths.contains master = false →
    (∀ n, acc ≠ .lockRead n) → 0x10000000 ≤ addr → addr + (accLen acc - 1) ≤ 0x13FFFFFF →
    s.domState (4 + (addr - 0x10000000) / 0x800000) = 3 →
    ∃ t : State, exec (.interconnectRequest master false addr acc) s = .next t ∧
      t.mem.reqs = s.mem.reqs ++ [((addr - 0x10000000) / 0x800000,
        { master := master, access := acc, addr := addr, since := s.clk.now })] ∧
      t.mem.sram = s.mem.sram ∧ t.mem.dram = s.mem.dram ∧ t.mem.resp = s.mem.resp) ∧
  (∀ (s : State) (master addr : Nat) (acc : MemAcc), master ≤ 0x2B → s.flt.paths.contains master = false →
    (∀ n, acc ≠ .lockRead n) → 0x80000000 ≤ addr → addr + (accLen acc - 1) ≤ 0xFFFFFFFF → s.domState 15 = 3 →
    ∃ t : State, exec (.interconnectRequest master false addr acc) s = .next t ∧
      t.mem.reqs = s.mem.reqs ++ [(8, { master := master, access := acc, addr := addr, since := s.clk.now })] ∧
      t.mem.sram = s.mem.sram ∧ t.mem.dram = s.mem.dram ∧ t.mem.resp = s.mem.resp) ∧
  (∀ (s : State) (master addr : Nat) (host : Bool) (acc : MemAcc), 34 ≤ master → master < 64 →
    s.target master host addr acc = .none →
    ∃ t : State, exec (.interconnectRequest master host addr acc) s = .next t ∧
      tget none t.mem.resp master = some ⟨addr, true, []⟩ ∧
      t.get Reg.ARB_DEC_MASTER = master ∧ t.get Reg.ARB_DECODE_ADDR = addr % 2 ^ 32 ∧
      t.get Reg.ARB_DECODE_ERR = satInc (fldWidth Reg.ARB_DECODE_ERR) (s.get Reg.ARB_DECODE_ERR) 1 ∧
      t.mem.sram = s.mem.sram ∧ t.mem.dram = s.mem.dram) ∧
  (∀ (s : State) (master off n : Nat), master = 0x28 ∨ master = 0x29 ∨ master = 0x2A → s.flt.paths.contains master = false →
    0 < n → off + n ≤ 0x10000 →
    ∃ t : State, exec (.interconnectRequest master false (0x08000000 + off) (.read n)) s = .next t ∧
      tget none t.mem.resp master = some ⟨0x08000000 + off, false,
        (List.range n).map fun i => Config.bootRom (off + i)⟩ ∧ t.mem.sram = s.mem.sram ∧ t.mem.dram = s.mem.dram)

/-- Where one request waits at an SRAM arbiter and neither a lock, a pass, a test, a fence, a quota nor a broken lock holds it up, a grant
without an ECC error removes the request. A write stores its bytes from its address on, gets a response without error, and every other byte of SRAM reads as
before; a read is answered with the bytes at its address and changes no byte. DRAM is unchanged. -/
def Obligations.GrantServesAnSramRequest : Prop :=
  ∀ (s : State) (a : Nat) (r : Req), a < 8 → s.mem.reqs = [(a, r)] → s.blocked a r = false → s.quotaMasked a r.master = false →
    0x10000000 + a * 0x800000 ≤ r.addr → r.addr + accLen r.access ≤ 0x10000000 + (a + 1) * 0x800000 →
    s.mem.broken = [] →
    ∃ t : State, exec (.arbGrant a .clean) s = .next t ∧ t.mem.reqs = [] ∧ t.mem.dram = s.mem.dram ∧
      (∀ d, r.access = .write d →
        tget none t.mem.resp r.master = some ⟨r.addr, false, []⟩ ∧
        ∀ b, tget 0 t.mem.sram b =
          if r.addr - 0x10000000 ≤ b ∧ b < r.addr - 0x10000000 + d.length then d.getD (b - (r.addr - 0x10000000)) 0
          else tget 0 s.mem.sram b) ∧
      (∀ n, r.access = .read n →
        tget none t.mem.resp r.master =
          some ⟨r.addr, false, (List.range n).map fun i => tget 0 s.mem.sram (r.addr - 0x10000000 + i)⟩ ∧
        t.mem.sram = s.mem.sram)

/-- The end of an arbiter's window sets every master's grants in the window to 0 and changes nothing but the counters. A hold cut of an
arbiter's best request, one of more beats than were transferred, takes the request away, answers its master with an error response, counts the cut, names
the master and the arbiter and raises the fault source.
A locking read that lies in one bank of SRAM, by a master with an open path and no other lock, where nothing holds the access up,
takes the lock of its bank, is answered with the bytes it reads and changes no byte. One that is not allowed gets an error response and takes no lock.
Breaking a lock removes it, notes that the holder's completing write is to be discarded, counts and names it, and raises the fault
source, no earlier than the end of its 64th fc. -/
def Obligations.WindowsHoldsAndLocks : Prop :=
  ((∀ (s : State) (a : Nat), a < 10 →
    ∃ t : State, exec (.arbWindowEnd a) s = .next t ∧ (∀ m, m < 64 → (tget {} t.mem.cnt (64 * a + m)).inWin = 0) ∧
      (∀ k, k / 64 ≠ a → tget {} t.mem.cnt k = tget {} s.mem.cnt k) ∧ t = { s with mem := { s.mem with cnt := t.mem.cnt } }) ∧
  (∀ (s : State) (a n : Nat) (r : Req), a < 8 → s.mem.reqs = [(a, r)] → s.blocked a r = false → s.quotaMasked a r.master = false →
    0x10000000 + a * 0x800000 ≤ r.addr → r.addr + accLen r.access ≤ 0x10000000 + (a + 1) * 0x800000 →
    s.mem.broken = [] → r.master < 64 → n < beats r.addr (accLen r.access) →
    ∃ t : State, exec (.holdCut a n) s =
        .next (t.raise Src.ARB_HOLD { page := 0xB9, index := r.master } (BitVec.ofNat 32 r.addr)) ∧
      t.mem.reqs = [] ∧ tget none t.mem.resp r.master = some ⟨r.addr, true, []⟩ ∧
      t.get Reg.ARB_CUT_MASTER = r.master ∧ t.get Reg.ARB_CUT_ARB = a ∧ t.mem.dram = s.mem.dram)) ∧
  ((∀ (s : State) (master addr n : Nat), master ≤ 0x2B → s.flt.paths.contains master = false → s.lockAllowed master addr n = true →
    s.blocked ((addr - 0x10000000) / 0x800000) { master := master, access := .lockRead n, addr := addr, since := s.clk.now } = false →
    ∃ t : State, exec (.lockRead master addr n) s = .next t ∧
      t.mem.locks = s.mem.locks ++
        [{ bank := sramBank (addr - 0x10000000), master := master, addr := addr, since := s.clk.now }] ∧
      tget none t.mem.resp master = some ⟨addr, false,
        (List.range n).map fun i => tget 0 s.mem.sram (addr - 0x10000000 + i)⟩ ∧
      t.mem.sram = s.mem.sram ∧ t.mem.dram = s.mem.dram) ∧
  (∀ (s : State) (master addr n : Nat), s.lockAllowed master addr n = false →
    ∃ t : State, exec (.lockRead master addr n) s = .next t ∧ t.mem.locks = s.mem.locks ∧
      tget none t.mem.resp master = some ⟨addr, true, []⟩) ∧
  (∀ (s : State) (l : Lock), s.mem.locks.find? (·.bank == l.bank) = some l → l.bank < 64 → l.master < 64 →
    ∃ t : State, exec (.lockBreak l.bank) s =
        .next (t.raise Src.LOCK_BREAK { page := 0xB9, index := l.master } (BitVec.ofNat 32 l.addr)) ∧
      t.mem.locks = s.mem.locks.filter (·.bank != l.bank) ∧ t.mem.broken = s.mem.broken ++ [(l.master, l.bank)] ∧
      l.since + 256 ≤ t.clk.now ∧ t.get Reg.ARB_CUT_MASTER = l.master ∧ t.get Reg.ARB_CUT_ARB = l.bank / 8))

/-- A scrub step of an enabled group that finds no error moves the bank on by one word, of 32,768 words a pass, and changes no byte. A waiting pass
that may run and is the earliest of its group begins. When a running pass completes, the buffer reads zero, every other byte of SRAM reads as before,
and the pass is gone. -/
def Obligations.ScrubAndDarkFrame : Prop :=
  (∀ (s : State) (bank : Nat), bank < 64 → s.getB Reg.MEM_SCRUB_EN (bank / 8) = true → s.get Reg.THERM_STATE < 2 →
    s.get Reg.SUP_WARN_NOW = 0 →
    ∃ t : State, exec (.scrubStep bank .clean) s = .next t ∧
      tget 0 t.mem.scrub bank = (tget 0 s.mem.scrub bank + 1) % 32768 ∧
      (∀ b, b ≠ bank → tget 0 t.mem.scrub b = tget 0 s.mem.scrub b) ∧ t.mem.sram = s.mem.sram ∧ t.mem.dram = s.mem.dram) ∧
  (∀ (s : State) (p : Pass), s.mem.passes = [p] → p.running = false → s.passMayRun p = true → s.passPaused p = false →
    ∃ t : State, exec (.darkFramePassStart p.base) s = .next t ∧ t.mem.passes = [{ p with running := true }] ∧
      t.mem.sram = s.mem.sram) ∧
  (∀ (s : State) (p : Pass), s.mem.passes.find? (fun q => q.base == p.base && q.running) = some p → 0x10000000 ≤ p.base →
    ∃ t : State, exec (.darkFrameComplete p.base) s = .next t ∧
      t.mem.passes = s.mem.passes.filter (·.base != p.base) ∧ t.mem.dram = s.mem.dram ∧
      ∀ b, tget 0 t.mem.sram b =
        if p.base - 0x10000000 ≤ b ∧ b < p.base - 0x10000000 + p.size then 0 else tget 0 s.mem.sram b)

/-- With their domains on: a manager's write of REMAP while no Bridge core runs stores its bit 0 and no other register word, and a host's write changes
nothing; a manager's write of 1 to the arbiters' PG_COMMIT takes the shadow priorities of every arbiter in SHADOW mode into effect, word by word; a write
that arms a free check-value unit on a source kind other than 2 loads its register with INIT cut to its width and its byte count with 0; a read of
CVU_RESULT_LO answers the result of the bytes fed so far. -/
def Obligations.RemapCommitAndCheckUnits : Prop :=
  (∀ (s : State) (v : Word), s.domState 4 = 3 → s.getB Hdr.RUNNING 0xC0 = false → s.getB Hdr.RUNNING 0xC1 = false →
    ∃ t : State, exec (.remap .mgmt v) s = .next t ∧ OnlyWords [fldAt Reg.MEM_REMAP 0] s t ∧ t.get Reg.MEM_REMAP = v.toNat % 2 ∧
      exec (.remap .host v) s = .next s) ∧
  (∀ (s : State), s.domState 3 = 3 →
    ∃ t : State, exec (.arbCommit .mgmt 1) s = .next t ∧
      (∀ i, i < 80 → i % 8 < 6 → t.get Reg.ARB_PRI i =
        if s.shadow (i / 8) then s.get Reg.ARB_PRI_SHADOW i else s.get Reg.ARB_PRI i) ∧ t = { s with regs := t.regs }) ∧
  (∀ (s : State) (p : Plane) (u : Nat) (v : Word), u < 4 → s.domState 3 = 3 → s.cvuWritable p u = true →
    bit v.toNat 31 = true → bits v.toNat 27 26 ≠ 2 →
    ∃ t : State, exec (.cvuEnable p u v) s = .next t ∧ t.get Reg.CVU_EN u = 1 ∧
      t.get Reg.CVU_KIND u = bits v.toNat 27 26 ∧ t.get Reg.CVU_INDEX u = bits v.toNat 23 16 ∧
      t.get Reg.CVU_WIDTH_M1 u = bits v.toNat 13 8 ∧
      tget {} t.mem.cvu u = ⟨(s.get Reg.CVU_INIT_LO u + 2 ^ 32 * s.get Reg.CVU_INIT_HI u) % 2 ^ (bits v.toNat 13 8 + 1), 0⟩) ∧
  (∀ (s : State) (p : Plane) (u : Nat), u < 4 → s.domState 3 = 3 →
    ∃ t : State, exec (.cvuResultLoRead p u) s = .next t ∧
      (if p = .host then t.host.readHost else t.host.readMgmt) = [BitVec.ofNat 32 (s.cvuResult u % 2 ^ 32)] ∧
      t.mem = s.mem)

/-- A write to a query word whose page is on clears its VALID bit and selects the item, and changes nothing else. When the snapshot of a selected arbiter or owner item
completes, VALID is set and no item is selected. -/
def Obligations.QueriesSelectAndComplete : Prop :=
  (∀ (s : State) (v : Word),
    (s.domState 3 = 3 → exec (.rconvQsel v) s = .next { (s.put0 Reg.RCONV_VALID 0) with sel := tput 0 s.sel 0 (bits v.toNat 9 0 + 1) } ∧
      exec (.patchQsel v) s = .next { (s.put0 Reg.PATCH_VALID 0) with sel := tput 0 s.sel 1 (bits v.toNat 11 0 + 1) } ∧
      exec (.fabXpQsel v) s = .next { (s.put0 Reg.FABX_VALID 0) with sel := tput 0 s.sel 2 (bits v.toNat 21 0 + 1) } ∧
      exec (.fabSrcQsel v) s = .next { (s.put0 Reg.FABL_VALID 0) with sel := tput 0 s.sel 3 (bits v.toNat 11 0 + 1) } ∧
      exec (.scnQw0 v) s = .next { (s.put0 Reg.SCNQ_VALID 0) with sel := tput 0 s.sel 4 (v.toNat + 1) } ∧
      exec (.arbQsel v) s = .next { (s.put0 Reg.ARB_VALID 0) with sel := tput 0 s.sel 5 (bits v.toNat 9 0 + 1) } ∧
      exec (.ownQaddr v) s = .next { (s.put0 Reg.OWN_VALID 0) with sel := tput 0 s.sel 6 (v.toNat + 1) })) ∧
  (∀ (s : State) (c : Nat) (v : Word), c < 2 → s.domState 16 = 3 →
    exec (.bcQsel c v) s = .next ((s.put Reg.BC_VALID c 0).setBc c fun b => { b with qsel := bits v.toNat 7 0 + 1 })) ∧
  (∀ (s : State) (item : Nat), tget 0 s.sel 5 = item + 1 →
    ∃ t : State, exec (.snapshotDone .arb) s = .next t ∧ t.get Reg.ARB_VALID = 1 ∧ tget 0 t.sel 5 = 0 ∧ t.mem = s.mem) ∧
  (∀ (s : State) (item : Nat), tget 0 s.sel 6 = item + 1 →
    ∃ t : State, exec (.snapshotDone .own) s = .next t ∧ t.get Reg.OWN_VALID = 1 ∧ tget 0 t.sel 6 = 0 ∧ t.mem = s.mem)

/-- With no transition running: SHOW from a finished START of an unpaired engine, MAINT from START by the manager, FOLLOW from a finished START whose partner
leads, START and PARK from a mode whose data plane runs or does not, HOLD from SHOW and SHOW from HOLD, and a new rate in SHOW or HOLD that fits
the budget, each begin their transition at the next boundary: MODE keeps its value, IN_TRANSITION is 1, TARGET names the mode, and the plane's request is
busy. FOLLOW from SHOW or HOLD by the holder of the role whose partner is ready begins a give-up. -/
def Obligations.RequestsBeginTransitions : Prop :=
  ∀ (s : State) (p : Plane), s.mode.trans = .none →
    let begins := fun (o : Out) (tr : Trans) (left target : Nat) => ∃ t : State, o = .next t ∧ t.mode.trans = tr ∧
      t.mode.left = left ∧ t.opMode = s.opMode ∧ t.get Reg.MODE_IN_TRANSITION = 1 ∧ t.get Reg.MODE_TARGET = target ∧
      t.getP p Reg.MODE_BUSY = 1 ∧ t.getP p Reg.MODE_DONE = 0 ∧ t.dp = s.dp ∧ t.scn = s.scn ∧ t.mem = s.mem ∧ t.clk = s.clk
    (∀ low, s.opMode = 1 → s.getB Reg.MODE_START_DONE = true → s.getB Reg.STBY_PAIR = false →
      begins (exec (.reqShow p low) s) (.enter 4 (some p)) 1 4) ∧
    (∀ low, s.opMode = 5 → begins (exec (.reqShow p low) s) (.hold 4 (some p)) 1 4) ∧
    (s.opMode = 4 → begins (exec (.reqHold p) s) (.hold 5 (some p)) 1 5) ∧
    (s.opMode = 1 → p = .mgmt → begins (exec (.reqMaint p) s) (.enter 2 (some p)) 1 2) ∧
    (s.opMode = 1 → s.getB Reg.MODE_START_DONE = true → s.partnerLeads = true →
      begins (exec (.reqFollow p) s) (.enter 3 (some p)) 1 3) ∧
    (s.opMode = 4 ∨ s.opMode = 5 → s.holdsRole = true → s.partnerReady = true →
      begins (exec (.reqFollow p) s) (.giveUp (some p)) 0 3) ∧
    (∀ full, s.opMode = 3 ∨ s.opMode = 4 → begins (exec (.reqStart p full) s) (.stop 1 (some p)) 65 1) ∧
    (∀ full, s.opMode = 5 → begins (exec (.reqStart p full) s) (.stop 1 (some p)) 1 1) ∧
    (∀ full, s.opMode = 2 → p = .mgmt → begins (exec (.reqStart p full) s) (.enter 1 (some p)) 1 1) ∧
    (s.opMode = 3 ∨ s.opMode = 4 → begins (exec (.reqPark p) s) (.stop 0 (some p)) 65 0) ∧
    (s.opMode = 1 ∨ s.opMode = 2 ∨ s.opMode = 5 → begins (exec (.reqPark p) s) (.stop 0 (some p)) 1 0) ∧
    (∀ r, r < 3 → r ≠ s.rate → s.opMode = 4 ∨ s.opMode = 5 → s.reservationAt r ≤ s.budgetAt r s.clk.div (s.tiersAt r) →
      begins (exec (.setRate p r) s) (.rate 1 r (some p)) 64 s.opMode)

/-- A request that meets a running transition it does not reverse is answered MODE_BUSY. With none running: SHOW from MAINT or PARK, HOLD outside SHOW, MAINT
outside START, PARK in PARK and a rate in PARK or FOLLOW are answered MODE_ILLEGAL; MAINT by the host and START in MAINT by the host MODE_DENIED; SHOW, FOLLOW
or a rate in an unfinished START NOT_READY; a rate code of 3 MODE_BAD_ARG. The request is done, and nothing but register words changes. -/
def Obligations.RequestsTurnedAway : Prop :=
  ∀ (s : State) (p : Plane),
    let away := fun (o : Out) (st : Nat) => ∃ t : State, o = .next t ∧ t.getP p Reg.MODE_STATUS = st ∧
      t.getP p Reg.MODE_DONE = 1 ∧ t.getP p Reg.MODE_BUSY = 0 ∧ t = { s with regs := t.regs }
    (s.mode.trans ≠ .none → (∀ m q, s.mode.trans ≠ .hold m q) →
      (∀ low, away (exec (.reqShow p low) s) 0x70) ∧ away (exec (.reqHold p) s) 0x70 ∧ away (exec (.reqFollow p) s) 0x70 ∧
      (∀ full, away (exec (.reqStart p full) s) 0x70) ∧ away (exec (.reqMaint p) s) 0x70 ∧ away (exec (.reqPark p) s) 0x70 ∧
      ∀ r, r < 3 → away (exec (.setRate p r) s) 0x70) ∧
    (s.mode.trans = .none →
      (∀ low, s.opMode = 0 ∨ s.opMode = 2 → away (exec (.reqShow p low) s) 0x71) ∧
      (s.opMode ≠ 4 → away (exec (.reqHold p) s) 0x71) ∧ (s.opMode ≠ 1 → away (exec (.reqMaint p) s) 0x71) ∧
      (s.opMode = 0 → away (exec (.reqPark p) s) 0x71) ∧
      (∀ r, r < 3 → s.opMode = 0 ∨ s.opMode = 3 → away (exec (.setRate p r) s) 0x71) ∧
      (s.opMode = 1 → p = .host → away (exec (.reqMaint p) s) 0x72) ∧
      (∀ full, s.opMode = 2 → p = .host → away (exec (.reqStart p full) s) 0x72) ∧
      (s.opMode = 1 → s.getB Reg.MODE_START_DONE = false →
        (∀ low, away (exec (.reqShow p low) s) 0x75) ∧ away (exec (.reqFollow p) s) 0x75 ∧
        ∀ r, r < 3 → away (exec (.setRate p r) s) 0x75)) ∧
    (∀ r, 3 ≤ r → away (exec (.setRate p r) s) 0x77)

/-- A start of the data plane that is due leaves 64 samples of silence, this one among them; when silence is over the ramp-in of 64 samples begins,
and when that ends the transition is complete and counted, and the request it serves, while that still is its plane's last one, is answered. A rate
switch that is due goes to its silence likewise. A HOLD ramp at its end completes the transition likewise. The stop of a data plane on the way to
START begins START; a shutdown that no supply warning holds up ends the transition in PARK. -/
def Obligations.TransitionSteps : Prop :=
  ∀ (s : State),
    let complete := fun (t : State) => t.mode.trans = .none ∧ t.get Reg.MODE_IN_TRANSITION = 0 ∧ t.get Reg.MODE_TARGET = t.opMode
    (∀ m p, s.planeDue = some (m, p) → ∃ t : State, exec .dataPlaneStart s = .next t ∧ t.mode.trans = .fill m p ∧ t.mode.left = 63) ∧
    (∀ m p, s.mode.trans = .fill m p → s.mode.left = 0 →
      exec .rateRampIn s = .next { s with mode := { s.mode with trans := .rampIn m p, left := 64 } }) ∧
    (∀ r p, s.mode.trans = .rate 4 r p → s.mode.left = 0 →
      exec .rateRampIn s = .next { s with mode := { s.mode with trans := .rate 5 r p, left := 64 } }) ∧
    (∀ m p, s.mode.trans = .rampIn m (some p) → s.mode.left = 0 → s.getP p Reg.MODE_BUSY = 1 →
      ∃ t : State, exec .rateChangeDone s = .next t ∧ complete t ∧ t.getP p Reg.MODE_DONE = 1 ∧ t.getP p Reg.MODE_STATUS = 0 ∧
        t.get Reg.MODE_TRANS_CNT = satInc 32 (s.get Reg.MODE_TRANS_CNT) 1 ∧ t = { s with regs := t.regs, mode := t.mode }) ∧
    (∀ r p, s.mode.trans = .rate 5 r (some p) → s.mode.left = 0 → s.getP p Reg.MODE_BUSY = 1 →
      ∃ t : State, exec .rateChangeDone s = .next t ∧ complete t ∧ t.getP p Reg.MODE_DONE = 1 ∧ t.getP p Reg.MODE_STATUS = 0 ∧
        t = { s with regs := t.regs, mode := t.mode }) ∧
    (∀ r p, s.rateDue = some (r, p) → ∃ t : State, exec .rateSwitch s = .next t ∧ t.mode.trans = .rate 4 r p ∧ t.mode.left = 63) ∧
    (∀ m p, s.mode.trans = .hold m (some p) → s.mode.left = 0 → s.getP p Reg.MODE_BUSY = 1 →
      s.mode.holdGain = (if m = 5 then 0 else 64) →
      ∃ t : State, exec .holdRampEnd s = .next t ∧ complete t ∧ t.opMode = s.opMode ∧ t.getP p Reg.MODE_DONE = 1 ∧
        t.getP p Reg.MODE_STATUS = 0 ∧ t = { s with regs := t.regs, mode := t.mode }) ∧
    (∀ p fm rows mf, s.mode.trans = .stop 1 p → s.mode.left = 0 →
      ∃ t : State, exec (.dataPlaneStop fm rows mf) s = .next t ∧ t.mode.trans = .start 0 p ∧ t.get Reg.MODE_START_DONE = 0 ∧
        t.get Reg.MODE_STEP = 0) ∧
    (∀ p fm rows mf, s.mode.trans = .shutdown p → s.get Reg.SUP_WARN_NOW = 0 →
      ∃ t : State, exec (.dataPlaneStop fm rows mf) s = .next t ∧ complete t)

/-- A device reset by RESET_N with no firmware slot verified leaves the controller in the boot ROM with START_FAIL: memories, strip engines and the clock are as after
power-on, the commands that wait stay. A failing START sets START_FAIL and ends the transition; one whose self-check is past completes with
START_DONE, step 7, no transition and SRAM groups 1 to 7 zero. DRAM training that ends in step 4 of START sets READY or TRAIN_FAIL and moves START on to step 5 or fails it. While no
slot is valid, an image over SMBus that does not verify leaves slot A erased. -/
def Obligations.ResetAndStart : Prop :=
  (∀ (s : State) (straps : Nat), ∃ t : State, exec (.deviceReset none straps false false) s = .next t ∧
    t.mgmt.inRom = true ∧ t.get Reg.MODE_START_FAIL = 1 ∧ t.opMode = 1 ∧ t.mode.trans = .none ∧ t.mem = {} ∧ t.se = [] ∧
    t.clk = {} ∧ t.pending = s.pending ∧ t.get Reg.GLOBAL_UNIT_B = straps % 2) ∧
  (∀ (s : State) (k : Nat) (p : Option Plane), s.mode.trans = .start k p → s.startRuns = true →
    ∃ t : State, exec (.startDone false) s = .next t ∧ t.get Reg.MODE_START_FAIL = 1 ∧ t.mode.trans = .none ∧
      t.get Reg.MODE_IN_TRANSITION = 0 ∧ t = { s with regs := t.regs, mode := t.mode }) ∧
  (∀ (s : State) (k : Nat) (p : Option Plane), s.mode.trans = .start k p → 2 ≤ k → s.startRuns = true →
    ∃ t : State, exec (.startDone true) s = .next t ∧ t.get Reg.MODE_START_DONE = 1 ∧ t.get Reg.MODE_STEP = 7 ∧
      t.mode.trans = .none ∧ t.mem.bufs = [] ∧ ∀ b, 0x800000 ≤ b → b < 0x4000000 → tget 0 t.mem.sram b = 0) ∧
  (∀ (s : State) (p : Option Plane) (mr4 : Nat), s.mode.trans = .start 4 p →
    (∃ t : State, exec (.dramTrainingDone true mr4) s = .next t ∧ t.get Reg.DRAM_READY = 1 ∧ t.get Reg.MODE_STEP = 5 ∧
      t.mode.trans = .start 5 p) ∧
    ∃ t : State, exec (.dramTrainingDone false mr4) s = .next t ∧ t.get Reg.DRAM_READY = 0 ∧ t.get Reg.DRAM_TRAIN_FAIL = 1 ∧
      t.get Reg.MODE_START_FAIL = 1 ∧ t.mode.trans = .none) ∧
  (∀ (s : State) (image : List Byte), s.mgmt.inRom = true →
    ∃ t : State, exec (.smbusFwImage image false) s = .next t ∧ t = { s with mgmt := { s.mgmt with flash := t.mgmt.flash } } ∧
      ∀ a, tget 0xFF t.mgmt.flash a = if 0x100000 ≤ a ∧ a < 0x500000 then 0xFF else tget 0xFF s.mgmt.flash a)

/-- Outside PARK, a domain that is off or in retention begins to wake with its wake time to come. A waking domain that is ready is ON no earlier than its due time; one
that is not goes off and sets START_FAIL. Outside PARK, a domain that is ON, idle and marked in IDLE_OFF goes off. No other domain's state changes. -/
def Obligations.DomainsWakeAndGoOff : Prop :=
  ∀ (s : State) (d : Nat), d < 17 →
    let others := fun (t : State) => ∀ k, k < 17 → k ≠ d → t.domState k = s.domState k
    (s.opMode ≠ 0 → s.domState d = 0 ∨ s.domState d = 1 →
      ∃ t : State, exec (.domainWake d) s = .next t ∧ t.domState d = 2 ∧ others t ∧
        tget 0 t.pwr.waking d = s.clk.now + wakeUs (s.domState d == 1) d * 3000 ∧
        t = { s with regs := t.regs, pwr := { s.pwr with waking := t.pwr.waking } }) ∧
    (s.domState d = 2 →
      (∃ t : State, exec (.domainReady d true) s = .next t ∧ t.domState d = 3 ∧ others t ∧ tget 0 s.pwr.waking d ≤ t.clk.now ∧
        tget 0 t.pwr.waking d = 0) ∧
      ∃ t : State, exec (.domainReady d false) s = .next t ∧ t.domState d = 0 ∧ others t ∧ t.get Reg.MODE_START_FAIL = 1) ∧
    (s.opMode ≠ 0 → bit (s.get Reg.PWR_IDLE_OFF) d = true → s.domState d = 3 → s.idleDomain d = true →
      ∃ t : State, exec (.domainIdleOff d) s = .next t ∧ t.domState d = 0)

/-- A divider request by the manager that no check refuses starts: a lower frequency waits for its boundary, a higher one first raises the voltage level and waits for the
rail. A refused request shows its status and changes nothing but two fields of register words. At the boundary the divider changes; a higher frequency is then done and a lower one asks for
its voltage level. The rail's confirmation lets a higher frequency wait for its boundary and ends a lower one. A rail that is not confirmed ends the request with status 0x86.
A supply sample shows each rail's reading; the second sample in a row of a watched rail below its warning threshold begins a warning, which holds receipt. The hold
ends 10 ms after every rail is above. A reading of the sensors shows each of them, and trips THERMTRIP at 125 °C. A thermal state that its thresholds have left for WARN, SHED or normal for 1 s takes the
new value. A fan below TACH_MIN at 30 % or more has failed and the other runs at full duty; above TACH_MIN it has not. -/
def Obligations.DividersSuppliesSensorsFans : Prop :=
  (∀ (s : State),
    (∀ v : Word, s.dvfsCheck (v.toNat % 4) = 0 → s.get Reg.PWR_DIV_NOW < v.toNat % 4 →
      ∃ t : State, exec (.dvfsReq .mgmt v) s = .next t ∧ t.get Reg.PWR_BUSY = 1 ∧ t.pwr.dvfs = some (v.toNat % 4, 0) ∧
        t = { s with regs := t.regs, pwr := { s.pwr with dvfs := t.pwr.dvfs } }) ∧
    (∀ v : Word, s.dvfsCheck (v.toNat % 4) = 0 → v.toNat % 4 < s.get Reg.PWR_DIV_NOW →
      ∃ t : State, exec (.dvfsReq .mgmt v) s = .next t ∧ t.get Reg.PWR_BUSY = 1 ∧ t.pwr.dvfs = some (v.toNat % 4, 1) ∧
        t.get Reg.PWR_VID_NOW = v.toNat % 4) ∧
    (∀ v : Word, s.dvfsCheck (v.toNat % 4) ≠ 0 →
      ∃ t : State, exec (.dvfsReq .mgmt v) s = .next t ∧ t.get Reg.PWR_STATUS = s.dvfsCheck (v.toNat % 4) ∧
        OnlyWords [fldAt Reg.PWR_STATUS 0, fldAt Reg.PWR_IRQ_DVFS 0] s t) ∧
    (∀ code, code < 3 → s.pwr.dvfs = some (code, 0) → s.clk.placed = false ∨ s.clk.pos % 187500 = 0 →
      ∃ t : State, exec .dvfsDividerChange s = .next t ∧ t.clk.div = code + 2 ∧ t.get Reg.PWR_DIV_NOW = code ∧
        t.pwr.dvfs = if code < s.get Reg.PWR_DIV_NOW then none else some (code, 1)) ∧
    (∀ code, code < 3 → s.pwr.dvfs = some (code, 1) →
      (code < s.get Reg.PWR_DIV_NOW → exec .dvfsRailConfirm s = .next { s with pwr := { s.pwr with dvfs := some (code, 0) } }) ∧
      (s.get Reg.PWR_DIV_NOW ≤ code → ∃ t : State, exec .dvfsRailConfirm s = .next t ∧ t.pwr.dvfs = none ∧
        t.get Reg.PWR_STATUS = 0 ∧ t.get Reg.PWR_BUSY = 0 ∧ t.get Reg.PWR_DIV_NOW = s.get Reg.PWR_DIV_NOW) ∧
      ∃ t : State, exec .dvfsVoltTimeout s = .next t ∧ t.pwr.dvfs = none ∧ t.get Reg.PWR_STATUS = 0x86 ∧ t.get Reg.PWR_BUSY = 0)) ∧
  ((∀ (s : State) (mv : List Nat), mv.length = 10 →
    ∃ t : State, exec (.supplySample mv) s = .next t ∧ (∀ r, r < 10 → t.get Reg.SUP_MV r = mv.getD r 0 % 65536) ∧
      s.pwr.supAt + 3000 ≤ t.clk.now ∧
      ∀ r, r < 10 → s.railWatched r = true → (tget {} s.pwr.rails r).warning = false → 1 ≤ (tget {} s.pwr.rails r).belowWarn →
        mv.getD r 0 < s.get Reg.SUP_WARN_MV r → bit (t.get Reg.SUP_WARN_NOW) r = true ∧ t.pwr.hold = true) ∧
  (∀ (s : State) (a : Nat), s.pwr.hold = true → s.pwr.holdFrom = some a → s.get Reg.SUP_WARN_NOW = 0 →
    ∃ t : State, exec .supplyHoldEnd s = .next t ∧ t.pwr.hold = false ∧ t.get Reg.SUP_HOLD_LEFT = 0 ∧ a + 30000000 ≤ t.clk.now) ∧
  (∀ (s : State) (r : List Int), r.length = 8 →
    ∃ t : State, exec (.sensorRead r) s = .next t ∧ (∀ i, i < 8 → t.get Reg.THERM_SENSOR i = unsx 16 (r.getD i 0)) ∧
      s.pwr.thermAt + 3000000 ≤ t.clk.now ∧ (r.any (fun v => decide (500 ≤ v)) = true → t.pwr.tripped = true)) ∧
  (∀ (s : State), s.pwr.crossed < 3 → s.pwr.crossed ≠ s.get Reg.THERM_STATE → 1000 ≤ s.pwr.sinceChg →
    ∃ t : State, exec .thermalStateChange s = .next t ∧ t.get Reg.THERM_STATE = s.pwr.crossed ∧ t.pwr.sinceChg = 0) ∧
  (∀ (s : State) (f rpm : Nat), f < 2 →
    (rpm < s.mgmt.fanTach → 300 ≤ s.get Reg.FAN_DUTY f → s.get Reg.FAN_FAIL f = 0 → rpm < 65536 →
      ∃ t : State, exec (.fanFail f rpm) s = .next t ∧ t.get Reg.FAN_FAIL f = 1 ∧ t.get Reg.FAN_RPM f = rpm ∧
        t.get Reg.FAN_DUTY (1 - f) = 1000) ∧
    (s.mgmt.fanTach < rpm → rpm < 65536 →
      ∃ t : State, exec (.fanRecover f rpm) s = .next t ∧ t.get Reg.FAN_FAIL f = 0 ∧ t.get Reg.FAN_RPM f = rpm)))

/-- A source event at a unit in service counts the source. A source without a test is logged at once: the next entry holds the source, the unit and the
address, and the write index moves on. A source with a test at a unit not under test suspends the unit for one. An event at a unit that is fenced or retired changes nothing, but for
VIEW_MISMATCH. The end of the pulse clears PULSE and gives the pin the level of FLT_OUT. -/
def Obligations.FaultEventsAreLoggedOrTested : Prop :=
  (∀ (s : State) (src : Nat) (u : UnitId) (addr : Word), src ≤ 0xC0 → u.page < 4096 → u.index < 65536 → s.unitDown u = false →
    (faultTest src u.index = none →
      ∃ t : State, exec (.faultEvent src u addr) s = .next t ∧
        t.get Reg.FLTS_TOTAL src = satInc 24 (s.get Reg.FLTS_TOTAL src) 1 ∧
        bits (t.get Reg.FLTL_LOG (8 * s.get Reg.FLTL_LOG_WR + 2)) 31 24 = src ∧
        t.get Reg.FLTL_LOG (8 * s.get Reg.FLTL_LOG_WR + 4) = u.page * 65536 + u.index ∧
        t.get Reg.FLTL_LOG (8 * s.get Reg.FLTL_LOG_WR + 6) = addr.toNat ∧
        t.get Reg.FLTL_LOG_WR = (s.get Reg.FLTL_LOG_WR + 1) % 64 ∧ t.flt.logSeq = s.flt.logSeq + 1 ∧ t.flt.tests = s.flt.tests) ∧
    (∀ k, faultTest src u.index = some k → s.suspended u = false →
      ∃ t : State, exec (.faultEvent src u addr) s = .next t ∧ t.suspended u = true ∧ t.flt.logSeq = s.flt.logSeq ∧
        t.get Reg.FLTS_TOTAL src = satInc 24 (s.get Reg.FLTS_TOTAL src) 1)) ∧
  (∀ (s : State) (src : Nat) (u : UnitId) (addr : Word), s.unitDown u = true → src ≠ 0xB7 → exec (.faultEvent src u addr) s = .next s) ∧
  (∀ (s : State), s.get Reg.FLT_PULSE = 1 →
    ∃ t : State, exec .faultNPulseEnd s = .next t ∧ OnlyWords [fldAt Reg.FLT_PIN 0] s t ∧ t.get Reg.FLT_PULSE = 0 ∧
      t.get Reg.FLT_PIN = s.get Reg.FLT_LEVEL)

/-- A test of a Bridge core or a summing lane that passes, of a unit that is not to be retired, ends: the unit is no longer suspended, the pass is counted and logged, and time has reached
the test's end. A test of a strip engine or a Bridge core in service that fails retires the unit.
A fence of a strip engine, a Bridge core or another unit that a fence can take and that is in service takes it out of service without retiring it and increments its epoch
once. FLT_FENCE_GO by the manager answers 2 for a unit that is none or that no fence takes, else 1 where the epoch differs, else 3 where the unit is out of service, else fences it and answers 0; every
answer sets DONE. -/
def Obligations.FencesAndTestEnds : Prop :=
  ((∀ (s : State) (x : FltTest), s.flt.tests.find? (fun t => t.unit == x.unit && t.running) = some x → x.esc = false →
    x.kind = .bc ∨ x.kind = .lane →
    ∃ t : State, exec (.targetedTestEnd x.unit true) s = .next t ∧ t.suspended x.unit = false ∧
      t.get Reg.FLT_PASS = satInc 32 (s.get Reg.FLT_PASS) 1 ∧ t.flt.logSeq = s.flt.logSeq + 1 ∧
      x.begun + s.testEdges x ≤ t.clk.now) ∧
  (∀ (s : State) (x : FltTest), s.flt.tests.find? (fun t => t.unit == x.unit && t.running) = some x →
    x.kind = .se ∨ x.kind = .bc → fenceable x.unit = true → isSubUnit x.unit = false → s.unitDown x.unit = false →
    ∃ t : State, exec (.targetedTestEnd x.unit false) s = .next t ∧ t.unitDown x.unit = true ∧
      t.get Hdr.RETIRED (unitPage x.unit.page) = 1)) ∧
  ((∀ (s : State) (u : UnitId), fenceable u = true → isSubUnit u = false → s.unitDown u = false →
    s.epoch u.page + 1 < 2 ^ 32 →
    ∃ t : State, exec (.fence u) s = .next t ∧ t.unitDown u = true ∧ t.get Hdr.FENCED (unitPage u.page) = 1 ∧
      t.epoch u.page = s.epoch u.page + 1) ∧
  (∀ (s : State) (v : Word), v.toNat % 2 = 1 →
    let w := s.get Reg.FLT_FENCE_UNIT
    let u := unitOfWord w
    let answers := fun (st : Nat) (t : State) => exec (.fltFenceGo .mgmt v) s = .next t ∧ t.get Reg.FLT_STATUS = st ∧ t.get Reg.FLT_DONE = 1
    (w ≠ unitWord u ∨ fenceable u = false → ∃ t, answers 2 t ∧
      OnlyWords [fldAt Reg.FLT_STATUS 0, fldAt Reg.FLT_IRQ_FENCE_DONE 0] s t) ∧
    (w = unitWord u → fenceable u = true → s.get Reg.FLT_FENCE_EPOCH ≠ s.epoch u.page → ∃ t, answers 1 t) ∧
    (w = unitWord u → fenceable u = true → s.get Reg.FLT_FENCE_EPOCH = s.epoch u.page → s.unitDown u = true → ∃ t, answers 3 t ∧
      OnlyWords [fldAt Reg.FLT_STATUS 0, fldAt Reg.FLT_IRQ_FENCE_DONE 0] s t) ∧
    (w = unitWord u → fenceable u = true → s.get Reg.FLT_FENCE_EPOCH = s.epoch u.page → s.unitDown u = false →
      isSubUnit u = false → ∃ t, answers 0 t ∧ t.unitDown u = true)))

/-- By the manager: BIST_GO in MAINT with no check running, no supply warning and no heat starts one, and is refused by its status otherwise; a march that nothing refuses runs with the
request as it stands; a burn that nothing refuses takes the soft repairs that the free entries hold. A check of MAINT ends with DONE and KIND 2. A march that nothing pauses ends with DONE and counts its failing rows. A read of the march FIFO
removes its oldest entry. A burn that verifies consumes its entries and ends with DONE. -/
def Obligations.SelfChecksMarchesAndFuses : Prop :=
  (∀ (s : State) (v : Word), v.toNat % 2 = 1 →
    (s.opMode = 2 → s.get Reg.BIST_BUSY = 0 → s.warned = false → s.hot = false →
      ∃ t : State, exec (.bistGo .mgmt v) s = .next t ∧ t.get Reg.BIST_BUSY = 1 ∧ t.get Reg.BIST_DONE = 0 ∧ t.get Reg.BIST_STATUS = 0) ∧
    (s.opMode ≠ 2 → ∃ t : State, exec (.bistGo .mgmt v) s = .next t ∧ t.get Reg.BIST_STATUS = 0xB0 ∧
      OnlyWords [fldAt Reg.BIST_STATUS 0] s t) ∧
    (s.marchRefusal = 0 → s.warned = false → s.hot = false →
      ∃ t : State, exec (.marchGo .mgmt v) s = .next t ∧ t.mgmt.marchRun = true ∧ t.get Reg.MARCH_BUSY = 1 ∧ t.get Reg.MARCH_STATUS = 0 ∧
        t.mgmt.marchReq = (s.word (fldAt Reg.MARCH_BANK_MASK 0)).toNat) ∧
    (s.mgmt.burn = none → s.fuseRefusal = 0 → s.softRepairs.take (256 - s.mgmt.fuseUsed) ≠ [] →
      ∃ t : State, exec (.repFuseGo .mgmt v) s = .next t ∧ t.get Reg.REP_BUSY = 1 ∧ t.get Reg.REP_DONE = 0 ∧
        t.mgmt.burn = some ⟨s.softRepairs.take (256 - s.mgmt.fuseUsed)⟩)) ∧
  (∀ (s : State) (fm : Nat) (rows : List (Nat × Nat)) (mf : Bool), (∀ k p, s.mode.trans ≠ .start k p) → s.get Reg.BIST_BUSY = 1 →
    ∃ t : State, exec (.bistDone fm rows mf) s = .next t ∧ t.get Reg.BIST_DONE = 1 ∧ t.get Reg.BIST_BUSY = 0 ∧ t.get Reg.BIST_KIND = 2 ∧
      t.mode.rows = rows) ∧
  (∀ (s : State) (rows : List (Nat × Nat)), s.mgmt.marchRun = true → s.warned = false → s.hot = false →
    ∃ t : State, exec (.marchDone rows) s = .next t ∧ t.mgmt.marchRun = false ∧ t.get Reg.MARCH_DONE = 1 ∧ t.get Reg.MARCH_BUSY = 0 ∧
      (bit s.mgmt.marchReq 31 = true → t.mem.sram = s.mem.sram)) ∧
  (∀ (s : State) (p : Plane), ∃ t : State, exec (.marchFifoRead p) s = .next t ∧ t.mgmt.marchFifo = s.mgmt.marchFifo.tail ∧
    t.get Reg.MARCH_FIFO_VALID = (!s.mgmt.marchFifo.tail.isEmpty).toNat) ∧
  (∀ (s : State) (b : Burn), s.mgmt.burn = some b →
    ∃ t : State, exec (.fuseBurnDone true false) s = .next t ∧ t.mgmt.burn = none ∧ t.get Reg.REP_DONE = 1 ∧ t.get Reg.REP_BUSY = 0 ∧
      t.mgmt.fuseUsed = min 256 (s.mgmt.fuseUsed + b.left.length))

/-- A kick by the manager notes the time. When the watchdog expires, no earlier than its time after the last kick, with no valid firmware slot, the controller has restarted in the boot ROM and
KEY_AUTH is 0. With the watchdog off nothing happens. -/
def Obligations.WatchdogRestartsTheController : Prop :=
  ∀ (s : State),
    (∀ v : Word, v.toNat % 2 = 1 →
      exec (.fltWdtKick .mgmt v) s = .next { s with flt := { s.flt with wdtKick := s.clk.now } } ∧ exec (.fltWdtKick .host v) s = .next s) ∧
    (s.get Reg.FLT_WDT = 0 → exec .wdtExpire s = .next s) ∧
    (s.get Reg.FLT_WDT ≠ 0 → s.fwHeader false = none → s.fwHeader true = none →
      ∃ t : State, exec .wdtExpire s = .next t ∧ t.mgmt.restarts = s.mgmt.restarts + 1 ∧ t.mgmt.inRom = true ∧ t.mgmt.booted = false ∧
        t.get Reg.KEY_AUTH = 0 ∧ s.flt.wdtKick + s.get Reg.FLT_WDT * 3000000 ≤ t.clk.now)

/-- Management words of an envelope are taken in order. A check answers BAD_LEN, EMPTY_KEY, BAD_TAG, WRONG_UNIT or REPLAY, or accepts: then AUTH is 1 and
the counter of the envelope's key takes its number; the envelope is gone and the other counter stays. KEY_DONE clears AUTH. A new key is wrapped
in MAINT with the key of its slot in force, and KEY_NEW clears. Before a scan chain opens keys, licence words and KEY_NEW are zero. The
host's plane does none of this. -/
def Obligations.KeyStoreCommands : Prop :=
  (∀ (s : State) (v : Word), s.mgmt.keys.envelope.length < 257 →
    exec (.keyData .mgmt v) s =
      .next { s with mgmt := { s.mgmt with keys := { s.mgmt.keys with envelope := s.mgmt.keys.envelope ++ [v] } } }) ∧
  (∀ (s : State),
    let ws := s.mgmt.keys.envelope.map (·.toNat)
    let id := ws.getD 0 0 % 2
    let len := bits (ws.getD 0 0) 31 16
    let number := ws.getD 1 0 + 2 ^ 32 * ws.getD 2 0
    let body := (wordBytes ws).take (16 + (len + 3) / 4 * 4)
    let tag := (wordBytes ws).drop (16 + (len + 3) / 4 * 4)
    let long := 976 < len ∨ ws.length ≠ 12 + (len + 3) / 4
    let ends := fun (st : Nat) => ∃ t : State, exec (.keyCheck .mgmt) s = .next t ∧ t.get Reg.KEY_STATUS = st ∧
      t.get Reg.KEY_ID = id ∧ t.getB Reg.KEY_AUTH = (st == 0) ∧ (∀ k, k < 2 → t.keyCtr k = if st = 0 ∧ k = id then number else s.keyCtr k) ∧
      t = { s with regs := t.regs, mgmt := { s.mgmt with keys := { s.mgmt.keys with envelope := [] } } }
    (long → ends 5) ∧ (¬ long → s.mkey id = none → ends 4) ∧
    ∀ k, ¬ long → s.mkey id = some k →
      (hmac k body ≠ tag → ends 1) ∧
      (hmac k body = tag → ws.getD 3 0 ≠ s.get Reg.KEY_UID → ends 3) ∧
      (hmac k body = tag → ws.getD 3 0 = s.get Reg.KEY_UID → number ≤ s.keyCtr id → ends 2) ∧
      (hmac k body = tag → ws.getD 3 0 = s.get Reg.KEY_UID → s.keyCtr id < number → ends 0)) ∧
  (∀ (s : State), ∃ t : State, exec (.keyDone .mgmt) s = .next t ∧ t.get Reg.KEY_AUTH = 0 ∧ OnlyWords [fldAt Reg.KEY_AUTH 0] s t) ∧
  (∀ (s : State) (v : Word), bit v.toNat 31 = true → s.opMode = 2 → s.mgmt.keys.closed = false →
    (s.getB Reg.KEY_AUTH = true ∧ s.get Reg.KEY_ID = v.toNat % 2) ∨ s.keysEmpty = true →
    ∃ t : State, exec (.keyWrap .mgmt v) s = .next t ∧ t = { s with regs := t.regs } ∧
      (∀ i, i < 10 → t.word (fldAt Reg.KEY_WRAPPED i) = BitVec.ofNat 32
        ((leWords (keyWrap Config.deviceKey (wordBytes ((List.range 8).map fun j => s.get Reg.KEY_NEW j)))).getD i 0)) ∧
      ∀ i, i < 8 → t.get Reg.KEY_NEW i = 0) ∧
  (∀ (s : State), ∃ t : State, exec .scanChainEnable s = .next t ∧ t.get Reg.KEY_CLEARED = 1 ∧ t.get Reg.KEY_LOADED0 = 0 ∧
    t.get Reg.KEY_LOADED1 = 0 ∧ (∀ i, i < 8 → t.get Reg.KEY_LIC_FEAT i = 0 ∧ t.get Reg.KEY_NEW i = 0) ∧
    t = { s with regs := t.regs, mgmt := { s.mgmt with keys := { s.mgmt.keys with key0 := none, key1 := none, closed := true } } }) ∧
  (∀ (s : State) (v : Word), exec (.keyData .host v) s = .next s ∧ exec (.keyCheck .host) s = .next s ∧
    exec (.keyDone .host) s = .next s ∧ exec (.keyWrap .host v) s = .next s)

/-- A management command of the flash window, in MAINT with AUTH set, outside the provisioning slots and the booted firmware slot, with its buffer in
SRAM group 0, begins: DONE clears and the flash is not changed yet. It is refused, DONE with its status, while another operation runs, outside MAINT, without
AUTH, or for a protected address. When an erase ends its 4 KiB read 0xFF; when a program ends each of its bytes holds the bits that are 1 in
both; when a read ends, SRAM holds the 256 bytes. All other bytes stay. A command that fails ends with FLASH_ERR. -/
def Obligations.FlashWindow : Prop :=
  (∀ (s : State) (off : Nat), groupZero (s.get Reg.PROV_FLASH_SRC) 256 = some off →
    let sector := s.get Reg.PROV_FLASH_ADDR / 4096 * 4096
    let line := s.get Reg.PROV_FLASH_ADDR / 256 * 256
    let begins := fun (o : Out) (op : FlashOp) => ∃ t : State, o = .next t ∧ t.get Reg.PROV_DONE = 0 ∧
      t = { s with regs := t.regs, mgmt := { s.mgmt with flashOp := op } }
    let refused := fun (o : Out) (st : Nat) => ∃ t : State, o = .next t ∧ t.get Reg.PROV_DONE = 1 ∧ t.get Reg.PROV_STATUS = st ∧
      t.get Reg.PROV_IRQ_FLASH = 1 ∧ t = { s with regs := t.regs }
    let all := fun (st : Nat) => refused (exec (.flashErase .mgmt) s) st ∧ refused (exec (.flashProgram .mgmt) s) st ∧
      refused (exec (.flashRead .mgmt) s) st
    (s.mgmt.flashOp ≠ .none → all 0x97) ∧
    (s.mgmt.flashOp = .none → s.opMode ≠ 2 → all 0x90) ∧
    (s.mgmt.flashOp = .none → s.opMode = 2 → s.getB Reg.KEY_AUTH = false → all 0x91) ∧
    (s.mgmt.flashOp = .none → s.opMode = 2 → s.getB Reg.KEY_AUTH = true →
      begins (exec (.flashRead .mgmt) s) (.read (s.get Reg.PROV_FLASH_ADDR) off) ∧
      (s.flashProtected sector 4096 = true → refused (exec (.flashErase .mgmt) s) 0x95) ∧
      (s.flashProtected line 256 = true → refused (exec (.flashProgram .mgmt) s) 0x95) ∧
      (s.flashProtected sector 4096 = false → begins (exec (.flashErase .mgmt) s) (.erase sector)) ∧
      (s.flashProtected line 256 = false →
        begins (exec (.flashProgram .mgmt) s) (.program line ((List.range 256).map fun i => tget 0 s.mem.sram (off + i)))))) ∧
  (∀ (s : State) (op : FlashOp), s.mgmt.flashOp = op →
    let ends := fun (o : Out) (st : Nat) (t : State) => o = .next t ∧ t.get Reg.PROV_DONE = 1 ∧ t.get Reg.PROV_STATUS = st ∧
      t.get Reg.PROV_IRQ_FLASH = 1 ∧ t.mgmt.flashOp = .none
    (∀ a, op = .erase a → ∃ t : State, ends (exec (.flashCommandEnd true) s) 0 t ∧ t.mem = s.mem ∧
      ∀ b, tget 0xFF t.mgmt.flash b = if a ≤ b ∧ b < a + 4096 then 0xFF else tget 0xFF s.mgmt.flash b) ∧
    (∀ a d, op = .program a d → ∃ t : State, ends (exec (.flashCommandEnd true) s) 0 t ∧ t.mem = s.mem ∧
      ∀ b, tget 0xFF t.mgmt.flash b =
        if a ≤ b ∧ b < a + d.length then tget 0xFF s.mgmt.flash b &&& d.getD (b - a) 0 else tget 0xFF s.mgmt.flash b) ∧
    (∀ a off, op = .read a off → ∃ t : State, ends (exec (.flashCommandEnd true) s) 0 t ∧ t.mgmt.flash = s.mgmt.flash ∧
      t.mem.dram = s.mem.dram ∧
      ∀ b, tget 0 t.mem.sram b = if off ≤ b ∧ b < off + 256 then tget 0xFF s.mgmt.flash (a + (b - off)) else tget 0 s.mem.sram b) ∧
    (∀ a off d, op = .erase a ∨ op = .program a d ∨ op = .read a off →
      ∃ t : State, ends (exec (.flashCommandEnd false) s) 0x96 t ∧ t.mem = s.mem))

/-- A commit is refused, DONE with its status, while a flash operation runs, outside MAINT, without AUTH where a key slot holds a key, for an image
that is not a valid block, or one whose GEN is not the next. Otherwise it begins: the sector of the inactive slot is erased. At its good end
the inactive slot, programmed with the image, becomes the active one with the image's GEN, and the records apply; a bad end leaves the active slot and
answers FLASH_ERR. The host's plane commits nothing. -/
def Obligations.ProvisioningCommits : Prop :=
  (∀ (s : State),
    let refused := fun (st : Nat) => ∃ t : State, exec (.provCommit .mgmt) s = .next t ∧ t.get Reg.PROV_DONE = 1 ∧
      t.get Reg.PROV_STATUS = st ∧ t.get Reg.PROV_IRQ_COMMIT = 1 ∧ t = { s with regs := t.regs }
    (s.mgmt.flashOp ≠ .none → refused 0x97) ∧
    (s.mgmt.flashOp = .none → s.opMode ≠ 2 → refused 0x90) ∧
    (s.mgmt.flashOp = .none → s.opMode = 2 → s.getB Reg.KEY_AUTH = false → s.keysEmpty = false → refused 0x91) ∧
    (s.mgmt.flashOp = .none → s.opMode = 2 → s.getB Reg.KEY_AUTH = true →
      (provParse s.provImage = none → refused 0x92) ∧
      (∀ gen rs, provParse s.provImage = some (gen, rs) →
        (gen ≠ (s.get Reg.PROV_GEN + 1) % 2 ^ 32 → refused 0x93) ∧
        (gen = (s.get Reg.PROV_GEN + 1) % 2 ^ 32 → ∃ t : State, exec (.provCommit .mgmt) s = .next t ∧
          t.mgmt.flashOp = .commit s.provImage ∧ t.get Reg.PROV_DONE = 0 ∧ t.get Hdr.BUSY 0xF01 = 1 ∧
          (∀ b, tget 0xFF t.mgmt.flash b = if 0x10000 * (1 - s.get Reg.PROV_ACTIVE_SLOT) ≤ b ∧
            b < 0x10000 * (1 - s.get Reg.PROV_ACTIVE_SLOT) + 0x10000 then 0xFF else tget 0xFF s.mgmt.flash b) ∧
          t = { s with regs := t.regs, mgmt := { s.mgmt with flashOp := t.mgmt.flashOp, flash := t.mgmt.flash } })))) ∧
  (∀ (s : State) (image : List Byte) (gen : Nat) (rs : List ProvRec), s.mgmt.flashOp = .commit image →
    provParse image = some (gen, rs) →
    let slot := 1 - s.get Reg.PROV_ACTIVE_SLOT
    (∃ u : State, exec (.provCommitEnd true) s = .next ((u.provApply rs false false).provEnd true 0) ∧
      u.get Reg.PROV_ACTIVE_SLOT = slot ∧ u.get Reg.PROV_GEN = gen % 2 ^ 32 ∧ u.get Reg.PROV_DEFAULT = 0 ∧ u.mgmt.flashOp = .none ∧
      (∀ b, tget 0xFF u.mgmt.flash b =
        if 0x10000 * slot ≤ b ∧ b < 0x10000 * slot + image.length then tget 0xFF s.mgmt.flash b &&& image.getD (b - 0x10000 * slot) 0
        else tget 0xFF s.mgmt.flash b)) ∧
    ∃ t : State, exec (.provCommitEnd false) s = .next t ∧ t.get Reg.PROV_STATUS = 0x96 ∧ t.get Reg.PROV_DONE = 1 ∧
      t.get Reg.PROV_ACTIVE_SLOT = s.get Reg.PROV_ACTIVE_SLOT ∧ t.get Reg.PROV_GEN = s.get Reg.PROV_GEN ∧ t.mgmt.flashOp = .none ∧
      t.mem = s.mem ∧ t.mode = s.mode) ∧
  (∀ (s : State), exec (.provCommit .host) s = .next s ∧ exec (.flashErase .host) s = .next s)

/-- A host interface reset disables the rings, MSI-X and the bus master, clears IN_SERVICE and the host's latched copies, keeps RING_EXPECT and the
completion records, and leaves the rest of the block as it is, audio, scenes and memory with it. The link comes up with its width, speed and Bus
Master Enable. A due vector sends one message and is then in service; masked, its message waits in the Pending Bit Array. EOI takes the
vectors whose bits are written out of service and no others. -/
def Obligations.HostInterfaceCommands : Prop :=
  (∀ (s : State) (down d3 : Bool), ∃ t : State, exec (.hostIfReset down d3) s = .next t ∧
    (∀ q, q < 4 → t.get Reg.HOSTQ_EN q = 0 ∧ t.get Reg.HOSTQ_RING_EXPECT q = s.get Reg.HOSTQ_RING_EXPECT q ∧
      (t.hostRing q).records = (s.hostRing q).records ∧ (t.hostRing q).replay = [] ∧ (t.hostRing q).doorbell = none) ∧
    (∀ v, v < 64 → t.get Reg.INTC_IN_SERVICE v = 0) ∧ (∀ k, hostCopy k = true → t.word k = resetWord k) ∧
    t.host.msixOn = false ∧ t.host.busMaster = false ∧ t.host.d3hot = d3 ∧ t.host.linkUp = (s.host.linkUp && !down) ∧
    t.host.mem = s.host.mem ∧ t = { s with regs := t.regs, host := t.host }) ∧
  (∀ (s : State) (width speed : Nat) (master : Bool), s.hostLinkHeld = false → width = 1 ∨ width = 2 ∨ width = 4 →
    1 ≤ speed → speed ≤ 4 →
    ∃ t : State, exec (.pcieLinkUp width speed master) s = .next t ∧ t.get Reg.GLOBAL_LINK_WIDTH = width ∧
      t.get Reg.GLOBAL_LINK_SPEED = speed ∧
      t = { s with regs := t.regs, host := { s.host with linkUp := true, d3hot := false, busMaster := master } }) ∧
  (∀ (s : State) (v : Nat), v < 64 → s.hostReadable = true → s.vectorDue v = true → s.getB Reg.INTC_IN_SERVICE v = false →
    s.holdoffPast v = true →
    (∃ t : State, exec (.msixMessage v true false false) s = .next t ∧ t.get Reg.INTC_IN_SERVICE v = 1 ∧
      (tget {} t.host.vectors v).sent = (tget {} s.host.vectors v).sent + 1 ∧ (tget {} t.host.vectors v).pending = false ∧
      (tget {} t.host.vectors v).last = some s.clk.now ∧ OnlyWords [fldAt Reg.INTC_IN_SERVICE v] { s with host := t.host } t) ∧
    ∀ f m, f || m → ∃ t : State, exec (.msixMessage v true f m) s = .next t ∧ (tget {} t.host.vectors v).pending = true ∧
      (tget {} t.host.vectors v).sent = (tget {} s.host.vectors v).sent ∧ t = { s with host := t.host }) ∧
  (∀ (s : State) (k : Nat) (v : Word), k < 2 →
    ∃ t : State, exec (.intcEoi k v) s = .next t ∧ t = { s with regs := t.regs } ∧
      ∀ x, x < 64 → t.get Reg.INTC_IN_SERVICE x =
        if x / 32 = k ∧ bit v.toNat (x % 32) = true then 0 else s.get Reg.INTC_IN_SERVICE x)

/-- A doorbell of an enabled ring takes its value and clears GAP_STOP and FETCH_ERR. An enabled ring with descriptors due, no command in progress, no stop and room
for a completion fetches: a read that fails sets FETCH_ERR; the expected sequence number with a good descriptor becomes the command in progress and
RING_EXPECT counts; an operation that is not defined completes with BAD_OP; a number of the past is answered from the record and counted as a duplicate; a
number ahead stops the ring and is counted as a gap.
Enabling a ring returns its completion indices to 0; disabling it lets the command in progress end. A replay that names none of the last 256 commands is an
error of the page; another sends the recorded completions again, oldest first. CMD_NOP ends its command with status OK: it is recorded and counted, and where
the host bus takes it and the completion ring has room, its words stand in host memory at the write index, which moves on. -/
def Obligations.HostRings : Prop :=
  ((∀ (s : State) (q : Nat) (v : Word), q < 4 → s.getB Reg.HOSTQ_EN q = true →
    ∃ t : State, exec (.hostqRingDb q v) s = .next t ∧ (t.hostRing q).doorbell = some v.toNat ∧
      (t.hostRing q).cursor = s.get Reg.HOSTQ_RING_EXPECT q ∧ (t.hostRing q).cmd = (s.hostRing q).cmd ∧
      t.get Reg.HOSTQ_GAP_STOP q = 0 ∧ t.get Reg.HOSTQ_FETCH_ERR q = 0 ∧
      OnlyWords [fldAt Reg.HOSTQ_GAP_STOP q] { s with host := t.host } t) ∧
  (∀ (s : State) (q : Nat), q < 4 → s.getB Reg.HOSTQ_EN q = true → s.ringDue q = true → (s.hostRing q).cmd = none →
    s.getB Reg.HOSTQ_GAP_STOP q = false → s.getB Reg.HOSTQ_FETCH_ERR q = false → s.cplFree q = true → (s.hostRing q).replay = [] →
    (∃ t : State, exec (.hostqFetch q none) s = .next t ∧ t.get Reg.HOSTQ_FETCH_ERR q = 1 ∧ t.get Reg.HOSTQ_IRQ_BUS_ERR = 1 ∧
      t = { s with regs := t.regs }) ∧
    ∀ ws : List Word, ws.length = 16 → s.hostReadable = true →
      let expect := s.get Reg.HOSTQ_RING_EXPECT q
      let w := fun (i : Nat) => (ws.getD i 0).toNat
      let op := bits (w 1) 7 0
      let c : RingCmd := { seq := w 0, op := op, words := ws }
      let here := s.epoch (bits (w 1) 27 16)
      (w 0 = expect →
        (c.argsOk = true → ringOps.contains op = true → w 2 = 0 ∨ w 2 = here → op ≠ 0x10 →
          ∃ t : State, exec (.hostqFetch q (some ws)) s = .next t ∧ (t.hostRing q).cmd = some c ∧
            t.get Reg.HOSTQ_RING_EXPECT q = (expect + 1) % 2 ^ 32 ∧ t.get Reg.HOSTQ_RUNNING q = 1 ∧ t.get Reg.HOSTQ_OP_NOW q = op ∧
            t = { s with regs := t.regs, host := t.host }) ∧
        (ringOps.contains op = false → ∃ u : State, exec (.hostqFetch q (some ws)) s = .next (u.ringEnd q 0 0x01 0) ∧
          (u.hostRing q).cmd = some c ∧ u.get Reg.HOSTQ_RING_EXPECT q = (expect + 1) % 2 ^ 32) ∧
        (ringOps.contains op = true → c.argsOk = false →
          ∃ u : State, exec (.hostqFetch q (some ws)) s = .next (u.ringEnd q 0 0x02 0) ∧ (u.hostRing q).cmd = some c)) ∧
      (∀ r, w 0 ≠ expect → (expect + 2 ^ 32 - w 0) % 2 ^ 32 ≤ 256 → (s.hostRing q).records.find? (·.seq == w 0) = some r →
        ∃ u : State, exec (.hostqFetch q (some ws)) s = .next (u.sendCpl q r) ∧ (u.hostRing q).cmd = none ∧
          u.get Reg.HOSTQ_RING_DUP_CNT q = satInc 32 (s.get Reg.HOSTQ_RING_DUP_CNT q) 1 ∧
          u.get Reg.HOSTQ_RING_EXPECT q = expect) ∧
      (2 ^ 31 < (expect + 2 ^ 32 - w 0) % 2 ^ 32 →
        ∃ u : State, exec (.hostqFetch q (some ws)) s = .next (u.sendCpl q (hostCpl (w 0) op 0 0x05 u.ts32 expect)) ∧
          u.get Reg.HOSTQ_GAP_STOP q = 1 ∧ u.get Reg.HOSTQ_RING_EXPECT q = expect ∧
          u.get Reg.HOSTQ_RING_GAP_CNT q = satInc 32 (s.get Reg.HOSTQ_RING_GAP_CNT q) 1))) ∧
  ((∀ (s : State) (q : Nat), q < 4 → s.getB Reg.HOSTQ_EN q = false →
    ∃ t : State, exec (.hostqRingEn q true) s = .next t ∧ t.get Reg.HOSTQ_EN q = 1 ∧ t.get Reg.HOSTQ_CPL_WR q = 0 ∧
      t.get Reg.HOSTQ_CPL_RD q = 0 ∧ t.get Reg.HOSTQ_RING_EXPECT q = s.get Reg.HOSTQ_RING_EXPECT q ∧
      t = { s with regs := t.regs, host := t.host }) ∧
  (∀ (s : State) (q : Nat), q < 4 → s.getB Reg.HOSTQ_EN q = true →
    ∃ t : State, exec (.hostqRingEn q false) s = .next t ∧ t.get Reg.HOSTQ_EN q = 0 ∧ (t.hostRing q).doorbell = none ∧
      (t.hostRing q).cmd = (s.hostRing q).cmd ∧ (t.hostRing q).stopping = (s.hostRing q).cmd.isSome ∧
      t = { s with regs := t.regs, host := t.host }) ∧
  (∀ (s : State) (q : Nat) (v : Word), q < 4 →
    let back := (s.get Reg.HOSTQ_RING_EXPECT q + 2 ^ 32 - v.toNat) % 2 ^ 32
    (s.getB Reg.HOSTQ_EN q = false ∨ back = 0 ∨ 256 < back → ∃ t : State, exec (.ringReplay q v) s = .next t ∧
      t.get Hdr.ERR_CNT 3 = satInc 32 (s.get Hdr.ERR_CNT 3) 1 ∧ OnlyWords [fldAt Hdr.ERR_CNT 3] s t) ∧
    (s.getB Reg.HOSTQ_EN q = true → 0 < back → back ≤ 256 →
      exec (.ringReplay q v) s = .next ((((s.hostRing q).records.filter fun c =>
        (s.get Reg.HOSTQ_RING_EXPECT q + 2 ^ 32 - c.seq) % 2 ^ 32 ≤ back).reverse).foldl
          (fun u c => (u.count Reg.HOSTQ_RING_DUP_CNT q).sendCpl q c) s))) ∧
  (∀ (s : State) (q : Nat) (c : RingCmd), q < 4 → (s.hostRing q).cmd = some c → c.op = 0 → c.began = false →
    let cpl := hostCpl c.seq 0 0 0 s.ts32 0
    ∃ t : State, exec (.cmdNop q) s = .next t ∧ (t.hostRing q).cmd = none ∧
      (t.hostRing q).records = (cpl :: (s.hostRing q).records).take 256 ∧
      t.get Reg.HOSTQ_RING_DONE_CNT q = satInc 32 (s.get Reg.HOSTQ_RING_DONE_CNT q) 1 ∧
      t = { s with regs := t.regs, host := t.host } ∧
      (c.mute = false → s.getB Reg.HOSTQ_EN q = true → (s.hostRing q).replay = [] → s.cplFree q = true →
        s.hostReadable = true →
        let wr := s.get Reg.HOSTQ_CPL_WR q
        let at0 := s.get Reg.HOSTQ_CPL_BASE_HI q * 2 ^ 32 + s.get Reg.HOSTQ_CPL_BASE_LO q * 16 + 16 * wr
        (∀ i, i < 16 → tget 0 t.host.mem (at0 + i) = (wordBytes (cpl.words.map (·.toNat))).getD i 0) ∧
        t.get Reg.HOSTQ_CPL_WR q = ((wr + 1) % max 1 (s.get Reg.HOSTQ_CPL_SLOTS q)) % 2 ^ 13)))

/-- A register write that is not of whole aligned words changes nothing but GLOBAL_BAD_ACCESS and its interrupt bit. On a page without a power domain: a word written to
PG_IRQ_STAT clears the bits written as 1; PG_IRQ_EN and a scratch register take the value; a read-only register takes nothing. A ring's base takes a write only
while the ring is disabled, else the page counts an error. A write of MODE_REQ or of a doorbell has the effect of its command. A ring's REG_WRITE has exactly
the effect of the register write, then completes. -/
def Obligations.RegisterWrites : Prop :=
  (∀ (s : State) (p : Plane) (off : Nat) (data : List Byte), off % 4 ≠ 0 ∨ data.length % 4 ≠ 0 ∨ data = [] →
    ∃ t : State, exec (.registerWrite p off data) s = .next t ∧
      t.get Reg.GLOBAL_BAD_ACCESS = satInc 32 (s.get Reg.GLOBAL_BAD_ACCESS) 1 ∧ t.get Reg.GLOBAL_IRQ_BAD_ACCESS = 1 ∧
      OnlyWords [fldAt Reg.GLOBAL_BAD_ACCESS 0, fldAt Reg.GLOBAL_IRQ_BAD_ACCESS 0] s t) ∧
  (∀ (s : State) (p : Plane) (page : Nat) (v : Word), page < 4 →
    (∃ t : State, exec (.registerWrite p (4096 * page + 0x10) (leBytes 4 v.toNat)) s = .next t ∧
      t.word (4096 * page + 0x10) = s.word (4096 * page + 0x10) &&& ~~~v ∧
      OnlyWords [4096 * page + 0x10] { s with frozen := t.frozen } t) ∧
    ∃ t : State, exec (.registerWrite p (4096 * page + 0x14) (leBytes 4 v.toNat)) s = .next t ∧
      t.word (4096 * page + 0x14) = v ∧ OnlyWords [4096 * page + 0x14] s t) ∧
  (∀ (s : State) (p : Plane) (v : Word),
    (∃ t : State, exec (.registerWrite p (fldAt Reg.GLOBAL_SCRATCH0 0) (leBytes 4 v.toNat)) s = .next t ∧
      t.word (fldAt Reg.GLOBAL_SCRATCH0 0) = v ∧ OnlyWords [fldAt Reg.GLOBAL_SCRATCH0 0] s t) ∧
    exec (.registerWrite p (fldAt Reg.GLOBAL_PART 0) (leBytes 4 v.toNat)) s = .next s ∧
    exec (.registerWrite p (fldAt Reg.MODE_SET_MODE 0) (leBytes 4 0x0D)) s = exec (.reqHold p) s) ∧
  (∀ (s : State) (p : Plane) (q : Nat) (v : Word), q < 4 →
    exec (.registerWrite p (fldAt Reg.HOSTQ_RING_DB q) (leBytes 4 v.toNat)) s = exec (.hostqRingDb q v) s ∧
    (s.getB Reg.HOSTQ_EN q = false →
      ∃ t : State, exec (.registerWrite p (fldAt Reg.HOSTQ_RING_BASE_HI q) (leBytes 4 v.toNat)) s = .next t ∧
        t.word (fldAt Reg.HOSTQ_RING_BASE_HI q) = v ∧ OnlyWords [fldAt Reg.HOSTQ_RING_BASE_HI q] s t) ∧
    (s.getB Reg.HOSTQ_EN q = true →
      ∃ t : State, exec (.registerWrite p (fldAt Reg.HOSTQ_RING_BASE_HI q) (leBytes 4 v.toNat)) s = .next t ∧
        t.get Hdr.ERR_CNT 3 = satInc 32 (s.get Hdr.ERR_CNT 3) 1 ∧ OnlyWords [fldAt Hdr.ERR_CNT 3] s t)) ∧
  (∀ (s : State) (q : Nat) (c : RingCmd), (s.hostRing q).cmd = some c → c.op = 1 → c.began = false → c.argsOk = true →
    ∃ u : State, exec (.registerWrite .host (c.a 0) (wordBytes ((List.range (c.a 1)).map fun i => c.a (2 + i)))) (s.ringBegan q) =
        .next u ∧
      exec (.regWrite q) s = .next (u.ringEnd q 0 0 0))

/-- The mode page ignores a soft reset. A soft reset of the ring page with every ring disabled returns sequence numbers and indices to 0 and forgets the
records; with a ring enabled it does nothing. One of the global page clears its counter and interrupt bit, counts its epoch and keeps the
scratch registers. FREEZE takes the value written; a frozen page goes on showing its error count as it stood, whatever is counted.
A register read that is not of whole aligned words is answered with an abort and no data. The read of a word with an RC field on a page that is not frozen
answers the word as it stands and clears the field; nothing else of the block changes. The host reads 0 from the key and provisioning pages. A ring's REG_READ writes
to host memory exactly what the register read answers, then completes with the count. -/
def Obligations.RegisterReadsResetsAndFreezes : Prop :=
  ((∀ (s : State) (p : Plane), exec (.softReset p 1) s = .next s) ∧
  (∀ (s : State) (p : Plane), (∀ q, q < 4 → s.getB Reg.HOSTQ_EN q = false) →
    ∃ t : State, exec (.softReset p 3) s = .next t ∧
      (∀ q, q < 4 → t.get Reg.HOSTQ_RING_EXPECT q = 0 ∧ t.get Reg.HOSTQ_CPL_WR q = 0 ∧ t.get Reg.HOSTQ_CPL_RD q = 0 ∧
        (t.hostRing q).records = [] ∧ t.get Reg.HOSTQ_RING_DONE_CNT q = 0) ∧
      t.epoch 3 = (if s.epoch 3 + 1 < 2 ^ 32 then s.epoch 3 + 1 else 1) ∧
      t = { s with regs := t.regs, host := t.host, frozen := t.frozen }) ∧
  (∀ (s : State) (p : Plane) (q : Nat), q < 4 → s.getB Reg.HOSTQ_EN q = true → exec (.softReset p 3) s = .next s) ∧
  (∀ (s : State) (p : Plane), ∃ t : State, exec (.softReset p 0) s = .next t ∧ t.get Reg.GLOBAL_BAD_ACCESS = 0 ∧
    t.get Reg.GLOBAL_IRQ_BAD_ACCESS = 0 ∧ t.get Reg.GLOBAL_SCRATCH0 = s.get Reg.GLOBAL_SCRATCH0 ∧
    t.get Reg.GLOBAL_SCRATCH1 = s.get Reg.GLOBAL_SCRATCH1 ∧ t.epoch 0 = (if s.epoch 0 + 1 < 2 ^ 32 then s.epoch 0 + 1 else 1) ∧
    t = { s with regs := t.regs, frozen := t.frozen }) ∧
  (∀ (s : State) (p : Plane) (page : Nat) (on : Bool), page < 4 →
    ∃ t : State, exec (.freeze p page on) s = .next t ∧ t.getB Hdr.FREEZE page = on ∧
      OnlyWords [fldAt Hdr.FREEZE page] { s with frozen := t.frozen } t ∧
      (on = true → ∀ n, (t.pageErr page n).readWord p (fldAt Hdr.ERR_CNT page) = s.readWord p (fldAt Hdr.ERR_CNT page)))) ∧
  ((∀ (s : State) (p : Plane) (off n : Nat), off % 4 ≠ 0 ∨ n % 4 ≠ 0 ∨ n = 0 →
    ∃ t : State, exec (.rcRead p off n) s = .next t ∧
      (p = .host → t.host.readHost = [] ∧ t.host.abortHost = true) ∧ (p = .mgmt → t.host.readMgmt = [] ∧ t.host.abortMgmt = true) ∧
      t.get Reg.GLOBAL_BAD_ACCESS = satInc 32 (s.get Reg.GLOBAL_BAD_ACCESS) 1 ∧
      OnlyWords [fldAt Reg.GLOBAL_BAD_ACCESS 0, fldAt Reg.GLOBAL_IRQ_BAD_ACCESS 0] { s with host := t.host } t) ∧
  (∀ (s : State) (p : Plane) (f : Fld), f = Reg.PWR_WAKE_MAX ∨ f = Reg.THERM_TJ_MAX →
    s.getB Hdr.FREEZE (fldAt f 0 / 4096) = false →
    ∃ t : State, exec (.rcRead p (fldAt f 0) 4) s = .next t ∧
      (p = .host → t.host.readHost = [s.word (fldAt f 0)] ∧ t.host.abortHost = false) ∧
      (p = .mgmt → t.host.readMgmt = [s.word (fldAt f 0)] ∧ t.host.abortMgmt = false) ∧
      t.get f = 0 ∧ OnlyWords [fldAt f 0] { s with host := t.host } t) ∧
  (∀ (s : State) (a : Nat), 0xF00000 ≤ a → a < 0xF02000 → a % 4 = 0 →
    ∃ t : State, exec (.rcRead .host a 4) s = .next t ∧ t.host.readHost = [0] ∧ t = { s with host := t.host }) ∧
  (∀ (s : State) (q : Nat) (c : RingCmd), (s.hostRing q).cmd = some c → c.op = 2 → c.began = false → c.argsOk = true →
    ∃ (u : State) (l : List Nat), exec (.rcRead .host (c.a 0) (4 * c.a 1)) (s.ringBegan q) = .next (u.setReads .host l) ∧
      l.length = c.a 1 ∧
      (u.hostReadable = true →
        exec (.regRead q) s = .next ((u.hostWrite (c.a 2 + 2 ^ 32 * c.a 3) (wordBytes l)).1.ringEnd q 0 0 (c.a 1)))))
end

