-- ==== Sys2Proof/Laws/Tables.lean ====
section
/-! SUPPORT. What the operations of a sparse table do: reads after writes, and the canonical form that every write keeps. -/

namespace Sys2Proof.Machine

variable {α : Type}

/-- Removing other keys leaves a key's value. -/
theorem tget_filter_ne (d : α) (t : Tbl α) (a b : Nat) (h : b ≠ a) :
    tget d (t.filter (fun p => p.1 ≠ a)) b = tget d t b := by
  induction t with
  | nil => rfl
  | cons p r ih =>
    obtain ⟨k, w⟩ := p
    by_cases hk : k = a
    · subst hk; simp only [tget, ne_eq, h, ↓reduceIte, List.filter_cons, not_true_eq_false, decide_false]; exact ih
    · simp only [ne_eq, hk, not_false_eq_true, decide_true, List.filter_cons_of_pos, tget]
      split
      · rfl
      · exact ih

/-- A removed key reads as the default. -/
theorem tget_filter_self (d : α) (t : Tbl α) (a : Nat) :
    tget d (t.filter (fun p => p.1 ≠ a)) a = d := by
  induction t with
  | nil => rfl
  | cons p r ih =>
    obtain ⟨k, w⟩ := p
    by_cases hk : k = a
    · subst hk; simpa [List.filter_cons] using ih
    · simp only [ne_eq, hk, not_false_eq_true, decide_true, List.filter_cons_of_pos, tget, Ne.symm hk, ↓reduceIte]
      exact ih

variable [DecidableEq α]

/-- The key written reads as the value written. -/
@[simp] theorem tget_tput_same (d : α) (t : Tbl α) (a : Nat) (v : α) : tget d (tput d t a v) a = v := by
  induction t with
  | nil => by_cases h : v = d <;> simp [tput, tget, h]
  | cons p r ih =>
    obtain ⟨k, w⟩ := p
    simp only [tput]
    split
    · next hk => simp only [tget, show a ≠ k by omega, ↓reduceIte]; exact ih
    · next hk =>
      split
      · next hv => subst hv; exact tget_filter_self _ _ _
      · simp [tget]

/-- Every other key reads as before. -/
theorem tget_tput_other (d e : α) (t : Tbl α) (a b : Nat) (v : α) (h : b ≠ a) :
    tget e (tput d t a v) b = tget e t b := by
  induction t with
  | nil => by_cases hv : v = d <;> simp [tput, tget, h, hv]
  | cons p r ih =>
    obtain ⟨k, w⟩ := p
    simp only [tput]
    split
    · simp only [tget]; split
      · rfl
      · exact ih
    · next hk =>
      split
      · rw [tget_filter_ne _ _ _ _ h]
        split
        · next hka => subst hka; simp [tget, h]
        · rfl
      · split
        · next hka => subst hka; simp [tget, h]
        · simp [tget, h]

/-- A read after a write. -/
theorem tget_tput (d : α) (t : Tbl α) (a b : Nat) (v : α) :
    tget d (tput d t a v) b = if b = a then v else tget d t b := by
  split
  · next h => subst h; exact tget_tput_same d t b v
  · next h => exact tget_tput_other d d t a b v h

/-! ## The canonical form -/

theorem twfFrom_mono {D : Nat → α} {lo lo' : Nat} {t : Tbl α} (h : twfFrom D lo t = true) (hl : lo' ≤ lo) :
    twfFrom D lo' t = true := by
  cases t with
  | nil => rfl
  | cons p r =>
    obtain ⟨k, w⟩ := p
    simp only [twfFrom, Bool.and_eq_true, decide_eq_true_eq] at h ⊢
    exact ⟨⟨by omega, h.1.2⟩, h.2⟩

theorem twfFrom_filter {D : Nat → α} (p : Nat × α → Bool) (t : Tbl α) :
    ∀ lo, twfFrom D lo t = true → twfFrom D lo (t.filter p) = true := by
  induction t with
  | nil => intro lo _; rfl
  | cons q r ih =>
    intro lo h
    obtain ⟨k, w⟩ := q
    simp only [twfFrom, Bool.and_eq_true, decide_eq_true_eq] at h
    by_cases hp : p (k, w) = true
    · simp only [List.filter_cons_of_pos hp, twfFrom, Bool.and_eq_true, decide_eq_true_eq]
      exact ⟨h.1, ih _ h.2⟩
    · rw [List.filter_cons_of_neg hp]
      exact twfFrom_mono (ih _ h.2) (by omega)

theorem twfFrom_tput {D : Nat → α} (t : Tbl α) (a : Nat) (v : α) :
    ∀ lo, lo ≤ a → twfFrom D lo t = true → twfFrom D lo (tput (D a) t a v) = true := by
  induction t with
  | nil =>
    intro lo hl _
    by_cases h : v = D a <;> simp [tput, twfFrom, h, hl]
  | cons q r ih =>
    intro lo hl h
    obtain ⟨k, w⟩ := q
    simp only [twfFrom, Bool.and_eq_true, decide_eq_true_eq] at h
    simp only [tput]
    by_cases hk : k < a
    · simp only [hk, ↓reduceIte, twfFrom, Bool.and_eq_true, decide_eq_true_eq]
      exact ⟨h.1, ih (k + 1) (by omega) h.2⟩
    · by_cases hka : k = a
      · subst hka
        by_cases hv : v = D k
        · simp only [hk, hv, ↓reduceIte]
          exact twfFrom_filter _ _ _ (twfFrom_mono h.2 (by omega))
        · simp only [hk, hv, ↓reduceIte, twfFrom, Bool.and_eq_true, decide_eq_true_eq]
          exact ⟨⟨hl, hv⟩, h.2⟩
      · by_cases hv : v = D a
        · simp only [hk, hka, hv, ↓reduceIte]
          refine twfFrom_filter _ _ _ ?_
          simp only [twfFrom, Bool.and_eq_true, decide_eq_true_eq]; exact h
        · simp only [hk, hka, hv, ↓reduceIte, twfFrom, Bool.and_eq_true, decide_eq_true_eq]
          exact ⟨⟨hl, hv⟩, ⟨by omega, h.1.2⟩, h.2⟩

/-- A write keeps the canonical form. -/
theorem twf_tput {D : Nat → α} {t : Tbl α} (h : twf D t = true) (a : Nat) (v : α) :
    twf D (tput (D a) t a v) = true := twfFrom_tput t a v 0 (Nat.zero_le a) h

/-- So does dropping entries. -/
theorem twf_filter {D : Nat → α} {t : Tbl α} (h : twf D t = true) (p : Nat × α → Bool) :
    twf D (t.filter p) = true := twfFrom_filter p t 0 h

/-- So does an update in place. -/
theorem twf_tmod {D : Nat → α} {t : Tbl α} (h : twf D t = true) (a : Nat) (f : α → α) :
    twf D (tmod (D a) t a f) = true := twf_tput h a _

/-- So does a run of writes in a table with one default. -/
theorem twf_tputs {d : α} (l : List α) {t : Tbl α} (h : twf (fun _ => d) t = true) (a : Nat) :
    twf (fun _ => d) (tputs d t a l) = true := by
  induction l generalizing t a with
  | nil => exact h
  | cons v r ih => exact ih (twf_tput h a v) (a + 1)

/-- A run of writes reads back, and leaves every other key as it was. -/
theorem tget_tputs (d : α) (l : List α) (t : Tbl α) (a b : Nat) :
    tget d (tputs d t a l) b = if h : a ≤ b ∧ b < a + l.length then l[b - a]'(by omega) else tget d t b := by
  induction l generalizing t a with
  | nil => simp [tputs]
  | cons v r ih =>
    simp only [tputs, ih, List.length_cons]
    by_cases h1 : a + 1 ≤ b ∧ b < a + 1 + r.length
    · rw [dif_pos h1, dif_pos (by omega)]
      have : b - a = (b - (a + 1)) + 1 := by omega
      simp [this]
    · rw [dif_neg h1]
      by_cases h2 : b = a
      · subst h2; simp
      · rw [dif_neg (by omega)]; exact tget_tput_other _ _ _ _ _ _ h2

end Sys2Proof.Machine
end

