-- ==== Sys2Proof/Laws/Fields.lean ====
section
/-! SUPPORT. Reads of register words and fields after a store to one of them, and what such a store leaves alone. -/

namespace Sys2Proof.Machine

/-! ## Bit fields of a number -/

theorem withBits_eq (x hi lo v : Nat) :
    withBits x hi lo v =
      (x / 2 ^ lo / 2 ^ (hi + 1 - lo) * 2 ^ (hi + 1 - lo) + v % 2 ^ (hi + 1 - lo)) * 2 ^ lo + x % 2 ^ lo := by
  have h1 := Nat.div_add_mod x (2 ^ lo)
  have h2 := Nat.div_add_mod (x / 2 ^ lo) (2 ^ (hi + 1 - lo))
  unfold withBits bits
  generalize x / 2 ^ lo % 2 ^ (hi + 1 - lo) = b at *
  generalize x / 2 ^ lo / 2 ^ (hi + 1 - lo) = q at *
  generalize v % 2 ^ (hi + 1 - lo) = v' at *
  generalize x % 2 ^ lo = c at *
  rw [← h2] at h1
  have h3 : x = q * 2 ^ (hi + 1 - lo) * 2 ^ lo + b * 2 ^ lo + c := by rw [← h1]; ring
  rw [h3, Nat.add_mul]; omega

/-- The field written holds the value, cut to its width. -/
@[simp] theorem bits_withBits_same (x hi lo v : Nat) : bits (withBits x hi lo v) hi lo = v % 2 ^ (hi + 1 - lo) := by
  rw [withBits_eq]
  have hc : x % 2 ^ lo < 2 ^ lo := Nat.mod_lt _ (by positivity)
  generalize x % 2 ^ lo = c at *
  unfold bits
  rw [Nat.mul_comm, Nat.mul_add_div (by positivity), Nat.div_eq_of_lt hc, Nat.add_zero, Nat.mul_comm, Nat.mul_add_mod,
    Nat.mod_mod]

theorem testBit_bits (x hi lo i : Nat) : (bits x hi lo).testBit i = (decide (i < hi + 1 - lo) && x.testBit (lo + i)) := by
  unfold bits; rw [Nat.testBit_mod_two_pow, Nat.testBit_div_two_pow, Nat.add_comm lo i]

theorem testBit_withBits (x hi lo v i : Nat) :
    (withBits x hi lo v).testBit i = if lo ≤ i ∧ i < hi + 1 then v.testBit (i - lo) else x.testBit i := by
  rw [withBits_eq, Nat.mul_comm, Nat.testBit_two_pow_mul_add _ (Nat.mod_lt _ (by positivity))]
  by_cases h : i < lo
  · rw [if_pos h, if_neg (by omega), Nat.testBit_mod_two_pow]; simp [h]
  · rw [if_neg h, Nat.mul_comm, Nat.testBit_two_pow_mul_add _ (Nat.mod_lt _ (by positivity))]
    by_cases h2 : i < hi + 1
    · rw [if_pos (show lo ≤ i ∧ i < hi + 1 by omega), if_pos (by omega), Nat.testBit_mod_two_pow]
      simp [show i - lo < hi + 1 - lo by omega]
    · rw [if_neg (show ¬(lo ≤ i ∧ i < hi + 1) by omega)]
      by_cases h3 : lo ≤ hi + 1
      · rw [if_neg (by omega), Nat.testBit_div_two_pow, Nat.testBit_div_two_pow]
        congr 1; omega
      · rw [if_neg (by omega), Nat.testBit_div_two_pow, Nat.testBit_div_two_pow]
        congr 1; omega

/-- A field apart from the one written keeps its value. -/
theorem bits_withBits_apart (x hi lo v hi' lo' : Nat) (h : hi' < lo ∨ hi < lo') :
    bits (withBits x hi lo v) hi' lo' = bits x hi' lo' := by
  apply Nat.eq_of_testBit_eq
  intro i
  rw [testBit_bits, testBit_bits, testBit_withBits]
  by_cases hi'' : i < hi' + 1 - lo'
  · rw [if_neg (by omega)]
  · simp [hi'']

theorem bits_mod_word (x hi lo : Nat) (h : hi < 32) : bits (x % 2 ^ 32) hi lo = bits x hi lo := by
  apply Nat.eq_of_testBit_eq
  intro i
  rw [testBit_bits, testBit_bits, Nat.testBit_mod_two_pow]
  by_cases hi' : i < hi + 1 - lo
  · simp [hi', show lo + i < 32 by omega]
  · simp [hi']

/-! ## Register words -/

@[simp] theorem State.word_setWord_same (s : State) (a : Nat) (v : Word) : (s.setWord a v).word a = v :=
  tget_tput_same _ _ _ _

theorem State.word_setWord_other (s : State) (a b : Nat) (v : Word) (h : b ≠ a) : (s.setWord a v).word b = s.word b :=
  tget_tput_other _ _ _ _ _ _ h

theorem State.word_put_other (s : State) (f : Fld) (i v b : Nat) (h : b ≠ fldAt f i) : (s.put f i v).word b = s.word b :=
  s.word_setWord_other _ _ _ h

/-- A field reads back as the value stored, cut to its width. -/
theorem State.get_put_same (s : State) (f : Fld) (i v : Nat) (h : f.hi < 32 := by decide) :
    (s.put f i v).get f i = v % 2 ^ fldWidth f := by
  simp only [State.get, State.put, State.word_setWord_same, BitVec.toNat_ofNat, bits_mod_word _ _ _ h,
    bits_withBits_same, fldWidth]

/-- A field of another word keeps its value. -/
theorem State.get_put_word (s : State) (f g : Fld) (i j v : Nat) (h : fldAt g j ≠ fldAt f i) :
    (s.put f i v).get g j = s.get g j := by
  simp only [State.get, State.word_put_other s f i v _ h]

/-- A field of the same word that shares no bit with the one stored keeps its value. -/
theorem State.get_put_apart (s : State) (f g : Fld) (i j v : Nat) (hg : g.hi < 32) (h : g.hi < f.lo ∨ f.hi < g.lo) :
    (s.put f i v).get g j = s.get g j := by
  by_cases ha : fldAt g j = fldAt f i
  · simp only [State.get, State.put, ha, State.word_setWord_same, BitVec.toNat_ofNat, bits_mod_word _ _ _ hg,
      bits_withBits_apart _ _ _ _ _ _ h]
  · exact s.get_put_word f g i j v ha

/-- A store of a field changes the register words alone. -/
theorem State.put_eq (s : State) (f : Fld) (i v : Nat) : s.put f i v = { s with regs := (s.put f i v).regs } := rfl

end Sys2Proof.Machine
end

