-- ==== Sys2Proof/Laws/State.lean ====
section
/-! SUPPORT. Every field of the state after every shared update: no later proof unfolds a record update. -/

namespace Sys2Proof.Machine

variable (s : State)

/-! ## setWord -/

@[simp] theorem State.setWord_pending (a : Nat) (v : Word) : (s.setWord a v).pending = s.pending := rfl
@[simp] theorem State.setWord_clk (a : Nat) (v : Word) : (s.setWord a v).clk = s.clk := rfl
@[simp] theorem State.setWord_ptp (a : Nat) (v : Word) : (s.setWord a v).ptp = s.ptp := rfl
@[simp] theorem State.setWord_hel (a : Nat) (v : Word) : (s.setWord a v).hel = s.hel := rfl
@[simp] theorem State.setWord_frozen (a : Nat) (v : Word) : (s.setWord a v).frozen = s.frozen := rfl
@[simp] theorem State.setWord_free (a : Nat) (v : Word) : (s.setWord a v).free = s.free := rfl
@[simp] theorem State.setWord_sel (a : Nat) (v : Word) : (s.setWord a v).sel = s.sel := rfl
@[simp] theorem State.setWord_flt (a : Nat) (v : Word) : (s.setWord a v).flt = s.flt := rfl
@[simp] theorem State.setWord_mem (a : Nat) (v : Word) : (s.setWord a v).mem = s.mem := rfl
@[simp] theorem State.setWord_host (a : Nat) (v : Word) : (s.setWord a v).host = s.host := rfl
@[simp] theorem State.setWord_mode (a : Nat) (v : Word) : (s.setWord a v).mode = s.mode := rfl
@[simp] theorem State.setWord_mgmt (a : Nat) (v : Word) : (s.setWord a v).mgmt = s.mgmt := rfl
@[simp] theorem State.setWord_pwr (a : Nat) (v : Word) : (s.setWord a v).pwr = s.pwr := rfl
@[simp] theorem State.setWord_scn (a : Nat) (v : Word) : (s.setWord a v).scn = s.scn := rfl
@[simp] theorem State.setWord_eph (a : Nat) (v : Word) : (s.setWord a v).eph = s.eph := rfl
@[simp] theorem State.setWord_dp (a : Nat) (v : Word) : (s.setWord a v).dp = s.dp := rfl
@[simp] theorem State.setWord_ports (a : Nat) (v : Word) : (s.setWord a v).ports = s.ports := rfl
@[simp] theorem State.setWord_net (a : Nat) (v : Word) : (s.setWord a v).net = s.net := rfl
@[simp] theorem State.setWord_lanes (a : Nat) (v : Word) : (s.setWord a v).lanes = s.lanes := rfl
@[simp] theorem State.setWord_kzl (a : Nat) (v : Word) : (s.setWord a v).kzl = s.kzl := rfl
@[simp] theorem State.setWord_stby (a : Nat) (v : Word) : (s.setWord a v).stby = s.stby := rfl
@[simp] theorem State.setWord_se (a : Nat) (v : Word) : (s.setWord a v).se = s.se := rfl
@[simp] theorem State.setWord_prog (a : Nat) (v : Word) : (s.setWord a v).prog = s.prog := rfl
@[simp] theorem State.setWord_bc (a : Nat) (v : Word) : (s.setWord a v).bc = s.bc := rfl

/-! ## put -/

@[simp] theorem State.put_pending (g : Fld) (i v : Nat) : (s.put g i v).pending = s.pending := rfl
@[simp] theorem State.put_clk (g : Fld) (i v : Nat) : (s.put g i v).clk = s.clk := rfl
@[simp] theorem State.put_ptp (g : Fld) (i v : Nat) : (s.put g i v).ptp = s.ptp := rfl
@[simp] theorem State.put_hel (g : Fld) (i v : Nat) : (s.put g i v).hel = s.hel := rfl
@[simp] theorem State.put_frozen (g : Fld) (i v : Nat) : (s.put g i v).frozen = s.frozen := rfl
@[simp] theorem State.put_free (g : Fld) (i v : Nat) : (s.put g i v).free = s.free := rfl
@[simp] theorem State.put_sel (g : Fld) (i v : Nat) : (s.put g i v).sel = s.sel := rfl
@[simp] theorem State.put_flt (g : Fld) (i v : Nat) : (s.put g i v).flt = s.flt := rfl
@[simp] theorem State.put_mem (g : Fld) (i v : Nat) : (s.put g i v).mem = s.mem := rfl
@[simp] theorem State.put_host (g : Fld) (i v : Nat) : (s.put g i v).host = s.host := rfl
@[simp] theorem State.put_mode (g : Fld) (i v : Nat) : (s.put g i v).mode = s.mode := rfl
@[simp] theorem State.put_mgmt (g : Fld) (i v : Nat) : (s.put g i v).mgmt = s.mgmt := rfl
@[simp] theorem State.put_pwr (g : Fld) (i v : Nat) : (s.put g i v).pwr = s.pwr := rfl
@[simp] theorem State.put_scn (g : Fld) (i v : Nat) : (s.put g i v).scn = s.scn := rfl
@[simp] theorem State.put_eph (g : Fld) (i v : Nat) : (s.put g i v).eph = s.eph := rfl
@[simp] theorem State.put_dp (g : Fld) (i v : Nat) : (s.put g i v).dp = s.dp := rfl
@[simp] theorem State.put_ports (g : Fld) (i v : Nat) : (s.put g i v).ports = s.ports := rfl
@[simp] theorem State.put_net (g : Fld) (i v : Nat) : (s.put g i v).net = s.net := rfl
@[simp] theorem State.put_lanes (g : Fld) (i v : Nat) : (s.put g i v).lanes = s.lanes := rfl
@[simp] theorem State.put_kzl (g : Fld) (i v : Nat) : (s.put g i v).kzl = s.kzl := rfl
@[simp] theorem State.put_stby (g : Fld) (i v : Nat) : (s.put g i v).stby = s.stby := rfl
@[simp] theorem State.put_se (g : Fld) (i v : Nat) : (s.put g i v).se = s.se := rfl
@[simp] theorem State.put_prog (g : Fld) (i v : Nat) : (s.put g i v).prog = s.prog := rfl
@[simp] theorem State.put_bc (g : Fld) (i v : Nat) : (s.put g i v).bc = s.bc := rfl

/-! ## put0 -/

@[simp] theorem State.put0_pending (g : Fld) (v : Nat) : (s.put0 g v).pending = s.pending := rfl
@[simp] theorem State.put0_clk (g : Fld) (v : Nat) : (s.put0 g v).clk = s.clk := rfl
@[simp] theorem State.put0_ptp (g : Fld) (v : Nat) : (s.put0 g v).ptp = s.ptp := rfl
@[simp] theorem State.put0_hel (g : Fld) (v : Nat) : (s.put0 g v).hel = s.hel := rfl
@[simp] theorem State.put0_frozen (g : Fld) (v : Nat) : (s.put0 g v).frozen = s.frozen := rfl
@[simp] theorem State.put0_free (g : Fld) (v : Nat) : (s.put0 g v).free = s.free := rfl
@[simp] theorem State.put0_sel (g : Fld) (v : Nat) : (s.put0 g v).sel = s.sel := rfl
@[simp] theorem State.put0_flt (g : Fld) (v : Nat) : (s.put0 g v).flt = s.flt := rfl
@[simp] theorem State.put0_mem (g : Fld) (v : Nat) : (s.put0 g v).mem = s.mem := rfl
@[simp] theorem State.put0_host (g : Fld) (v : Nat) : (s.put0 g v).host = s.host := rfl
@[simp] theorem State.put0_mode (g : Fld) (v : Nat) : (s.put0 g v).mode = s.mode := rfl
@[simp] theorem State.put0_mgmt (g : Fld) (v : Nat) : (s.put0 g v).mgmt = s.mgmt := rfl
@[simp] theorem State.put0_pwr (g : Fld) (v : Nat) : (s.put0 g v).pwr = s.pwr := rfl
@[simp] theorem State.put0_scn (g : Fld) (v : Nat) : (s.put0 g v).scn = s.scn := rfl
@[simp] theorem State.put0_eph (g : Fld) (v : Nat) : (s.put0 g v).eph = s.eph := rfl
@[simp] theorem State.put0_dp (g : Fld) (v : Nat) : (s.put0 g v).dp = s.dp := rfl
@[simp] theorem State.put0_ports (g : Fld) (v : Nat) : (s.put0 g v).ports = s.ports := rfl
@[simp] theorem State.put0_net (g : Fld) (v : Nat) : (s.put0 g v).net = s.net := rfl
@[simp] theorem State.put0_lanes (g : Fld) (v : Nat) : (s.put0 g v).lanes = s.lanes := rfl
@[simp] theorem State.put0_kzl (g : Fld) (v : Nat) : (s.put0 g v).kzl = s.kzl := rfl
@[simp] theorem State.put0_stby (g : Fld) (v : Nat) : (s.put0 g v).stby = s.stby := rfl
@[simp] theorem State.put0_se (g : Fld) (v : Nat) : (s.put0 g v).se = s.se := rfl
@[simp] theorem State.put0_prog (g : Fld) (v : Nat) : (s.put0 g v).prog = s.prog := rfl
@[simp] theorem State.put0_bc (g : Fld) (v : Nat) : (s.put0 g v).bc = s.bc := rfl

/-! ## putB -/

@[simp] theorem State.putB_pending (g : Fld) (i : Nat) (b : Bool) : (s.putB g i b).pending = s.pending := rfl
@[simp] theorem State.putB_clk (g : Fld) (i : Nat) (b : Bool) : (s.putB g i b).clk = s.clk := rfl
@[simp] theorem State.putB_ptp (g : Fld) (i : Nat) (b : Bool) : (s.putB g i b).ptp = s.ptp := rfl
@[simp] theorem State.putB_hel (g : Fld) (i : Nat) (b : Bool) : (s.putB g i b).hel = s.hel := rfl
@[simp] theorem State.putB_frozen (g : Fld) (i : Nat) (b : Bool) : (s.putB g i b).frozen = s.frozen := rfl
@[simp] theorem State.putB_free (g : Fld) (i : Nat) (b : Bool) : (s.putB g i b).free = s.free := rfl
@[simp] theorem State.putB_sel (g : Fld) (i : Nat) (b : Bool) : (s.putB g i b).sel = s.sel := rfl
@[simp] theorem State.putB_flt (g : Fld) (i : Nat) (b : Bool) : (s.putB g i b).flt = s.flt := rfl
@[simp] theorem State.putB_mem (g : Fld) (i : Nat) (b : Bool) : (s.putB g i b).mem = s.mem := rfl
@[simp] theorem State.putB_host (g : Fld) (i : Nat) (b : Bool) : (s.putB g i b).host = s.host := rfl
@[simp] theorem State.putB_mode (g : Fld) (i : Nat) (b : Bool) : (s.putB g i b).mode = s.mode := rfl
@[simp] theorem State.putB_mgmt (g : Fld) (i : Nat) (b : Bool) : (s.putB g i b).mgmt = s.mgmt := rfl
@[simp] theorem State.putB_pwr (g : Fld) (i : Nat) (b : Bool) : (s.putB g i b).pwr = s.pwr := rfl
@[simp] theorem State.putB_scn (g : Fld) (i : Nat) (b : Bool) : (s.putB g i b).scn = s.scn := rfl
@[simp] theorem State.putB_eph (g : Fld) (i : Nat) (b : Bool) : (s.putB g i b).eph = s.eph := rfl
@[simp] theorem State.putB_dp (g : Fld) (i : Nat) (b : Bool) : (s.putB g i b).dp = s.dp := rfl
@[simp] theorem State.putB_ports (g : Fld) (i : Nat) (b : Bool) : (s.putB g i b).ports = s.ports := rfl
@[simp] theorem State.putB_net (g : Fld) (i : Nat) (b : Bool) : (s.putB g i b).net = s.net := rfl
@[simp] theorem State.putB_lanes (g : Fld) (i : Nat) (b : Bool) : (s.putB g i b).lanes = s.lanes := rfl
@[simp] theorem State.putB_kzl (g : Fld) (i : Nat) (b : Bool) : (s.putB g i b).kzl = s.kzl := rfl
@[simp] theorem State.putB_stby (g : Fld) (i : Nat) (b : Bool) : (s.putB g i b).stby = s.stby := rfl
@[simp] theorem State.putB_se (g : Fld) (i : Nat) (b : Bool) : (s.putB g i b).se = s.se := rfl
@[simp] theorem State.putB_prog (g : Fld) (i : Nat) (b : Bool) : (s.putB g i b).prog = s.prog := rfl
@[simp] theorem State.putB_bc (g : Fld) (i : Nat) (b : Bool) : (s.putB g i b).bc = s.bc := rfl

/-! ## irq -/

@[simp] theorem State.irq_pending (g : Fld) (i : Nat) : (s.irq g i).pending = s.pending := rfl
@[simp] theorem State.irq_clk (g : Fld) (i : Nat) : (s.irq g i).clk = s.clk := rfl
@[simp] theorem State.irq_ptp (g : Fld) (i : Nat) : (s.irq g i).ptp = s.ptp := rfl
@[simp] theorem State.irq_hel (g : Fld) (i : Nat) : (s.irq g i).hel = s.hel := rfl
@[simp] theorem State.irq_frozen (g : Fld) (i : Nat) : (s.irq g i).frozen = s.frozen := rfl
@[simp] theorem State.irq_free (g : Fld) (i : Nat) : (s.irq g i).free = s.free := rfl
@[simp] theorem State.irq_sel (g : Fld) (i : Nat) : (s.irq g i).sel = s.sel := rfl
@[simp] theorem State.irq_flt (g : Fld) (i : Nat) : (s.irq g i).flt = s.flt := rfl
@[simp] theorem State.irq_mem (g : Fld) (i : Nat) : (s.irq g i).mem = s.mem := rfl
@[simp] theorem State.irq_host (g : Fld) (i : Nat) : (s.irq g i).host = s.host := rfl
@[simp] theorem State.irq_mode (g : Fld) (i : Nat) : (s.irq g i).mode = s.mode := rfl
@[simp] theorem State.irq_mgmt (g : Fld) (i : Nat) : (s.irq g i).mgmt = s.mgmt := rfl
@[simp] theorem State.irq_pwr (g : Fld) (i : Nat) : (s.irq g i).pwr = s.pwr := rfl
@[simp] theorem State.irq_scn (g : Fld) (i : Nat) : (s.irq g i).scn = s.scn := rfl
@[simp] theorem State.irq_eph (g : Fld) (i : Nat) : (s.irq g i).eph = s.eph := rfl
@[simp] theorem State.irq_dp (g : Fld) (i : Nat) : (s.irq g i).dp = s.dp := rfl
@[simp] theorem State.irq_ports (g : Fld) (i : Nat) : (s.irq g i).ports = s.ports := rfl
@[simp] theorem State.irq_net (g : Fld) (i : Nat) : (s.irq g i).net = s.net := rfl
@[simp] theorem State.irq_lanes (g : Fld) (i : Nat) : (s.irq g i).lanes = s.lanes := rfl
@[simp] theorem State.irq_kzl (g : Fld) (i : Nat) : (s.irq g i).kzl = s.kzl := rfl
@[simp] theorem State.irq_stby (g : Fld) (i : Nat) : (s.irq g i).stby = s.stby := rfl
@[simp] theorem State.irq_se (g : Fld) (i : Nat) : (s.irq g i).se = s.se := rfl
@[simp] theorem State.irq_prog (g : Fld) (i : Nat) : (s.irq g i).prog = s.prog := rfl
@[simp] theorem State.irq_bc (g : Fld) (i : Nat) : (s.irq g i).bc = s.bc := rfl

/-! ## count -/

@[simp] theorem State.count_pending (g : Fld) (i n : Nat) : (s.count g i n).pending = s.pending := rfl
@[simp] theorem State.count_clk (g : Fld) (i n : Nat) : (s.count g i n).clk = s.clk := rfl
@[simp] theorem State.count_ptp (g : Fld) (i n : Nat) : (s.count g i n).ptp = s.ptp := rfl
@[simp] theorem State.count_hel (g : Fld) (i n : Nat) : (s.count g i n).hel = s.hel := rfl
@[simp] theorem State.count_frozen (g : Fld) (i n : Nat) : (s.count g i n).frozen = s.frozen := rfl
@[simp] theorem State.count_free (g : Fld) (i n : Nat) : (s.count g i n).free = s.free := rfl
@[simp] theorem State.count_sel (g : Fld) (i n : Nat) : (s.count g i n).sel = s.sel := rfl
@[simp] theorem State.count_flt (g : Fld) (i n : Nat) : (s.count g i n).flt = s.flt := rfl
@[simp] theorem State.count_mem (g : Fld) (i n : Nat) : (s.count g i n).mem = s.mem := rfl
@[simp] theorem State.count_host (g : Fld) (i n : Nat) : (s.count g i n).host = s.host := rfl
@[simp] theorem State.count_mode (g : Fld) (i n : Nat) : (s.count g i n).mode = s.mode := rfl
@[simp] theorem State.count_mgmt (g : Fld) (i n : Nat) : (s.count g i n).mgmt = s.mgmt := rfl
@[simp] theorem State.count_pwr (g : Fld) (i n : Nat) : (s.count g i n).pwr = s.pwr := rfl
@[simp] theorem State.count_scn (g : Fld) (i n : Nat) : (s.count g i n).scn = s.scn := rfl
@[simp] theorem State.count_eph (g : Fld) (i n : Nat) : (s.count g i n).eph = s.eph := rfl
@[simp] theorem State.count_dp (g : Fld) (i n : Nat) : (s.count g i n).dp = s.dp := rfl
@[simp] theorem State.count_ports (g : Fld) (i n : Nat) : (s.count g i n).ports = s.ports := rfl
@[simp] theorem State.count_net (g : Fld) (i n : Nat) : (s.count g i n).net = s.net := rfl
@[simp] theorem State.count_lanes (g : Fld) (i n : Nat) : (s.count g i n).lanes = s.lanes := rfl
@[simp] theorem State.count_kzl (g : Fld) (i n : Nat) : (s.count g i n).kzl = s.kzl := rfl
@[simp] theorem State.count_stby (g : Fld) (i n : Nat) : (s.count g i n).stby = s.stby := rfl
@[simp] theorem State.count_se (g : Fld) (i n : Nat) : (s.count g i n).se = s.se := rfl
@[simp] theorem State.count_prog (g : Fld) (i n : Nat) : (s.count g i n).prog = s.prog := rfl
@[simp] theorem State.count_bc (g : Fld) (i n : Nat) : (s.count g i n).bc = s.bc := rfl

/-! ## countWrap -/

@[simp] theorem State.countWrap_pending (g : Fld) (i : Nat) : (s.countWrap g i).pending = s.pending := rfl
@[simp] theorem State.countWrap_clk (g : Fld) (i : Nat) : (s.countWrap g i).clk = s.clk := rfl
@[simp] theorem State.countWrap_ptp (g : Fld) (i : Nat) : (s.countWrap g i).ptp = s.ptp := rfl
@[simp] theorem State.countWrap_hel (g : Fld) (i : Nat) : (s.countWrap g i).hel = s.hel := rfl
@[simp] theorem State.countWrap_frozen (g : Fld) (i : Nat) : (s.countWrap g i).frozen = s.frozen := rfl
@[simp] theorem State.countWrap_free (g : Fld) (i : Nat) : (s.countWrap g i).free = s.free := rfl
@[simp] theorem State.countWrap_sel (g : Fld) (i : Nat) : (s.countWrap g i).sel = s.sel := rfl
@[simp] theorem State.countWrap_flt (g : Fld) (i : Nat) : (s.countWrap g i).flt = s.flt := rfl
@[simp] theorem State.countWrap_mem (g : Fld) (i : Nat) : (s.countWrap g i).mem = s.mem := rfl
@[simp] theorem State.countWrap_host (g : Fld) (i : Nat) : (s.countWrap g i).host = s.host := rfl
@[simp] theorem State.countWrap_mode (g : Fld) (i : Nat) : (s.countWrap g i).mode = s.mode := rfl
@[simp] theorem State.countWrap_mgmt (g : Fld) (i : Nat) : (s.countWrap g i).mgmt = s.mgmt := rfl
@[simp] theorem State.countWrap_pwr (g : Fld) (i : Nat) : (s.countWrap g i).pwr = s.pwr := rfl
@[simp] theorem State.countWrap_scn (g : Fld) (i : Nat) : (s.countWrap g i).scn = s.scn := rfl
@[simp] theorem State.countWrap_eph (g : Fld) (i : Nat) : (s.countWrap g i).eph = s.eph := rfl
@[simp] theorem State.countWrap_dp (g : Fld) (i : Nat) : (s.countWrap g i).dp = s.dp := rfl
@[simp] theorem State.countWrap_ports (g : Fld) (i : Nat) : (s.countWrap g i).ports = s.ports := rfl
@[simp] theorem State.countWrap_net (g : Fld) (i : Nat) : (s.countWrap g i).net = s.net := rfl
@[simp] theorem State.countWrap_lanes (g : Fld) (i : Nat) : (s.countWrap g i).lanes = s.lanes := rfl
@[simp] theorem State.countWrap_kzl (g : Fld) (i : Nat) : (s.countWrap g i).kzl = s.kzl := rfl
@[simp] theorem State.countWrap_stby (g : Fld) (i : Nat) : (s.countWrap g i).stby = s.stby := rfl
@[simp] theorem State.countWrap_se (g : Fld) (i : Nat) : (s.countWrap g i).se = s.se := rfl
@[simp] theorem State.countWrap_prog (g : Fld) (i : Nat) : (s.countWrap g i).prog = s.prog := rfl
@[simp] theorem State.countWrap_bc (g : Fld) (i : Nat) : (s.countWrap g i).bc = s.bc := rfl

/-! ## setBitOf -/

@[simp] theorem State.setBitOf_pending (g : Fld) (i b : Nat) (v : Bool) : (s.setBitOf g i b v).pending = s.pending := rfl
@[simp] theorem State.setBitOf_clk (g : Fld) (i b : Nat) (v : Bool) : (s.setBitOf g i b v).clk = s.clk := rfl
@[simp] theorem State.setBitOf_ptp (g : Fld) (i b : Nat) (v : Bool) : (s.setBitOf g i b v).ptp = s.ptp := rfl
@[simp] theorem State.setBitOf_hel (g : Fld) (i b : Nat) (v : Bool) : (s.setBitOf g i b v).hel = s.hel := rfl
@[simp] theorem State.setBitOf_frozen (g : Fld) (i b : Nat) (v : Bool) : (s.setBitOf g i b v).frozen = s.frozen := rfl
@[simp] theorem State.setBitOf_free (g : Fld) (i b : Nat) (v : Bool) : (s.setBitOf g i b v).free = s.free := rfl
@[simp] theorem State.setBitOf_sel (g : Fld) (i b : Nat) (v : Bool) : (s.setBitOf g i b v).sel = s.sel := rfl
@[simp] theorem State.setBitOf_flt (g : Fld) (i b : Nat) (v : Bool) : (s.setBitOf g i b v).flt = s.flt := rfl
@[simp] theorem State.setBitOf_mem (g : Fld) (i b : Nat) (v : Bool) : (s.setBitOf g i b v).mem = s.mem := rfl
@[simp] theorem State.setBitOf_host (g : Fld) (i b : Nat) (v : Bool) : (s.setBitOf g i b v).host = s.host := rfl
@[simp] theorem State.setBitOf_mode (g : Fld) (i b : Nat) (v : Bool) : (s.setBitOf g i b v).mode = s.mode := rfl
@[simp] theorem State.setBitOf_mgmt (g : Fld) (i b : Nat) (v : Bool) : (s.setBitOf g i b v).mgmt = s.mgmt := rfl
@[simp] theorem State.setBitOf_pwr (g : Fld) (i b : Nat) (v : Bool) : (s.setBitOf g i b v).pwr = s.pwr := rfl
@[simp] theorem State.setBitOf_scn (g : Fld) (i b : Nat) (v : Bool) : (s.setBitOf g i b v).scn = s.scn := rfl
@[simp] theorem State.setBitOf_eph (g : Fld) (i b : Nat) (v : Bool) : (s.setBitOf g i b v).eph = s.eph := rfl
@[simp] theorem State.setBitOf_dp (g : Fld) (i b : Nat) (v : Bool) : (s.setBitOf g i b v).dp = s.dp := rfl
@[simp] theorem State.setBitOf_ports (g : Fld) (i b : Nat) (v : Bool) : (s.setBitOf g i b v).ports = s.ports := rfl
@[simp] theorem State.setBitOf_net (g : Fld) (i b : Nat) (v : Bool) : (s.setBitOf g i b v).net = s.net := rfl
@[simp] theorem State.setBitOf_lanes (g : Fld) (i b : Nat) (v : Bool) : (s.setBitOf g i b v).lanes = s.lanes := rfl
@[simp] theorem State.setBitOf_kzl (g : Fld) (i b : Nat) (v : Bool) : (s.setBitOf g i b v).kzl = s.kzl := rfl
@[simp] theorem State.setBitOf_stby (g : Fld) (i b : Nat) (v : Bool) : (s.setBitOf g i b v).stby = s.stby := rfl
@[simp] theorem State.setBitOf_se (g : Fld) (i b : Nat) (v : Bool) : (s.setBitOf g i b v).se = s.se := rfl
@[simp] theorem State.setBitOf_prog (g : Fld) (i b : Nat) (v : Bool) : (s.setBitOf g i b v).prog = s.prog := rfl
@[simp] theorem State.setBitOf_bc (g : Fld) (i b : Nat) (v : Bool) : (s.setBitOf g i b v).bc = s.bc := rfl

/-! ## pageErr -/

@[simp] theorem State.pageErr_pending (p n : Nat) : (s.pageErr p n).pending = s.pending := rfl
@[simp] theorem State.pageErr_clk (p n : Nat) : (s.pageErr p n).clk = s.clk := rfl
@[simp] theorem State.pageErr_ptp (p n : Nat) : (s.pageErr p n).ptp = s.ptp := rfl
@[simp] theorem State.pageErr_hel (p n : Nat) : (s.pageErr p n).hel = s.hel := rfl
@[simp] theorem State.pageErr_frozen (p n : Nat) : (s.pageErr p n).frozen = s.frozen := rfl
@[simp] theorem State.pageErr_free (p n : Nat) : (s.pageErr p n).free = s.free := rfl
@[simp] theorem State.pageErr_sel (p n : Nat) : (s.pageErr p n).sel = s.sel := rfl
@[simp] theorem State.pageErr_flt (p n : Nat) : (s.pageErr p n).flt = s.flt := rfl
@[simp] theorem State.pageErr_mem (p n : Nat) : (s.pageErr p n).mem = s.mem := rfl
@[simp] theorem State.pageErr_host (p n : Nat) : (s.pageErr p n).host = s.host := rfl
@[simp] theorem State.pageErr_mode (p n : Nat) : (s.pageErr p n).mode = s.mode := rfl
@[simp] theorem State.pageErr_mgmt (p n : Nat) : (s.pageErr p n).mgmt = s.mgmt := rfl
@[simp] theorem State.pageErr_pwr (p n : Nat) : (s.pageErr p n).pwr = s.pwr := rfl
@[simp] theorem State.pageErr_scn (p n : Nat) : (s.pageErr p n).scn = s.scn := rfl
@[simp] theorem State.pageErr_eph (p n : Nat) : (s.pageErr p n).eph = s.eph := rfl
@[simp] theorem State.pageErr_dp (p n : Nat) : (s.pageErr p n).dp = s.dp := rfl
@[simp] theorem State.pageErr_ports (p n : Nat) : (s.pageErr p n).ports = s.ports := rfl
@[simp] theorem State.pageErr_net (p n : Nat) : (s.pageErr p n).net = s.net := rfl
@[simp] theorem State.pageErr_lanes (p n : Nat) : (s.pageErr p n).lanes = s.lanes := rfl
@[simp] theorem State.pageErr_kzl (p n : Nat) : (s.pageErr p n).kzl = s.kzl := rfl
@[simp] theorem State.pageErr_stby (p n : Nat) : (s.pageErr p n).stby = s.stby := rfl
@[simp] theorem State.pageErr_se (p n : Nat) : (s.pageErr p n).se = s.se := rfl
@[simp] theorem State.pageErr_prog (p n : Nat) : (s.pageErr p n).prog = s.prog := rfl
@[simp] theorem State.pageErr_bc (p n : Nat) : (s.pageErr p n).bc = s.bc := rfl

/-! ## bumpEpoch -/

@[simp] theorem State.bumpEpoch_pending (p : Nat) : (s.bumpEpoch p).pending = s.pending := rfl
@[simp] theorem State.bumpEpoch_clk (p : Nat) : (s.bumpEpoch p).clk = s.clk := rfl
@[simp] theorem State.bumpEpoch_ptp (p : Nat) : (s.bumpEpoch p).ptp = s.ptp := rfl
@[simp] theorem State.bumpEpoch_hel (p : Nat) : (s.bumpEpoch p).hel = s.hel := rfl
@[simp] theorem State.bumpEpoch_frozen (p : Nat) : (s.bumpEpoch p).frozen = s.frozen := rfl
@[simp] theorem State.bumpEpoch_free (p : Nat) : (s.bumpEpoch p).free = s.free := rfl
@[simp] theorem State.bumpEpoch_sel (p : Nat) : (s.bumpEpoch p).sel = s.sel := rfl
@[simp] theorem State.bumpEpoch_flt (p : Nat) : (s.bumpEpoch p).flt = s.flt := rfl
@[simp] theorem State.bumpEpoch_mem (p : Nat) : (s.bumpEpoch p).mem = s.mem := rfl
@[simp] theorem State.bumpEpoch_host (p : Nat) : (s.bumpEpoch p).host = s.host := rfl
@[simp] theorem State.bumpEpoch_mode (p : Nat) : (s.bumpEpoch p).mode = s.mode := rfl
@[simp] theorem State.bumpEpoch_mgmt (p : Nat) : (s.bumpEpoch p).mgmt = s.mgmt := rfl
@[simp] theorem State.bumpEpoch_pwr (p : Nat) : (s.bumpEpoch p).pwr = s.pwr := rfl
@[simp] theorem State.bumpEpoch_scn (p : Nat) : (s.bumpEpoch p).scn = s.scn := rfl
@[simp] theorem State.bumpEpoch_eph (p : Nat) : (s.bumpEpoch p).eph = s.eph := rfl
@[simp] theorem State.bumpEpoch_dp (p : Nat) : (s.bumpEpoch p).dp = s.dp := rfl
@[simp] theorem State.bumpEpoch_ports (p : Nat) : (s.bumpEpoch p).ports = s.ports := rfl
@[simp] theorem State.bumpEpoch_net (p : Nat) : (s.bumpEpoch p).net = s.net := rfl
@[simp] theorem State.bumpEpoch_lanes (p : Nat) : (s.bumpEpoch p).lanes = s.lanes := rfl
@[simp] theorem State.bumpEpoch_kzl (p : Nat) : (s.bumpEpoch p).kzl = s.kzl := rfl
@[simp] theorem State.bumpEpoch_stby (p : Nat) : (s.bumpEpoch p).stby = s.stby := rfl
@[simp] theorem State.bumpEpoch_se (p : Nat) : (s.bumpEpoch p).se = s.se := rfl
@[simp] theorem State.bumpEpoch_prog (p : Nat) : (s.bumpEpoch p).prog = s.prog := rfl
@[simp] theorem State.bumpEpoch_bc (p : Nat) : (s.bumpEpoch p).bc = s.bc := rfl

/-! ## advanceTo -/

@[simp] theorem State.advanceTo_pending (e : Nat) : (s.advanceTo e).pending = s.pending := rfl
@[simp] theorem State.advanceTo_clk (e : Nat) : (s.advanceTo e).clk = { s.clk with now := max s.clk.now e } := rfl
@[simp] theorem State.advanceTo_ptp (e : Nat) : (s.advanceTo e).ptp = s.ptp := rfl
@[simp] theorem State.advanceTo_hel (e : Nat) : (s.advanceTo e).hel = s.hel := rfl
@[simp] theorem State.advanceTo_regs (e : Nat) : (s.advanceTo e).regs = s.regs := rfl
@[simp] theorem State.advanceTo_frozen (e : Nat) : (s.advanceTo e).frozen = s.frozen := rfl
@[simp] theorem State.advanceTo_free (e : Nat) : (s.advanceTo e).free = s.free := rfl
@[simp] theorem State.advanceTo_sel (e : Nat) : (s.advanceTo e).sel = s.sel := rfl
@[simp] theorem State.advanceTo_flt (e : Nat) : (s.advanceTo e).flt = s.flt := rfl
@[simp] theorem State.advanceTo_mem (e : Nat) : (s.advanceTo e).mem = s.mem := rfl
@[simp] theorem State.advanceTo_host (e : Nat) : (s.advanceTo e).host = s.host := rfl
@[simp] theorem State.advanceTo_mode (e : Nat) : (s.advanceTo e).mode = s.mode := rfl
@[simp] theorem State.advanceTo_mgmt (e : Nat) : (s.advanceTo e).mgmt = s.mgmt := rfl
@[simp] theorem State.advanceTo_pwr (e : Nat) : (s.advanceTo e).pwr = s.pwr := rfl
@[simp] theorem State.advanceTo_scn (e : Nat) : (s.advanceTo e).scn = s.scn := rfl
@[simp] theorem State.advanceTo_eph (e : Nat) : (s.advanceTo e).eph = s.eph := rfl
@[simp] theorem State.advanceTo_dp (e : Nat) : (s.advanceTo e).dp = s.dp := rfl
@[simp] theorem State.advanceTo_ports (e : Nat) : (s.advanceTo e).ports = s.ports := rfl
@[simp] theorem State.advanceTo_net (e : Nat) : (s.advanceTo e).net = s.net := rfl
@[simp] theorem State.advanceTo_lanes (e : Nat) : (s.advanceTo e).lanes = s.lanes := rfl
@[simp] theorem State.advanceTo_kzl (e : Nat) : (s.advanceTo e).kzl = s.kzl := rfl
@[simp] theorem State.advanceTo_stby (e : Nat) : (s.advanceTo e).stby = s.stby := rfl
@[simp] theorem State.advanceTo_se (e : Nat) : (s.advanceTo e).se = s.se := rfl
@[simp] theorem State.advanceTo_prog (e : Nat) : (s.advanceTo e).prog = s.prog := rfl
@[simp] theorem State.advanceTo_bc (e : Nat) : (s.advanceTo e).bc = s.bc := rfl

/-! ## modClk -/

@[simp] theorem State.modClk_pending (f : Clk → Clk) : (s.modClk f).pending = s.pending := rfl
@[simp] theorem State.modClk_clk (f : Clk → Clk) : (s.modClk f).clk = f s.clk := rfl
@[simp] theorem State.modClk_ptp (f : Clk → Clk) : (s.modClk f).ptp = s.ptp := rfl
@[simp] theorem State.modClk_hel (f : Clk → Clk) : (s.modClk f).hel = s.hel := rfl
@[simp] theorem State.modClk_regs (f : Clk → Clk) : (s.modClk f).regs = s.regs := rfl
@[simp] theorem State.modClk_frozen (f : Clk → Clk) : (s.modClk f).frozen = s.frozen := rfl
@[simp] theorem State.modClk_free (f : Clk → Clk) : (s.modClk f).free = s.free := rfl
@[simp] theorem State.modClk_sel (f : Clk → Clk) : (s.modClk f).sel = s.sel := rfl
@[simp] theorem State.modClk_flt (f : Clk → Clk) : (s.modClk f).flt = s.flt := rfl
@[simp] theorem State.modClk_mem (f : Clk → Clk) : (s.modClk f).mem = s.mem := rfl
@[simp] theorem State.modClk_host (f : Clk → Clk) : (s.modClk f).host = s.host := rfl
@[simp] theorem State.modClk_mode (f : Clk → Clk) : (s.modClk f).mode = s.mode := rfl
@[simp] theorem State.modClk_mgmt (f : Clk → Clk) : (s.modClk f).mgmt = s.mgmt := rfl
@[simp] theorem State.modClk_pwr (f : Clk → Clk) : (s.modClk f).pwr = s.pwr := rfl
@[simp] theorem State.modClk_scn (f : Clk → Clk) : (s.modClk f).scn = s.scn := rfl
@[simp] theorem State.modClk_eph (f : Clk → Clk) : (s.modClk f).eph = s.eph := rfl
@[simp] theorem State.modClk_dp (f : Clk → Clk) : (s.modClk f).dp = s.dp := rfl
@[simp] theorem State.modClk_ports (f : Clk → Clk) : (s.modClk f).ports = s.ports := rfl
@[simp] theorem State.modClk_net (f : Clk → Clk) : (s.modClk f).net = s.net := rfl
@[simp] theorem State.modClk_lanes (f : Clk → Clk) : (s.modClk f).lanes = s.lanes := rfl
@[simp] theorem State.modClk_kzl (f : Clk → Clk) : (s.modClk f).kzl = s.kzl := rfl
@[simp] theorem State.modClk_stby (f : Clk → Clk) : (s.modClk f).stby = s.stby := rfl
@[simp] theorem State.modClk_se (f : Clk → Clk) : (s.modClk f).se = s.se := rfl
@[simp] theorem State.modClk_prog (f : Clk → Clk) : (s.modClk f).prog = s.prog := rfl
@[simp] theorem State.modClk_bc (f : Clk → Clk) : (s.modClk f).bc = s.bc := rfl

/-! ## modPtp -/

@[simp] theorem State.modPtp_pending (f : PtpClk → PtpClk) : (s.modPtp f).pending = s.pending := rfl
@[simp] theorem State.modPtp_clk (f : PtpClk → PtpClk) : (s.modPtp f).clk = s.clk := rfl
@[simp] theorem State.modPtp_ptp (f : PtpClk → PtpClk) : (s.modPtp f).ptp = f s.ptp := rfl
@[simp] theorem State.modPtp_hel (f : PtpClk → PtpClk) : (s.modPtp f).hel = s.hel := rfl
@[simp] theorem State.modPtp_regs (f : PtpClk → PtpClk) : (s.modPtp f).regs = s.regs := rfl
@[simp] theorem State.modPtp_frozen (f : PtpClk → PtpClk) : (s.modPtp f).frozen = s.frozen := rfl
@[simp] theorem State.modPtp_free (f : PtpClk → PtpClk) : (s.modPtp f).free = s.free := rfl
@[simp] theorem State.modPtp_sel (f : PtpClk → PtpClk) : (s.modPtp f).sel = s.sel := rfl
@[simp] theorem State.modPtp_flt (f : PtpClk → PtpClk) : (s.modPtp f).flt = s.flt := rfl
@[simp] theorem State.modPtp_mem (f : PtpClk → PtpClk) : (s.modPtp f).mem = s.mem := rfl
@[simp] theorem State.modPtp_host (f : PtpClk → PtpClk) : (s.modPtp f).host = s.host := rfl
@[simp] theorem State.modPtp_mode (f : PtpClk → PtpClk) : (s.modPtp f).mode = s.mode := rfl
@[simp] theorem State.modPtp_mgmt (f : PtpClk → PtpClk) : (s.modPtp f).mgmt = s.mgmt := rfl
@[simp] theorem State.modPtp_pwr (f : PtpClk → PtpClk) : (s.modPtp f).pwr = s.pwr := rfl
@[simp] theorem State.modPtp_scn (f : PtpClk → PtpClk) : (s.modPtp f).scn = s.scn := rfl
@[simp] theorem State.modPtp_eph (f : PtpClk → PtpClk) : (s.modPtp f).eph = s.eph := rfl
@[simp] theorem State.modPtp_dp (f : PtpClk → PtpClk) : (s.modPtp f).dp = s.dp := rfl
@[simp] theorem State.modPtp_ports (f : PtpClk → PtpClk) : (s.modPtp f).ports = s.ports := rfl
@[simp] theorem State.modPtp_net (f : PtpClk → PtpClk) : (s.modPtp f).net = s.net := rfl
@[simp] theorem State.modPtp_lanes (f : PtpClk → PtpClk) : (s.modPtp f).lanes = s.lanes := rfl
@[simp] theorem State.modPtp_kzl (f : PtpClk → PtpClk) : (s.modPtp f).kzl = s.kzl := rfl
@[simp] theorem State.modPtp_stby (f : PtpClk → PtpClk) : (s.modPtp f).stby = s.stby := rfl
@[simp] theorem State.modPtp_se (f : PtpClk → PtpClk) : (s.modPtp f).se = s.se := rfl
@[simp] theorem State.modPtp_prog (f : PtpClk → PtpClk) : (s.modPtp f).prog = s.prog := rfl
@[simp] theorem State.modPtp_bc (f : PtpClk → PtpClk) : (s.modPtp f).bc = s.bc := rfl

/-! ## modHel -/

@[simp] theorem State.modHel_pending (f : Hel → Hel) : (s.modHel f).pending = s.pending := rfl
@[simp] theorem State.modHel_clk (f : Hel → Hel) : (s.modHel f).clk = s.clk := rfl
@[simp] theorem State.modHel_ptp (f : Hel → Hel) : (s.modHel f).ptp = s.ptp := rfl
@[simp] theorem State.modHel_hel (f : Hel → Hel) : (s.modHel f).hel = f s.hel := rfl
@[simp] theorem State.modHel_regs (f : Hel → Hel) : (s.modHel f).regs = s.regs := rfl
@[simp] theorem State.modHel_frozen (f : Hel → Hel) : (s.modHel f).frozen = s.frozen := rfl
@[simp] theorem State.modHel_free (f : Hel → Hel) : (s.modHel f).free = s.free := rfl
@[simp] theorem State.modHel_sel (f : Hel → Hel) : (s.modHel f).sel = s.sel := rfl
@[simp] theorem State.modHel_flt (f : Hel → Hel) : (s.modHel f).flt = s.flt := rfl
@[simp] theorem State.modHel_mem (f : Hel → Hel) : (s.modHel f).mem = s.mem := rfl
@[simp] theorem State.modHel_host (f : Hel → Hel) : (s.modHel f).host = s.host := rfl
@[simp] theorem State.modHel_mode (f : Hel → Hel) : (s.modHel f).mode = s.mode := rfl
@[simp] theorem State.modHel_mgmt (f : Hel → Hel) : (s.modHel f).mgmt = s.mgmt := rfl
@[simp] theorem State.modHel_pwr (f : Hel → Hel) : (s.modHel f).pwr = s.pwr := rfl
@[simp] theorem State.modHel_scn (f : Hel → Hel) : (s.modHel f).scn = s.scn := rfl
@[simp] theorem State.modHel_eph (f : Hel → Hel) : (s.modHel f).eph = s.eph := rfl
@[simp] theorem State.modHel_dp (f : Hel → Hel) : (s.modHel f).dp = s.dp := rfl
@[simp] theorem State.modHel_ports (f : Hel → Hel) : (s.modHel f).ports = s.ports := rfl
@[simp] theorem State.modHel_net (f : Hel → Hel) : (s.modHel f).net = s.net := rfl
@[simp] theorem State.modHel_lanes (f : Hel → Hel) : (s.modHel f).lanes = s.lanes := rfl
@[simp] theorem State.modHel_kzl (f : Hel → Hel) : (s.modHel f).kzl = s.kzl := rfl
@[simp] theorem State.modHel_stby (f : Hel → Hel) : (s.modHel f).stby = s.stby := rfl
@[simp] theorem State.modHel_se (f : Hel → Hel) : (s.modHel f).se = s.se := rfl
@[simp] theorem State.modHel_prog (f : Hel → Hel) : (s.modHel f).prog = s.prog := rfl
@[simp] theorem State.modHel_bc (f : Hel → Hel) : (s.modHel f).bc = s.bc := rfl

/-! ## modFlt -/

@[simp] theorem State.modFlt_pending (f : Flt → Flt) : (s.modFlt f).pending = s.pending := rfl
@[simp] theorem State.modFlt_clk (f : Flt → Flt) : (s.modFlt f).clk = s.clk := rfl
@[simp] theorem State.modFlt_ptp (f : Flt → Flt) : (s.modFlt f).ptp = s.ptp := rfl
@[simp] theorem State.modFlt_hel (f : Flt → Flt) : (s.modFlt f).hel = s.hel := rfl
@[simp] theorem State.modFlt_regs (f : Flt → Flt) : (s.modFlt f).regs = s.regs := rfl
@[simp] theorem State.modFlt_frozen (f : Flt → Flt) : (s.modFlt f).frozen = s.frozen := rfl
@[simp] theorem State.modFlt_free (f : Flt → Flt) : (s.modFlt f).free = s.free := rfl
@[simp] theorem State.modFlt_sel (f : Flt → Flt) : (s.modFlt f).sel = s.sel := rfl
@[simp] theorem State.modFlt_flt (f : Flt → Flt) : (s.modFlt f).flt = f s.flt := rfl
@[simp] theorem State.modFlt_mem (f : Flt → Flt) : (s.modFlt f).mem = s.mem := rfl
@[simp] theorem State.modFlt_host (f : Flt → Flt) : (s.modFlt f).host = s.host := rfl
@[simp] theorem State.modFlt_mode (f : Flt → Flt) : (s.modFlt f).mode = s.mode := rfl
@[simp] theorem State.modFlt_mgmt (f : Flt → Flt) : (s.modFlt f).mgmt = s.mgmt := rfl
@[simp] theorem State.modFlt_pwr (f : Flt → Flt) : (s.modFlt f).pwr = s.pwr := rfl
@[simp] theorem State.modFlt_scn (f : Flt → Flt) : (s.modFlt f).scn = s.scn := rfl
@[simp] theorem State.modFlt_eph (f : Flt → Flt) : (s.modFlt f).eph = s.eph := rfl
@[simp] theorem State.modFlt_dp (f : Flt → Flt) : (s.modFlt f).dp = s.dp := rfl
@[simp] theorem State.modFlt_ports (f : Flt → Flt) : (s.modFlt f).ports = s.ports := rfl
@[simp] theorem State.modFlt_net (f : Flt → Flt) : (s.modFlt f).net = s.net := rfl
@[simp] theorem State.modFlt_lanes (f : Flt → Flt) : (s.modFlt f).lanes = s.lanes := rfl
@[simp] theorem State.modFlt_kzl (f : Flt → Flt) : (s.modFlt f).kzl = s.kzl := rfl
@[simp] theorem State.modFlt_stby (f : Flt → Flt) : (s.modFlt f).stby = s.stby := rfl
@[simp] theorem State.modFlt_se (f : Flt → Flt) : (s.modFlt f).se = s.se := rfl
@[simp] theorem State.modFlt_prog (f : Flt → Flt) : (s.modFlt f).prog = s.prog := rfl
@[simp] theorem State.modFlt_bc (f : Flt → Flt) : (s.modFlt f).bc = s.bc := rfl

/-! ## modMem -/

@[simp] theorem State.modMem_pending (f : Mem → Mem) : (s.modMem f).pending = s.pending := rfl
@[simp] theorem State.modMem_clk (f : Mem → Mem) : (s.modMem f).clk = s.clk := rfl
@[simp] theorem State.modMem_ptp (f : Mem → Mem) : (s.modMem f).ptp = s.ptp := rfl
@[simp] theorem State.modMem_hel (f : Mem → Mem) : (s.modMem f).hel = s.hel := rfl
@[simp] theorem State.modMem_regs (f : Mem → Mem) : (s.modMem f).regs = s.regs := rfl
@[simp] theorem State.modMem_frozen (f : Mem → Mem) : (s.modMem f).frozen = s.frozen := rfl
@[simp] theorem State.modMem_free (f : Mem → Mem) : (s.modMem f).free = s.free := rfl
@[simp] theorem State.modMem_sel (f : Mem → Mem) : (s.modMem f).sel = s.sel := rfl
@[simp] theorem State.modMem_flt (f : Mem → Mem) : (s.modMem f).flt = s.flt := rfl
@[simp] theorem State.modMem_mem (f : Mem → Mem) : (s.modMem f).mem = f s.mem := rfl
@[simp] theorem State.modMem_host (f : Mem → Mem) : (s.modMem f).host = s.host := rfl
@[simp] theorem State.modMem_mode (f : Mem → Mem) : (s.modMem f).mode = s.mode := rfl
@[simp] theorem State.modMem_mgmt (f : Mem → Mem) : (s.modMem f).mgmt = s.mgmt := rfl
@[simp] theorem State.modMem_pwr (f : Mem → Mem) : (s.modMem f).pwr = s.pwr := rfl
@[simp] theorem State.modMem_scn (f : Mem → Mem) : (s.modMem f).scn = s.scn := rfl
@[simp] theorem State.modMem_eph (f : Mem → Mem) : (s.modMem f).eph = s.eph := rfl
@[simp] theorem State.modMem_dp (f : Mem → Mem) : (s.modMem f).dp = s.dp := rfl
@[simp] theorem State.modMem_ports (f : Mem → Mem) : (s.modMem f).ports = s.ports := rfl
@[simp] theorem State.modMem_net (f : Mem → Mem) : (s.modMem f).net = s.net := rfl
@[simp] theorem State.modMem_lanes (f : Mem → Mem) : (s.modMem f).lanes = s.lanes := rfl
@[simp] theorem State.modMem_kzl (f : Mem → Mem) : (s.modMem f).kzl = s.kzl := rfl
@[simp] theorem State.modMem_stby (f : Mem → Mem) : (s.modMem f).stby = s.stby := rfl
@[simp] theorem State.modMem_se (f : Mem → Mem) : (s.modMem f).se = s.se := rfl
@[simp] theorem State.modMem_prog (f : Mem → Mem) : (s.modMem f).prog = s.prog := rfl
@[simp] theorem State.modMem_bc (f : Mem → Mem) : (s.modMem f).bc = s.bc := rfl

/-! ## modHost -/

@[simp] theorem State.modHost_pending (f : HostIf → HostIf) : (s.modHost f).pending = s.pending := rfl
@[simp] theorem State.modHost_clk (f : HostIf → HostIf) : (s.modHost f).clk = s.clk := rfl
@[simp] theorem State.modHost_ptp (f : HostIf → HostIf) : (s.modHost f).ptp = s.ptp := rfl
@[simp] theorem State.modHost_hel (f : HostIf → HostIf) : (s.modHost f).hel = s.hel := rfl
@[simp] theorem State.modHost_regs (f : HostIf → HostIf) : (s.modHost f).regs = s.regs := rfl
@[simp] theorem State.modHost_frozen (f : HostIf → HostIf) : (s.modHost f).frozen = s.frozen := rfl
@[simp] theorem State.modHost_free (f : HostIf → HostIf) : (s.modHost f).free = s.free := rfl
@[simp] theorem State.modHost_sel (f : HostIf → HostIf) : (s.modHost f).sel = s.sel := rfl
@[simp] theorem State.modHost_flt (f : HostIf → HostIf) : (s.modHost f).flt = s.flt := rfl
@[simp] theorem State.modHost_mem (f : HostIf → HostIf) : (s.modHost f).mem = s.mem := rfl
@[simp] theorem State.modHost_host (f : HostIf → HostIf) : (s.modHost f).host = f s.host := rfl
@[simp] theorem State.modHost_mode (f : HostIf → HostIf) : (s.modHost f).mode = s.mode := rfl
@[simp] theorem State.modHost_mgmt (f : HostIf → HostIf) : (s.modHost f).mgmt = s.mgmt := rfl
@[simp] theorem State.modHost_pwr (f : HostIf → HostIf) : (s.modHost f).pwr = s.pwr := rfl
@[simp] theorem State.modHost_scn (f : HostIf → HostIf) : (s.modHost f).scn = s.scn := rfl
@[simp] theorem State.modHost_eph (f : HostIf → HostIf) : (s.modHost f).eph = s.eph := rfl
@[simp] theorem State.modHost_dp (f : HostIf → HostIf) : (s.modHost f).dp = s.dp := rfl
@[simp] theorem State.modHost_ports (f : HostIf → HostIf) : (s.modHost f).ports = s.ports := rfl
@[simp] theorem State.modHost_net (f : HostIf → HostIf) : (s.modHost f).net = s.net := rfl
@[simp] theorem State.modHost_lanes (f : HostIf → HostIf) : (s.modHost f).lanes = s.lanes := rfl
@[simp] theorem State.modHost_kzl (f : HostIf → HostIf) : (s.modHost f).kzl = s.kzl := rfl
@[simp] theorem State.modHost_stby (f : HostIf → HostIf) : (s.modHost f).stby = s.stby := rfl
@[simp] theorem State.modHost_se (f : HostIf → HostIf) : (s.modHost f).se = s.se := rfl
@[simp] theorem State.modHost_prog (f : HostIf → HostIf) : (s.modHost f).prog = s.prog := rfl
@[simp] theorem State.modHost_bc (f : HostIf → HostIf) : (s.modHost f).bc = s.bc := rfl

/-! ## modMode -/

@[simp] theorem State.modMode_pending (f : ModeSt → ModeSt) : (s.modMode f).pending = s.pending := rfl
@[simp] theorem State.modMode_clk (f : ModeSt → ModeSt) : (s.modMode f).clk = s.clk := rfl
@[simp] theorem State.modMode_ptp (f : ModeSt → ModeSt) : (s.modMode f).ptp = s.ptp := rfl
@[simp] theorem State.modMode_hel (f : ModeSt → ModeSt) : (s.modMode f).hel = s.hel := rfl
@[simp] theorem State.modMode_regs (f : ModeSt → ModeSt) : (s.modMode f).regs = s.regs := rfl
@[simp] theorem State.modMode_frozen (f : ModeSt → ModeSt) : (s.modMode f).frozen = s.frozen := rfl
@[simp] theorem State.modMode_free (f : ModeSt → ModeSt) : (s.modMode f).free = s.free := rfl
@[simp] theorem State.modMode_sel (f : ModeSt → ModeSt) : (s.modMode f).sel = s.sel := rfl
@[simp] theorem State.modMode_flt (f : ModeSt → ModeSt) : (s.modMode f).flt = s.flt := rfl
@[simp] theorem State.modMode_mem (f : ModeSt → ModeSt) : (s.modMode f).mem = s.mem := rfl
@[simp] theorem State.modMode_host (f : ModeSt → ModeSt) : (s.modMode f).host = s.host := rfl
@[simp] theorem State.modMode_mode (f : ModeSt → ModeSt) : (s.modMode f).mode = f s.mode := rfl
@[simp] theorem State.modMode_mgmt (f : ModeSt → ModeSt) : (s.modMode f).mgmt = s.mgmt := rfl
@[simp] theorem State.modMode_pwr (f : ModeSt → ModeSt) : (s.modMode f).pwr = s.pwr := rfl
@[simp] theorem State.modMode_scn (f : ModeSt → ModeSt) : (s.modMode f).scn = s.scn := rfl
@[simp] theorem State.modMode_eph (f : ModeSt → ModeSt) : (s.modMode f).eph = s.eph := rfl
@[simp] theorem State.modMode_dp (f : ModeSt → ModeSt) : (s.modMode f).dp = s.dp := rfl
@[simp] theorem State.modMode_ports (f : ModeSt → ModeSt) : (s.modMode f).ports = s.ports := rfl
@[simp] theorem State.modMode_net (f : ModeSt → ModeSt) : (s.modMode f).net = s.net := rfl
@[simp] theorem State.modMode_lanes (f : ModeSt → ModeSt) : (s.modMode f).lanes = s.lanes := rfl
@[simp] theorem State.modMode_kzl (f : ModeSt → ModeSt) : (s.modMode f).kzl = s.kzl := rfl
@[simp] theorem State.modMode_stby (f : ModeSt → ModeSt) : (s.modMode f).stby = s.stby := rfl
@[simp] theorem State.modMode_se (f : ModeSt → ModeSt) : (s.modMode f).se = s.se := rfl
@[simp] theorem State.modMode_prog (f : ModeSt → ModeSt) : (s.modMode f).prog = s.prog := rfl
@[simp] theorem State.modMode_bc (f : ModeSt → ModeSt) : (s.modMode f).bc = s.bc := rfl

/-! ## modMgmt -/

@[simp] theorem State.modMgmt_pending (f : Mgmt → Mgmt) : (s.modMgmt f).pending = s.pending := rfl
@[simp] theorem State.modMgmt_clk (f : Mgmt → Mgmt) : (s.modMgmt f).clk = s.clk := rfl
@[simp] theorem State.modMgmt_ptp (f : Mgmt → Mgmt) : (s.modMgmt f).ptp = s.ptp := rfl
@[simp] theorem State.modMgmt_hel (f : Mgmt → Mgmt) : (s.modMgmt f).hel = s.hel := rfl
@[simp] theorem State.modMgmt_regs (f : Mgmt → Mgmt) : (s.modMgmt f).regs = s.regs := rfl
@[simp] theorem State.modMgmt_frozen (f : Mgmt → Mgmt) : (s.modMgmt f).frozen = s.frozen := rfl
@[simp] theorem State.modMgmt_free (f : Mgmt → Mgmt) : (s.modMgmt f).free = s.free := rfl
@[simp] theorem State.modMgmt_sel (f : Mgmt → Mgmt) : (s.modMgmt f).sel = s.sel := rfl
@[simp] theorem State.modMgmt_flt (f : Mgmt → Mgmt) : (s.modMgmt f).flt = s.flt := rfl
@[simp] theorem State.modMgmt_mem (f : Mgmt → Mgmt) : (s.modMgmt f).mem = s.mem := rfl
@[simp] theorem State.modMgmt_host (f : Mgmt → Mgmt) : (s.modMgmt f).host = s.host := rfl
@[simp] theorem State.modMgmt_mode (f : Mgmt → Mgmt) : (s.modMgmt f).mode = s.mode := rfl
@[simp] theorem State.modMgmt_mgmt (f : Mgmt → Mgmt) : (s.modMgmt f).mgmt = f s.mgmt := rfl
@[simp] theorem State.modMgmt_pwr (f : Mgmt → Mgmt) : (s.modMgmt f).pwr = s.pwr := rfl
@[simp] theorem State.modMgmt_scn (f : Mgmt → Mgmt) : (s.modMgmt f).scn = s.scn := rfl
@[simp] theorem State.modMgmt_eph (f : Mgmt → Mgmt) : (s.modMgmt f).eph = s.eph := rfl
@[simp] theorem State.modMgmt_dp (f : Mgmt → Mgmt) : (s.modMgmt f).dp = s.dp := rfl
@[simp] theorem State.modMgmt_ports (f : Mgmt → Mgmt) : (s.modMgmt f).ports = s.ports := rfl
@[simp] theorem State.modMgmt_net (f : Mgmt → Mgmt) : (s.modMgmt f).net = s.net := rfl
@[simp] theorem State.modMgmt_lanes (f : Mgmt → Mgmt) : (s.modMgmt f).lanes = s.lanes := rfl
@[simp] theorem State.modMgmt_kzl (f : Mgmt → Mgmt) : (s.modMgmt f).kzl = s.kzl := rfl
@[simp] theorem State.modMgmt_stby (f : Mgmt → Mgmt) : (s.modMgmt f).stby = s.stby := rfl
@[simp] theorem State.modMgmt_se (f : Mgmt → Mgmt) : (s.modMgmt f).se = s.se := rfl
@[simp] theorem State.modMgmt_prog (f : Mgmt → Mgmt) : (s.modMgmt f).prog = s.prog := rfl
@[simp] theorem State.modMgmt_bc (f : Mgmt → Mgmt) : (s.modMgmt f).bc = s.bc := rfl

/-! ## modPwr -/

@[simp] theorem State.modPwr_pending (f : Power → Power) : (s.modPwr f).pending = s.pending := rfl
@[simp] theorem State.modPwr_clk (f : Power → Power) : (s.modPwr f).clk = s.clk := rfl
@[simp] theorem State.modPwr_ptp (f : Power → Power) : (s.modPwr f).ptp = s.ptp := rfl
@[simp] theorem State.modPwr_hel (f : Power → Power) : (s.modPwr f).hel = s.hel := rfl
@[simp] theorem State.modPwr_regs (f : Power → Power) : (s.modPwr f).regs = s.regs := rfl
@[simp] theorem State.modPwr_frozen (f : Power → Power) : (s.modPwr f).frozen = s.frozen := rfl
@[simp] theorem State.modPwr_free (f : Power → Power) : (s.modPwr f).free = s.free := rfl
@[simp] theorem State.modPwr_sel (f : Power → Power) : (s.modPwr f).sel = s.sel := rfl
@[simp] theorem State.modPwr_flt (f : Power → Power) : (s.modPwr f).flt = s.flt := rfl
@[simp] theorem State.modPwr_mem (f : Power → Power) : (s.modPwr f).mem = s.mem := rfl
@[simp] theorem State.modPwr_host (f : Power → Power) : (s.modPwr f).host = s.host := rfl
@[simp] theorem State.modPwr_mode (f : Power → Power) : (s.modPwr f).mode = s.mode := rfl
@[simp] theorem State.modPwr_mgmt (f : Power → Power) : (s.modPwr f).mgmt = s.mgmt := rfl
@[simp] theorem State.modPwr_pwr (f : Power → Power) : (s.modPwr f).pwr = f s.pwr := rfl
@[simp] theorem State.modPwr_scn (f : Power → Power) : (s.modPwr f).scn = s.scn := rfl
@[simp] theorem State.modPwr_eph (f : Power → Power) : (s.modPwr f).eph = s.eph := rfl
@[simp] theorem State.modPwr_dp (f : Power → Power) : (s.modPwr f).dp = s.dp := rfl
@[simp] theorem State.modPwr_ports (f : Power → Power) : (s.modPwr f).ports = s.ports := rfl
@[simp] theorem State.modPwr_net (f : Power → Power) : (s.modPwr f).net = s.net := rfl
@[simp] theorem State.modPwr_lanes (f : Power → Power) : (s.modPwr f).lanes = s.lanes := rfl
@[simp] theorem State.modPwr_kzl (f : Power → Power) : (s.modPwr f).kzl = s.kzl := rfl
@[simp] theorem State.modPwr_stby (f : Power → Power) : (s.modPwr f).stby = s.stby := rfl
@[simp] theorem State.modPwr_se (f : Power → Power) : (s.modPwr f).se = s.se := rfl
@[simp] theorem State.modPwr_prog (f : Power → Power) : (s.modPwr f).prog = s.prog := rfl
@[simp] theorem State.modPwr_bc (f : Power → Power) : (s.modPwr f).bc = s.bc := rfl

/-! ## modScn -/

@[simp] theorem State.modScn_pending (f : Scn → Scn) : (s.modScn f).pending = s.pending := rfl
@[simp] theorem State.modScn_clk (f : Scn → Scn) : (s.modScn f).clk = s.clk := rfl
@[simp] theorem State.modScn_ptp (f : Scn → Scn) : (s.modScn f).ptp = s.ptp := rfl
@[simp] theorem State.modScn_hel (f : Scn → Scn) : (s.modScn f).hel = s.hel := rfl
@[simp] theorem State.modScn_regs (f : Scn → Scn) : (s.modScn f).regs = s.regs := rfl
@[simp] theorem State.modScn_frozen (f : Scn → Scn) : (s.modScn f).frozen = s.frozen := rfl
@[simp] theorem State.modScn_free (f : Scn → Scn) : (s.modScn f).free = s.free := rfl
@[simp] theorem State.modScn_sel (f : Scn → Scn) : (s.modScn f).sel = s.sel := rfl
@[simp] theorem State.modScn_flt (f : Scn → Scn) : (s.modScn f).flt = s.flt := rfl
@[simp] theorem State.modScn_mem (f : Scn → Scn) : (s.modScn f).mem = s.mem := rfl
@[simp] theorem State.modScn_host (f : Scn → Scn) : (s.modScn f).host = s.host := rfl
@[simp] theorem State.modScn_mode (f : Scn → Scn) : (s.modScn f).mode = s.mode := rfl
@[simp] theorem State.modScn_mgmt (f : Scn → Scn) : (s.modScn f).mgmt = s.mgmt := rfl
@[simp] theorem State.modScn_pwr (f : Scn → Scn) : (s.modScn f).pwr = s.pwr := rfl
@[simp] theorem State.modScn_scn (f : Scn → Scn) : (s.modScn f).scn = f s.scn := rfl
@[simp] theorem State.modScn_eph (f : Scn → Scn) : (s.modScn f).eph = s.eph := rfl
@[simp] theorem State.modScn_dp (f : Scn → Scn) : (s.modScn f).dp = s.dp := rfl
@[simp] theorem State.modScn_ports (f : Scn → Scn) : (s.modScn f).ports = s.ports := rfl
@[simp] theorem State.modScn_net (f : Scn → Scn) : (s.modScn f).net = s.net := rfl
@[simp] theorem State.modScn_lanes (f : Scn → Scn) : (s.modScn f).lanes = s.lanes := rfl
@[simp] theorem State.modScn_kzl (f : Scn → Scn) : (s.modScn f).kzl = s.kzl := rfl
@[simp] theorem State.modScn_stby (f : Scn → Scn) : (s.modScn f).stby = s.stby := rfl
@[simp] theorem State.modScn_se (f : Scn → Scn) : (s.modScn f).se = s.se := rfl
@[simp] theorem State.modScn_prog (f : Scn → Scn) : (s.modScn f).prog = s.prog := rfl
@[simp] theorem State.modScn_bc (f : Scn → Scn) : (s.modScn f).bc = s.bc := rfl

/-! ## modEph -/

@[simp] theorem State.modEph_pending (f : Eph → Eph) : (s.modEph f).pending = s.pending := rfl
@[simp] theorem State.modEph_clk (f : Eph → Eph) : (s.modEph f).clk = s.clk := rfl
@[simp] theorem State.modEph_ptp (f : Eph → Eph) : (s.modEph f).ptp = s.ptp := rfl
@[simp] theorem State.modEph_hel (f : Eph → Eph) : (s.modEph f).hel = s.hel := rfl
@[simp] theorem State.modEph_regs (f : Eph → Eph) : (s.modEph f).regs = s.regs := rfl
@[simp] theorem State.modEph_frozen (f : Eph → Eph) : (s.modEph f).frozen = s.frozen := rfl
@[simp] theorem State.modEph_free (f : Eph → Eph) : (s.modEph f).free = s.free := rfl
@[simp] theorem State.modEph_sel (f : Eph → Eph) : (s.modEph f).sel = s.sel := rfl
@[simp] theorem State.modEph_flt (f : Eph → Eph) : (s.modEph f).flt = s.flt := rfl
@[simp] theorem State.modEph_mem (f : Eph → Eph) : (s.modEph f).mem = s.mem := rfl
@[simp] theorem State.modEph_host (f : Eph → Eph) : (s.modEph f).host = s.host := rfl
@[simp] theorem State.modEph_mode (f : Eph → Eph) : (s.modEph f).mode = s.mode := rfl
@[simp] theorem State.modEph_mgmt (f : Eph → Eph) : (s.modEph f).mgmt = s.mgmt := rfl
@[simp] theorem State.modEph_pwr (f : Eph → Eph) : (s.modEph f).pwr = s.pwr := rfl
@[simp] theorem State.modEph_scn (f : Eph → Eph) : (s.modEph f).scn = s.scn := rfl
@[simp] theorem State.modEph_eph (f : Eph → Eph) : (s.modEph f).eph = f s.eph := rfl
@[simp] theorem State.modEph_dp (f : Eph → Eph) : (s.modEph f).dp = s.dp := rfl
@[simp] theorem State.modEph_ports (f : Eph → Eph) : (s.modEph f).ports = s.ports := rfl
@[simp] theorem State.modEph_net (f : Eph → Eph) : (s.modEph f).net = s.net := rfl
@[simp] theorem State.modEph_lanes (f : Eph → Eph) : (s.modEph f).lanes = s.lanes := rfl
@[simp] theorem State.modEph_kzl (f : Eph → Eph) : (s.modEph f).kzl = s.kzl := rfl
@[simp] theorem State.modEph_stby (f : Eph → Eph) : (s.modEph f).stby = s.stby := rfl
@[simp] theorem State.modEph_se (f : Eph → Eph) : (s.modEph f).se = s.se := rfl
@[simp] theorem State.modEph_prog (f : Eph → Eph) : (s.modEph f).prog = s.prog := rfl
@[simp] theorem State.modEph_bc (f : Eph → Eph) : (s.modEph f).bc = s.bc := rfl

/-! ## modDp -/

@[simp] theorem State.modDp_pending (f : Data → Data) : (s.modDp f).pending = s.pending := rfl
@[simp] theorem State.modDp_clk (f : Data → Data) : (s.modDp f).clk = s.clk := rfl
@[simp] theorem State.modDp_ptp (f : Data → Data) : (s.modDp f).ptp = s.ptp := rfl
@[simp] theorem State.modDp_hel (f : Data → Data) : (s.modDp f).hel = s.hel := rfl
@[simp] theorem State.modDp_regs (f : Data → Data) : (s.modDp f).regs = s.regs := rfl
@[simp] theorem State.modDp_frozen (f : Data → Data) : (s.modDp f).frozen = s.frozen := rfl
@[simp] theorem State.modDp_free (f : Data → Data) : (s.modDp f).free = s.free := rfl
@[simp] theorem State.modDp_sel (f : Data → Data) : (s.modDp f).sel = s.sel := rfl
@[simp] theorem State.modDp_flt (f : Data → Data) : (s.modDp f).flt = s.flt := rfl
@[simp] theorem State.modDp_mem (f : Data → Data) : (s.modDp f).mem = s.mem := rfl
@[simp] theorem State.modDp_host (f : Data → Data) : (s.modDp f).host = s.host := rfl
@[simp] theorem State.modDp_mode (f : Data → Data) : (s.modDp f).mode = s.mode := rfl
@[simp] theorem State.modDp_mgmt (f : Data → Data) : (s.modDp f).mgmt = s.mgmt := rfl
@[simp] theorem State.modDp_pwr (f : Data → Data) : (s.modDp f).pwr = s.pwr := rfl
@[simp] theorem State.modDp_scn (f : Data → Data) : (s.modDp f).scn = s.scn := rfl
@[simp] theorem State.modDp_eph (f : Data → Data) : (s.modDp f).eph = s.eph := rfl
@[simp] theorem State.modDp_dp (f : Data → Data) : (s.modDp f).dp = f s.dp := rfl
@[simp] theorem State.modDp_ports (f : Data → Data) : (s.modDp f).ports = s.ports := rfl
@[simp] theorem State.modDp_net (f : Data → Data) : (s.modDp f).net = s.net := rfl
@[simp] theorem State.modDp_lanes (f : Data → Data) : (s.modDp f).lanes = s.lanes := rfl
@[simp] theorem State.modDp_kzl (f : Data → Data) : (s.modDp f).kzl = s.kzl := rfl
@[simp] theorem State.modDp_stby (f : Data → Data) : (s.modDp f).stby = s.stby := rfl
@[simp] theorem State.modDp_se (f : Data → Data) : (s.modDp f).se = s.se := rfl
@[simp] theorem State.modDp_prog (f : Data → Data) : (s.modDp f).prog = s.prog := rfl
@[simp] theorem State.modDp_bc (f : Data → Data) : (s.modDp f).bc = s.bc := rfl

/-! ## modPorts -/

@[simp] theorem State.modPorts_pending (f : Ports → Ports) : (s.modPorts f).pending = s.pending := rfl
@[simp] theorem State.modPorts_clk (f : Ports → Ports) : (s.modPorts f).clk = s.clk := rfl
@[simp] theorem State.modPorts_ptp (f : Ports → Ports) : (s.modPorts f).ptp = s.ptp := rfl
@[simp] theorem State.modPorts_hel (f : Ports → Ports) : (s.modPorts f).hel = s.hel := rfl
@[simp] theorem State.modPorts_regs (f : Ports → Ports) : (s.modPorts f).regs = s.regs := rfl
@[simp] theorem State.modPorts_frozen (f : Ports → Ports) : (s.modPorts f).frozen = s.frozen := rfl
@[simp] theorem State.modPorts_free (f : Ports → Ports) : (s.modPorts f).free = s.free := rfl
@[simp] theorem State.modPorts_sel (f : Ports → Ports) : (s.modPorts f).sel = s.sel := rfl
@[simp] theorem State.modPorts_flt (f : Ports → Ports) : (s.modPorts f).flt = s.flt := rfl
@[simp] theorem State.modPorts_mem (f : Ports → Ports) : (s.modPorts f).mem = s.mem := rfl
@[simp] theorem State.modPorts_host (f : Ports → Ports) : (s.modPorts f).host = s.host := rfl
@[simp] theorem State.modPorts_mode (f : Ports → Ports) : (s.modPorts f).mode = s.mode := rfl
@[simp] theorem State.modPorts_mgmt (f : Ports → Ports) : (s.modPorts f).mgmt = s.mgmt := rfl
@[simp] theorem State.modPorts_pwr (f : Ports → Ports) : (s.modPorts f).pwr = s.pwr := rfl
@[simp] theorem State.modPorts_scn (f : Ports → Ports) : (s.modPorts f).scn = s.scn := rfl
@[simp] theorem State.modPorts_eph (f : Ports → Ports) : (s.modPorts f).eph = s.eph := rfl
@[simp] theorem State.modPorts_dp (f : Ports → Ports) : (s.modPorts f).dp = s.dp := rfl
@[simp] theorem State.modPorts_ports (f : Ports → Ports) : (s.modPorts f).ports = f s.ports := rfl
@[simp] theorem State.modPorts_net (f : Ports → Ports) : (s.modPorts f).net = s.net := rfl
@[simp] theorem State.modPorts_lanes (f : Ports → Ports) : (s.modPorts f).lanes = s.lanes := rfl
@[simp] theorem State.modPorts_kzl (f : Ports → Ports) : (s.modPorts f).kzl = s.kzl := rfl
@[simp] theorem State.modPorts_stby (f : Ports → Ports) : (s.modPorts f).stby = s.stby := rfl
@[simp] theorem State.modPorts_se (f : Ports → Ports) : (s.modPorts f).se = s.se := rfl
@[simp] theorem State.modPorts_prog (f : Ports → Ports) : (s.modPorts f).prog = s.prog := rfl
@[simp] theorem State.modPorts_bc (f : Ports → Ports) : (s.modPorts f).bc = s.bc := rfl

/-! ## modNet -/

@[simp] theorem State.modNet_pending (f : Net → Net) : (s.modNet f).pending = s.pending := rfl
@[simp] theorem State.modNet_clk (f : Net → Net) : (s.modNet f).clk = s.clk := rfl
@[simp] theorem State.modNet_ptp (f : Net → Net) : (s.modNet f).ptp = s.ptp := rfl
@[simp] theorem State.modNet_hel (f : Net → Net) : (s.modNet f).hel = s.hel := rfl
@[simp] theorem State.modNet_regs (f : Net → Net) : (s.modNet f).regs = s.regs := rfl
@[simp] theorem State.modNet_frozen (f : Net → Net) : (s.modNet f).frozen = s.frozen := rfl
@[simp] theorem State.modNet_free (f : Net → Net) : (s.modNet f).free = s.free := rfl
@[simp] theorem State.modNet_sel (f : Net → Net) : (s.modNet f).sel = s.sel := rfl
@[simp] theorem State.modNet_flt (f : Net → Net) : (s.modNet f).flt = s.flt := rfl
@[simp] theorem State.modNet_mem (f : Net → Net) : (s.modNet f).mem = s.mem := rfl
@[simp] theorem State.modNet_host (f : Net → Net) : (s.modNet f).host = s.host := rfl
@[simp] theorem State.modNet_mode (f : Net → Net) : (s.modNet f).mode = s.mode := rfl
@[simp] theorem State.modNet_mgmt (f : Net → Net) : (s.modNet f).mgmt = s.mgmt := rfl
@[simp] theorem State.modNet_pwr (f : Net → Net) : (s.modNet f).pwr = s.pwr := rfl
@[simp] theorem State.modNet_scn (f : Net → Net) : (s.modNet f).scn = s.scn := rfl
@[simp] theorem State.modNet_eph (f : Net → Net) : (s.modNet f).eph = s.eph := rfl
@[simp] theorem State.modNet_dp (f : Net → Net) : (s.modNet f).dp = s.dp := rfl
@[simp] theorem State.modNet_ports (f : Net → Net) : (s.modNet f).ports = s.ports := rfl
@[simp] theorem State.modNet_net (f : Net → Net) : (s.modNet f).net = f s.net := rfl
@[simp] theorem State.modNet_lanes (f : Net → Net) : (s.modNet f).lanes = s.lanes := rfl
@[simp] theorem State.modNet_kzl (f : Net → Net) : (s.modNet f).kzl = s.kzl := rfl
@[simp] theorem State.modNet_stby (f : Net → Net) : (s.modNet f).stby = s.stby := rfl
@[simp] theorem State.modNet_se (f : Net → Net) : (s.modNet f).se = s.se := rfl
@[simp] theorem State.modNet_prog (f : Net → Net) : (s.modNet f).prog = s.prog := rfl
@[simp] theorem State.modNet_bc (f : Net → Net) : (s.modNet f).bc = s.bc := rfl

/-! ## modStby -/

@[simp] theorem State.modStby_pending (f : Stby → Stby) : (s.modStby f).pending = s.pending := rfl
@[simp] theorem State.modStby_clk (f : Stby → Stby) : (s.modStby f).clk = s.clk := rfl
@[simp] theorem State.modStby_ptp (f : Stby → Stby) : (s.modStby f).ptp = s.ptp := rfl
@[simp] theorem State.modStby_hel (f : Stby → Stby) : (s.modStby f).hel = s.hel := rfl
@[simp] theorem State.modStby_regs (f : Stby → Stby) : (s.modStby f).regs = s.regs := rfl
@[simp] theorem State.modStby_frozen (f : Stby → Stby) : (s.modStby f).frozen = s.frozen := rfl
@[simp] theorem State.modStby_free (f : Stby → Stby) : (s.modStby f).free = s.free := rfl
@[simp] theorem State.modStby_sel (f : Stby → Stby) : (s.modStby f).sel = s.sel := rfl
@[simp] theorem State.modStby_flt (f : Stby → Stby) : (s.modStby f).flt = s.flt := rfl
@[simp] theorem State.modStby_mem (f : Stby → Stby) : (s.modStby f).mem = s.mem := rfl
@[simp] theorem State.modStby_host (f : Stby → Stby) : (s.modStby f).host = s.host := rfl
@[simp] theorem State.modStby_mode (f : Stby → Stby) : (s.modStby f).mode = s.mode := rfl
@[simp] theorem State.modStby_mgmt (f : Stby → Stby) : (s.modStby f).mgmt = s.mgmt := rfl
@[simp] theorem State.modStby_pwr (f : Stby → Stby) : (s.modStby f).pwr = s.pwr := rfl
@[simp] theorem State.modStby_scn (f : Stby → Stby) : (s.modStby f).scn = s.scn := rfl
@[simp] theorem State.modStby_eph (f : Stby → Stby) : (s.modStby f).eph = s.eph := rfl
@[simp] theorem State.modStby_dp (f : Stby → Stby) : (s.modStby f).dp = s.dp := rfl
@[simp] theorem State.modStby_ports (f : Stby → Stby) : (s.modStby f).ports = s.ports := rfl
@[simp] theorem State.modStby_net (f : Stby → Stby) : (s.modStby f).net = s.net := rfl
@[simp] theorem State.modStby_lanes (f : Stby → Stby) : (s.modStby f).lanes = s.lanes := rfl
@[simp] theorem State.modStby_kzl (f : Stby → Stby) : (s.modStby f).kzl = s.kzl := rfl
@[simp] theorem State.modStby_stby (f : Stby → Stby) : (s.modStby f).stby = f s.stby := rfl
@[simp] theorem State.modStby_se (f : Stby → Stby) : (s.modStby f).se = s.se := rfl
@[simp] theorem State.modStby_prog (f : Stby → Stby) : (s.modStby f).prog = s.prog := rfl
@[simp] theorem State.modStby_bc (f : Stby → Stby) : (s.modStby f).bc = s.bc := rfl

/-! ## setLaneHw -/

@[simp] theorem State.setLaneHw_pending (l : Nat) (f : LaneHw → LaneHw) : (s.setLaneHw l f).pending = s.pending := rfl
@[simp] theorem State.setLaneHw_clk (l : Nat) (f : LaneHw → LaneHw) : (s.setLaneHw l f).clk = s.clk := rfl
@[simp] theorem State.setLaneHw_ptp (l : Nat) (f : LaneHw → LaneHw) : (s.setLaneHw l f).ptp = s.ptp := rfl
@[simp] theorem State.setLaneHw_hel (l : Nat) (f : LaneHw → LaneHw) : (s.setLaneHw l f).hel = s.hel := rfl
@[simp] theorem State.setLaneHw_regs (l : Nat) (f : LaneHw → LaneHw) : (s.setLaneHw l f).regs = s.regs := rfl
@[simp] theorem State.setLaneHw_frozen (l : Nat) (f : LaneHw → LaneHw) : (s.setLaneHw l f).frozen = s.frozen := rfl
@[simp] theorem State.setLaneHw_free (l : Nat) (f : LaneHw → LaneHw) : (s.setLaneHw l f).free = s.free := rfl
@[simp] theorem State.setLaneHw_sel (l : Nat) (f : LaneHw → LaneHw) : (s.setLaneHw l f).sel = s.sel := rfl
@[simp] theorem State.setLaneHw_flt (l : Nat) (f : LaneHw → LaneHw) : (s.setLaneHw l f).flt = s.flt := rfl
@[simp] theorem State.setLaneHw_mem (l : Nat) (f : LaneHw → LaneHw) : (s.setLaneHw l f).mem = s.mem := rfl
@[simp] theorem State.setLaneHw_host (l : Nat) (f : LaneHw → LaneHw) : (s.setLaneHw l f).host = s.host := rfl
@[simp] theorem State.setLaneHw_mode (l : Nat) (f : LaneHw → LaneHw) : (s.setLaneHw l f).mode = s.mode := rfl
@[simp] theorem State.setLaneHw_mgmt (l : Nat) (f : LaneHw → LaneHw) : (s.setLaneHw l f).mgmt = s.mgmt := rfl
@[simp] theorem State.setLaneHw_pwr (l : Nat) (f : LaneHw → LaneHw) : (s.setLaneHw l f).pwr = s.pwr := rfl
@[simp] theorem State.setLaneHw_scn (l : Nat) (f : LaneHw → LaneHw) : (s.setLaneHw l f).scn = s.scn := rfl
@[simp] theorem State.setLaneHw_eph (l : Nat) (f : LaneHw → LaneHw) : (s.setLaneHw l f).eph = s.eph := rfl
@[simp] theorem State.setLaneHw_dp (l : Nat) (f : LaneHw → LaneHw) : (s.setLaneHw l f).dp = s.dp := rfl
@[simp] theorem State.setLaneHw_ports (l : Nat) (f : LaneHw → LaneHw) : (s.setLaneHw l f).ports = s.ports := rfl
@[simp] theorem State.setLaneHw_net (l : Nat) (f : LaneHw → LaneHw) : (s.setLaneHw l f).net = s.net := rfl
@[simp] theorem State.setLaneHw_kzl (l : Nat) (f : LaneHw → LaneHw) : (s.setLaneHw l f).kzl = s.kzl := rfl
@[simp] theorem State.setLaneHw_stby (l : Nat) (f : LaneHw → LaneHw) : (s.setLaneHw l f).stby = s.stby := rfl
@[simp] theorem State.setLaneHw_se (l : Nat) (f : LaneHw → LaneHw) : (s.setLaneHw l f).se = s.se := rfl
@[simp] theorem State.setLaneHw_prog (l : Nat) (f : LaneHw → LaneHw) : (s.setLaneHw l f).prog = s.prog := rfl
@[simp] theorem State.setLaneHw_bc (l : Nat) (f : LaneHw → LaneHw) : (s.setLaneHw l f).bc = s.bc := rfl

/-! ## setLink -/

@[simp] theorem State.setLink_pending (k : Nat) (f : Kzl → Kzl) : (s.setLink k f).pending = s.pending := rfl
@[simp] theorem State.setLink_clk (k : Nat) (f : Kzl → Kzl) : (s.setLink k f).clk = s.clk := rfl
@[simp] theorem State.setLink_ptp (k : Nat) (f : Kzl → Kzl) : (s.setLink k f).ptp = s.ptp := rfl
@[simp] theorem State.setLink_hel (k : Nat) (f : Kzl → Kzl) : (s.setLink k f).hel = s.hel := rfl
@[simp] theorem State.setLink_regs (k : Nat) (f : Kzl → Kzl) : (s.setLink k f).regs = s.regs := rfl
@[simp] theorem State.setLink_frozen (k : Nat) (f : Kzl → Kzl) : (s.setLink k f).frozen = s.frozen := rfl
@[simp] theorem State.setLink_free (k : Nat) (f : Kzl → Kzl) : (s.setLink k f).free = s.free := rfl
@[simp] theorem State.setLink_sel (k : Nat) (f : Kzl → Kzl) : (s.setLink k f).sel = s.sel := rfl
@[simp] theorem State.setLink_flt (k : Nat) (f : Kzl → Kzl) : (s.setLink k f).flt = s.flt := rfl
@[simp] theorem State.setLink_mem (k : Nat) (f : Kzl → Kzl) : (s.setLink k f).mem = s.mem := rfl
@[simp] theorem State.setLink_host (k : Nat) (f : Kzl → Kzl) : (s.setLink k f).host = s.host := rfl
@[simp] theorem State.setLink_mode (k : Nat) (f : Kzl → Kzl) : (s.setLink k f).mode = s.mode := rfl
@[simp] theorem State.setLink_mgmt (k : Nat) (f : Kzl → Kzl) : (s.setLink k f).mgmt = s.mgmt := rfl
@[simp] theorem State.setLink_pwr (k : Nat) (f : Kzl → Kzl) : (s.setLink k f).pwr = s.pwr := rfl
@[simp] theorem State.setLink_scn (k : Nat) (f : Kzl → Kzl) : (s.setLink k f).scn = s.scn := rfl
@[simp] theorem State.setLink_eph (k : Nat) (f : Kzl → Kzl) : (s.setLink k f).eph = s.eph := rfl
@[simp] theorem State.setLink_dp (k : Nat) (f : Kzl → Kzl) : (s.setLink k f).dp = s.dp := rfl
@[simp] theorem State.setLink_ports (k : Nat) (f : Kzl → Kzl) : (s.setLink k f).ports = s.ports := rfl
@[simp] theorem State.setLink_net (k : Nat) (f : Kzl → Kzl) : (s.setLink k f).net = s.net := rfl
@[simp] theorem State.setLink_lanes (k : Nat) (f : Kzl → Kzl) : (s.setLink k f).lanes = s.lanes := rfl
@[simp] theorem State.setLink_stby (k : Nat) (f : Kzl → Kzl) : (s.setLink k f).stby = s.stby := rfl
@[simp] theorem State.setLink_se (k : Nat) (f : Kzl → Kzl) : (s.setLink k f).se = s.se := rfl
@[simp] theorem State.setLink_prog (k : Nat) (f : Kzl → Kzl) : (s.setLink k f).prog = s.prog := rfl
@[simp] theorem State.setLink_bc (k : Nat) (f : Kzl → Kzl) : (s.setLink k f).bc = s.bc := rfl

/-! ## setEng -/

@[simp] theorem State.setEng_pending (e : Nat) (t : Se) : (s.setEng e t).pending = s.pending := rfl
@[simp] theorem State.setEng_clk (e : Nat) (t : Se) : (s.setEng e t).clk = s.clk := rfl
@[simp] theorem State.setEng_ptp (e : Nat) (t : Se) : (s.setEng e t).ptp = s.ptp := rfl
@[simp] theorem State.setEng_hel (e : Nat) (t : Se) : (s.setEng e t).hel = s.hel := rfl
@[simp] theorem State.setEng_regs (e : Nat) (t : Se) : (s.setEng e t).regs = s.regs := rfl
@[simp] theorem State.setEng_frozen (e : Nat) (t : Se) : (s.setEng e t).frozen = s.frozen := rfl
@[simp] theorem State.setEng_free (e : Nat) (t : Se) : (s.setEng e t).free = s.free := rfl
@[simp] theorem State.setEng_sel (e : Nat) (t : Se) : (s.setEng e t).sel = s.sel := rfl
@[simp] theorem State.setEng_flt (e : Nat) (t : Se) : (s.setEng e t).flt = s.flt := rfl
@[simp] theorem State.setEng_mem (e : Nat) (t : Se) : (s.setEng e t).mem = s.mem := rfl
@[simp] theorem State.setEng_host (e : Nat) (t : Se) : (s.setEng e t).host = s.host := rfl
@[simp] theorem State.setEng_mode (e : Nat) (t : Se) : (s.setEng e t).mode = s.mode := rfl
@[simp] theorem State.setEng_mgmt (e : Nat) (t : Se) : (s.setEng e t).mgmt = s.mgmt := rfl
@[simp] theorem State.setEng_pwr (e : Nat) (t : Se) : (s.setEng e t).pwr = s.pwr := rfl
@[simp] theorem State.setEng_scn (e : Nat) (t : Se) : (s.setEng e t).scn = s.scn := rfl
@[simp] theorem State.setEng_eph (e : Nat) (t : Se) : (s.setEng e t).eph = s.eph := rfl
@[simp] theorem State.setEng_dp (e : Nat) (t : Se) : (s.setEng e t).dp = s.dp := rfl
@[simp] theorem State.setEng_ports (e : Nat) (t : Se) : (s.setEng e t).ports = s.ports := rfl
@[simp] theorem State.setEng_net (e : Nat) (t : Se) : (s.setEng e t).net = s.net := rfl
@[simp] theorem State.setEng_lanes (e : Nat) (t : Se) : (s.setEng e t).lanes = s.lanes := rfl
@[simp] theorem State.setEng_kzl (e : Nat) (t : Se) : (s.setEng e t).kzl = s.kzl := rfl
@[simp] theorem State.setEng_stby (e : Nat) (t : Se) : (s.setEng e t).stby = s.stby := rfl
@[simp] theorem State.setEng_se (e : Nat) (t : Se) : (s.setEng e t).se = tput {} s.se e t := rfl
@[simp] theorem State.setEng_prog (e : Nat) (t : Se) : (s.setEng e t).prog = s.prog := rfl
@[simp] theorem State.setEng_bc (e : Nat) (t : Se) : (s.setEng e t).bc = s.bc := rfl

/-! ## setBc -/

@[simp] theorem State.setBc_pending (c : Nat) (f : Bc → Bc) : (s.setBc c f).pending = s.pending := rfl
@[simp] theorem State.setBc_clk (c : Nat) (f : Bc → Bc) : (s.setBc c f).clk = s.clk := rfl
@[simp] theorem State.setBc_ptp (c : Nat) (f : Bc → Bc) : (s.setBc c f).ptp = s.ptp := rfl
@[simp] theorem State.setBc_hel (c : Nat) (f : Bc → Bc) : (s.setBc c f).hel = s.hel := rfl
@[simp] theorem State.setBc_regs (c : Nat) (f : Bc → Bc) : (s.setBc c f).regs = s.regs := rfl
@[simp] theorem State.setBc_frozen (c : Nat) (f : Bc → Bc) : (s.setBc c f).frozen = s.frozen := rfl
@[simp] theorem State.setBc_free (c : Nat) (f : Bc → Bc) : (s.setBc c f).free = s.free := rfl
@[simp] theorem State.setBc_sel (c : Nat) (f : Bc → Bc) : (s.setBc c f).sel = s.sel := rfl
@[simp] theorem State.setBc_flt (c : Nat) (f : Bc → Bc) : (s.setBc c f).flt = s.flt := rfl
@[simp] theorem State.setBc_mem (c : Nat) (f : Bc → Bc) : (s.setBc c f).mem = s.mem := rfl
@[simp] theorem State.setBc_host (c : Nat) (f : Bc → Bc) : (s.setBc c f).host = s.host := rfl
@[simp] theorem State.setBc_mode (c : Nat) (f : Bc → Bc) : (s.setBc c f).mode = s.mode := rfl
@[simp] theorem State.setBc_mgmt (c : Nat) (f : Bc → Bc) : (s.setBc c f).mgmt = s.mgmt := rfl
@[simp] theorem State.setBc_pwr (c : Nat) (f : Bc → Bc) : (s.setBc c f).pwr = s.pwr := rfl
@[simp] theorem State.setBc_scn (c : Nat) (f : Bc → Bc) : (s.setBc c f).scn = s.scn := rfl
@[simp] theorem State.setBc_eph (c : Nat) (f : Bc → Bc) : (s.setBc c f).eph = s.eph := rfl
@[simp] theorem State.setBc_dp (c : Nat) (f : Bc → Bc) : (s.setBc c f).dp = s.dp := rfl
@[simp] theorem State.setBc_ports (c : Nat) (f : Bc → Bc) : (s.setBc c f).ports = s.ports := rfl
@[simp] theorem State.setBc_net (c : Nat) (f : Bc → Bc) : (s.setBc c f).net = s.net := rfl
@[simp] theorem State.setBc_lanes (c : Nat) (f : Bc → Bc) : (s.setBc c f).lanes = s.lanes := rfl
@[simp] theorem State.setBc_kzl (c : Nat) (f : Bc → Bc) : (s.setBc c f).kzl = s.kzl := rfl
@[simp] theorem State.setBc_stby (c : Nat) (f : Bc → Bc) : (s.setBc c f).stby = s.stby := rfl
@[simp] theorem State.setBc_se (c : Nat) (f : Bc → Bc) : (s.setBc c f).se = s.se := rfl
@[simp] theorem State.setBc_prog (c : Nat) (f : Bc → Bc) : (s.setBc c f).prog = s.prog := rfl

/-! ## Strip engines and register words after updates of another part -/

@[simp] theorem State.eng_setEng_same (e : Nat) (t : Se) : (s.setEng e t).eng e = t := tget_tput_same _ _ _ _

theorem State.eng_setEng_other (e e' : Nat) (t : Se) (h : e' ≠ e) : (s.setEng e t).eng e' = s.eng e' :=
  tget_tput_other _ _ _ _ _ _ h

@[simp] theorem State.eng_put (g : Fld) (i v e : Nat) : (s.put g i v).eng e = s.eng e := rfl

@[simp] theorem State.word_advanceTo (e : Nat) (w : Nat) : (s.advanceTo e).word w = s.word w := rfl
@[simp] theorem State.get_advanceTo (e : Nat) (g : Fld) (j : Nat) : (s.advanceTo e).get g j = s.get g j := rfl
@[simp] theorem State.word_modClk (f : Clk → Clk) (w : Nat) : (s.modClk f).word w = s.word w := rfl
@[simp] theorem State.get_modClk (f : Clk → Clk) (g : Fld) (j : Nat) : (s.modClk f).get g j = s.get g j := rfl
@[simp] theorem State.word_modPtp (f : PtpClk → PtpClk) (w : Nat) : (s.modPtp f).word w = s.word w := rfl
@[simp] theorem State.get_modPtp (f : PtpClk → PtpClk) (g : Fld) (j : Nat) : (s.modPtp f).get g j = s.get g j := rfl
@[simp] theorem State.word_modHel (f : Hel → Hel) (w : Nat) : (s.modHel f).word w = s.word w := rfl
@[simp] theorem State.get_modHel (f : Hel → Hel) (g : Fld) (j : Nat) : (s.modHel f).get g j = s.get g j := rfl
@[simp] theorem State.word_modFlt (f : Flt → Flt) (w : Nat) : (s.modFlt f).word w = s.word w := rfl
@[simp] theorem State.get_modFlt (f : Flt → Flt) (g : Fld) (j : Nat) : (s.modFlt f).get g j = s.get g j := rfl
@[simp] theorem State.word_modMem (f : Mem → Mem) (w : Nat) : (s.modMem f).word w = s.word w := rfl
@[simp] theorem State.get_modMem (f : Mem → Mem) (g : Fld) (j : Nat) : (s.modMem f).get g j = s.get g j := rfl
@[simp] theorem State.word_modHost (f : HostIf → HostIf) (w : Nat) : (s.modHost f).word w = s.word w := rfl
@[simp] theorem State.get_modHost (f : HostIf → HostIf) (g : Fld) (j : Nat) : (s.modHost f).get g j = s.get g j := rfl
@[simp] theorem State.word_modMode (f : ModeSt → ModeSt) (w : Nat) : (s.modMode f).word w = s.word w := rfl
@[simp] theorem State.get_modMode (f : ModeSt → ModeSt) (g : Fld) (j : Nat) : (s.modMode f).get g j = s.get g j := rfl
@[simp] theorem State.word_modMgmt (f : Mgmt → Mgmt) (w : Nat) : (s.modMgmt f).word w = s.word w := rfl
@[simp] theorem State.get_modMgmt (f : Mgmt → Mgmt) (g : Fld) (j : Nat) : (s.modMgmt f).get g j = s.get g j := rfl
@[simp] theorem State.word_modPwr (f : Power → Power) (w : Nat) : (s.modPwr f).word w = s.word w := rfl
@[simp] theorem State.get_modPwr (f : Power → Power) (g : Fld) (j : Nat) : (s.modPwr f).get g j = s.get g j := rfl
@[simp] theorem State.word_modScn (f : Scn → Scn) (w : Nat) : (s.modScn f).word w = s.word w := rfl
@[simp] theorem State.get_modScn (f : Scn → Scn) (g : Fld) (j : Nat) : (s.modScn f).get g j = s.get g j := rfl
@[simp] theorem State.word_modEph (f : Eph → Eph) (w : Nat) : (s.modEph f).word w = s.word w := rfl
@[simp] theorem State.get_modEph (f : Eph → Eph) (g : Fld) (j : Nat) : (s.modEph f).get g j = s.get g j := rfl
@[simp] theorem State.word_modDp (f : Data → Data) (w : Nat) : (s.modDp f).word w = s.word w := rfl
@[simp] theorem State.get_modDp (f : Data → Data) (g : Fld) (j : Nat) : (s.modDp f).get g j = s.get g j := rfl
@[simp] theorem State.word_modPorts (f : Ports → Ports) (w : Nat) : (s.modPorts f).word w = s.word w := rfl
@[simp] theorem State.get_modPorts (f : Ports → Ports) (g : Fld) (j : Nat) : (s.modPorts f).get g j = s.get g j := rfl
@[simp] theorem State.word_modNet (f : Net → Net) (w : Nat) : (s.modNet f).word w = s.word w := rfl
@[simp] theorem State.get_modNet (f : Net → Net) (g : Fld) (j : Nat) : (s.modNet f).get g j = s.get g j := rfl
@[simp] theorem State.word_modStby (f : Stby → Stby) (w : Nat) : (s.modStby f).word w = s.word w := rfl
@[simp] theorem State.get_modStby (f : Stby → Stby) (g : Fld) (j : Nat) : (s.modStby f).get g j = s.get g j := rfl
@[simp] theorem State.word_setLaneHw (l : Nat) (f : LaneHw → LaneHw) (w : Nat) : (s.setLaneHw l f).word w = s.word w := rfl
@[simp] theorem State.get_setLaneHw (l : Nat) (f : LaneHw → LaneHw) (g : Fld) (j : Nat) : (s.setLaneHw l f).get g j = s.get g j := rfl
@[simp] theorem State.word_setLink (k : Nat) (f : Kzl → Kzl) (w : Nat) : (s.setLink k f).word w = s.word w := rfl
@[simp] theorem State.get_setLink (k : Nat) (f : Kzl → Kzl) (g : Fld) (j : Nat) : (s.setLink k f).get g j = s.get g j := rfl
@[simp] theorem State.word_setEng (e : Nat) (t : Se) (w : Nat) : (s.setEng e t).word w = s.word w := rfl
@[simp] theorem State.get_setEng (e : Nat) (t : Se) (g : Fld) (j : Nat) : (s.setEng e t).get g j = s.get g j := rfl
@[simp] theorem State.word_setBc (c : Nat) (f : Bc → Bc) (w : Nat) : (s.setBc c f).word w = s.word w := rfl
@[simp] theorem State.get_setBc (c : Nat) (f : Bc → Bc) (g : Fld) (j : Nat) : (s.setBc c f).get g j = s.get g j := rfl

end Sys2Proof.Machine
end

