-- ==== Sys2Proof/Laws/Frames.lean ====
section
/-! SUPPORT. What a shared operation can change: every part of the state that a lemma does not list stays as it was. -/

namespace Sys2Proof.Machine

variable (s : State)

/-! ## Operations of one or two stores -/

theorem State.bumpEpoch_frame (page : Nat) :
    s.bumpEpoch page = { s with regs := (s.bumpEpoch page).regs } := rfl

theorem State.progress_frame (page : Nat) (busy : Bool) (pos total : Nat) :
    s.progress page busy pos total = { s with regs := (s.progress page busy pos total).regs } := rfl

theorem State.progressStop_frame (page : Nat) :
    s.progressStop page = { s with regs := (s.progressStop page).regs } := rfl

theorem State.keepMax_frame (f : Fld) (i v : Nat) :
    s.keepMax f i v = { s with regs := (s.keepMax f i v).regs } := by
  unfold State.keepMax
  (repeat' split) <;> rfl

theorem State.pageErr_frame (page n : Nat) :
    s.pageErr page n = { s with regs := (s.pageErr page n).regs } := rfl

theorem State.faultPulse_frame :
    s.faultPulse = { s with regs := (s.faultPulse).regs } := rfl

theorem State.showTests_frame :
    s.showTests = { s with regs := (s.showTests).regs } := rfl

theorem State.kzlQueue_frame (k typ : Nat) (payload : List Byte) :
    s.kzlQueue k typ payload = { s with kzl := (s.kzlQueue k typ payload).kzl } := by
  unfold State.kzlQueue
  (repeat' split) <;> rfl

theorem State.modeAnswer_frame (p : Plane) (st : Nat) :
    s.modeAnswer p st = { s with regs := (s.modeAnswer p st).regs } := by
  unfold State.modeAnswer
  (repeat' split) <;> rfl

theorem State.transBegin_frame (t : Trans) (left target : Nat) :
    s.transBegin t left target = { s with
      regs := (s.transBegin t left target).regs,
      mode := (s.transBegin t left target).mode } := rfl

theorem State.transIdle_frame :
    s.transIdle = { s with regs := (s.transIdle).regs, mode := (s.transIdle).mode } := rfl

theorem State.setSync_frame (v : Nat) :
    s.setSync v = { s with regs := (s.setSync v).regs, stby := (s.setSync v).stby } := by
  unfold State.setSync
  (repeat' split) <;> rfl

theorem State.stbyFault_frame (f : Fld) :
    s.stbyFault f = { s with regs := (s.stbyFault f).regs } := rfl

theorem State.stbyPins_frame :
    s.stbyPins = { s with stby := (s.stbyPins).stby } := rfl

theorem State.decodeError_frame (master addr : Nat) :
    s.decodeError master addr = { s with regs := (s.decodeError master addr).regs } := rfl

theorem State.goBack_frame (k : Nat) :
    s.goBack k = { s with regs := (s.goBack k).regs, kzl := (s.goBack k).kzl } := by
  unfold State.goBack
  (repeat' split) <;> rfl

theorem State.settleSlot_frame (i : Nat) :
    s.settleSlot i = { s with regs := (s.settleSlot i).regs } := by
  unfold State.settleSlot
  (repeat' split) <;> rfl

theorem State.pushTxts_frame (port cookie : Nat) (words : List Word) :
    s.pushTxts port cookie words = { s with
      regs := (s.pushTxts port cookie words).regs,
      ptp := (s.pushTxts port cookie words).ptp } := by
  unfold State.pushTxts
  (repeat' split) <;> rfl

/-! ## The fault log -/

/-- The state without its register words and its fault unit. -/
def State.butFaults (s : State) : State := { s with regs := [], flt := {} }

theorem State.eq_of_butFaults {s t : State} (h : t.butFaults = s.butFaults) : t = { s with regs := t.regs, flt := t.flt } := by
  cases s; cases t
  simp only [State.butFaults, State.mk.injEq] at h ⊢
  simp_all

@[simp] theorem State.butFaults_put (f : Fld) (i v : Nat) : (s.put f i v).butFaults = s.butFaults := rfl
@[simp] theorem State.butFaults_put0 (f : Fld) (v : Nat) : (s.put0 f v).butFaults = s.butFaults := rfl
@[simp] theorem State.butFaults_irq (f : Fld) (i : Nat) : (s.irq f i).butFaults = s.butFaults := rfl
@[simp] theorem State.butFaults_count (f : Fld) (i n : Nat) : (s.count f i n).butFaults = s.butFaults := rfl
@[simp] theorem State.butFaults_setMapBit (f : Fld) (n : Nat) (v : Bool) : (s.setMapBit f n v).butFaults = s.butFaults := rfl
@[simp] theorem State.butFaults_modFlt (f : Flt → Flt) : (s.modFlt f).butFaults = s.butFaults := rfl

theorem State.butFaults_logEvent (stamp ts32 src outcome : Nat) (retry retired severe : Bool) (u : UnitId) (addr : Word) (n : Nat) :
    (s.logEvent stamp ts32 src outcome retry retired severe u addr n).butFaults = s.butFaults := by
  simp only [State.logEvent, State.butFaults_modFlt, State.butFaults_put0, State.butFaults_put]

theorem State.butFaults_countSource (src : Nat) : (s.countSource src).1.butFaults = s.butFaults := by
  simp only [State.countSource]
  split
  · exact State.butFaults_count s _ _ _
  · split
    · simp only [State.butFaults_put, State.butFaults_count]
    · simp only [State.butFaults_put, State.butFaults_modFlt, State.butFaults_count]

theorem State.butFaults_faultPulse : s.faultPulse.butFaults = s.butFaults := rfl

theorem State.butFaults_showTests : s.showTests.butFaults = s.butFaults := rfl

/-- An event of a fault source reaches the registers of the fault pages and the fault unit alone. -/
theorem State.raise_frame (src : Nat) (u : UnitId) (addr : Word) :
    s.raise src u addr = { s with regs := (s.raise src u addr).regs, flt := (s.raise src u addr).flt } := by
  refine State.eq_of_butFaults ?_
  have hc := s.butFaults_countSource src
  simp only [State.raise]
  generalize s.countSource src = c at hc ⊢
  obtain ⟨t, severe⟩ := c
  simp only at hc ⊢
  have hs : (if severe = true then ((t.setMapBit Reg.FLTS_SEVERE src true).irq Reg.FLT_IRQ_SEVERE).faultPulse else t).butFaults =
      s.butFaults := by
    split
    · rw [State.butFaults_faultPulse, State.butFaults_irq, State.butFaults_setMapBit, hc]
    · exact hc
  generalize (if severe = true then ((t.setMapBit Reg.FLTS_SEVERE src true).irq Reg.FLT_IRQ_SEVERE).faultPulse else t) = v at hs ⊢
  split
  · rfl
  · split
    · rw [State.butFaults_logEvent, hs]
    · split
      · rw [State.butFaults_logEvent, State.butFaults_modFlt, hs]
      · rw [State.butFaults_showTests, State.butFaults_modFlt, hs]

/-! ## Records of the mirror link -/

/-- A record joins the queue of the mirror link where that link is UP. -/
theorem State.sendRecord_frame (typ sample : Nat) (body : List Nat) :
    s.sendRecord typ sample body = { s with kzl := (s.sendRecord typ sample body).kzl } := State.kzlQueue_frame s _ _ _

theorem State.sendStatus_frame : s.sendStatus = { s with kzl := s.sendStatus.kzl } := by
  unfold State.sendStatus
  split
  · rfl
  · exact State.sendRecord_frame s _ _ _

/-! ## Loops -/

/-- What each round keeps, a loop keeps. -/
theorem forRange_keeps {σ : Type} {P : σ → Prop} {f : Nat → σ → σ} (hf : ∀ i x, P x → P (f i x)) :
    ∀ n lo x, P x → P (forRange f lo n x)
  | 0, _, _, h => h
  | n + 1, lo, x, h => forRange_keeps hf n (lo + 1) (f lo x) (hf lo x h)

theorem forEach_keeps {σ α : Type} {P : σ → Prop} {f : α → σ → σ} (hf : ∀ a x, P x → P (f a x)) :
    ∀ l x, P x → P (forEach f l x)
  | [], _, h => h
  | a :: r, x, h => forEach_keeps hf r (f a x) (hf a x h)

end Sys2Proof.Machine
end

