-- ==== Sys2Proof/Laws/Memory.lean ====
section
/-! SUPPORT. The byte memories and the register words: every operation on them keeps their canonical form, and writes read back. -/

namespace Sys2Proof.Machine

/-! ## The canonical form -/

/-- The form concerns five tables and nothing else of the state. -/
theorem Memory.wf_iff (s : State) : Memory.wf s = true ↔
    twf (fun _ => 0) s.mem.sram = true ∧ twf (fun _ => 0) s.mem.dram = true ∧ twf (fun _ => 0xFF) s.mgmt.flash = true ∧
      twf (fun _ => 0) s.host.mem = true ∧ twf resetWord s.regs = true := by
  simp only [Memory.wf, Bool.and_eq_true, and_assoc]

/-- States with the same five tables are in the form together. -/
theorem Memory.wf_congr {s t : State} (h : Memory.wf s = true) (h1 : t.mem.sram = s.mem.sram) (h2 : t.mem.dram = s.mem.dram)
    (h3 : t.mgmt.flash = s.mgmt.flash) (h4 : t.host.mem = s.host.mem) (h5 : t.regs = s.regs) : Memory.wf t = true := by
  rw [Memory.wf_iff] at h ⊢
  rw [h1, h2, h3, h4, h5]
  exact h

theorem Memory.wf_reset : Memory.wf State.reset = true := rfl

variable {s : State}

theorem Memory.wf_setWord (h : Memory.wf s = true) (a : Nat) (v : Word) : Memory.wf (s.setWord a v) = true := by
  rw [Memory.wf_iff] at h ⊢
  exact ⟨h.1, h.2.1, h.2.2.1, h.2.2.2.1, twf_tput h.2.2.2.2 a v⟩

theorem Memory.wf_put (h : Memory.wf s = true) (f : Fld) (i v : Nat) : Memory.wf (s.put f i v) = true := Memory.wf_setWord h _ _

theorem Memory.wf_put0 (h : Memory.wf s = true) (f : Fld) (v : Nat) : Memory.wf (s.put0 f v) = true := Memory.wf_put h _ _ _

theorem Memory.wf_putB (h : Memory.wf s = true) (f : Fld) (i : Nat) (b : Bool) : Memory.wf (s.putB f i b) = true :=
  Memory.wf_put h _ _ _

theorem Memory.wf_irq (h : Memory.wf s = true) (f : Fld) (i : Nat) : Memory.wf (s.irq f i) = true := Memory.wf_put h _ _ _

theorem Memory.wf_count (h : Memory.wf s = true) (f : Fld) (i n : Nat) : Memory.wf (s.count f i n) = true := Memory.wf_put h _ _ _

/-- Dropping register words that a reset clears keeps the form. -/
theorem Memory.wf_filter_regs (h : Memory.wf s = true) (p : Nat × Word → Bool) :
    Memory.wf { s with regs := s.regs.filter p } = true := by
  rw [Memory.wf_iff] at h ⊢
  exact ⟨h.1, h.2.1, h.2.2.1, h.2.2.2.1, twf_filter h.2.2.2.2 p⟩

theorem Memory.wf_sramWrite (h : Memory.wf s = true) (off : Nat) (d : List Byte) : Memory.wf (s.sramWrite off d) = true := by
  rw [Memory.wf_iff] at h ⊢
  exact ⟨twf_tputs d h.1 off, h.2.1, h.2.2.1, h.2.2.2.1, h.2.2.2.2⟩

theorem Memory.wf_dramWrite (d : List Byte) : ∀ (s : State) (off : Nat), Memory.wf s = true → Memory.wf (s.dramWrite off d) = true := by
  induction d with
  | nil => intro s off h; exact h
  | cons b r ih =>
    intro s off h
    simp only [State.dramWrite]
    refine ih _ _ ?_
    split
    · exact h
    · rw [Memory.wf_iff] at h ⊢
      exact ⟨h.1, twf_tput h.2.1 off b, h.2.2.1, h.2.2.2.1, h.2.2.2.2⟩

/-- An SRAM range or group that goes back to zero keeps the form. -/
theorem Memory.wf_filter_sram (h : Memory.wf s = true) (p : Nat × Byte → Bool) :
    Memory.wf (s.modMem fun m => { m with sram := m.sram.filter p }) = true := by
  rw [Memory.wf_iff] at h ⊢
  exact ⟨twf_filter h.1 p, h.2.1, h.2.2.1, h.2.2.2.1, h.2.2.2.2⟩

theorem Memory.wf_zeroSram (h : Memory.wf s = true) (base size : Nat) : Memory.wf (s.zeroSram base size) = true :=
  Memory.wf_filter_sram h _

theorem Memory.wf_dropSram (h : Memory.wf s = true) (g : Nat) : Memory.wf (s.dropSram g) = true := Memory.wf_filter_sram h _

theorem Memory.wf_hostWrite (h : Memory.wf s = true) (addr : Nat) (d : List Byte) : Memory.wf (s.hostWrite addr d).1 = true := by
  unfold State.hostWrite
  split
  · rw [Memory.wf_iff] at h ⊢
    exact ⟨h.1, h.2.1, h.2.2.1, twf_tputs d h.2.2.2.1 addr, h.2.2.2.2⟩
  · exact h

theorem Memory.wf_flashErase (h : Memory.wf s = true) (off n : Nat) : Memory.wf (s.flashErase off n) = true := by
  rw [Memory.wf_iff] at h ⊢
  exact ⟨h.1, h.2.1, twf_filter h.2.2.1 _, h.2.2.2.1, h.2.2.2.2⟩

theorem twf_program (l : List (Byte × Nat)) (off : Nat) : ∀ t : Tbl Byte, twf (fun _ => 0xFF) t = true →
    twf (fun _ => 0xFF) (l.foldl (fun f p => tmod 0xFF f (off + p.2) (· &&& p.1)) t) = true := by
  induction l with
  | nil => intro t h; exact h
  | cons p r ih => intro t h; exact ih _ (twf_tput h _ _)

theorem Memory.wf_flashProgram (h : Memory.wf s = true) (off : Nat) (d : List Byte) : Memory.wf (s.flashProgram off d) = true := by
  rw [Memory.wf_iff] at h ⊢
  exact ⟨h.1, h.2.1, twf_program _ _ _ h.2.2.1, h.2.2.2.1, h.2.2.2.2⟩

/-- Loops of operations that keep the form keep it. -/
theorem Memory.wf_forRange {f : Nat → State → State} (hf : ∀ i x, Memory.wf x = true → Memory.wf (f i x) = true) (n lo : Nat)
    (x : State) (h : Memory.wf x = true) : Memory.wf (forRange f lo n x) = true :=
  forRange_keeps (P := fun x => Memory.wf x = true) hf n lo x h

theorem Memory.wf_forEach {α : Type} {f : α → State → State} (hf : ∀ a x, Memory.wf x = true → Memory.wf (f a x) = true) (l : List α)
    (x : State) (h : Memory.wf x = true) : Memory.wf (forEach f l x) = true :=
  forEach_keeps (P := fun x => Memory.wf x = true) hf l x h

/-! ## Reads after writes -/

/-- A byte of SRAM. -/
theorem State.sramWrite_byte (s : State) (off a : Nat) (d : List Byte) :
    tget 0 (s.sramWrite off d).mem.sram a =
      if h : off ≤ a ∧ a < off + d.length then d[a - off]'(by omega) else tget 0 s.mem.sram a :=
  tget_tputs 0 d s.mem.sram off a

/-- A store in SRAM changes SRAM alone. -/
theorem State.sramWrite_frame (s : State) (off : Nat) (d : List Byte) :
    s.sramWrite off d = { s with mem := { s.mem with sram := (s.sramWrite off d).mem.sram } } := rfl

/-- A store toward host memory changes host memory alone. -/
theorem State.hostWrite_frame (s : State) (addr : Nat) (d : List Byte) :
    (s.hostWrite addr d).1 = { s with host := { s.host with mem := (s.hostWrite addr d).1.host.mem } } := by
  unfold State.hostWrite
  split <;> rfl

end Sys2Proof.Machine
end

