-- ==== Sys2Proof/Laws/StripEngine.lean ====
section
/-! SUPPORT. Operations of a strip engine in words (R149 to R163): what each shared operation does, said once. -/

namespace Sys2Proof.Machine

/-- A sign-extended number is the signed value of its word. -/
theorem sx_toInt (w x : Nat) : sx w x = (BitVec.ofNat w x).toInt := by
  unfold sx
  rw [BitVec.toInt_eq_toNat_cond]
  simp only [BitVec.toNat_ofNat]
  rcases w with _ | w
  · simp [Nat.mod_one]
  · have : 2 ^ (w+1) = 2 * 2 ^ w := by ring
    simp only [Nat.add_sub_cancel]
    split <;> split <;> first | rfl | omega

/-- A data register in words. -/
theorem Se.d_eq (t : Se) (i : Nat) : t.d i = (t.dw i).toInt := sx_toInt _ _
theorem Se.acc_eq (t : Se) (i : Nat) : t.acc i = (t.accw i).toInt := sx_toInt _ _

/-- The low bits of an integer are those of its word. -/
theorem unsx_ofInt (w : Nat) (x : Int) : unsx w x = (BitVec.ofInt w x).toNat := by
  simp [unsx, BitVec.toNat_ofInt]

/-- A result for an accumulator takes no register from a division. -/
theorem Se.write_acc_div (t : Se) (i w v lat slot : Nat) :
   (t.write (cAcc i) 0 w v lat slot).div = t.div := by
  simp only [Se.write]
  cases t.div with
  | none => rfl
  | some d =>
    simp only [Option.map_some]
    rw [if_neg]
    intro h
    have h1 := h.1
    simp only [cD, cAcc] at h1
    omega

/-- An operation on an engine that executes changes that engine. -/
theorem State.onEngine_up (s : State) (e : Nat) (f : Se → Se) (h : s.seUp e = true) :
   s.onEngine e f = .next (s.setEng e (f (s.eng e))) := by simp [State.onEngine, h, ok]

/-- Saturation at 72 bits, as a number. -/
theorem sat72_toNat (x : Int) : (sat72 x).toNat = unsx 72 (satTo 72 x) := by
  rw [unsx_ofInt]
  unfold sat72 satTo
  norm_num
  split_ifs <;> first | rfl | omega

theorem unsx_mod (w : Nat) (x : Int) : unsx w x % 2 ^ w = unsx w x := by
  rw [unsx_ofInt]; exact Nat.mod_eq_of_lt (BitVec.isLt _)

/-- Does a value leave 72 bits? -/
theorem overflows_72 (x : Int) : overflows 72 x = decide (x < -2 ^ 71 ∨ 2 ^ 71 ≤ x) := by
  unfold overflows satTo
  rw [Bool.eq_iff_iff]; simp only [bne_iff_ne, ne_eq, decide_eq_true_eq]
  split
  · constructor <;> intro h <;> omega
  · split
    · constructor <;> intro h <;> omega
    · constructor <;> intro h <;> omega

/-- The results of a list of lanes join the queue in order. -/
theorem Se.accWrite_lanes (t0 : Se) (f : Nat → Int) (l : List Nat) (hl : ∀ i ∈ l, i < 4) : ∀ t : Se,
   t.n = t0.n → t.handler = t0.handler →
   l.foldl (fun t i => t.accWrite i (f i)) t = { t with
    queue := t.queue ++ l.map fun i =>
      { reg := t.key (0x10 + i), width := 72, val := (sat72 (f i)).toNat, due := t.n + 1, issue := t.n, slot := 3 }
    sticky := if l.any (fun i => decide (f i < -2 ^ 71 ∨ 2 ^ 71 ≤ f i)) then t.sticky ||| 8 else t.sticky } := by
  induction l with
  | nil => intro t _ _; simp
  | cons i r ih =>
    intro t h1 h2
    have hi : i < 4 := hl i (by simp)
    have hc : cAcc i = 0x10 + i := by simp [cAcc, Nat.mod_eq_of_lt hi]
    have hw : (t.accWrite i (f i)) = { t with queue := t.queue ++ [{ reg := t.key (0x10 + i), width := 72, val := (sat72 (f i)).toNat, due := t.n + 1, issue := t.n, slot := 3 }], sticky := if decide (f i < -2 ^ 71 ∨ 2 ^ 71 ≤ f i) then t.sticky ||| 8 else t.sticky } := by
      have hd := Se.write_acc_div t i 72 (unsx 72 (satTo 72 (f i))) 1 3
      unfold Se.accWrite
      rw [overflows_72]
      simp only [Se.write] at hd ⊢
      rw [hd, hc, unsx_mod, sat72_toNat]
      split <;> simp [fV]
    simp only [List.foldl_cons]
    rw [ih (fun j hj => hl j (by simp [hj])) _ (by rw [hw]; exact h1) (by rw [hw]; exact h2), hw]
    simp only [Se.key, List.append_assoc, List.singleton_append, List.map_cons, List.any_cons]
    have key : ∀ (c d : Bool) (k : Nat), (if d = true then (if c = true then k ||| 8 else k) ||| 8 else if c = true then k ||| 8 else k)
        = if (c || d) = true then k ||| 8 else k := by
      intro c d k; cases c <;> cases d <;> simp
    rw [key]; rfl

/-- A masked accumulator operation in words. -/
theorem Se.lanes_eq_accResults (t : Se) (mask : Nat) (f : Nat → Int → Int) :
   t.lanes mask f = t.accResults mask (fun i => f i (t.acc i)) := by
  unfold Se.lanes Se.accResults
  refine Se.accWrite_lanes t (fun i => f i (t.acc i)) (below 4 (bit mask)) ?_ t rfl rfl
  intro i hi
  simp only [below, List.mem_filter, List.mem_range] at hi
  exact hi.1

/-- An ALU result in words. -/
theorem Se.alu_eq_aluResult (t : Se) (c w : Nat) (x : Int) (k : Nat) : t.alu c w x k = t.aluResult c (BitVec.ofInt w x) k := by
  unfold Se.alu Se.aluResult
  simp only [unsx_ofInt, sx_toInt, BitVec.ofNat_toNat, BitVec.setWidth_eq]
  congr 1
  simp only [znOf, znWord]
  congr 3
  · rw [Bool.eq_iff_iff]; simp only [decide_eq_true_eq]
    constructor
    · intro h; have : (BitVec.ofInt w x).toInt = (0#w).toInt := by simpa using h
      exact BitVec.eq_of_toInt_eq this
    · intro h; rw [h]; simp
  · rw [BitVec.msb_eq_toInt]

/-- Does a value leave 32 bits? -/
theorem overflows_32 (x : Int) : overflows 32 x = decide (x < -2 ^ 31 ∨ 2 ^ 31 ≤ x) := by
  unfold overflows satTo
  rw [Bool.eq_iff_iff]; simp only [bne_iff_ne, ne_eq, decide_eq_true_eq]
  split
  · constructor <;> intro h <;> omega
  · split
    · constructor <;> intro h <;> omega
    · constructor <;> intro h <;> omega

end Sys2Proof.Machine
end

