-- ==== Sys2Proof/Tests/Slice0.lean ====
section
/-! SUPPORT. The model's own tests: the operand checks on an ill-formed term for each, single steps against values the specification states, and for every statement of the obligations the witnesses of its hypotheses, clause by clause. -/

open Sys2Proof Sys2Proof.Machine
set_option linter.unusedVariables false
set_option Elab.async false

namespace Sys2Proof.Tests

/-- A state with the given fields written, from another (the reset state where none is named). -/
def mk (l : List (Fld × Nat × Nat)) (s : State := State.reset) : State := l.foldl (fun s p => s.put p.1 p.2.1 p.2.2) s
/-- The power domains of the list on. -/
def dom (l : List Nat) (s : State) : State := l.foldl (fun s d => s.setDom d 3) s
/-- A function of the ball multiplexer on a ball. -/
def onB (func idx ball : Nat) (s : State) : State := (s.put Reg.PMUX_FUNC ball func).put Reg.PMUX_INDEX ball idx
/-- Every power domain on. -/
def allDom (s : State) : State := (s.put Reg.PWR_DOM_STATE0 0 0xFFFFFFFF).put Reg.PWR_DOM_STATE1 0 3
/-- A settled mode without data plane. -/
def base (m : Nat) : State := { (mk [(Reg.MODE_MODE, 0, m)] (allDom State.reset)) with mode := { State.reset.mode with trans := .none } }
/-- A settled mode with its data plane running. -/
def running (m : Nat) : State := let s := base m; { s with mode := { s.mode with running := true, outGain := 64 }, clk := { s.clk with placed := true } }

end Sys2Proof.Tests

namespace Sys2Proof.Tests

/-! ## Operand checks -/

def illFormed1 : List Instr := [
  .deviceReset (some 10) 0 false false, .deviceReset none 16 false false, .sampleLanding 4096 0, .laneLock 1024 0 0,
  .laneUnlock 1024 false, .laneUnlockRampEnd 1024, .rangeEnter 1024 0, .rangeExit 1024 0, .setRate .host 4, .seQsel 34 0,
  .bcQsel 2 0, .stripBegin 34 false 0, .stripBegin 0 false 2048, .stripEnd 34 0 0 0, .stripEnd 0 0 0 16777216,
  .derivationDone 17 0, .stripMigration 34, .stripShed 34, .lgFrameEnd [(1024, 0)], .lgFrameEnd [(0, 16777216)],
  .lgNotchRelax 1024 0, .lgNotchRelax 0 12, .macNop 34, .mpy 34 0 0 0, .mpy 0 16 0 0, .mpy 0 0 4 0, .mpy 0 0 0 16,
  .mac 34 0 0 0, .mac 0 16 0 0, .mac 0 0 4 0, .mac 0 0 0 16, .msu 34 0 0 0, .msu 0 16 0 0, .msu 0 0 4 0, .msu 0 0 0 16,
  .clr 34 0, .clr 0 16, .lda 34 0 0, .lda 0 16 0, .lda 0 0 16]
def illFormed2 : List Instr := [
  .adda 34 0 0, .adda 0 16 0, .adda 0 0 16, .suba 34 0 0, .suba 0 16 0, .suba 0 0 16, .add 34 0 0 0, .add 0 16 0 0,
  .add 0 0 16 0, .add 0 0 0 16, .sub 34 0 0 0, .sub 0 16 0 0, .sub 0 0 16 0, .sub 0 0 0 16, .adds 34 0 0 0, .adds 0 16 0 0,
  .adds 0 0 16 0, .adds 0 0 0 16, .subs 34 0 0 0, .subs 0 16 0 0, .subs 0 0 16 0, .subs 0 0 0 16, .neg 34 0 0, .neg 0 16 0,
  .neg 0 0 16, .absD 34 0 0, .absD 0 16 0, .absD 0 0 16, .andD 34 0 0 0, .andD 0 16 0 0, .andD 0 0 16 0, .andD 0 0 0 16,
  .orD 34 0 0 0, .orD 0 16 0 0, .orD 0 0 16 0, .orD 0 0 0 16, .xorD 34 0 0 0, .xorD 0 16 0 0, .xorD 0 0 16 0, .xorD 0 0 0 16]
def illFormed3 : List Instr := [
  .cmp 34 0 0, .cmp 0 16 0, .cmp 0 0 16, .div 34 0 0 0, .div 0 16 0 0, .div 0 0 16 0, .div 0 0 0 16, .divComplete 34,
  .asr 34 0 0 0, .asr 0 16 0 0, .asr 0 0 16 0, .asr 0 0 0 16, .lsr 34 0 0 0, .lsr 0 16 0 0, .lsr 0 0 16 0, .lsr 0 0 0 16,
  .lsl 34 0 0 0, .lsl 0 16 0 0, .lsl 0 0 16 0, .lsl 0 0 0 16, .lsls 34 0 0 0, .lsls 0 16 0 0, .lsls 0 0 16 0, .lsls 0 0 0 16,
  .asri 34 0 0, .asri 0 16 0, .asri 0 0 256, .lsri 34 0 0, .lsri 0 16 0, .lsri 0 0 256, .lsli 34 0 0, .lsli 0 16 0,
  .lsli 0 0 256, .lslsi 34 0 0, .lslsi 0 16 0, .lslsi 0 0 256, .asra 34 0 0, .asra 0 4 0, .asra 0 0 256, .lsra 34 0 0]
def illFormed4 : List Instr := [
  .lsra 0 4 0, .lsra 0 0 256, .lsla 34 0 0, .lsla 0 4 0, .lsla 0 0 256, .lslsa 34 0 0, .lslsa 0 4 0, .lslsa 0 0 256,
  .load 34 0 0 0 0 0 .clean, .load 0 2 0 0 0 0 .clean, .load 0 0 2 0 0 0 .clean, .load 0 0 0 8 0 0 .clean,
  .load 0 0 0 0 4 0 .clean, .load 0 0 0 0 0 32 .clean, .load 0 0 0 0 0 0 (.corrected 256),
  .load 0 0 0 0 0 0 (.uncorrectable 256), .store 34 0 0 0 0 0, .store 0 2 0 0 0 0, .store 0 0 2 0 0 0, .store 0 0 0 8 0 0,
  .store 0 0 0 0 4 0, .store 0 0 0 0 0 32, .loadAddressFile 34 0 0 0 0 0 .clean, .loadAddressFile 0 2 0 0 0 0 .clean,
  .loadAddressFile 0 0 2 0 0 0 .clean, .loadAddressFile 0 0 0 8 0 0 .clean, .loadAddressFile 0 0 0 0 4 0 .clean,
  .loadAddressFile 0 0 0 0 0 32 .clean, .loadAddressFile 0 0 0 0 0 0 (.corrected 256),
  .loadAddressFile 0 0 0 0 0 0 (.uncorrectable 256), .auAddOffset 34 0 0, .auAddOffset 0 8 0, .auAddOffset 0 0 8,
  .auLoadBase 34 0, .auLoadBase 0 8, .nop 34, .br 34 0, .br 0 8192, .brc 34 0 0, .brc 0 16 0]
def illFormed5 : List Instr := [
  .brc 0 0 8192, .bri 34 0, .bri 0 16, .brk 34, .rep 34 0 0, .rep 0 65536 0, .rep 0 0 8192, .repd 34 0 0, .repd 0 16 0,
  .repd 0 0 8192, .gath16 34 0 0 0 0 0 0, .gath16 0 4 0 0 0 0 0, .gath16 0 0 2 0 0 0 0, .gath16 0 0 0 8 0 0 0,
  .gath16 0 0 0 0 2 0 0, .gath16 0 0 0 0 0 8 0, .gath16 0 0 0 0 0 0 16, .gatherComplete 34, .gatherFault 34 0 0,
  .gatherFault 0 16 0, .gatherFault 0 0 2, .ldi 34 0 0, .ldi 0 16 0, .mvtc 34 0 0, .mvtc 0 128 0, .mvtc 0 0 16, .mvfc 34 0 0,
  .mvfc 0 128 0, .mvfc 0 0 16, .rte 34, .dmaErr 34 false, .eventAccept 34, .eventLatency 34 0, .eventLatency 0 4, .waits 2,
  .enter 2, .leave 2, .park3 2, .unpark 2, .trapx 2]
def illFormed6 : List Instr := [
  .testAndSet 2 0, .testAndSet 0 4294967296, .bridgeInstruction 2 0, .loadStripProgram 4 none, .loadBridge 4 none,
  .bridgeLoadWrite 2, .bridgeCoreStart 2, .eyeBlockEnd 8, .eyeRdSet 8 0, .openSlot (.ring 4), .close (.ring 0) 16,
  .close (.ring 4) 0, .arm (.ring 0) 16, .arm (.ring 4) 0, .abort (.ring 0) 16, .abort (.ring 4) 0, .loadImage (.ring 0) 16,
  .loadImage (.ring 4) 0, .moves (.ring 0) 16 none, .moves (.ring 4) 0 none, .scnPortPush .host 17, .liveWrite 16777216 0,
  .ephCommitFire 16, .cueOutPulseEnd 4, .cueEdgeConfirm 4 false, .measurementInstant (List.replicate 9 none) 0 0,
  .activityLoss 8 false, .svxPush .host 2 0, .mpdTimeout 2, .netRxFrame 2 [] false, .rxLegDown 0 2, .hostFrameTx 2 none,
  .mgmtFrameTx 2, .netRingDb .host 2 0 0 [], .netRingDb .host 0 4 0 [], .netLinkUp 2 false, .netLinkDown 2,
  .aes3RxFrame 32 ⟨false, ⟨0, false, false, false, true⟩, ⟨0, false, false, false, true⟩, 0⟩,
  .aes3RxFrame 0 ⟨false, ⟨16777216, false, false, false, true⟩, ⟨0, false, false, false, true⟩, 0⟩,
  .aes3RxFrame 0 ⟨false, ⟨0, false, false, false, true⟩, ⟨16777216, false, false, false, true⟩, 0⟩]
def illFormed7 : List Instr := [
  .aes3LockLoss 32, .lossOfSignal 60, .losRampEnd 60, .signalReturn 60, .mediaSet 60, .aes3TxFrame 32,
  .madiRxFrame 4 ⟨false, [], 0⟩, .madiRxFrame 0 ⟨false, List.replicate 65 { audio := 0 }, 0⟩,
  .madiRxFrame 0 ⟨false, [{ audio := 16777216 }], 0⟩, .madiTxFrame 4, .tdmFsEdge 24 0, .tdmRxFrame 24 [] 0,
  .tdmRxFrame 0 [16777216] 0, .tdmTxFrame 24, .restart 24, .vcxoLoopUpdate 4 0, .pmuxRelease 192, .pmuxTake 192,
  .pmuxFirstFrame 192, .laneCdrLock 14 0, .laneCdrLock 0 16, .laneCdrLost 14 false, .laneAdaptDone 14 0 0 0,
  .laneAdaptDone 0 16 0 0, .prbsChkLock 14, .prbsChkRelock 14 0 0, .prbsClr 14, .laneErrLoRead .host 14 0 0,
  .kzlFrameRx 0 (List.replicate 65 0), .kzlFrameRx 2 (List.replicate 64 0), .kzlFrameTx 2 false, .kzlRto 2,
  .kzlLinkFail 2 0 false, .kzlLinkFail 0 16 false, .kzlAlignDone 2 0 0 false 0, .kzlAlignDone 0 4294967296 0 false 0,
  .kzlAlignDone 0 0 4294967296 false 0, .kzlStateTimeout 2, .bcCatchupDone 2, .interconnectRequest 64 false 0 (.read 1)]
def illFormed8 : List Instr := [
  .interconnectRequest 0 false 18446744073709551616 (.read 1), .interconnectRequest 0 false 0 (.read 0),
  .interconnectRequest 0 false 0 (.lockRead 0), .interconnectRequest 0 false 0 (.write []), .arbGrant 10 .clean,
  .arbGrant 0 (.corrected 256), .arbGrant 0 (.uncorrectable 256), .arbWindowEnd 10, .holdCut 10 0, .holdCut 0 65536,
  .lockRead 64 0 1, .lockRead 0 4294967296 1, .lockRead 0 0 0, .lockBreak 64, .scrubStep 64 .clean,
  .scrubStep 0 (.corrected 256), .scrubStep 0 (.uncorrectable 256), .fence { page := 4096 },
  .fence { page := 0, index := 65536 }, .cvuEnable .host 4 0, .cvuResultLoRead .host 4, .registerWrite .host 16777216 [0],
  .registerWrite .host 0 [], .rcRead .host 16777216 1, .rcRead .host 0 0, .softReset .host 4096, .freeze .host 4096 false,
  .msixMessage 64 false false false, .intcEoi 2 0, .hostqRingDb 4 0, .hostqFetch 4 none, .hostqFetch 0 (some []),
  .ringReplay 4 0, .hostqRingEn 4 false, .cmdNop 4, .regWrite 4, .regRead 4, .dataPlaneStop 131072 [] false,
  .dataPlaneStop 0 [(64, 0)] false, .domainIdleOff 17]
def illFormed9 : List Instr := [
  .domainWake 17, .domainReady 17 false, .supplySample (List.replicate 11 0), .sensorRead (List.replicate 9 0), .fanFail 2 0,
  .fanRecover 2 0, .faultEvent 193 { page := 0 } 0, .faultEvent 0 { page := 4096 } 0,
  .faultEvent 0 { page := 0, index := 65536 } 0, .targetedTestEnd { page := 4096 } false,
  .targetedTestEnd { page := 0, index := 65536 } false, .bistDone 131072 [] false, .bistDone 0 [(64, 0)] false,
  .marchDone [(64, 0)], .activityEvent 8, .pcieLinkUp 1 16 false, .pcieLinkUp 3 0 false]
/-- For each operand check of a command a term that breaks this one check alone. -/
def illFormed : List Instr := illFormed1 ++ illFormed2 ++ illFormed3 ++ illFormed4 ++ illFormed5 ++ illFormed6 ++ illFormed7 ++ illFormed8 ++ illFormed9
def wellFormed1 : List Instr := [
  .deviceReset none 0 false false, .deviceReset none 15 false false, .sampleLanding 0 0, .sampleLanding 4095 0, .laneLock 0 0 0,
  .laneLock 1023 0 0, .laneUnlock 0 false, .laneUnlock 1023 false, .laneUnlockRampEnd 0, .laneUnlockRampEnd 1023,
  .rangeEnter 0 0, .rangeEnter 1023 0, .rangeExit 0 0, .rangeExit 1023 0, .setRate .host 0, .seQsel 0 0, .seQsel 33 0,
  .bcQsel 0 0, .stripBegin 0 false 0, .stripBegin 33 false 2047, .stripEnd 0 0 0 0, .stripEnd 33 0 0 16777215,
  .derivationDone 0 0, .derivationDone 16 0, .stripMigration 0, .stripMigration 33, .stripShed 0, .stripShed 33, .lgFrameEnd [],
  .lgNotchRelax 0 0, .lgNotchRelax 1023 11, .macNop 0, .macNop 33, .mpy 0 0 0 0, .mpy 33 15 0 15, .mac 0 0 0 0, .mac 33 15 0 15,
  .msu 0 0 0 0, .msu 33 15 0 15, .clr 0 0]
def wellFormed2 : List Instr := [
  .clr 33 15, .lda 0 0 0, .lda 33 15 15, .adda 0 0 0, .adda 33 15 15, .suba 0 0 0, .suba 33 15 15, .add 0 0 0 0,
  .add 33 15 15 15, .sub 0 0 0 0, .sub 33 15 15 15, .adds 0 0 0 0, .adds 33 15 15 15, .subs 0 0 0 0, .subs 33 15 15 15,
  .neg 0 0 0, .neg 33 15 15, .absD 0 0 0, .absD 33 15 15, .andD 0 0 0 0, .andD 33 15 15 15, .orD 0 0 0 0, .orD 33 15 15 15,
  .xorD 0 0 0 0, .xorD 33 15 15 15, .cmp 0 0 0, .cmp 33 15 15, .div 0 0 0 0, .div 33 15 15 15, .divComplete 0, .divComplete 33,
  .asr 0 0 0 0, .asr 33 15 15 15, .lsr 0 0 0 0, .lsr 33 15 15 15, .lsl 0 0 0 0, .lsl 33 15 15 15, .lsls 0 0 0 0,
  .lsls 33 15 15 15, .asri 0 0 0]
def wellFormed3 : List Instr := [
  .asri 33 15 255, .lsri 0 0 0, .lsri 33 15 255, .lsli 0 0 0, .lsli 33 15 255, .lslsi 0 0 0, .lslsi 33 15 255, .asra 0 0 0,
  .asra 33 0 255, .lsra 0 0 0, .lsra 33 0 255, .lsla 0 0 0, .lsla 33 0 255, .lslsa 0 0 0, .lslsa 33 0 255,
  .load 0 0 0 0 0 0 .clean, .load 33 0 0 7 0 31 .clean, .store 0 0 0 0 0 0, .store 33 0 0 7 0 31,
  .loadAddressFile 0 0 0 0 0 0 .clean, .loadAddressFile 33 0 0 7 0 31 .clean, .auAddOffset 0 0 0, .auAddOffset 33 7 7,
  .auLoadBase 0 0, .auLoadBase 33 7, .nop 0, .nop 33, .br 0 0, .br 33 8191, .brc 0 0 0, .brc 33 15 8191, .bri 0 0, .bri 33 15,
  .brk 0, .brk 33, .rep 0 0 0, .rep 33 65535 8191, .repd 0 0 0, .repd 33 15 8191, .gath16 0 0 0 0 0 0 0]
def wellFormed4 : List Instr := [
  .gath16 33 0 0 7 0 7 15, .gatherComplete 0, .gatherComplete 33, .gatherFault 0 0 0, .gatherFault 33 15 0, .ldi 0 0 0,
  .ldi 33 15 0, .mvtc 0 0 0, .mvtc 33 127 15, .mvfc 0 0 0, .mvfc 33 127 15, .rte 0, .rte 33, .dmaErr 0 false, .dmaErr 33 false,
  .eventAccept 0, .eventAccept 33, .eventLatency 0 0, .eventLatency 33 0, .waits 0, .enter 0, .leave 0, .park3 0, .unpark 0,
  .trapx 0, .testAndSet 0 0, .testAndSet 0 4294967295, .bridgeInstruction 0 0, .loadStripProgram 0 none, .loadBridge 0 none,
  .bridgeLoadWrite 0, .bridgeCoreStart 0, .eyeBlockEnd 0, .eyeBlockEnd 7, .eyeRdSet 0 0, .eyeRdSet 7 0, .openSlot (.ring 0),
  .close (.ring 0) 0, .close (.ring 0) 15, .arm (.ring 0) 0]
def wellFormed5 : List Instr := [
  .arm (.ring 0) 15, .abort (.ring 0) 0, .abort (.ring 0) 15, .loadImage (.ring 0) 0, .loadImage (.ring 0) 15,
  .moves (.ring 0) 0 none, .moves (.ring 0) 15 none, .scnPortPush .host 0, .scnPortPush .host 16, .liveWrite 0 0,
  .liveWrite 16777215 0, .ephCommitFire 0, .ephCommitFire 15, .cueOutPulseEnd 0, .cueEdgeConfirm 0 false,
  .measurementInstant (List.replicate 8 none) 0 0, .activityLoss 0 false, .activityLoss 7 false, .svxPush .host 0 0,
  .mpdTimeout 0, .netRxFrame 0 [] false, .rxLegDown 0 0, .hostFrameTx 0 none, .mgmtFrameTx 0, .netRingDb .host 0 0 0 [],
  .netLinkUp 0 false, .netLinkDown 0, .aes3RxFrame 0 ⟨false, ⟨0, false, false, false, true⟩, ⟨0, false, false, false, true⟩, 0⟩,
  .aes3RxFrame 31 ⟨false, ⟨0, false, false, false, true⟩, ⟨0, false, false, false, true⟩, 0⟩, .aes3LockLoss 0, .aes3LockLoss 31,
  .lossOfSignal 0, .lossOfSignal 59, .losRampEnd 0, .losRampEnd 59, .signalReturn 0, .signalReturn 59, .mediaSet 0,
  .mediaSet 59, .aes3TxFrame 0]
def wellFormed6 : List Instr := [
  .aes3TxFrame 31, .madiRxFrame 0 ⟨false, [], 0⟩, .madiTxFrame 0, .tdmFsEdge 0 0, .tdmFsEdge 23 0, .tdmRxFrame 0 [] 0,
  .tdmRxFrame 23 [] 0, .tdmTxFrame 0, .tdmTxFrame 23, .restart 0, .restart 23, .vcxoLoopUpdate 0 0, .pmuxRelease 0,
  .pmuxRelease 191, .pmuxTake 0, .pmuxTake 191, .pmuxFirstFrame 0, .pmuxFirstFrame 191, .laneCdrLock 0 0, .laneCdrLock 13 15,
  .laneCdrLost 0 false, .laneCdrLost 13 false, .laneAdaptDone 0 0 0 0, .laneAdaptDone 13 15 0 0, .prbsChkLock 0,
  .prbsChkLock 13, .prbsChkRelock 0 0 0, .prbsChkRelock 13 0 0, .prbsClr 0, .prbsClr 13, .laneErrLoRead .host 0 0 0,
  .laneErrLoRead .host 13 0 0, .kzlFrameRx 0 (List.replicate 64 0), .kzlFrameTx 0 false, .kzlRto 0, .kzlLinkFail 0 0 false,
  .kzlLinkFail 0 15 false, .kzlAlignDone 0 0 0 false 0, .kzlAlignDone 0 4294967295 4294967295 false 0, .kzlStateTimeout 0]
def wellFormed7 : List Instr := [
  .bcCatchupDone 0, .interconnectRequest 0 false 0 (.read 1), .interconnectRequest 63 false 18446744073709551615 (.read 1),
  .arbGrant 0 .clean, .arbGrant 9 .clean, .arbWindowEnd 0, .arbWindowEnd 9, .holdCut 0 0, .holdCut 9 65535, .lockRead 0 0 1,
  .lockRead 63 4294967295 1, .lockBreak 0, .lockBreak 63, .scrubStep 0 .clean, .scrubStep 63 .clean, .fence { page := 0 },
  .cvuEnable .host 0 0, .cvuResultLoRead .host 0, .registerWrite .host 0 [0], .registerWrite .host 16777215 [0],
  .rcRead .host 0 1, .rcRead .host 16777215 1, .softReset .host 0, .softReset .host 4095, .freeze .host 0 false,
  .freeze .host 4095 false, .msixMessage 0 false false false, .msixMessage 63 false false false, .intcEoi 0 0, .hostqRingDb 0 0,
  .hostqFetch 0 none, .ringReplay 0 0, .hostqRingEn 0 false, .cmdNop 0, .regWrite 0, .regRead 0, .dataPlaneStop 0 [] false,
  .dataPlaneStop 131071 [] false, .domainIdleOff 0, .domainIdleOff 16]
def wellFormed8 : List Instr := [
  .domainWake 0, .domainWake 16, .domainReady 0 false, .domainReady 16 false, .supplySample (List.replicate 10 0),
  .sensorRead (List.replicate 8 0), .fanFail 0 0, .fanRecover 0 0, .faultEvent 0 { page := 0 } 0,
  .faultEvent 192 { page := 0 } 0, .targetedTestEnd { page := 0 } false, .bistDone 0 [] false, .bistDone 131071 [] false,
  .marchDone [], .activityEvent 0, .activityEvent 7, .pcieLinkUp 1 0 false, .pcieLinkUp 4 15 false]
/-- The commands with operand checks at the lowest and the highest values that pass. -/
def wellFormed : List Instr := wellFormed1 ++ wellFormed2 ++ wellFormed3 ++ wellFormed4 ++ wellFormed5 ++ wellFormed6 ++ wellFormed7 ++ wellFormed8

theorem test_wf_refuses_illFormed : illFormed.all (fun i => !i.wf) = true := by decide +kernel
theorem test_wf_takes_boundaries : wellFormed.all (fun i => i.wf) = true := by decide +kernel

end Sys2Proof.Tests

namespace Sys2Proof.Tests

/-! ## Single steps and shared operations against values the specification states -/

/-- What a step's next state shows; none for another outcome. -/
def after {α : Type} (o : Out) (f : State → α) : Option α := match o with
  | .next t => some (f t)
  | _ => none

/-- A state with a running data plane in which strip engine 0 holds these register words. -/
def seWith (regs : List (Nat × Nat)) : State := { running 4 with se := [(0, { regs := regs })] }

/-- Engine 0 after the bundle that a NOP ends. -/
def nextBundle (o : Out) (f : Se → Nat) : Option Nat := match o with
  | .next t => after (exec (.nop 0) t) fun u => f (u.eng 0)
  | _ => none

def nine : List Byte := [0x31, 0x32, 0x33, 0x34, 0x35, 0x36, 0x37, 0x38, 0x39]

-- The check values of chapter 15's example over the bytes 0x31 to 0x39.
theorem test_crc_of_strip_images : crc32 nine = 0xCBF43926 := by decide +kernel
theorem test_crc_of_link_frames : crc32c nine = 0xE3069283 := by decide +kernel
theorem test_crc_of_scene_images : crc64 nine = 0x995DC9BBDF1939FA := by decide +kernel
theorem test_crc8_over_interconnect : crcFinal 8 false 0 (crcFeed 8 7 false 0 nine) = 0xF4 := by decide +kernel

-- The port words of chapter 2's example (R63, R64), and its conversion ratio.
theorem test_ingress24 : ingress24 0x400000 = 0x04000000 := by decide +kernel
theorem test_egress24_rounds_to_even : egress24 0x18 = (2, false) ∧ egress24 0x28 = (2, false) := by decide +kernel
theorem test_egress24_clips : egress24 0x0A000000 = (0x7FFFFF, true) := by decide +kernel
theorem test_exact_ratio : exactRatio 44100 96000 = 0x0759999A := by decide +kernel

-- The gain example of R157: ACC0 = 3 × 2^55; and its rounding table at SCL0 = 0.
theorem test_mpy_product :
    nextBundle (exec (.mpy 0 8 0 1) (seWith [(0, 0x40000000), (8, 0x06000000)])) (fun t => t.reg (cAcc 0)) =
      some 0x0180000000000000 := by decide +kernel
theorem test_store_scales :
    after (exec (.store 0 0 0 0 0 0x10) (seWith [(0x10, 0x0180000000000000), (0x14, 2)])) (fun t => ((t.eng 0).mem 0 0)) =
      some 0x18000000 := by decide +kernel
theorem test_store_saturates :
    after (exec (.store 0 0 0 0 0 0x10) (seWith [(0x10, 0x0180000000000000), (0x14, 5)]))
      (fun t => ((t.eng 0).mem 0 0, (t.eng 0).sticky)) = some (0x7FFFFFFF, 4) := by decide +kernel
theorem test_store_rounds_to_even :
    after (exec (.store 0 0 0 0 0 0x10) (seWith [(0x10, 0x60000000)])) (fun t => ((t.eng 0).mem 0 0)) = some 2 ∧
    after (exec (.store 0 0 0 0 0 0x10) (seWith [(0x10, 0xA0000000)])) (fun t => ((t.eng 0).mem 0 0)) = some 2 := by decide +kernel
theorem test_store_rounds_negative :
    after (exec (.store 0 0 0 0 0 0x10) (seWith [(0x10, 2 ^ 72 - 0x60000000)])) (fun t => ((t.eng 0).mem 0 0)) =
      some 0xFFFFFFFE := by decide +kernel

-- The ring example of R158: B3 = 0x0100, L3 = 48.
theorem test_post_modify_forward :
    nextBundle (exec (.auAddOffset 0 3 3) (seWith [(0x1B, 0x12E), (0x23, 5), (0x2B, 48), (0x33, 0x100)])) (fun t => t.reg (cA 3)) =
      some 0x103 := by decide +kernel
theorem test_post_modify_back :
    nextBundle (exec (.auAddOffset 0 3 3) (seWith [(0x1B, 0x102), (0x23, 0xFFFB), (0x2B, 48), (0x33, 0x100)])) (fun t => t.reg (cA 3)) =
      some 0x12D := by decide +kernel

-- Arithmetic edges of R160 to R163.
theorem test_adds_saturates :
    nextBundle (exec (.adds 0 2 0 1) (seWith [(0, 0x7FFFFFFF), (1, 1)])) (fun t => t.reg 2) = some 0x7FFFFFFF := by decide +kernel
theorem test_add_wraps :
    nextBundle (exec (.add 0 2 0 1) (seWith [(0, 0x7FFFFFFF), (1, 1)])) (fun t => t.reg 2) = some 0x80000000 := by decide +kernel
theorem test_abs_of_most_negative :
    nextBundle (exec (.absD 0 2 0) (seWith [(0, 0x80000000)])) (fun t => t.reg 2) = some 0x7FFFFFFF := by decide +kernel
theorem test_result_unseen_in_its_bundle :
    after (exec (.add 0 2 0 1) (seWith [(0, 5), (1, 6), (2, 77)])) (fun t => (t.eng 0).reg 2) = some 77 := by decide +kernel

-- PG_PROGRESS of chapter 7's example: 13,000 of 40,000 moves staged.
theorem test_progress_word : (State.reset.progress 0x50 true 13000 40000).word 0x5001C = 0xA00032C8 := by decide +kernel

-- The PTP clock of chapter 10's examples.
theorem test_boundary_times : (nsOf 187500, fracOf 187500) = (62500, 0) ∧ (nsOf 62500, fracOf 62500) = (20833, 0x5555) := by decide +kernel
theorem test_ts32 : ts32Of (3 * 5100000000) = 0x2FFBD300 := by decide +kernel
theorem test_calendar_before_leap : civilOf (1798761636 - 37) = some ⟨2026, 12, 31, 23, 59, 59⟩ := by decide +kernel
theorem test_calendar_after_leap : civilOf (1798761637 - 38) = some ⟨2026, 12, 31, 23, 59, 59⟩ := by decide +kernel

-- The published test vector of SHA-256 over "abc".
theorem test_sha256 : (sha256 [0x61, 0x62, 0x63]).take 4 = [0xBA, 0x78, 0x16, 0xBF] := by decide +kernel

-- Steps from reset.
theorem test_idle_step : after (step State.reset) (fun t => (t.clk.now, t.regs)) = some (1, []) := by decide +kernel
theorem test_pending_command_runs :
    after (step { State.reset with pending := [.cmdNop 0, .park3 1] }) (fun t => t.pending) = some [.park3 1] := by decide +kernel
theorem test_reset_words : State.reset.opMode = 1 ∧ State.reset.rate = 1 ∧ State.reset.pending = [] := by decide +kernel
theorem test_no_word_spells_a_command (s : State) (n w : Nat) : decodeTableWord n w = none ∧ s.withFetchWord n w = s := ⟨rfl, rfl⟩
theorem test_scratch_write :
    after (exec (.registerWrite .host (fldAt Reg.GLOBAL_SCRATCH0 0) [0x78, 0x56, 0x34, 0x12]) State.reset)
      (fun t => t.word (fldAt Reg.GLOBAL_SCRATCH0 0)) = some 0x12345678 := by decide +kernel
theorem test_misaligned_write_is_counted :
    after (exec (.registerWrite .host 2 [1, 2, 3, 4]) State.reset) (fun t => t.get Reg.GLOBAL_BAD_ACCESS) = some 1 := by decide +kernel
theorem test_park3_needs_a_running_core : after (exec (.park3 0) State.reset) (fun t => decide (t = State.reset)) = some true := by decide +kernel
theorem test_hold_from_start_is_illegal :
    after (exec (.reqHold .host) (base 1)) (fun t => (t.getP .host Reg.MODE_DONE, t.getP .host Reg.MODE_STATUS)) =
      some (1, 0x71) := by decide +kernel
theorem test_no_slot_is_free :
    after (exec (.openSlot (.reg .host)) ((List.range 16).foldl (fun s i => s.put Reg.SLOT_STATE i 1) (running 4)))
      (fun t => t.getP .host Reg.SCNC_CMD_STATUS) = some 0x40 := by decide +kernel
theorem test_nop_completes :
    after (exec (.cmdNop 1) { running 4 with host := { State.reset.host with
        rings := [(1, { cmd := some { seq := 3, op := 0, words := [3] } })] } })
      (fun t => (t.get Reg.HOSTQ_RING_DONE_CNT 1, (t.hostRing 1).cmd)) = some (1, none) := by decide +kernel
theorem test_flash_erase_outside_maint :
    after (exec (.flashErase .mgmt) (base 4)) (fun t => (t.get Reg.PROV_DONE, t.get Reg.PROV_STATUS)) = some (1, 0x90) := by
  decide +kernel

end Sys2Proof.Tests

namespace Sys2Proof.Tests.W05a
open Sys2Proof.Tests
def b0 : Se := { regs := (List.range 64).map (fun i => (i, if i < 16 then (i * 0x13579BDF) % 2^32 + 1 else if i < 20 then i * 0x123456789ABCDEF1 % 2^72 else if i < 0x18 then i % 32 else i+3)), pc := 77, x := [(0x1B, 5), (0x1C, 9)], n := 4, cc := 9, zn := none, sticky := 0 }
def st (t : Se) : State := { running 4 with se := [(0, t)] }
def div_ (t : Se) (ds dt : Nat) : Se := { t with div := some { dd := 5, ds := ds, dt := dt, issue := 1 } }
def rp : SeRepeat := { first := 5, last := 9, lc := 3 }

/-- The hypotheses of SeAccumulatorOperations can be met, clause by clause. -/
theorem witness_seAccumulatorOperations :
    ∃ (s : State) (e : Nat), s.seUp e = true :=
  ⟨st b0, 0, by decide +kernel⟩

/-- The hypotheses of SeSumsBitwiseAndCompare can be met, clause by clause. -/
theorem witness_seSumsBitwiseAndCompare :
    ∃ (s : State) (e : Nat), s.seUp e = true :=
  ⟨st b0, 0, by decide +kernel⟩

/-- The hypotheses of SeDivision can be met, clause by clause. -/
theorem witness_seDivision :
    (∃ (s : State) (e : Nat), s.seUp e = true ∧ (s.eng e).div = none) ∧
    (∃ (s : State) (e : Nat) (d : SeDiv), s.seUp e = true ∧ (s.eng e).div = some d ∧ d.lost = false ∧ BitVec.ofNat 32 d.dt = 0) ∧
    (∃ (s : State) (e : Nat) (d : SeDiv), s.seUp e = true ∧ (s.eng e).div = some d ∧ d.lost = false ∧ (BitVec.ofNat 32 d.ds = 2147483648 ∧ BitVec.ofNat 32 d.dt = -1)) :=
  ⟨⟨st b0, 0, by decide +kernel⟩,
   ⟨st (div_ b0 7 0), 0, { dd := 5, ds := 7, dt := 0, issue := 1, lost := false }, by decide +kernel⟩,
   ⟨st (div_ b0 0x80000000 0xFFFFFFFF), 0, { dd := 5, ds := 2147483648, dt := 4294967295, issue := 1, lost := false }, by decide +kernel⟩⟩

/-- The hypotheses of WordsEnterAccumulatorsAligned can be met, clause by clause. -/
theorem witness_wordsEnterAccumulatorsAligned :
    ∃ (s : State) (e : Nat) (mask : Nat) (i : Nat), s.seUp e = true ∧ i < 4 ∧ bit mask i = true ∧ (s.eng e).queue = [] ∧ (s.eng e).ups = [] ∧ (s.eng e).div = none :=
  ⟨st b0, 0, 3, 0, by decide +kernel⟩

/-- The hypotheses of BranchConditions can be met, clause by clause. -/
theorem witness_branchConditions :
    ∃ (s : State) (e : Nat) (cond : Nat), s.seUp e = true ∧ (s.eng e).branch = none ∧ (s.eng e).reps = [] ∧ 8 ≤ cond ∧ cond < 16 :=
  ⟨st b0, 0, 8, by decide +kernel⟩

/-- The hypotheses of SeBranchesAndRepeats can be met, clause by clause. -/
theorem witness_seBranchesAndRepeats :
    (∃ (s : State) (e : Nat) (cond : Nat), s.seUp e = true ∧ (s.eng e).branch = none ∧ (s.eng e).reps = [] ∧ (s.eng e).div = none ∧ cond < 8) ∧
    (∃ (s : State) (e : Nat) (count : Nat) (last : Nat), s.seUp e = true ∧ (s.eng e).branch = none ∧ (s.eng e).reps = [] ∧ (s.eng e).div = none ∧ 0 < count % 65536 ∧ last % 8192 ≠ (s.eng e).pc) ∧
    (∃ (s : State) (e : Nat) (ds : Nat) (last : Nat), s.seUp e = true ∧ (s.eng e).branch = none ∧ (s.eng e).reps = [] ∧ (s.eng e).div = none ∧ 0 < BitVec.toNat ((s.eng e).dw ds) % 65536 ∧ last % 8192 ≠ (s.eng e).pc) ∧
    (∃ (s : State) (e : Nat) (count : Nat), s.seUp e = true ∧ (s.eng e).branch = none ∧ (s.eng e).reps = [] ∧ (s.eng e).div = none ∧ count % 65536 = 0) ∧
    (∃ (s : State) (e : Nat) (r : SeRepeat), s.seUp e = true ∧ (s.eng e).branch = none ∧ (s.eng e).reps = [r] ∧ (s.eng e).div = none) ∧
    (∃ (s : State) (e : Nat), s.seUp e = true ∧ (s.eng e).branch.isSome = true) :=
  ⟨⟨st b0, 0, 0, by decide +kernel⟩,
   ⟨st b0, 0, 3, 0, by decide +kernel⟩,
   ⟨st b0, 0, 0, 0, by decide +kernel⟩,
   ⟨st b0, 0, 0, by decide +kernel⟩,
   ⟨st { b0 with reps := [rp] }, 0, { first := 5, last := 9, lc := 3 }, by decide +kernel⟩,
   ⟨st { b0 with branch := some (4, 1) }, 0, by decide +kernel⟩⟩

end Sys2Proof.Tests.W05a

namespace Sys2Proof.Tests.W05c
open Sys2Proof.Tests
def b0 : Se := { regs := (List.range 64).map (fun i => (i, if i < 16 then (i * 0x13579BDF) % 2^32 + 1 else if i < 20 then i * 0x123456789ABCDEF1 % 2^72 else if i < 0x18 then i % 32 else i+3)), pc := 77, x := [(0x1B, 5), (0x1C, 9)], n := 4, cc := 9, zn := none, sticky := 0 }
def b1 : Se := { b0 with regs := (List.range 64).map (fun i => (i, i * 2^90 + 2^75 + 0x9ABCDEF + i)), queue := [], ups := [], div := none }
def bz : Se := { regs := [(0, 0x80000000), (1, 0x7FFFFFFF), (2, 0xFFFFFFFF), (16, 2^71), (17, 2^71 - 1), (18, 2^69 + 2^33)], pc := 8191 }
def st (t : Se) : State := { running 4 with se := [(0, t)] }
def div_ (t : Se) (ds dt : Nat) : Se := { t with div := some { dd := 5, ds := ds, dt := dt, issue := 1 } }
def rp : SeRepeat := { first := 5, last := 9, lc := 3 }
def sts : List State := [st b0, st b1, st bz, st (div_ b0 7 2), st (div_ b0 7 0), st (div_ b0 0x80000000 0xFFFFFFFF), st (div_ b1 0xFFFFFFF9 2), st { b0 with reps := [rp] }, st { b0 with branch := some (4, 1) }, st {b1 with pc := 9999}]

/-- The hypotheses of SeShifts can be met, clause by clause. -/
theorem witness_seShifts :
    ∃ (s : State) (e : Nat), s.seUp e = true :=
  ⟨(sts.take 3).getD 0 State.reset, 0, by decide +kernel⟩

end Sys2Proof.Tests.W05c

namespace Sys2Proof.Tests.W05_3
open Sys2Proof.Tests
def b0 : Se := { regs := (List.range 64).map (fun i => (i, if i < 16 then (i * 0x13579BDF) % 2^32 + 1 else if i < 20 then i * 0x123456789ABCDEF1 % 2^72 else if i < 0x18 then i % 32 else i+3)), pc := 77, x := [(0x1B, 5), (0x1C, 9)], n := 4, cc := 9, zn := none, sticky := 0 }
def st (t : Se) : State := { running 4 with se := [(0, t)] }

/-- The hypotheses of SeResultReachesNextBundle can be met, clause by clause. -/
theorem witness_seResultReachesNextBundle :
    ∃ (s : State) (e : Nat), s.seUp e = true ∧ (s.eng e).queue = [] ∧ (s.eng e).ups = [] ∧ (s.eng e).div = none :=
  ⟨st b0, 0, by decide +kernel⟩

end Sys2Proof.Tests.W05_3

namespace Sys2Proof.Tests.W05b
open Sys2Proof.Tests
def b0 : Se := { regs := (List.range 64).map (fun i => (i, if i < 16 then (i * 0x13579BDF) % 2^32 + 1 else if i < 20 then i * 0x123456789ABCDEF1 % 2^72 else if i < 0x18 then i % 32 else i+3)), pc := 77, x := [(0x1B, 5), (0x1C, 9)], n := 4, cc := 9, zn := none, sticky := 0 }
def st (t : Se) : State := { running 4 with se := [(0, t)] }

/-- The hypotheses of SeMovesOfEveryKind can be met, clause by clause. -/
theorem witness_seMovesOfEveryKind :
    (∃ (s : State) (e : Nat) (reg : Nat), s.seUp e = true ∧ reg < 16) ∧
    (∃ (s : State) (e : Nat) (reg : Nat), s.seUp e = true ∧ 16 ≤ reg ∧ reg < 20) ∧
    (∃ (s : State) (e : Nat) (i : Nat), s.seUp e = true ∧ i < 4) ∧
    (∃ (s : State) (e : Nat) (i : Nat), s.seUp e = true ∧ i < 8) ∧
    (∃ (s : State) (e : Nat) (i : Nat), s.seUp e = true ∧ i < 3) ∧
    (∃ (s : State) (e : Nat) (cr : Nat), s.seUp e = true ∧ 9 ≤ cr) :=
  ⟨⟨st b0, 0, 0, by decide +kernel⟩,
   ⟨st b0, 0, 17, by decide +kernel⟩,
   ⟨st b0, 0, 0, by decide +kernel⟩,
   ⟨st b0, 0, 0, by decide +kernel⟩,
   ⟨st b0, 0, 0, by decide +kernel⟩,
   ⟨st b0, 0, 17, by decide +kernel⟩⟩

end Sys2Proof.Tests.W05b

namespace Sys2Proof.Tests.W05_1
open Sys2Proof.Tests
def b0 : Se := { regs := (List.range 64).map (fun i => (i, if i < 16 then (i * 0x13579BDF) % 2^32 + 1 else if i < 20 then i * 0x123456789ABCDEF1 % 2^72 else if i < 0x18 then i % 32 else i+3)), pc := 77, x := [(0x1B, 5), (0x1C, 9)], n := 4, cc := 9, zn := none, sticky := 0 }
def st (t : Se) : State := { running 4 with se := [(0, t)] }
def rp : SeRepeat := { first := 5, last := 9, lc := 3 }
def g0 : SeGather := { src := 0, dsp := 1, dst := 0x20, base := 5, offs := List.range 16 }
def H0 : SeHandler := { code := 2, pc := 5, reps := [rp] }
def ev (l : List (Nat × Nat)) (t : Se) : Se := { t with events := l }

/-- The hypotheses of SeGathersAndEvents can be met, clause by clause. -/
theorem witness_seGathersAndEvents :
    (∃ (s : State) (e : Nat) (src : Nat) (base : Nat), s.seUp e = true ∧ (s.eng e).branch = none ∧ (src = 2 ∨ src < 2 ∧ base < 8)) ∧
    (∃ (s : State) (e : Nat) (g : SeGather), (s.eng e).gather = some g ∧ g.src < 2 ∧ g.dsp < 2 ∧ g.src ≠ g.dsp ∧ g.offs.length = 16 ∧ (∀ (i : Nat), i < 16 → g.base + g.offs.getD i 0 ≤ 32767) ∧ (s.eng e).reg cGather < 16) ∧
    (∃ (s : State) (e : Nat) (k : Nat) (g : SeGather), (s.eng e).gather = some g ∧ g.src < 2 ∧ g.dsp < 2 ∧ (∀ (i : Nat), i < 16 → g.base + g.offs.getD i 0 ≤ 32767) ∧ (s.eng e).reg cGather ≤ k ∧ k < 16) ∧
    (∃ (s : State) (e : Nat) (c : Nat), s.seUp e = true ∧ (s.eng e).acceptPoint = true ∧ c < 4 ∧ (((s.eng e).events.any fun x => x.fst == c) = true) ∧ (∀ (b : Nat), b < c → ((s.eng e).events.any fun x => x.fst == b) = false)) ∧
    (∃ (s : State) (e : Nat) (h : SeHandler), s.seUp e = true ∧ (s.eng e).branch = none ∧ (s.eng e).handler = some h ∧ (s.eng e).reps = [] ∧ (s.eng e).div = none) ∧
    (∃ (s : State) (e : Nat) (code : Nat) (at' : Nat), (List.find? (fun x => x.fst == code) (s.eng e).events = some (code, at')) ∧ (s.eng e).slow.contains code = false) ∧
    (∃ (e : Nat), e < 34) :=
  ⟨⟨st b0, 0, 0, 0, by decide +kernel⟩,
   ⟨st { b0 with gather := some {g0 with src := 1, dsp := 0, base := 0x7FF0}, regs := tput 0 b0.regs cGather 15 }, 0, { src := 1, dsp := 0, dst := 32, base := 32752, offs := [0, 1, 2, 3, 4, 5, 6, 7, 8, 9, 10, 11, 12, 13, 14, 15] }, by decide +kernel⟩,
   ⟨st { b0 with gather := some {g0 with src := 1, dsp := 0, base := 0x7FF0}, regs := tput 0 b0.regs cGather 15 }, 0, 15, { src := 1, dsp := 0, dst := 32, base := 32752, offs := [0, 1, 2, 3, 4, 5, 6, 7, 8, 9, 10, 11, 12, 13, 14, 15] }, by decide +kernel⟩,
   ⟨st (ev [(3, 5)] { b0 with div := some { dd := 5, ds := 1, dt := 2, issue := 1 } }), 0, 3, by decide +kernel⟩,
   ⟨st { b0 with handler := some H0, branch := none }, 0, { code := 2, pc := 5, reps := [{ first := 5, last := 9, lc := 3 }] }, by decide +kernel⟩,
   ⟨st (ev [(2, 5), (1, 3)] { b0 with reps := [rp] }), 0, 1, 3, by decide +kernel⟩,
   ⟨0, by decide +kernel⟩⟩

end Sys2Proof.Tests.W05_1

namespace Sys2Proof.Tests.W05_2
open Sys2Proof.Tests
def b0 : Se := { regs := (List.range 64).map (fun i => (i, if i < 16 then (i * 0x13579BDF) % 2^32 + 1 else if i < 20 then i * 0x123456789ABCDEF1 % 2^72 else if i < 0x18 then i % 32 else i+3)), pc := 77, x := [(0x1B, 5), (0x1C, 9)], n := 4, cc := 9, zn := none, sticky := 0 }
def st (t : Se) : State := { running 4 with se := [(0, t)] }

/-- The hypotheses of SeStripBoundaries can be met, clause by clause. -/
theorem witness_seStripBoundaries :
    (∃ (s : State) (e : Nat) (n : Nat) (out : Bool), s.seUp e = true ∧ (s.eng e).branch = none ∧ (s.eng e).handler = none ∧ s.stripEngine out n = e ∧ (n < if out = true then numBuses s.rate else inStrips s.rate)) ∧
    (∃ (s : State) (e : Nat) (n : Nat) (out : Bool), s.seUp e = true ∧ (s.eng e).branch = none ∧ s.stripEngine out n ≠ e) ∧
    (∃ (s : State) (e : Nat) (n : Nat) (out : Bool), s.seUp e = true ∧ (s.eng e).branch = none ∧ (s.eng e).handler = none ∧ (s.eng e).strip = some (out, n)) ∧
    (∃ (s : State) (e : Nat), e < 34 ∧ s.domState (pageDomain (16 + e)) = 3) :=
  ⟨⟨st b0, 0, 0, false, by decide +kernel⟩,
   ⟨st b0, 3, 0, false, by decide +kernel⟩,
   ⟨st { b0 with strip := some (false, 5) }, 0, 5, false, by decide +kernel⟩,
   ⟨st b0, 0, by decide +kernel⟩⟩

end Sys2Proof.Tests.W05_2

namespace Sys2Proof.Tests.W06a
open Sys2Proof.Tests
def dpf (f : Data → Data) (s : State) : State := { s with dp := f s.dp }
def lane (m : Nat) (l : Lane) (s : State) : State := dpf (fun d => { d with lanes := tput {} d.lanes m l }) s
def at_ (n : Nat) (s : State) : State := { s with clk := { s.clk with now := n } }
def R4 : State := running 4
def rxOn (s : State) : State := (fun (s : State) => s.put Reg.AESRX_LOS 0 0) <| ((s.put Reg.AESRX_EN 0 1).put Reg.AESRX_LOCK 0 1)
def clsS (rate : Nat) (media : Nat) (s : State) : State := ((rxOn s).put Reg.AESRX_MEDIA 0 media).put Reg.AESRX_RATE 0 rate
def lk (st : Nat) (f : Lane → Lane) (s : State) : State := lane 1023 (f { state := st, entry := 0x1800, fill := 50, acqAt := 3, ratio := 7, rate := 9 }) (lane 0 (f { state := st, entry := 0x1800, fill := 50, acqAt := 3, ratio := 7, rate := 9 }) s)

/-- The hypotheses of RateConverterLanes can be met, clause by clause. -/
theorem witness_rateConverterLanes :
    (∃ (s : State) (m : Nat), m < 1024 ∧ s.opMode ≠ 3 ∧ s.partnerFollows = false ∧ (s.lane m).state = 1 ∧ (s.srcClass (laneSrc (s.lane m).entry) = 1 ∨ s.srcClass (laneSrc (s.lane m).entry) = 2) ∧ filtDelay (laneFilt (s.lane m).entry) ≤ (s.lane m).fill) ∧
    (∃ (s : State) (m : Nat), m < 1024 ∧ s.opMode ≠ 3 ∧ s.partnerFollows = false ∧ (s.lane m).state = 1 ∧ s.srcClass (laneSrc (s.lane m).entry) = 3 ∧ (s.lane m).keep = false ∧ (s.lane m).acqAt + 60000000 ≤ s.clk.now) ∧
    (∃ (s : State) (m : Nat), m < 1024 ∧ s.opMode ≠ 3 ∧ s.partnerFollows = false ∧ (s.lane m).state = 2) ∧
    (∃ (s : State) (m : Nat), m < 1024 ∧ s.opMode ≠ 3 ∧ s.partnerFollows = false ∧ (s.lane m).state = 3 ∧ 64 ≤ (s.lane m).ramp ∧ (s.lane m).input = true) ∧
    (∃ (s : State) (m : Nat) (rate : Nat), m < 1024 ∧ s.opMode ≠ 3 ∧ s.partnerFollows = false ∧ laneEn (s.lane m).entry = true ∧ (s.lane m).state ≠ 0 ∧ (s.lane m).state ≠ 4 ∧ (rate < 31500 ∨ 194000 < rate)) ∧
    (∃ (s : State) (m : Nat) (rate : Nat), m < 1024 ∧ s.opMode ≠ 3 ∧ s.partnerFollows = false ∧ (s.lane m).state = 4 ∧ 31500 ≤ rate ∧ rate ≤ 194000) :=
  ⟨⟨clsS 48000 1 (lk 1 id R4), 0, by decide +kernel⟩,
   ⟨clsS 48000 0 (lk 1 id (at_ 70000000 R4)), 0, by decide +kernel⟩,
   ⟨lk 2 id R4, 0, by decide +kernel⟩,
   ⟨lk 3 (fun l => {l with ramp := 64, input := true}) R4, 0, by decide +kernel⟩,
   ⟨clsS 48000 1 (lk 1 id R4), 0, 0, by decide +kernel⟩,
   ⟨lk 4 id R4, 0, 31500, by decide +kernel⟩⟩

end Sys2Proof.Tests.W06a

namespace Sys2Proof.Tests.W06b
open Sys2Proof.Tests
def R4 : State := running 4
def rxOn (s : State) : State := ((s.put Reg.AESRX_EN 0 1).put Reg.AESRX_LOCK 0 1)
def plc (b : Bool) (s : State) : State := { s with clk := { s.clk with placed := b } }

/-- The hypotheses of BoundariesAndLandings can be met, clause by clause. -/
theorem witness_boundariesAndLandings :
    (∃ (s : State), s.opMode = 0) ∧
    (∃ (s : State), s.opMode ≠ 0 ∧ s.clk.placed = false) ∧
    (∃ (s : State), s.opMode ≠ 0 ∧ s.clk.placed = true ∧ s.mode.trans = Trans.none ∧ s.meterDue = false ∧ (∀ (t : Nat), t < 8 → (s.eye t).running = false) ∧ s.dp.shedding = []) ∧
    (∃ (s : State) (src : Nat) (p : Nat) (ch : Nat), rxPortOf src = some (p, ch) ∧ 2048 ≤ src ∧ s.rxEn p = true ∧ s.rxLock p = true ∧ ch < s.rxChannels p ∧ s.portsUp = true ∧ s.routes = [] ∧ s.listedLanes = []) :=
  ⟨⟨base 0, by decide +kernel⟩,
   ⟨base 1, by decide +kernel⟩,
   ⟨plc true (base 1), by decide +kernel⟩,
   ⟨rxOn R4, 2048, 0, 0, by decide +kernel⟩⟩

end Sys2Proof.Tests.W06b

namespace Sys2Proof.Tests.W06c
open Sys2Proof.Tests
def hs (f : HostIf → HostIf) (s : State) : State := { s with host := f s.host }
def up (s : State) : State := hs (fun h => { h with busMaster := true, linkUp := true }) s
def ring (q : Nat) (r : HostRing) (s : State) : State := hs (fun h => { h with rings := tput {} h.rings q r }) s
def wsOf (seq op epoch : Nat) (l : List Nat) : List Word := (([seq, op, epoch, 0] ++ l ++ List.replicate 16 0).take 16).map (BitVec.ofNat 32)
def cm (seq op : Nat) (l : List Nat) : RingCmd := { seq := seq, op := op, words := wsOf seq op 0 l }
def img (bad : Nat) : List Byte :=
  let bs := (List.replicate 64 (List.replicate 8 (0 : Byte))).flatten
  let h := wordBytes [0x50534D31, 5, 64, 0x10000, if bad = 1 then 500 else 290, 290, 256, 0, 8, 0,0,0,0,0,0]
  h ++ leBytes 4 (crc32 (h ++ bs) + (if bad = 2 then 1 else 0)) ++ bs

/-- The hypotheses of StripProgramLoads can be met, clause by clause. -/
theorem witness_stripProgramLoads :
    (∃ (s : State) (q : Nat) (c : RingCmd), (s.hostRing q).cmd = some c ∧ c.op = 17 ∧ c.began = false ∧ s.prog.next = none ∧ s.prog.write = false ∧ s.progMode = false) ∧
    (∃ (s : State) (q : Nat) (image : Option (List Byte)) (c : RingCmd), (s.hostRing q).cmd = some c ∧ c.op = 17 ∧ c.began = false ∧ s.prog.next = none ∧ s.prog.write = false ∧ s.progMode = true ∧ bit (c.a 0) 0 = false ∧ (image = none ∨ s.hostReadable = false)) ∧
    (∃ (s : State) (q : Nat) (image : Option (List Byte)) (c : RingCmd) (b : List Byte) (st : Nat) (k : Nat), (s.hostRing q).cmd = some c ∧ c.op = 17 ∧ c.began = false ∧ s.prog.next = none ∧ s.prog.write = false ∧ s.progMode = true ∧ bit (c.a 0) 0 = false ∧ s.hostReadable = true ∧ image = some b ∧ progStatus b = (st, k) ∧ st ≠ 0) ∧
    (∃ (s : State) (q : Nat) (image : Option (List Byte)) (c : RingCmd) (b : List Byte) (st : Nat) (k : Nat), (s.hostRing q).cmd = some c ∧ c.op = 17 ∧ c.began = false ∧ s.prog.next = none ∧ s.prog.write = false ∧ s.progMode = true ∧ bit (c.a 0) 0 = false ∧ s.hostReadable = true ∧ image = some b ∧ progStatus b = (st, k) ∧ st = 0) ∧
    (∃ (s : State) (h : List Word) (bs : List DWord), s.prog.next = some (h, bs) ∧ s.prog.write = false ∧ (s.mode.running = false ∨ s.idx ≠ s.prog.since)) ∧
    (∃ (s : State) (h : List Word) (bs : List DWord), s.prog.next = some (h, bs) ∧ s.prog.write = true) :=
  ⟨⟨([1,2,4,5].flatMap (fun m => [ring 1 {cmd := some (cm 3 0x11 [0, 64, 0])} (up (base m)), ring 1 {cmd := some (cm 3 0x11 [0, 64, 0])} (base m)]) ++ [{ (ring 1 {cmd := some {cm 3 0x11 [0,64,0] with began := true}} (up (base 1))) with prog := { (base 1).prog with next := some (progHeader (img 0), progBundles (img 0)), ring := 1, since := 0 } }, { (running 5) with prog := { (base 1).prog with next := some (progHeader (img 0), progBundles (img 0)), ring := 1, since := 0 } }, { (running 5) with prog := { (base 1).prog with next := some (progHeader (img 0), progBundles (img 0)), ring := 1, since := 4 } }, { (ring 1 {cmd := some {cm 3 0x11 [0,64,0] with began := true}} (up (base 1))) with prog := { (base 1).prog with next := some (progHeader (img 0), progBundles (img 0)), ring := 1, since := 0, write := true, at' := 9999 } }]).getD 4 State.reset, 1, { seq := 3, op := 17, words := [3, 0x11, 0, 0, 0, 0x40, 0, 0, 0, 0, 0, 0, 0, 0, 0, 0], began := false, mute := false }, by decide +kernel⟩,
   ⟨([1,2,4,5].flatMap (fun m => [ring 1 {cmd := some (cm 3 0x11 [0, 64, 0])} (up (base m)), ring 1 {cmd := some (cm 3 0x11 [0, 64, 0])} (base m)]) ++ [{ (ring 1 {cmd := some {cm 3 0x11 [0,64,0] with began := true}} (up (base 1))) with prog := { (base 1).prog with next := some (progHeader (img 0), progBundles (img 0)), ring := 1, since := 0 } }, { (running 5) with prog := { (base 1).prog with next := some (progHeader (img 0), progBundles (img 0)), ring := 1, since := 0 } }, { (running 5) with prog := { (base 1).prog with next := some (progHeader (img 0), progBundles (img 0)), ring := 1, since := 4 } }, { (ring 1 {cmd := some {cm 3 0x11 [0,64,0] with began := true}} (up (base 1))) with prog := { (base 1).prog with next := some (progHeader (img 0), progBundles (img 0)), ring := 1, since := 0, write := true, at' := 9999 } }]).getD 0 State.reset, 1, none, { seq := 3, op := 17, words := [3, 0x11, 0, 0, 0, 0x40, 0, 0, 0, 0, 0, 0, 0, 0, 0, 0], began := false, mute := false }, by decide +kernel⟩,
   ⟨([1,2,4,5].flatMap (fun m => [ring 1 {cmd := some (cm 3 0x11 [0, 64, 0])} (up (base m)), ring 1 {cmd := some (cm 3 0x11 [0, 64, 0])} (base m)]) ++ [{ (ring 1 {cmd := some {cm 3 0x11 [0,64,0] with began := true}} (up (base 1))) with prog := { (base 1).prog with next := some (progHeader (img 0), progBundles (img 0)), ring := 1, since := 0 } }, { (running 5) with prog := { (base 1).prog with next := some (progHeader (img 0), progBundles (img 0)), ring := 1, since := 0 } }, { (running 5) with prog := { (base 1).prog with next := some (progHeader (img 0), progBundles (img 0)), ring := 1, since := 4 } }, { (ring 1 {cmd := some {cm 3 0x11 [0,64,0] with began := true}} (up (base 1))) with prog := { (base 1).prog with next := some (progHeader (img 0), progBundles (img 0)), ring := 1, since := 0, write := true, at' := 9999 } }]).getD 0 State.reset, 1, some (img 1), { seq := 3, op := 17, words := [3, 0x11, 0, 0, 0, 0x40, 0, 0, 0, 0, 0, 0, 0, 0, 0, 0], began := false, mute := false }, img 1, 51, 0, by decide +kernel⟩,
   ⟨([1,2,4,5].flatMap (fun m => [ring 1 {cmd := some (cm 3 0x11 [0, 64, 0])} (up (base m)), ring 1 {cmd := some (cm 3 0x11 [0, 64, 0])} (base m)]) ++ [{ (ring 1 {cmd := some {cm 3 0x11 [0,64,0] with began := true}} (up (base 1))) with prog := { (base 1).prog with next := some (progHeader (img 0), progBundles (img 0)), ring := 1, since := 0 } }, { (running 5) with prog := { (base 1).prog with next := some (progHeader (img 0), progBundles (img 0)), ring := 1, since := 0 } }, { (running 5) with prog := { (base 1).prog with next := some (progHeader (img 0), progBundles (img 0)), ring := 1, since := 4 } }, { (ring 1 {cmd := some {cm 3 0x11 [0,64,0] with began := true}} (up (base 1))) with prog := { (base 1).prog with next := some (progHeader (img 0), progBundles (img 0)), ring := 1, since := 0, write := true, at' := 9999 } }]).getD 0 State.reset, 1, some (img 0), { seq := 3, op := 17, words := [3, 0x11, 0, 0, 0, 0x40, 0, 0, 0, 0, 0, 0, 0, 0, 0, 0], began := false, mute := false }, img 0, 0, 0, by decide +kernel⟩,
   ⟨([1,2,4,5].flatMap (fun m => [ring 1 {cmd := some (cm 3 0x11 [0, 64, 0])} (up (base m)), ring 1 {cmd := some (cm 3 0x11 [0, 64, 0])} (base m)]) ++ [{ (ring 1 {cmd := some {cm 3 0x11 [0,64,0] with began := true}} (up (base 1))) with prog := { (base 1).prog with next := some (progHeader (img 0), progBundles (img 0)), ring := 1, since := 0 } }, { (running 5) with prog := { (base 1).prog with next := some (progHeader (img 0), progBundles (img 0)), ring := 1, since := 0 } }, { (running 5) with prog := { (base 1).prog with next := some (progHeader (img 0), progBundles (img 0)), ring := 1, since := 4 } }, { (ring 1 {cmd := some {cm 3 0x11 [0,64,0] with began := true}} (up (base 1))) with prog := { (base 1).prog with next := some (progHeader (img 0), progBundles (img 0)), ring := 1, since := 0, write := true, at' := 9999 } }]).getD 8 State.reset, [0x50534d31, 5, 0x40, 0x10000, 0x122, 0x122, 0x100, 0, 8, 0, 0, 0, 0, 0, 0, 0x61cf2a61], progBundles (img 0), by decide +kernel⟩,
   ⟨([1,2,4,5].flatMap (fun m => [ring 1 {cmd := some (cm 3 0x11 [0, 64, 0])} (up (base m)), ring 1 {cmd := some (cm 3 0x11 [0, 64, 0])} (base m)]) ++ [{ (ring 1 {cmd := some {cm 3 0x11 [0,64,0] with began := true}} (up (base 1))) with prog := { (base 1).prog with next := some (progHeader (img 0), progBundles (img 0)), ring := 1, since := 0 } }, { (running 5) with prog := { (base 1).prog with next := some (progHeader (img 0), progBundles (img 0)), ring := 1, since := 0 } }, { (running 5) with prog := { (base 1).prog with next := some (progHeader (img 0), progBundles (img 0)), ring := 1, since := 4 } }, { (ring 1 {cmd := some {cm 3 0x11 [0,64,0] with began := true}} (up (base 1))) with prog := { (base 1).prog with next := some (progHeader (img 0), progBundles (img 0)), ring := 1, since := 0, write := true, at' := 9999 } }]).getD 11 State.reset, [0x50534d31, 5, 0x40, 0x10000, 0x122, 0x122, 0x100, 0, 8, 0, 0, 0, 0, 0, 0, 0x61cf2a61], progBundles (img 0), by decide +kernel⟩⟩

end Sys2Proof.Tests.W06c

namespace Sys2Proof.Tests.W06d
open Sys2Proof.Tests
def dpf (f : Data → Data) (s : State) : State := { s with dp := f s.dp }
def fl (f : Flt → Flt) (s : State) : State := { s with flt := f s.flt }
def spares (s : State) : State := (s.put Hdr.SPARE 0x30 1).put Hdr.SPARE 0x31 1
def onEng (e : Nat) (s : State) : State := ((((s.put Reg.INR_SE 0 e).put Reg.INR_SE 1 e).put Reg.OUTR_SE 5 e).put Reg.SE_IN_STRIPS e 2).put Reg.SE_OUT_STRIPS e 1
def rs (e : Nat) (s : State) : State := fl (fun f => {f with resched := [seUnit e]}) s

/-- The hypotheses of MigrationAndShedding can be met, clause by clause. -/
theorem witness_migrationAndShedding :
    (∃ (s : State) (e : Nat) (sp : Nat), e < 34 ∧ s.flt.resched.contains (seUnit e) = true ∧ s.idleSpare = some sp ∧ sp ≠ e ∧ ((s.stripsOf false e).isEmpty && (s.stripsOf true e).isEmpty) = false) ∧
    (∃ (s : State) (e : Nat), e < 34 ∧ s.flt.resched.contains (seUnit e) = true ∧ s.idleSpare = none ∧ ((s.stripsOf false e).isEmpty && (s.stripsOf true e).isEmpty) = false) ∧
    (∃ (s : State), s.dp.shedding ≠ [] ∧ s.dp.shedAt ≤ s.idx) :=
  ⟨⟨rs 3 (onEng 3 (spares (running 4))), 3, 32, by decide +kernel⟩,
   ⟨rs 3 (onEng 3 (((running 4).put Hdr.SPARE 0x30 0).put Hdr.SPARE 0x31 0)), 3, by decide +kernel⟩,
   ⟨dpf (fun d => {d with shedding := [0, 2053], shedAt := 0, displaced := [1, 2054]}) (running 4), by decide +kernel⟩⟩

end Sys2Proof.Tests.W06d

namespace Sys2Proof.Tests.W06f
open Sys2Proof.Tests
def dpf (f : Data → Data) (s : State) : State := { s with dp := f s.dp }
def hs (f : HostIf → HostIf) (s : State) : State := { s with host := f s.host }
def up (s : State) : State := hs (fun h => { h with busMaster := true, linkUp := true }) s
def at_ (n p : Nat) (s : State) : State := { s with clk := { s.clk with now := n, pos := p } }
def ow (n off v : Nat) (s : State) : State := s.setWord (outWord n off) (BitVec.ofNat 32 v)
def lgs (s : State) : State := ow 5 0xA8 48 (ow 5 0xAC (65535 * 65536 + 1) (ow 5 0xA4 1 (ow 0 0xA8 6 (ow 0 0xAC (65535 * 65536 + 1) (ow 0 0xA4 1 s)))))
def big (s : State) : State := at_ 200000000000 64000001 s
def nt (st d f : Nat) (s : State) : State := (s.setWord (fldAt Reg.OUTR_NOTCH_STATE 0) (BitVec.ofNat 32 (mkNotch st d f))).setWord (fldAt Reg.OUTR_NOTCH_STATE (12*5+11)) (BitVec.ofNat 32 (mkNotch st d f))
def R : State := running 4
def fr (f : Frame → Frame) (s : State) : State := dpf (fun d => {d with frame := f d.frame}) s
def ey (t : Nat) (f : Frame) (s : State) : State := dpf (fun d => {d with eyes := tput {} d.eyes t f}) s
def fr0 : Frame := { running := true, count := 40000, sel := 0, base := 0x1000, slots := 4, seq := 300, ts32 := 7, discont := true }

/-- The hypotheses of AutomixAndLoopGuard can be met, clause by clause. -/
theorem witness_automixAndLoopGuard :
    (∃ (s : State), s.mode.running = true ∧ s.dp.amAt + s.amInterval ≤ s.clk.pos ∧ (∀ (g : Nat), g < 16 → s.amMembers g = [])) ∧
    (∃ (s : State) (n : Nat) (f : Nat) (i : Nat), s.mode.running = true ∧ s.dp.lgAt + s.lgFrame ≤ s.clk.pos ∧ n < numBuses s.rate ∧ s.opMode ≠ 3 ∧ s.partnerFollows = false ∧ s.dp.shed.contains (2048 + n) = false ∧ s.inUse (outWord n 164) % 4 = 1 ∧ 100 * bits (s.inUse (outWord n 172)) 15 0 ≤ f ∧ f ≤ 100 * bits (s.inUse (outWord n 172)) 31 16 ∧ s.lgLocked n f = false ∧ 6 ≤ s.lgMax n ∧ (∀ (j : Nat), j < 12 → (notchState (s.notchWord (12 * n + j)) != 0 && near 12 f (notchFreq (s.notchWord (12 * n + j)))) = false) ∧ (List.find? (fun j => notchState (s.notchWord (12 * n + j)) == 0) (List.range 12) = some i)) ∧
    (∃ (s : State) (n : Nat) (k : Nat), n < 1024 ∧ k < 12 ∧ s.opMode ≠ 3 ∧ s.partnerFollows = false ∧ notchState (s.notchWord (12 * n + k)) ≠ 0 ∧ notchDepth (s.notchWord (12 * n + k)) ≠ 0 ∧ s.inUse (outWord n 164) % 4 = 1 ∧ (((tget { } (s.outStrip n).notches k).since + if notchState (s.notchWord (12 * n + k)) = 2 then 30000000000 else 180000000000) ≤ s.clk.now)) :=
  ⟨⟨big R, by decide +kernel⟩,
   ⟨big (lgs R), 0, 100, 0, by decide +kernel⟩,
   ⟨nt 1 6 100000 (big (lgs R)), 0, 0, by decide +kernel⟩⟩

/-- The hypotheses of MeterFramesAndBlocks can be met, clause by clause. -/
theorem witness_meterFramesAndBlocks :
    (∃ (s : State), s.meterDue = true ∧ ringFull (s.get Reg.MTR_WR) (s.get Reg.MTR_RD) (max 1 s.dp.frame.slots) = false ∧ s.hostReadable = true ∧ s.getB Reg.MTR_EN = false) ∧
    (∃ (s : State), s.meterDue = true ∧ (ringFull (s.get Reg.MTR_WR) (s.get Reg.MTR_RD) (max 1 s.dp.frame.slots) = true ∨ s.hostReadable = false) ∧ s.getB Reg.MTR_EN = false) ∧
    (∃ (s : State) (t : Nat), t < 8 ∧ s.domState 3 = 3) ∧
    (∃ (s : State) (t : Nat), t < 8 ∧ (s.eye t).running = true ∧ 256 ≤ (s.eye t).count ∧ s.get Reg.EYE_MODE t = 1 ∧ ringFull (s.get Reg.EYE_WR t) (s.get Reg.EYE_RD t) (max 1 (s.eye t).slots) = false ∧ s.hostReadable = true) ∧
    (∃ (s : State) (t : Nat), t < 8 ∧ (s.eye t).running = true ∧ 256 ≤ (s.eye t).count ∧ s.get Reg.EYE_MODE t = 1 ∧ ringFull (s.get Reg.EYE_WR t) (s.get Reg.EYE_RD t) (max 1 (s.eye t).slots) = true) :=
  ⟨⟨up (fr (fun _ => fr0) R), by decide +kernel⟩,
   ⟨fr (fun _ => fr0) R, by decide +kernel⟩,
   ⟨big R, 0, by decide +kernel⟩,
   ⟨up (ey 7 {fr0 with count := 256, data := [1,2,3]} (R.put Reg.EYE_MODE 7 1)), 7, by decide +kernel⟩,
   ⟨ey 0 {fr0 with count := 256, slots := 1, data := [1,2,3]} (R.put Reg.EYE_MODE 0 1), 0, by decide +kernel⟩⟩

end Sys2Proof.Tests.W06f

namespace Sys2Proof.Tests.W07
open Sys2Proof.Tests
def bcs (f : Bc → Bc) (s : State) : State := (s.setBc 0 f).setBc 1 f
def live : Bc := { halted := false, core := { win := (List.range 100).map (fun i => (i, i + 1)), pc := 77, flags := 5, mem := [(3, 9), (0x1FF3F, 8)] } }
def mkB (f : Bc → Bc) : State := bcs (fun _ => f live) (running 4)
def hs (f : HostIf → HostIf) (s : State) : State := { s with host := f s.host }
def up (s : State) : State := hs (fun h => { h with busMaster := true, linkUp := true }) s
def ring (q : Nat) (r : HostRing) (s : State) : State := hs (fun h => { h with rings := tput {} h.rings q r }) s
def wsOf (seq op epoch : Nat) (l : List Nat) : List Word := (([seq, op, epoch, 0] ++ l ++ List.replicate 16 0).take 16).map (BitVec.ofNat 32)
def cm (seq op : Nat) (l : List Nat) : RingCmd := { seq := seq, op := op, words := wsOf seq op 0 l }
def im : List Byte := (List.range 8).map (BitVec.ofNat 8)
def LC : List RingCmd := [cm 3 0x12 [0, 5, 64, 0, 2, crc32 im], cm 3 0x12 [1, 5, 64, 0, 2, 7], cm 3 0x12 [1, 5, 64, 0, 131073, 7], cm 3 0x12 [2, 5, 64, 0, 0, 7]]
def sts2 : List State := LC.flatMap fun c => [ring 1 {cmd := some c} (up (running 4)), ring 1 {cmd := some c} (base 1), ring 1 {cmd := some c} (up (base 0)), ring 1 {cmd := some c} (up (base 3))]

/-- The hypotheses of BridgeWindowsAndTraps can be met, clause by clause. -/
theorem witness_bridgeWindowsAndTraps :
    (∃ (s : State) (c : Nat), s.bcRuns c = true ∧ (s.bcore c).fp ≠ 7 ∧ (s.bcore c).res < 7) ∧
    (∃ (s : State) (c : Nat), s.bcRuns c = true ∧ (s.bcore c).fp ≠ 7 ∧ 7 ≤ (s.bcore c).res) ∧
    (∃ (s : State) (c : Nat), s.bcRuns c = true ∧ (s.bcore c).fp ≠ 7 ∧ 1 < (s.bcore c).res) ∧
    (∃ (s : State) (c : Nat), s.bcRuns c = true ∧ (s.bcore c).fp ≠ 7 ∧ (s.bcore c).res ≤ 1 ∧ 0 < (s.bcore c).parked) ∧
    (∃ (s : State) (c : Nat), s.bcRuns c = true ∧ (s.bcore c).fp = 7) ∧
    (∃ (s : State) (c : Nat), s.bcRuns c = true ∧ (s.bcore c).res ≤ 1 ∧ (s.bcore c).parked = 0) ∧
    (∃ (s : State) (c : Nat), s.bcRuns c = true ∧ 3 < (s.bcore c).res ∧ (s.bcore c).parked + 3 < 2 ^ 16) ∧
    (∃ (s : State) (c : Nat), s.bcRuns c = true ∧ (s.bcore c).res ≤ 4 ∧ (s.bcore c).parked = 1) :=
  ⟨⟨mkB id, 0, by decide +kernel⟩,
   ⟨mkB (fun b => {b with res := 7}), 0, by decide +kernel⟩,
   ⟨mkB (fun b => {b with res := 7}), 0, by decide +kernel⟩,
   ⟨mkB (fun b => {b with res := 1, parked := 2, fp := 6}), 0, by decide +kernel⟩,
   ⟨mkB (fun b => {b with res := 4, parked := 1, fp := 7, held := true}), 0, by decide +kernel⟩,
   ⟨mkB id, 0, by decide +kernel⟩,
   ⟨mkB (fun b => {b with res := 7}), 0, by decide +kernel⟩,
   ⟨mkB (fun b => {b with res := 4, parked := 1, fp := 7, held := true}), 0, by decide +kernel⟩⟩

/-- The hypotheses of BridgeCoresAtWork can be met, clause by clause. -/
theorem witness_bridgeCoresAtWork :
    (∃ (s : State) (c : Nat), s.bcRuns c = true ∧ (s.bcore c).reseed = false ∧ (s.bcore c).event = false ∧ (s.bcore c).qsel = 0 ∧ s.partnerFollows = false) ∧
    (∃ (s : State) (c : Nat), s.bcRuns c = true ∧ (s.bcore c).reseed = false ∧ (s.bcore c).event = true ∧ (s.bcore c).held = false ∧ (s.bcore c).qsel = 0 ∧ s.partnerFollows = false) ∧
    (∃ (s : State) (c : Nat) (addr : Nat), s.bcRuns c = true ∧ s.flt.paths.contains (40 + c) = false ∧ s.lockAllowed (40 + c) addr 4 = true ∧ s.blocked ((addr - 268435456) / 8388608) { master := 40 + c, access := MemAcc.lockRead 4, addr := addr, since := s.clk.now } = false) ∧
    (∃ (s : State) (c : Nat) (addr : Nat), s.bcRuns c = true ∧ s.lockAllowed (40 + c) addr 4 = false) :=
  ⟨⟨mkB id, 0, by decide +kernel⟩,
   ⟨mkB (fun b => {b with event := true}), 0, by decide +kernel⟩,
   ⟨mkB id, 0, 268435456, by decide +kernel⟩,
   ⟨mkB id, 0, 0, by decide +kernel⟩⟩

/-- The hypotheses of BridgeLoads can be met, clause by clause. -/
theorem witness_bridgeLoads :
    (∃ (s : State) (q : Nat) (cmd : RingCmd), (s.hostRing q).cmd = some cmd ∧ cmd.op = 18 ∧ cmd.began = false ∧ (¬(s.opMode = 1 ∨ s.opMode = 2 ∨ s.opMode = 4 ∨ s.opMode = 5))) ∧
    (∃ (s : State) (q : Nat) (cmd : RingCmd), (s.hostRing q).cmd = some cmd ∧ cmd.op = 18 ∧ cmd.began = false ∧ (s.opMode = 1 ∨ s.opMode = 2 ∨ s.opMode = 4 ∨ s.opMode = 5) ∧ 131072 < cmd.a 4) ∧
    (∃ (s : State) (q : Nat) (image : Option (List Byte)) (cmd : RingCmd), (s.hostRing q).cmd = some cmd ∧ cmd.op = 18 ∧ cmd.began = false ∧ (s.opMode = 1 ∨ s.opMode = 2 ∨ s.opMode = 4 ∨ s.opMode = 5) ∧ cmd.a 4 ≤ 131072 ∧ (s.bcore (cmd.a 0 % 2)).load = none ∧ bit (cmd.a 0) 1 = false ∧ 0 < cmd.a 4 ∧ (image = none ∨ s.hostReadable = false)) ∧
    (∃ (s : State) (q : Nat) (image : Option (List Byte)) (cmd : RingCmd) (bs : List Byte), (s.hostRing q).cmd = some cmd ∧ cmd.op = 18 ∧ cmd.began = false ∧ (s.opMode = 1 ∨ s.opMode = 2 ∨ s.opMode = 4 ∨ s.opMode = 5) ∧ cmd.a 4 ≤ 131072 ∧ (s.bcore (cmd.a 0 % 2)).load = none ∧ bit (cmd.a 0) 1 = false ∧ image = some bs ∧ s.hostReadable = true ∧ bs.length = 4 * cmd.a 4 ∧ 0 < cmd.a 4 ∧ crc32 bs ≠ cmd.a 5) ∧
    (∃ (s : State) (q : Nat) (image : Option (List Byte)) (cmd : RingCmd) (bs : List Byte), (s.hostRing q).cmd = some cmd ∧ cmd.op = 18 ∧ cmd.began = false ∧ (s.opMode = 1 ∨ s.opMode = 2 ∨ s.opMode = 4 ∨ s.opMode = 5) ∧ cmd.a 4 ≤ 131072 ∧ (s.bcore (cmd.a 0 % 2)).load = none ∧ bit (cmd.a 0) 1 = false ∧ image = some bs ∧ s.hostReadable = true ∧ bs.length = 4 * cmd.a 4 ∧ 0 < cmd.a 4 ∧ crc32 bs = cmd.a 5) ∧
    (∃ (s : State) (c : Nat) (mask : Nat) (ws : List Nat), c < 2 ∧ (s.bcore c).load = some (mask, ws) ∧ (s.bcore c).ready = false ∧ (s.bcore c).since ≠ s.idx ∧ ws ≠ [] ∧ ws.length ≤ 131072) ∧
    (∃ (s : State) (c : Nat) (mask : Nat) (ws : List Nat), c < 2 ∧ (s.bcore c).load = some (mask, ws) ∧ (s.bcore c).ready = true ∧ (s.bcore c).since ≠ s.idx) :=
  ⟨⟨(sts2).getD 2 State.reset, 1, { seq := 3, op := 18, words := [3, 0x12, 0, 0, 0, 5, 0x40, 0, 2, 0x88aa689f, 0, 0, 0, 0, 0, 0], began := false, mute := false }, by decide +kernel⟩,
   ⟨(sts2).getD 8 State.reset, 1, { seq := 3, op := 18, words := [3, 0x12, 0, 0, 1, 5, 0x40, 0, 0x20001, 7, 0, 0, 0, 0, 0, 0], began := false, mute := false }, by decide +kernel⟩,
   ⟨(sts2).getD 0 State.reset, 1, none, { seq := 3, op := 18, words := [3, 0x12, 0, 0, 0, 5, 0x40, 0, 2, 0x88aa689f, 0, 0, 0, 0, 0, 0], began := false, mute := false }, by decide +kernel⟩,
   ⟨(sts2).getD 4 State.reset, 1, some [0, 1, 2, 3, 4, 5, 6, 7], { seq := 3, op := 18, words := [3, 0x12, 0, 0, 1, 5, 0x40, 0, 2, 7, 0, 0, 0, 0, 0, 0], began := false, mute := false }, [0, 1, 2, 3, 4, 5, 6, 7], by decide +kernel⟩,
   ⟨(sts2).getD 0 State.reset, 1, some [0, 1, 2, 3, 4, 5, 6, 7], { seq := 3, op := 18, words := [3, 0x12, 0, 0, 0, 5, 0x40, 0, 2, 0x88aa689f, 0, 0, 0, 0, 0, 0], began := false, mute := false }, [0, 1, 2, 3, 4, 5, 6, 7], by decide +kernel⟩,
   ⟨ring 1 {cmd := some {cm 3 0x12 [0, 5, 64, 0, 2, 7] with began := true}} (up (mkB (fun b => {b with load := some (5, [1,2,3,2^25+3]), since := 9, ring := 1}))), 0, 5, [1, 2, 3, 33554435], by decide +kernel⟩,
   ⟨ring 1 {cmd := some {cm 3 0x12 [0, 5, 64, 0, 2, 7] with began := true}} (up (mkB (fun b => {b with load := some (5, [1,2,3,2^25+3]), since := 9, ring := 1, ready := true}))), 0, 5, [1, 2, 3, 33554435], by decide +kernel⟩⟩

end Sys2Proof.Tests.W07

namespace Sys2Proof.Tests.W08a
open Sys2Proof.Tests
def hs (f : HostIf → HostIf) (s : State) : State := { s with host := f s.host }
def up (s : State) : State := hs (fun h => { h with busMaster := true, linkUp := true }) s
def ring (q : Nat) (r : HostRing) (s : State) : State := hs (fun h => { h with rings := tput {} h.rings q r }) s
def wsOf (seq op epoch : Nat) (l : List Nat) : List Word := (([seq, op, epoch, 0] ++ l ++ List.replicate 16 0).take 16).map (BitVec.ofNat 32)
def cm (a : List Nat) : RingCmd := { seq := 3, op := 0x10, words := wsOf 3 0x10 0 a }
def sl (i st : Nat) (x : Slot) (s : State) : State := (s.setSlot i fun _ => x).put Reg.SLOT_STATE i st
def mv (addr v : Nat) (d : Nat := 0) : SMove := { target := {kind := 1, addr := addr}, value := v, rule := 1, dur := 0, tag := 0, derive := d }
def RQ : List State := [[2 + 16*3, 3,0,0,0], [3+16*3,0,0,0,0], [4+16*3,0,0,0,0], [5+16*3, 0x40,0,0,0], [5+16*3, 0x40,0,0x30,0], [6+16*3, 0x40,0,1,0]].flatMap fun a => 
  let r := fun s => ring 1 {cmd := some (cm a)} s
  [r (up (running 4)), r (sl 3 1 {} (up (running 4))), r (sl 3 1 {moves := [mv 0 0x100]} (up (running 4))), r (sl 3 1 {moves := [mv 0 0x100 5]} (running 5)), r (sl 3 3 {moves := [mv 0 0x100]} (up (running 4))),
   r (sl 3 1 {moves := [mv (4096*1) 0x100, mv (4096*0+0x801) 0x100, mv (4096*1+0x802) 0x100, mv (4096*2+0x803) 0x100, mv (4096*3+0x804) 0x100]} (running 4)),
   r (sl 3 4 {moves := [mv 0 0x100], fired := true} (up { (running 4) with eph := { State.reset.eph with entries := [{time := 7, kind := .commit 3, handle := 2}, {time := 5, kind := .commit 4, handle := 2}] } })),
   r (sl 3 1 {} (up ({ (running 4) with scn := { State.reset.scn with load := some { who := .ring 0, slot := 2, dram := false, addr := 0x40, cvu := 0 } } }))) ]
def full : State := (List.range 16).foldl (fun s i => sl i (1 + i % 5) {} s) (running 4)

/-- The hypotheses of SlotCommands can be met, clause by clause. -/
theorem witness_slotCommands :
    (∃ (s : State) (p : Plane) (slot : Nat) (i : Nat), s.getP p Reg.SCNC_CMD_BUSY = 0 ∧ slot < 32 ∧ s.stagingOff = false ∧ (List.find? (fun j => s.slotState j == 0) (List.range 16) = some i)) ∧
    (∃ (s : State) (p : Plane) (slot : Nat), s.getP p Reg.SCNC_CMD_BUSY = 0 ∧ slot < 32 ∧ s.stagingOff = false ∧ (∀ (i : Nat), i < 16 → s.slotState i ≠ 0)) ∧
    (∃ (s : State) (p : Plane) (slot : Nat), s.getP p Reg.SCNC_CMD_BUSY = 0 ∧ slot < 32 ∧ s.stagingOff = false ∧ 16 ≤ slot) ∧
    (∃ (s : State) (p : Plane) (slot : Nat), s.getP p Reg.SCNC_CMD_BUSY = 0 ∧ slot < 32 ∧ s.stagingOff = false ∧ slot < 16 ∧ (s.slotState slot = 0 ∨ s.slotState slot = 5)) ∧
    (∃ (s : State) (p : Plane) (slot : Nat), s.getP p Reg.SCNC_CMD_BUSY = 0 ∧ slot < 32 ∧ s.stagingOff = true ∧ s.pageDark 81 = false) ∧
    (∃ (s : State) (q : Nat) (i : Nat) (c : RingCmd), s.ringCmd q 16 = some c ∧ bits (c.a 0) 8 4 = i ∧ i < 16 ∧ s.stagingOff = false ∧ s.partnerFollows = false ∧ s.scn.load = none ∧ bits (c.a 0) 3 0 = 2 ∧ c.a 1 = 3 ∧ s.slotState i = 1 ∧ (s.slot i).failed = 0 ∧ s.admission s.stagedMoves (s.slot i).moves = 0) ∧
    (∃ (s : State) (q : Nat) (i : Nat) (c : RingCmd) (st : Nat), s.ringCmd q 16 = some c ∧ bits (c.a 0) 8 4 = i ∧ i < 16 ∧ s.stagingOff = false ∧ s.partnerFollows = false ∧ s.scn.load = none ∧ bits (c.a 0) 3 0 = 2 ∧ c.a 1 = 3 ∧ s.slotState i = 1 ∧ (s.slot i).failed = 0 ∧ st ≠ 0 ∧ s.admission s.stagedMoves (s.slot i).moves = st) ∧
    (∃ (s : State) (q : Nat) (i : Nat) (c : RingCmd), s.ringCmd q 16 = some c ∧ bits (c.a 0) 8 4 = i ∧ i < 16 ∧ s.stagingOff = false ∧ s.partnerFollows = false ∧ s.scn.load = none ∧ bits (c.a 0) 3 0 = 2 ∧ c.a 1 = 3 ∧ s.slotState i ≠ 1) ∧
    (∃ (s : State) (q : Nat) (i : Nat) (c : RingCmd), s.ringCmd q 16 = some c ∧ bits (c.a 0) 8 4 = i ∧ i < 16 ∧ s.stagingOff = false ∧ s.partnerFollows = false ∧ s.scn.load = none ∧ bits (c.a 0) 3 0 = 3 ∧ c.a 1 = 0 ∧ s.slotState i = 3 ∧ (s.opMode = 4 ∨ s.opMode = 5)) ∧
    (∃ (s : State) (q : Nat) (i : Nat) (c : RingCmd), s.ringCmd q 16 = some c ∧ bits (c.a 0) 8 4 = i ∧ i < 16 ∧ s.stagingOff = false ∧ s.partnerFollows = false ∧ s.scn.load = none ∧ bits (c.a 0) 3 0 = 3 ∧ c.a 1 = 0 ∧ s.slotState i ≠ 3) ∧
    (∃ (s : State) (q : Nat) (i : Nat) (c : RingCmd), s.ringCmd q 16 = some c ∧ bits (c.a 0) 8 4 = i ∧ i < 16 ∧ s.stagingOff = false ∧ s.partnerFollows = false ∧ s.scn.load = none ∧ bits (c.a 0) 3 0 = 4 ∧ 1 ≤ s.slotState i ∧ s.slotState i ≤ 4) :=
  ⟨⟨State.reset, Plane.host, 0, 0, by decide +kernel⟩,
   ⟨full, Plane.host, 0, by decide +kernel⟩,
   ⟨State.reset, Plane.host, 16, by decide +kernel⟩,
   ⟨State.reset, Plane.host, 0, by decide +kernel⟩,
   ⟨running 3, Plane.host, 0, by decide +kernel⟩,
   ⟨(RQ).getD 1 State.reset, 1, 3, { seq := 3, op := 16, words := [3, 0x10, 0, 0, 0x32, 3, 0, 0, 0, 0, 0, 0, 0, 0, 0, 0], began := false, mute := false }, by decide +kernel⟩,
   ⟨(RQ).getD 5 State.reset, 1, 3, { seq := 3, op := 16, words := [3, 0x10, 0, 0, 0x32, 3, 0, 0, 0, 0, 0, 0, 0, 0, 0, 0], began := false, mute := false }, 69, by decide +kernel⟩,
   ⟨(RQ).getD 0 State.reset, 1, 3, { seq := 3, op := 16, words := [3, 0x10, 0, 0, 0x32, 3, 0, 0, 0, 0, 0, 0, 0, 0, 0, 0], began := false, mute := false }, by decide +kernel⟩,
   ⟨(RQ).getD 12 State.reset, 1, 3, { seq := 3, op := 16, words := [3, 0x10, 0, 0, 0x33, 0, 0, 0, 0, 0, 0, 0, 0, 0, 0, 0], began := false, mute := false }, by decide +kernel⟩,
   ⟨(RQ).getD 8 State.reset, 1, 3, { seq := 3, op := 16, words := [3, 0x10, 0, 0, 0x33, 0, 0, 0, 0, 0, 0, 0, 0, 0, 0, 0], began := false, mute := false }, by decide +kernel⟩,
   ⟨(RQ).getD 17 State.reset, 1, 3, { seq := 3, op := 16, words := [3, 0x10, 0, 0, 0x34, 0, 0, 0, 0, 0, 0, 0, 0, 0, 0, 0], began := false, mute := false }, by decide +kernel⟩⟩

end Sys2Proof.Tests.W08a

namespace Sys2Proof.Tests.W08b
open Sys2Proof.Tests
def hs (f : HostIf → HostIf) (s : State) : State := { s with host := f s.host }
def up (s : State) : State := hs (fun h => { h with busMaster := true, linkUp := true }) s
def ring (q : Nat) (r : HostRing) (s : State) : State := hs (fun h => { h with rings := tput {} h.rings q r }) s
def wsOf (seq op epoch : Nat) (l : List Nat) : List Word := (([seq, op, epoch, 0] ++ l ++ List.replicate 16 0).take 16).map (BitVec.ofNat 32)
def cm (a : List Nat) : RingCmd := { seq := 3, op := 0x10, words := wsOf 3 0x10 0 a }
def sl (i st : Nat) (x : Slot) (s : State) : State := (s.setSlot i fun _ => x).put Reg.SLOT_STATE i st
def mv (addr v : Nat) (d : Nat := 0) : SMove := { target := {kind := 1, addr := addr}, value := v, rule := 1, dur := 0, tag := 0, derive := d }
def rec1 (id v : Nat) : List Nat := [0x10000000 + id, v, 0x10000000, 7]
def hd (n scene : Nat) (prog : Nat) : List Nat := [0x50534331, scene, n, 0x10000, prog, 0,0,0,0,0,0,0,0,0]
def imgOf (n scene prog : Nat) (recs : List Nat) : List Byte := let a := wordBytes (hd n scene prog); let b := wordBytes recs; a ++ leBytes 8 (crc64 (a ++ b)) ++ b
def I1 := imgOf 1 5 0 (rec1 0 0x100)
def I2 := imgOf 1 0 0 (rec1 0 0x100)
def RQ : List State := [[2 + 16*3, 3,0,0,0], [3+16*3,0,0,0,0], [4+16*3,0,0,0,0], [5+16*3, 0x40,0,0,0], [5+16*3, 0x40,0,0x30,0], [6+16*3, 0x40,0,1,0]].flatMap fun a => 
  let r := fun s => ring 1 {cmd := some (cm a)} s
  [r (up (running 4)), r (sl 3 1 {} (up (running 4))), r (sl 3 1 {moves := [mv 0 0x100]} (up (running 4))), r (sl 3 1 {moves := [mv 0 0x100 5]} (running 5)), r (sl 3 3 {moves := [mv 0 0x100]} (up (running 4))),
   r (sl 3 1 {moves := [mv (4096*1) 0x100, mv (4096*0+0x801) 0x100, mv (4096*1+0x802) 0x100, mv (4096*2+0x803) 0x100, mv (4096*3+0x804) 0x100]} (running 4)),
   r (sl 3 4 {moves := [mv 0 0x100], fired := true} (up { (running 4) with eph := { State.reset.eph with entries := [{time := 7, kind := .commit 3, handle := 2}, {time := 5, kind := .commit 4, handle := 2}] } })),
   r (sl 3 1 {} (up ({ (running 4) with scn := { State.reset.scn with load := some { who := .ring 0, slot := 2, dram := false, addr := 0x40, cvu := 0 } } }))) ]
def LD (im : Bool) : List State := [ring 1 {cmd := some {cm [5+16*3, 0x40, 0, 0, 0] with began := true}} (((sl 3 1 {} (up ({ (running 4) with scn := { State.reset.scn with load := some { who := .ring 1, slot := 3, dram := false, addr := 0x40, cvu := 2 } } })))).cvuClaim 2)]
def H (l : ImageLoad) (s : State) (b : List Byte) : State := (((s.put Reg.SLOT_IMAGE l.slot 1).put Reg.SLOT_SCENE l.slot (imgHead b).scene).cvuFeed l.cvu (b.take 0x38 ++ b.drop 64))
def s0 : State := (LD true).headD {}
def l0 : ImageLoad := { who := .ring 1, slot := 3, dram := false, addr := 0x40, cvu := 2 }
def uu := ((H l0 s0 I1).slotReceiveAll 3 0 (recsOf (leWords (I1.drop 64)))).2

/-- The hypotheses of ImagesAndMoves can be met, clause by clause. -/
theorem witness_imagesAndMoves :
    (∃ (s : State) (q : Nat) (i : Nat) (c : RingCmd), s.ringCmd q 16 = some c ∧ bits (c.a 0) 8 4 = i ∧ i < 16 ∧ s.stagingOff = false ∧ bits (c.a 0) 3 0 = 5 ∧ imageAddrOk (c.a 3 % 2 == 1) (argAddr (c.a 1) (c.a 2) 6) = true ∧ s.slotState i = 1 ∧ (s.slot i).moves = [] ∧ s.scn.load = none ∧ s.getB Reg.CVU_EN (bits (c.a 3) 5 4) = false ∧ s.getB Reg.CVU_CLAIMED (bits (c.a 3) 5 4) = false) ∧
    (∃ (s : State) (q : Nat) (i : Nat) (c : RingCmd), s.ringCmd q 16 = some c ∧ bits (c.a 0) 8 4 = i ∧ i < 16 ∧ s.stagingOff = false ∧ bits (c.a 0) 3 0 = 5 ∧ imageAddrOk (c.a 3 % 2 == 1) (argAddr (c.a 1) (c.a 2) 6) = true ∧ s.slotState i = 1 ∧ (s.slot i).moves = [] ∧ s.scn.load ≠ none ∧ s.partnerFollows = false) ∧
    (∃ (s : State) (q : Nat) (i : Nat) (c : RingCmd) (ws : List Word), s.ringCmd q 16 = some c ∧ bits (c.a 0) 8 4 = i ∧ i < 16 ∧ s.stagingOff = false ∧ bits (c.a 0) 3 0 = 6 ∧ s.slotState i = 1 ∧ 1 ≤ c.a 3 % 8192 ∧ c.a 3 % 8192 ≤ 4096 ∧ s.hostReadable = true ∧ ws.length = 4 * (c.a 3 % 8192)) ∧
    (∃ (s : State) (q : Nat) (l : ImageLoad) (image : List Byte), s.scn.load = some l ∧ l.closing = false ∧ l.who = Origin.ring q ∧ l.dram = false ∧ l.slot < 16 ∧ s.hostReadable = true ∧ s.partnerFollows = false ∧ image.length = 64 + 16 * (imgHead (List.take 64 image)).count ∧ (imgHead (List.take (64 + 16 * (imgHead (List.take 64 image)).count) image)).good = false) ∧
    (∃ (s : State) (q : Nat) (l : ImageLoad) (image : List Byte) (u : State) (v : State), s.scn.load = some l ∧ l.closing = false ∧ l.who = Origin.ring q ∧ l.dram = false ∧ l.slot < 16 ∧ s.hostReadable = true ∧ s.partnerFollows = false ∧ image.length = 64 + 16 * (imgHead (List.take 64 image)).count ∧ (imgHead (List.take (64 + 16 * (imgHead (List.take 64 image)).count) image)).good = true ∧ (imgHead (List.take (64 + 16 * (imgHead (List.take 64 image)).count) image)).prog = 0 ∧ (((s.put Reg.SLOT_IMAGE l.slot 1).put Reg.SLOT_SCENE l.slot (imgHead (List.take (64 + 16 * (imgHead (List.take 64 image)).count) image)).scene).cvuFeed l.cvu (List.take 56 (List.take (64 + 16 * (imgHead (List.take 64 image)).count) image) ++ List.drop 64 (List.take (64 + 16 * (imgHead (List.take 64 image)).count) image))).slotReceiveAll l.slot 0 (recsOf (leWords (List.drop 64 (List.take (64 + 16 * (imgHead (List.take 64 image)).count) image)))) = ((0, 0), u) ∧ u.cvuResult l.cvu = (imgHead (List.take (64 + 16 * (imgHead (List.take 64 image)).count) image)).check ∧ u.closeSlot l.slot = (0, v) ∧ v.slotState l.slot = 2 ∧ (((v.slot l.slot).moves.all fun x => x.derive == 0) = true)) :=
  ⟨⟨(RQ).getD 25 State.reset, 1, 3, { seq := 3, op := 16, words := [3, 0x10, 0, 0, 0x35, 0x40, 0, 0, 0, 0, 0, 0, 0, 0, 0, 0], began := false, mute := false }, by decide +kernel⟩,
   ⟨(RQ).getD 31 State.reset, 1, 3, { seq := 3, op := 16, words := [3, 0x10, 0, 0, 0x35, 0x40, 0, 0, 0, 0, 0, 0, 0, 0, 0, 0], began := false, mute := false }, by decide +kernel⟩,
   ⟨(RQ).getD 41 State.reset, 1, 3, { seq := 3, op := 16, words := [3, 0x10, 0, 0, 0x36, 0x40, 0, 1, 0, 0, 0, 0, 0, 0, 0, 0], began := false, mute := false }, [0x10000000, 0x100, 0x10000000, 7], by decide +kernel⟩,
   ⟨(LD true).getD 0 State.reset, 1, { who := Origin.ring 1, slot := 3, dram := false, addr := 64, cvu := 2, closing := false }, I2, by decide +kernel⟩,
   ⟨(LD true).getD 0 State.reset, 1, { who := Origin.ring 1, slot := 3, dram := false, addr := 64, cvu := 2, closing := false }, I1, uu, (uu.closeSlot 3).2, by decide +kernel⟩⟩

end Sys2Proof.Tests.W08b

namespace Sys2Proof.Tests.W08c
open Sys2Proof.Tests
def sl (i st : Nat) (x : Slot) (s : State) : State := (s.setSlot i fun _ => x).put Reg.SLOT_STATE i st
def mv (addr v : Nat) (d : Nat := 0) : SMove := { target := {kind := 1, addr := addr}, value := v, rule := 1, dur := 0, tag := 0, derive := d }
def prt (p : Plane) (w : List Nat) (s : State) : State := (w.zipIdx).foldl (fun s x => s.putP p Reg.SCNC_PORT_W x.2 x.1) s
def rec1 (id v : Nat) : List Nat := [0x10000000 + id, v, 0x10000000, 7]

/-- The hypotheses of PortsLiveLaneAndCutoff can be met, clause by clause. -/
theorem witness_portsLiveLaneAndCutoff :
    (∃ (s : State), s.opMode ≠ 3 ∧ s.partnerFollows = false) ∧
    (∃ (s : State), s.opMode = 3) ∧
    (∃ (s : State) (p : Plane) (lane : Nat) (m : SMove), lane < 16 ∧ s.domState 3 = 3 ∧ s.stagingOff = false ∧ s.slotState lane = 1 ∧ (s.checkReceipt lane (recOf (List.map (fun i => s.getP p Reg.SCNC_PORT_W i) (List.range 4))) = (0, some m))) ∧
    (∃ (s : State) (lane : Nat), lane < 16 ∧ s.domState 3 = 3 ∧ s.stagingOff = false ∧ s.slotState lane ≠ 1) ∧
    (∃ (s : State) (off : Nat) (v : Word) (m : SMove), off % 4 = 0 ∧ regWriteMask off ≠ 0 ∧ s.domState (pageDomain (off / 4096)) = 3 ∧ s.partnerFollows = false ∧ s.checkReceipt 16 (liveRec off (BitVec.toNat v)) = (0, some m) ∧ s.admission s.stagedMoves [m] = 0 ∧ (∀ (x : SMove × Option Nat), x ∈ s.scn.live → x.fst.target ≠ m.target) ∧ (s.opMode = 4 ∨ s.opMode = 5)) ∧
    (∃ (s : State) (v : Word) (m : SMove), s.domState 3 = 3 ∧ s.opMode = 2 ∧ s.scn.live = [] ∧ s.checkReceipt 16 (liveRec (fldAt Reg.MTR_BASE_HI 0) (BitVec.toNat v)) = (0, some m) ∧ s.admission s.stagedMoves [m] = 0) ∧
    (∃ (s : State) (off : Nat), off % 4 = 0 ∧ regWriteMask off ≠ 0 ∧ s.domState (pageDomain (off / 4096)) = 3 ∧ off < 2 ^ 24 ∧ s.stagingOff = true) ∧
    (∃ (s : State) (i : Nat) (word : Nat), i < 16 ∧ s.slotState i = 2 ∧ s.scn.load = none ∧ s.get Reg.SLOT_TRIG i = 3 ∧ (s.opMode = 4 ∨ s.opMode = 5) ∧ (∀ (m : SMove), m ∈ (s.slot i).moves → m.derive = 0 ∨ m.target.kind = 0 ∧ m.target.addr = word)) :=
  ⟨⟨State.reset, by decide +kernel⟩,
   ⟨running 3, by decide +kernel⟩,
   ⟨prt .host (rec1 0 0x100) (prt .mgmt (rec1 0 0x100) (sl 0 1 {} (sl 15 1 {moves := [mv 3 3]} (running 4)))), Plane.host, 0, { target := { kind := 1, addr := 0 }, value := 256, rule := 1, dur := 0, tag := 7, derive := 0 }, by decide +kernel⟩,
   ⟨running 4, 0, by decide +kernel⟩,
   ⟨running 4, 286792, 0, { target := { kind := 2, addr := 286792 }, value := 0, rule := 1, dur := 0, tag := 0, derive := 0 }, by decide +kernel⟩,
   ⟨base 2, 0, { target := { kind := 2, addr := 286792 }, value := 0, rule := 1, dur := 0, tag := 0, derive := 0 }, by decide +kernel⟩,
   ⟨running 3, 286792, by decide +kernel⟩,
   ⟨sl 0 2 {moves := [mv 0 1]} ((running 4).put Reg.SLOT_TRIG 0 3), 0, 0, by decide +kernel⟩⟩

end Sys2Proof.Tests.W08c

namespace Sys2Proof.Tests.W09
open Sys2Proof.Tests
def ep (f : Eph → Eph) (s : State) : State := { s with eph := f s.eph }
def pt (f : PtpClk → PtpClk) (s : State) : State := { s with ptp := f s.ptp }
def at_ (n : Nat) (s : State) : State := { s with clk := { s.clk with now := n } }
def pu (l : List (Fld × Nat)) (s : State) : State := l.foldl (fun s x => (s.putP .host x.1 0 x.2).putP .mgmt x.1 0 x.2) s
def cue (k w pol line w1 w2 w3 : Nat) (s : State) : State := pu [(Reg.EPH_KIND, k), (Reg.EPH_WIDTH, w), (Reg.EPH_POL, pol), (Reg.EPH_LINE, line), (Reg.EPH_W1, w1), (Reg.EPH_W2, w2), (Reg.EPH_W3, w3)] s
def rs (s : State) : State := pt (fun p => { p with run := true }) s
def ce (t : Nat) (h : Nat) (pol : Bool) : EphEntry := { time := t, kind := .cueOut 2 pol 5, handle := h }
def sl (i st : Nat) (x : Slot) (s : State) : State := (s.setSlot i fun _ => x).put Reg.SLOT_STATE i st

/-- The hypotheses of EphemerisAndCues can be met, clause by clause. -/
theorem witness_ephemerisAndCues :
    (∃ (s : State) (p : Plane) (v : Word), s.domState 3 = 3 ∧ BitVec.toNat v % 2 = 1 ∧ (¬(s.getP p Reg.EPH_KIND = 2 ∧ s.getP p Reg.EPH_WIDTH ≠ 0 ∧ s.getP p Reg.EPH_W3 < 1000000000))) ∧
    (∃ (s : State) (p : Plane) (v : Word), s.domState 3 = 3 ∧ BitVec.toNat v % 2 = 1 ∧ (s.getP p Reg.EPH_KIND = 2 ∧ s.getP p Reg.EPH_WIDTH ≠ 0 ∧ s.getP p Reg.EPH_W3 < 1000000000) ∧ s.ephRoom = false) ∧
    (∃ (s : State) (p : Plane) (v : Word), s.domState 3 = 3 ∧ BitVec.toNat v % 2 = 1 ∧ (s.getP p Reg.EPH_KIND = 2 ∧ s.getP p Reg.EPH_WIDTH ≠ 0 ∧ s.getP p Reg.EPH_W3 < 1000000000) ∧ s.ephRoom = true ∧ statedTime (s.getP p Reg.EPH_W1) (s.getP p Reg.EPH_W2) (s.getP p Reg.EPH_W3) < s.thirds + 512) ∧
    (∃ (s : State) (p : Plane) (v : Word), s.domState 3 = 3 ∧ BitVec.toNat v % 2 = 1 ∧ (s.getP p Reg.EPH_KIND = 2 ∧ s.getP p Reg.EPH_WIDTH ≠ 0 ∧ s.getP p Reg.EPH_W3 < 1000000000) ∧ s.ephRoom = true ∧ s.thirds + 512 ≤ statedTime (s.getP p Reg.EPH_W1) (s.getP p Reg.EPH_W2) (s.getP p Reg.EPH_W3)) ∧
    (∃ (s : State) (x : EphEntry) (line : Nat) (width : Nat) (pol : Bool), List.find? isCueOut s.eph.entries = some x ∧ x.kind = EphKind.cueOut line pol width ∧ x.passed = false ∧ s.ptp.run = true ∧ (∀ (y : Pulse), y ∈ s.eph.pulses → y.line ≠ line)) ∧
    (∃ (s : State) (line : Nat), List.filter (fun x => x.line == line) s.eph.pulses = []) ∧
    (∃ (s : State) (line : Nat) (y : Pulse), s.eph.pulses = [y] ∧ y.line = line) ∧
    (∃ (s : State) (line : Nat) (i : Nat) (level : Bool), line < 4 ∧ i < 16 ∧ s.onBall 10 line = true ∧ s.getB Reg.SCNQ_CUE_EN line = true ∧ s.get Reg.SLOT_TRIG i = 2 ∧ s.slotState i = 4 ∧ (s.slot i).fired = false ∧ (s.slot i).cue = line ∧ ((s.slot i).edge = if level = true then 0 else 1)) ∧
    (∃ (s : State) (slot : Nat) (x : EphEntry), List.find? (isCommitOf slot) s.eph.entries = some x ∧ x.passed = false ∧ x.time ≤ s.ptp.thirdsAt s.nextBoundary) ∧
    (∃ (s : State) (x : EphEntry) (xs : List EphEntry), s.domState 3 = 3 ∧ s.eph.entries = x :: xs) :=
  ⟨⟨rs (cue 1 5 1 3 1 0 5 (running 4)), Plane.host, 1, by decide +kernel⟩,
   ⟨ep (fun e => {e with entries := (List.range 3840).map (fun i => ce (i + 1000) i true)}) (rs (cue 2 5 0 3 9 0 9 (running 4))), Plane.host, 1, by decide +kernel⟩,
   ⟨rs (cue 2 5 1 3 0 0 0 (at_ 99999 (running 4))), Plane.host, 1, by decide +kernel⟩,
   ⟨rs (cue 2 5 1 3 1 0 5 (running 4)), Plane.host, 1, by decide +kernel⟩,
   ⟨ep (fun e => {e with entries := [ce 9000 5 true, ce 9000 6 false, {time := 9000, kind := .commit 3, handle := 0}], handles := 7}) (rs (cue 2 5 0 3 9 0 9 (running 4))), { time := 9000, kind := EphKind.cueOut 2 true 5, handle := 5, passed := false }, 2, 5, true, by decide +kernel⟩,
   ⟨State.reset, 0, by decide +kernel⟩,
   ⟨ep (fun e => {e with pulses := [{line := 2, pol := true, start := 5, stop := 77}]}) (rs (running 4)), 2, { line := 2, pol := true, start := 5, stop := 77 }, by decide +kernel⟩,
   ⟨(sl 3 4 {cue := 2, edge := 0} (((running 4).put Reg.SLOT_TRIG 3 2).put Reg.SCNQ_CUE_EN 2 1)).put Reg.PMUX_FUNC 9 0x0A |>.put Reg.PMUX_INDEX 9 2, 2, 3, true, by decide +kernel⟩,
   ⟨ep (fun e => {e with entries := [ce 9000 5 true, ce 9000 6 false, {time := 9000, kind := .commit 3, handle := 0}], handles := 7}) (rs (cue 2 5 0 3 9 0 9 (running 4))), 3, { time := 9000, kind := EphKind.commit 3, handle := 0, passed := false }, by decide +kernel⟩,
   ⟨ep (fun e => {e with entries := [ce 9000 5 true, ce 9000 6 false, {time := 9000, kind := .commit 3, handle := 0}], handles := 7}) (rs (cue 2 5 0 3 9 0 9 (running 4))), { time := 9000, kind := EphKind.cueOut 2 true 5, handle := 5, passed := false }, [{ time := 9000, kind := EphKind.cueOut 2 false 5, handle := 6, passed := false }, { time := 9000, kind := EphKind.commit 3, handle := 0, passed := false }], by decide +kernel⟩⟩

end Sys2Proof.Tests.W09

namespace Sys2Proof.Tests.W09b
open Sys2Proof.Tests
def hl (f : Hel → Hel) (s : State) : State := { s with hel := f s.hel }
def hst (k : Nat) (s : State) : State := s.put Reg.HEL_STATE 0 k
def c0 (c v : Nat) (s : State) : State := s.put Reg.HEL_PROV_C0 c v

/-- The hypotheses of HeliostatCandidatesAndTimers can be met, clause by clause. -/
theorem witness_heliostatCandidatesAndTimers :
    (∃ (s : State) (c : Nat), c < 8 ∧ s.opMode = 0 ∧ (s.cand c).since = none) ∧
    (∃ (s : State) (c : Nat), c < 8 ∧ s.opMode = 0 ∧ (s.cand c).since ≠ none) ∧
    (∃ (s : State) (c : Nat), c < 8 ∧ s.opMode ≠ 0 ∧ s.candEn c = true ∧ (s.cand c).since = none ∧ s.get Reg.HEL_STATUS c = 0) ∧
    (∃ (s : State), s.opMode ≠ 0 ∧ s.helState = 1) ∧
    (∃ (s : State), s.opMode ≠ 0 ∧ s.helState = 3) ∧
    (∃ (s : State) (a : Nat), s.opMode ≠ 0 ∧ s.helState = 2 ∧ s.helWtr ≠ 0 ∧ ((s.candsBy fun c => s.get Reg.HEL_STATUS c == 2 && decide (s.candPrio c < s.candPrio s.helSel)) = [a])) :=
  ⟨⟨base 0, 0, by decide +kernel⟩,
   ⟨hl (fun h => {h with cands := [(0, {since := some 5, last := 7, meas := true}), (7, {since := some 5, last := 7, meas := true})]}) (base 0), 0, by decide +kernel⟩,
   ⟨(c0 3 0x80000000 (running 4)).put Reg.HEL_PROV_C1 3 0x10001, 3, by decide +kernel⟩,
   ⟨hst 1 (running 4), by decide +kernel⟩,
   ⟨hst 3 (running 4), by decide +kernel⟩,
   ⟨(c0 3 0xC1000000 (c0 1 0xC7000000 (hst 2 (running 4)))).put Reg.HEL_STATUS 3 2 |>.put Reg.HEL_SEL 0 1 |>.put Reg.HEL_PROV_G0 0 0x50000, 3, by decide +kernel⟩⟩

end Sys2Proof.Tests.W09b

namespace Sys2Proof.Tests.W09c
open Sys2Proof.Tests
def pt (f : PtpClk → PtpClk) (s : State) : State := { s with ptp := f s.ptp }
def at_ (n : Nat) (s : State) : State := { s with clk := { s.clk with now := n } }
def rs (s : State) : State := pt (fun p => { p with run := true }) s
def sv (x : Nat) (k ta tb : Nat) (s : State) : State := mk [(Reg.TIME_EN, x, 1), (Reg.TIME_KIND, x, k), (Reg.TIME_TA_NS, x, ta), (Reg.TIME_TB_NS, x, tb), (Reg.TIME_TA_SEC_LO, x, 9)] s
def dt (y m d h mi sec : Nat) (s : State) : State := mk [(Reg.CAL_YEAR,0,y),(Reg.CAL_MONTH,0,m),(Reg.CAL_DAY,0,d),(Reg.CAL_HOUR,0,h),(Reg.CAL_MINUTE,0,mi),(Reg.CAL_SECOND,0,sec)] s
def sd (y m d h mi sec : Nat) (s : State) : State := mk [(Reg.CAL_SET_YEAR,0,y),(Reg.CAL_SET_MONTH,0,m),(Reg.CAL_SET_DAY,0,d),(Reg.CAL_SET_HOUR,0,h),(Reg.CAL_SET_MINUTE,0,mi),(Reg.CAL_SET_SECOND,0,sec)] s
def civs : List Civil := [⟨2199,12,31,23,59,59⟩, ⟨2000,2,28,23,59,59⟩, ⟨2100,2,28,23,59,59⟩, ⟨2024,2,29,5,6,7⟩, ⟨2023,2,29,5,6,7⟩, ⟨2001,1,1,0,0,0⟩, ⟨2200,1,1,0,0,0⟩, ⟨1999,12,31,23,59,59⟩, ⟨2001,13,1,0,0,0⟩, ⟨2001,4,31,0,0,0⟩, ⟨2001,4,30,24,0,0⟩]
def T : Civil → State → State := fun c s => dt c.year c.month c.day c.hour c.minute c.second s
def S : Civil → State → State := fun c s => sd c.year c.month c.day c.hour c.minute c.second s
def R : State := running 4

/-- The hypotheses of PtpClockServosAndCalendar can be met, clause by clause. -/
theorem witness_ptpClockServosAndCalendar :
    (∃ (s : State), s.ptp.step = none) ∧
    (∃ (s : State) (n : Int), s.ptp.step = some n ∧ s.ptp.run = true) ∧
    (∃ (s : State) (x : Nat) (v : Word), x < 2 ∧ s.domState 3 = 3 ∧ BitVec.toNat v % 2 = 1 ∧ (s.getB Reg.TIME_EN x = false ∨ 1000000000 ≤ s.get Reg.TIME_TA_NS x ∨ 1000000000 ≤ s.get Reg.TIME_TB_NS x)) ∧
    (∃ (s : State) (x : Nat) (v : Word), x < 2 ∧ s.domState 3 = 3 ∧ BitVec.toNat v % 2 = 1 ∧ s.getB Reg.TIME_EN x = true ∧ s.get Reg.TIME_TA_NS x < 1000000000 ∧ s.get Reg.TIME_TB_NS x < 1000000000 ∧ s.get Reg.TIME_KIND x = 0 ∧ s.getB Reg.TIME_MPD_VALID x = false) ∧
    (∃ (s : State) (x : Nat) (v : Word) (q : Int), x < 2 ∧ s.domState 3 = 3 ∧ BitVec.toNat v % 2 = 1 ∧ s.getB Reg.TIME_EN x = true ∧ s.get Reg.TIME_TA_NS x < 1000000000 ∧ s.get Reg.TIME_TB_NS x < 1000000000 ∧ s.get Reg.TIME_KIND x = 1 ∧ (s.servo x).lastS = some q) ∧
    (∃ (s : State) (x : Nat), x < 2 ∧ s.getB Reg.TIME_MPD_VALID x = true) ∧
    (∃ (s : State), s.ptp.run = false) ∧
    (∃ (s : State), s.ptp.run = true ∧ s.getB Reg.CAL_TAI_UTC_ARM = false ∧ s.getB Reg.CAL_AUTO = false ∧ s.calendar.ok = true ∧ s.ptp.calSet = none ∧ s.calendar.tick.snd = true) ∧
    (∃ (s : State) (c : Civil), s.ptp.run = true ∧ s.getB Reg.CAL_TAI_UTC_ARM = false ∧ s.getB Reg.CAL_AUTO = false ∧ s.calendar.ok = true ∧ s.ptp.calSet = some (c.year, c.month, c.day, c.hour, c.minute, c.second) ∧ c.ok = true) ∧
    (∃ (s : State) (v : Word), s.domState 3 = 3 ∧ BitVec.toNat v % 2 = 0) ∧
    (∃ (s : State) (v : Word), s.domState 3 = 3 ∧ BitVec.toNat v % 2 = 1 ∧ ({ year := s.get Reg.CAL_SET_YEAR, month := s.get Reg.CAL_SET_MONTH, day := s.get Reg.CAL_SET_DAY, hour := s.get Reg.CAL_SET_HOUR, minute := s.get Reg.CAL_SET_MINUTE, second := s.get Reg.CAL_SET_SECOND } : Civil).ok = true) ∧
    (∃ (s : State) (v : Word), s.domState 3 = 3 ∧ BitVec.toNat v % 2 = 1 ∧ ({ year := s.get Reg.CAL_SET_YEAR, month := s.get Reg.CAL_SET_MONTH, day := s.get Reg.CAL_SET_DAY, hour := s.get Reg.CAL_SET_HOUR, minute := s.get Reg.CAL_SET_MINUTE, second := s.get Reg.CAL_SET_SECOND } : Civil).ok = false) :=
  ⟨⟨State.reset, by decide +kernel⟩,
   ⟨pt (fun p => {p with step := some 3, base := 5, steps := 2^32 - 1}) (rs (at_ 77 R)), 3, by decide +kernel⟩,
   ⟨R, 0, 1, by decide +kernel⟩,
   ⟨sv 0 0 5 6 (rs R), 0, 1, by decide +kernel⟩,
   ⟨sv 0 1 5 6 (pt (fun p => {p with servoA := {lastS := some 6, pairs := List.replicate 16 {s := 3, d := 4}}}) (rs R)), 0, 1, 6, by decide +kernel⟩,
   ⟨(pt (fun p => {p with servoA := {lastS := some 6, pairs := List.replicate 16 {s := 3, d := 4}, mpdAt := 77}}) (rs R)).put Reg.TIME_MPD_VALID 0 1, 0, by decide +kernel⟩,
   ⟨State.reset, by decide +kernel⟩,
   ⟨(civs.map (fun c => rs (T c R))).getD 0 State.reset, by decide +kernel⟩,
   ⟨((civs.map fun c => pt (fun p => {p with calSet := some (c.year, c.month, c.day, c.hour, c.minute, c.second)}) (rs (T c R)))).getD 0 State.reset, { year := 2199, month := 12, day := 31, hour := 23, minute := 59, second := 59 }, by decide +kernel⟩,
   ⟨R, 0, by decide +kernel⟩,
   ⟨R, 1, by decide +kernel⟩,
   ⟨(civs.map (fun c => S c R)).getD 4 State.reset, 1, by decide +kernel⟩⟩

end Sys2Proof.Tests.W09c

namespace Sys2Proof.Tests.W10
open Sys2Proof.Tests
def sta : State := mk [(Reg.AESRX_EN, 0, 1), (Reg.AESRX_EN, 31, 1), (Reg.MADI_RX_EN, 3, 1), (Reg.MADI_RX_EN, 0, 1), (Reg.MADI_FRAME, 3, 2), (Reg.AESRX_LOS, 0, 0),(Reg.MADI_LOS, 0, 0)] (onB 1 31 2 (onB 1 0 1 (onB 3 3 3 (onB 3 0 4 (base 1)))))
def stb : State := { sta with ports := { sta.ports with rx := [(0, {good := 7, ramp := some 64}), (31, {good := 6}), (32, {good := 7}), (35, {good := 7, ramp := some 70, media := true})] } }
def stc : State := mk [(Reg.AESRX_LOCK, 0, 1), (Reg.AESRX_LOS, 0, 0),  (Reg.AESRX_LOCK, 31, 1), (Reg.AESRX_LOS, 31, 0),(Reg.AESRX_RATE, 31, 48000), (Reg.AESRX_SYNC_DECL, 31, 1), (Reg.AESRX_LOCK_MAP, 0, 0x80000001), (Reg.MADI_LOCK, 3, 1), (Reg.MADI_LOS, 3, 0), (Reg.MADI_SYNC_DECL, 3, 1), (Reg.TDM_LOS, 23, 0)] stb
def std : State := { stc with ports := { stc.ports with rx := [(31, {rate := 48000, phase := some 5, lastAt := 77, phaseAt := 99}), (35, {phase := some 9, phaseAt := 5})] } }
def ste : State := mk [(Reg.TDM_MASTER, 23, 0), (Reg.TDM_MASTER, 0, 0), (Reg.TDM_SLOTS, 23, 8), (Reg.TDM_FORMAT, 23, 1)] (onB 5 0 7 (onB 6 0 8 (onB 5 23 9 (onB 6 23 10 stb))))
def stf : State := { ste with ports := { ste.ports with rx := [(36, {waitFs := false}), (59, {waitFs := false})] } }
def stg : State := { (mk [(Reg.TDM_MASTER, 23, 1), (Reg.TDM_RX_EN, 23, 1),(Reg.TDM_RATE, 23, 48000)] (onB 7 23 12 ste)) with flt := { State.reset.flt with tests := [{ unit := portUnit false 59, src := 0, kind := .port, stamp := 0, ts32 := 0, addr := 0, esc := false, severe := false, running := true, since := 0, begun := 0 }] } }
def t0 : State := { (mk [(Reg.AESTX_EN, 31, 1), (Reg.MADI_TX_EN, 3, 1), (Reg.TDM_TX_EN, 23, 1), (Reg.TDM_RESTART, 23, 1), (Reg.TDM_TX_EN, 0, 1), (Reg.TDM_MASTER, 0, 0), (Reg.TDM_MASTER, 23, 1), (Reg.TDM_RESTART, 0, 1)] (onB 5 0 1 (onB 6 0 2 (running 4)))) with ports := { State.reset.ports with rx := [(36, {waitFs := false})], balls := [{ball := 3, old := 5, new := 7, step := 0}] } }
def t1 : State := { t0 with dp := { t0.dp with egress := [(0x83E, [5]), (0x83F, [7, 8]), (0x900, [77])] }, ports := { t0.ports with balls := [{ball := 3, old := 5, new := 0x21F, step := 2}], tx := [(31, {frames := 192})] } }
def t2 : State := { (mk [(Reg.PMUX_EN, 3, 1), (Reg.HEL_STATE, 0, 2), (Reg.HEL_SEL, 0, 3), (Reg.PMUX_FOLLOW_CAND, 3, 3), (Reg.AESRX_FOLLOW, 31, 1), (Reg.AESRX_VCXO, 31, 3), (Reg.AESRX_LOCK, 31, 1)] t1) with ports := { t1.ports with balls := [{ball := 3, old := 5, new := 0x21F, step := 1}]}, clk := {t1.clk with now := 7000000000} }

/-- The hypotheses of PortReceivers can be met, clause by clause. -/
theorem witness_portReceivers :
    (∃ (s : State) (r : Nat) (f : AesFrame), s.portsUp = true ∧ r < 32 ∧ s.getB Reg.AESRX_EN r = true ∧ s.onBall 1 r = true ∧ s.rxLock r = false ∧ (r ≠ s.aes11Port ∨ s.candEn 4 = false) ∧ f.a.good = true ∧ f.b.good = true) ∧
    (∃ (s : State) (r : Nat), s.portsUp = true ∧ (s.getB Reg.AESRX_EN r = false ∨ s.onBall 1 r = false)) ∧
    (∃ (s : State) (r : Nat), s.portsUp = true ∧ r < 32 ∧ s.rxLock r = true) ∧
    (∃ (s : State) (p : Nat), s.portsUp = true ∧ p < 60 ∧ s.rxLos p = false ∧ (p ≠ s.aes11Port ∨ s.candEn 4 = false) ∧ 36 ≤ p) ∧
    (∃ (s : State) (p : Nat) (k : Nat), s.portsUp = true ∧ (s.rxp p).ramp = some k ∧ 64 ≤ k) ∧
    (∃ (s : State) (p : Nat), s.portsUp = true ∧ p < 36 ∧ s.rxLock p = true ∧ s.rxDecl p = true ∧ s.rxFollow p = false ∧ (s.rxp p).phase.isSome = true ∧ s.opMode ≠ 3 ∧ s.partnerFollows = false) ∧
    (∃ (s : State) (p : Nat), s.portsUp = true ∧ s.rxLock p = false) ∧
    (∃ (s : State) (m : Nat) (f : MadiFrame), s.portsUp = true ∧ m < 4 ∧ s.getB Reg.MADI_RX_EN m = true ∧ s.onBall 3 m = true ∧ s.rxLock (32 + m) = false ∧ f.mark = true ∧ (∀ (c : MadiChan), c ∈ f.chans → c.symbol = true ∧ c.parity = true) ∧ (if s.get Reg.MADI_FRAME m = 2 then 64000 ≤ f.rate ∧ f.rate ≤ 108000 else 32000 ≤ f.rate ∧ f.rate ≤ 54000)) ∧
    (∃ (s : State) (q : Nat), s.portsUp = true ∧ q < 24 ∧ s.tdmMaster q = false ∧ s.tdmClocked q = true ∧ (s.rxp (36 + q)).waitFs = true) ∧
    (∃ (s : State) (q : Nat), s.portsUp = true ∧ q < 24 ∧ s.tdmMaster q = false ∧ s.tdmClocked q = true ∧ (s.rxp (36 + q)).waitFs = false) ∧
    (∃ (s : State) (q : Nat), s.portsUp = true ∧ q < 24 ∧ s.getB Reg.TDM_RX_EN q = true ∧ s.tdmMaster q = true ∧ s.getB Reg.TDM_RATE_ERR q = false ∧ s.onBall 7 q = true ∧ s.suspended (portUnit false (36 + q)) = true) :=
  ⟨⟨sta, 0, { z := true, a := { audio := 5, v := false, u := false, c := false, good := true }, b := { audio := 5, v := false, u := false, c := false, good := true }, rate := 48000 }, by decide +kernel⟩,
   ⟨sta, 3, by decide +kernel⟩,
   ⟨stc, 0, by decide +kernel⟩,
   ⟨stc, 59, by decide +kernel⟩,
   ⟨stb, 0, 64, by decide +kernel⟩,
   ⟨std, 31, by decide +kernel⟩,
   ⟨sta, 0, by decide +kernel⟩,
   ⟨sta, 0, { mark := true, chans := List.replicate 64 { audio := 1 }, rate := 48000 }, by decide +kernel⟩,
   ⟨ste, 0, by decide +kernel⟩,
   ⟨stf, 0, by decide +kernel⟩,
   ⟨stg, 23, by decide +kernel⟩⟩

/-- The hypotheses of PortTransmitters can be met, clause by clause. -/
theorem witness_portTransmitters :
    (∃ (s : State) (t : Nat), t < 32 ∧ s.outputsUp = true ∧ (s.txRate t).isSome = true) ∧
    (∃ (s : State) (t : Nat), s.txRate t = none ∧ t < 32) ∧
    (∃ (s : State) (m : Nat), m < 4 ∧ s.outputsUp = true ∧ (s.txRate (32 + m)).isSome = true) ∧
    (∃ (s : State) (m : Nat), m < 4 ∧ s.txRate (32 + m) = none) ∧
    (∃ (s : State) (q : Nat), q < 24 ∧ s.outputsUp = true ∧ s.getB Reg.TDM_TX_EN q = true ∧ s.getB Reg.TDM_RATE_ERR q = false ∧ s.tdmMaster q = true) ∧
    (∃ (s : State) (q : Nat), q < 24 ∧ s.outputsUp = true ∧ s.getB Reg.TDM_TX_EN q = true ∧ s.getB Reg.TDM_RATE_ERR q = false ∧ s.tdmMaster q = false ∧ s.tdmClocked q = true ∧ (s.rxp (36 + q)).waitFs = false ∧ s.rxMedia (36 + q) = false) ∧
    (∃ (s : State) (q : Nat), q < 24 ∧ s.getB Reg.TDM_RESTART q = true) ∧
    (∃ (s : State) (q : Nat), s.getB Reg.TDM_RESTART q = false) ∧
    (∃ (s : State) (v : Nat), v < 4 ∧ s.loopRuns v = true) ∧
    (∃ (s : State) (v : Nat), v < 4 ∧ s.loopRuns v = false) ∧
    (∃ (s : State) (n : Nat) (b : BallSwitch), (List.find? (fun x => x.ball == n) s.ports.balls = some b) ∧ b.step = 0) ∧
    (∃ (s : State) (n : Nat) (b : BallSwitch), (List.find? (fun x => x.ball == n) s.ports.balls = some b) ∧ b.step = 1) ∧
    (∃ (s : State) (n : Nat) (b : BallSwitch), n < 192 ∧ s.ports.balls = [b] ∧ b.ball = n ∧ b.step = 2) :=
  ⟨⟨t0, 31, by decide +kernel⟩,
   ⟨t0, 0, by decide +kernel⟩,
   ⟨t0, 3, by decide +kernel⟩,
   ⟨t0, 0, by decide +kernel⟩,
   ⟨t0, 23, by decide +kernel⟩,
   ⟨t0, 0, by decide +kernel⟩,
   ⟨t0, 0, by decide +kernel⟩,
   ⟨t0, 3, by decide +kernel⟩,
   ⟨t2, 3, by decide +kernel⟩,
   ⟨t0, 0, by decide +kernel⟩,
   ⟨t0, 3, { ball := 3, old := 5, new := 7, step := 0 }, by decide +kernel⟩,
   ⟨t2, 3, { ball := 3, old := 5, new := 543, step := 1 }, by decide +kernel⟩,
   ⟨t1, 3, { ball := 3, old := 5, new := 543, step := 2 }, by decide +kernel⟩⟩

end Sys2Proof.Tests.W10

namespace Sys2Proof.Tests.W11
open Sys2Proof.Tests
def n0 : State := let s := mk [(Reg.NET_UP, 0, 1), (Reg.NET_UP, 1, 1), (Reg.NET_MAC_LO, 1, 7), (Reg.RXS_STATE, 255, 2), (Reg.RXS_STATE, 0, 2)] (running 4)
  { s with net := { s.net with rx := [(0, {legA := some 3, lastAt := 9}), (255, {legA := some 5, legB := some 7, lastAt := 50})], tx := [(255, {ready := [{launch := 5, seq := 1, rtp := 3, marker := false, payload := [1,2,3]}]})] }, eph := { s.eph with entries := [{time := 9, kind := .netLaunch 255 0, handle := 4096 + 255}] } }
def n1 : State := { n0 with net := { n0.net with rings := [(5, {descs := [{seq := 9, words := [9, 1536]}, {seq := 10, words := [10, 1536]}]}), (0, {descs := [{seq := 4, words := [4, 62]}]}), (6, {descs := [{seq := 4, words := [4, 62, 0x10000000, 0]}]})] }, host := { n0.host with busMaster := true, linkUp := true } }
def n2 : State := (n1.put Reg.NET_UP 0 0).put Reg.NET_UP 1 0
def n3 : State := n1.put Reg.MODE_MODE 0 1

/-- The hypotheses of NetworkPorts can be met, clause by clause. -/
theorem witness_networkPorts :
    (∃ (s : State) (x : Nat), s.netOn = false ∨ s.netUp x = false) ∧
    (∃ (s : State) (x : Nat) (f : List Byte), x < 2 ∧ s.netOn = true ∧ s.netUp x = true ∧ (f.length < 60 ∨ 1518 < f.length ∨ (parseFrame f).ip = none ∧ s.hostWants x (parseFrame f).dst = false)) ∧
    (∃ (s : State) (x : Nat) (f : List Byte), x < 2 ∧ s.netOn = true ∧ s.netUp x = true ∧ 60 ≤ f.length ∧ f.length ≤ 1518 ∧ (parseFrame f).etype ≠ 34824 ∧ (parseFrame f).ip = none ∧ s.hostWants x (parseFrame f).dst = true ∧ (s.netRing (ringIx x 1)).descs = []) ∧
    (∃ (s : State) (x : Nat) (f : List Byte) (d : NetDesc), x < 2 ∧ s.netOn = true ∧ s.netUp x = true ∧ 60 ≤ f.length ∧ f.length ≤ 1518 ∧ (parseFrame f).etype ≠ 34824 ∧ (parseFrame f).ip = none ∧ s.hostWants x (parseFrame f).dst = true ∧ (s.netRing (ringIx x 1)).descs.head? = some d) ∧
    (∃ (s : State) (i : Nat), s.get Reg.RXS_STATE i ≠ 2) ∧
    (∃ (s : State) (i : Nat), i < 256 ∧ s.get Reg.RXS_STATE i = 2) ∧
    (∃ (s : State) (i : Nat) (at' : Nat), i < 256 ∧ (s.rxs i).legA = some at') ∧
    (∃ (s : State) (i : Nat), (s.rxs i).legB = none) ∧
    (∃ (s : State) (e : EphEntry) (j : Nat) (n : Nat) (i : Nat) (p : TxPacket) (rest : List TxPacket), s.eph.entries = [e] ∧ e.kind = EphKind.netLaunch j n ∧ e.handle = 4096 + i ∧ i < 256 ∧ (s.txs i).ready = p :: rest ∧ (s.opMode ≠ 4 ∧ s.opMode ≠ 5)) ∧
    (∃ (s : State) (e : EphEntry) (j : Nat) (n : Nat) (i : Nat) (p : TxPacket) (rest : List TxPacket), s.eph.entries = [e] ∧ e.kind = EphKind.netLaunch j n ∧ e.handle = 4096 + i ∧ i < 256 ∧ (s.txs i).ready = p :: rest ∧ (s.opMode = 4 ∨ s.opMode = 5) ∧ bits (s.txw i 0) 30 29 = 0 ∧ s.netUp 0 = true) ∧
    (∃ (s : State) (e : EphEntry) (j : Nat) (n : Nat) (i : Nat) (p : TxPacket) (rest : List TxPacket), s.eph.entries = [e] ∧ e.kind = EphKind.netLaunch j n ∧ e.handle = 4096 + i ∧ i < 256 ∧ (s.txs i).ready = p :: rest ∧ (s.opMode = 4 ∨ s.opMode = 5) ∧ bits (s.txw i 0) 30 29 = 0 ∧ s.netUp 0 = false) ∧
    (∃ (s : State), s.eph.entries = []) ∧
    (∃ (s : State) (x : Nat), s.txHead x 0 = none ∨ (s.txHead x 2).isSome = true) ∧
    (∃ (s : State) (x : Nat) (q : Nat) (d : NetDesc), x < 2 ∧ s.netOn = true ∧ s.txHead x q = some d ∧ (q = 0 ∧ s.txHead x 2 = none ∨ q = 2) ∧ s.netUp x = false) ∧
    (∃ (s : State) (x : Nat) (data : Option (List Byte)) (q : Nat) (d : NetDesc), x < 2 ∧ s.netOn = true ∧ s.txHead x q = some d ∧ (q = 0 ∧ s.txHead x 2 = none ∨ q = 2) ∧ s.netUp x = true ∧ ((if q = 0 then if s.hostReadable = true then Option.map (fun x => List.take d.len x) data else none else s.busRead netMaster d.addr d.len) = none)) ∧
    (∃ (s : State) (x : Nat) (data : Option (List Byte)) (q : Nat) (d : NetDesc) (bytes : List Byte), x < 2 ∧ s.netOn = true ∧ s.txHead x q = some d ∧ (q = 0 ∧ s.txHead x 2 = none ∨ q = 2) ∧ s.netUp x = true ∧ ((if q = 0 then if s.hostReadable = true then Option.map (fun x => List.take d.len x) data else none else s.busRead netMaster d.addr d.len) = some bytes) ∧ s.nextLaunch x = none) ∧
    (∃ (s : State) (x : Nat), s.txHead x 2 = none) ∧
    (∃ (s : State) (q : Nat), 2 ≤ q ∨ s.netOn = false) ∧
    (∃ (s : State) (x : Nat) (q : Nat) (v : Word), 2 ^ 31 ≤ (BitVec.toNat v + 2 ^ 32 - s.get Reg.NETR_RING_EXPECT (ringIx x q)) % 2 ^ 32) ∧
    (∃ (s : State) (x : Nat) (q : Nat) (v : Word) (ws : List Word), x < 2 ∧ q < 2 ∧ s.netOn = true ∧ s.hostReadable = true ∧ BitVec.toNat v = s.get Reg.NETR_RING_EXPECT (ringIx x q) ∧ ws.getD 0 0 = v ∧ (if q = 0 then 60 ≤ BitVec.toNat (ws.getD 1 0) % 65536 ∧ BitVec.toNat (ws.getD 1 0) % 65536 ≤ 1518 else 1536 ≤ BitVec.toNat (ws.getD 1 0) % 65536)) ∧
    (∃ (s : State) (x : Nat), x < 2 ∧ s.netOn = true ∧ s.getB Reg.NET_UP x = false ∧ s.unitDown { page := 160, index := x } = false) ∧
    (∃ (s : State) (x : Nat), x < 2 ∧ s.getB Reg.NET_UP x = true) :=
  ⟨⟨State.reset, 0, by decide +kernel⟩,
   ⟨n0, 0, [0xff, 0xff, 0xff, 0xff, 0xff, 0xff, 1, 1, 1, 1, 1, 1, 0x88, 0xb5, 3, 3, 3, 3, 3, 3, 3, 3, 3, 3, 3, 3, 3, 3, 3, 3, 3, 3, 3, 3, 3, 3, 3, 3, 3, 3, 3, 3, 3, 3, 3, 3, 3, 3, 3, 3, 3, 3, 3, 3, 3, 3, 3, 3, 3], by decide +kernel⟩,
   ⟨n0, 0, [0xff, 0xff, 0xff, 0xff, 0xff, 0xff, 1, 1, 1, 1, 1, 1, 0x88, 0xb5, 3, 3, 3, 3, 3, 3, 3, 3, 3, 3, 3, 3, 3, 3, 3, 3, 3, 3, 3, 3, 3, 3, 3, 3, 3, 3, 3, 3, 3, 3, 3, 3, 3, 3, 3, 3, 3, 3, 3, 3, 3, 3, 3, 3, 3, 3], by decide +kernel⟩,
   ⟨n1, 1, [0xff, 0xff, 0xff, 0xff, 0xff, 0xff, 1, 1, 1, 1, 1, 1, 0x88, 0xb5, 3, 3, 3, 3, 3, 3, 3, 3, 3, 3, 3, 3, 3, 3, 3, 3, 3, 3, 3, 3, 3, 3, 3, 3, 3, 3, 3, 3, 3, 3, 3, 3, 3, 3, 3, 3, 3, 3, 3, 3, 3, 3, 3, 3, 3, 3], { seq := 9, words := [9, 0x600] }, by decide +kernel⟩,
   ⟨State.reset, 0, by decide +kernel⟩,
   ⟨n0, 0, by decide +kernel⟩,
   ⟨n0, 0, 3, by decide +kernel⟩,
   ⟨State.reset, 0, by decide +kernel⟩,
   ⟨n3, { time := 9, kind := EphKind.netLaunch 255 0, handle := 4351, passed := false }, 255, 0, 255, { launch := 5, seq := 1, rtp := 3, marker := false, payload := [1, 2, 3] }, [], by decide +kernel⟩,
   ⟨n0, { time := 9, kind := EphKind.netLaunch 255 0, handle := 4351, passed := false }, 255, 0, 255, { launch := 5, seq := 1, rtp := 3, marker := false, payload := [1, 2, 3] }, [], by decide +kernel⟩,
   ⟨n2, { time := 9, kind := EphKind.netLaunch 255 0, handle := 4351, passed := false }, 255, 0, 255, { launch := 5, seq := 1, rtp := 3, marker := false, payload := [1, 2, 3] }, [], by decide +kernel⟩,
   ⟨State.reset, by decide +kernel⟩,
   ⟨State.reset, 0, by decide +kernel⟩,
   ⟨n2, 0, 0, { seq := 4, words := [4, 0x3e] }, by decide +kernel⟩,
   ⟨n1, 0, none, 0, { seq := 4, words := [4, 0x3e] }, by decide +kernel⟩,
   ⟨n1, 0, some [0xff, 0xff, 0xff, 0xff, 0xff, 0xff, 1, 1, 1, 1, 1, 1, 0x88, 0xb5, 3, 3, 3, 3, 3, 3, 3, 3, 3, 3, 3, 3, 3, 3, 3, 3, 3, 3, 3, 3, 3, 3, 3, 3, 3, 3, 3, 3, 3, 3, 3, 3, 3, 3, 3, 3, 3, 3, 3, 3, 3, 3, 3, 3, 3, 3, 3, 3], 0, { seq := 4, words := [4, 0x3e] }, [0xff, 0xff, 0xff, 0xff, 0xff, 0xff, 1, 1, 1, 1, 1, 1, 0x88, 0xb5, 3, 3, 3, 3, 3, 3, 3, 3, 3, 3, 3, 3, 3, 3, 3, 3, 3, 3, 3, 3, 3, 3, 3, 3, 3, 3, 3, 3, 3, 3, 3, 3, 3, 3, 3, 3, 3, 3, 3, 3, 3, 3, 3, 3, 3, 3, 3, 3], by decide +kernel⟩,
   ⟨State.reset, 0, by decide +kernel⟩,
   ⟨State.reset, 0, by decide +kernel⟩,
   ⟨State.reset, 0, 0, 0x80000000, by decide +kernel⟩,
   ⟨n1, 0, 0, 0, [0, 0x3c], by decide +kernel⟩,
   ⟨n2, 0, by decide +kernel⟩,
   ⟨n0, 0, by decide +kernel⟩⟩

end Sys2Proof.Tests.W11

namespace Sys2Proof.Tests.W12
open Sys2Proof.Tests
def l0 : State := mk [(Reg.LANE_PRBS_CHK, 0, 1), (Reg.LANE_PRBS_CHK, 13, 1), (Reg.LANE_CHK_LOCK, 13, 1), (Reg.LANE_CHK_LOCK, 5, 1), (Reg.LANE_CDR_LOCK, 1, 1), (Reg.LANE_CDR_LOCK, 5, 1), (Reg.LANE_CDR_LOCK, 13, 1), (Reg.NET_UP, 1, 1), (Reg.LANE_ADAPT_FREEZE, 13, 1)] { (base 1) with lanes := [(13, {err := 2^48 - 3, bits := 2^52 - 2})] }
def kb : State := mk [(Reg.KZL_EN, 0, 1), (Reg.KZL_EN, 1, 1)] (running 4)
def fr0 : KzlFrame := { typ := 1, payload := [1, 2] }
def withSt (a b : Nat) : State := 
  let s := (((kb.put Reg.KZL_STATE 0 a).put Reg.KZL_STATE 1 b).putB Reg.KZL_UP 0 (a == 5)).putB Reg.KZL_UP 1 (b == 5)
  { s with kzl := [(0, {queue := [fr0], held := [{ fr0 with seq := 4, sentAt := 66, tries := 1 }], since := 20}), (1, {queue := [fr0], held := [{ fr0 with seq := 4, sentAt := 66, tries := 1 }], since := 20})] }

/-- The hypotheses of SerdesLanes can be met, clause by clause. -/
theorem witness_serdesLanes :
    (∃ (s : State) (l : Nat), l < 14 ∧ (s.opMode ≠ 0 ∨ 2 ≤ l ∧ l < 6) ∧ (laneDomain l = 0 ∨ s.domState (laneDomain l) = 3) ∧ s.unitDown { page := 160, index := l } = false) ∧
    (∃ (s : State) (l : Nat), l < 14 ∧ s.opMode = 0 ∧ (l < 2 ∨ 6 ≤ l)) ∧
    (∃ (s : State) (l : Nat), l < 14 ∧ s.getB Reg.LANE_CDR_LOCK l = false) ∧
    (∃ (s : State) (l : Nat), l < 14 ∧ s.getB Reg.LANE_CDR_LOCK l = true ∧ (∀ (k : Nat), linkOfLane l = some k → s.getB Reg.KZL_UP k = false) ∧ l < 2) ∧
    (∃ (s : State) (l : Nat), l < 14 ∧ s.getB Reg.LANE_CHK_LOCK l = false) ∧
    (∃ (s : State) (l : Nat), l < 14 ∧ s.getB Reg.LANE_CHK_LOCK l = true) :=
  ⟨⟨State.reset, 2, by decide +kernel⟩,
   ⟨l0.put Reg.MODE_MODE 0 0, 0, by decide +kernel⟩,
   ⟨State.reset, 0, by decide +kernel⟩,
   ⟨l0, 1, by decide +kernel, by decide +kernel, by intros; simp [linkOfLane] at *, by decide +kernel⟩,
   ⟨State.reset, 0, by decide +kernel⟩,
   ⟨l0, 5, by decide +kernel⟩⟩

/-- The hypotheses of KaztalLinks can be met, clause by clause. -/
theorem witness_kaztalLinks :
    (∃ (s : State) (k : Nat) (skew : Nat), k < 2 ∧ s.get Reg.KZL_STATE k = 3 ∧ s.linkOn k = true ∧ skew ≤ 528) ∧
    (∃ (s : State) (k : Nat) (skew : Nat), k < 2 ∧ (s.get Reg.KZL_STATE k ≠ 3 ∨ 528 < skew)) ∧
    (∃ (s : State) (k : Nat), k < 2 ∧ 1 ≤ s.get Reg.KZL_STATE k ∧ s.get Reg.KZL_STATE k ≤ 3) ∧
    (∃ (s : State) (k : Nat), k < 2 ∧ (s.get Reg.KZL_STATE k = 0 ∨ 3 < s.get Reg.KZL_STATE k)) ∧
    (∃ (s : State) (k : Nat), k < 2 ∧ (s.link k).held = []) ∧
    (∃ (s : State) (k : Nat) (f : KzlFrame) (fs : List KzlFrame), k < 2 ∧ (s.link k).held = f :: fs) ∧
    (∃ (s : State) (k : Nat), k < 2 ∧ (((lanesOf k).any fun l => s.suspended { page := 160, index := l }) = true ∨ s.get Reg.KZL_STATE k ≠ 4 ∧ s.get Reg.KZL_STATE k ≠ 5)) ∧
    (∃ (s : State) (k : Nat) (frame : List DWord), k < 2 ∧ (((lanesOf k).any fun l => s.suspended { page := 160, index := l }) = false) ∧ (s.get Reg.KZL_STATE k = 4 ∨ s.get Reg.KZL_STATE k = 5) ∧ s.linkOn k = true ∧ (¬(frame.length = 64 ∧ BitVec.toNat (frame.getD 63 0) % 2 ^ 32 = crc32c (List.flatMap (fun d => leBytes 8 (BitVec.toNat d)) (List.take 63 frame)) ∧ bits (BitVec.toNat (frame.getD 1 0)) 31 28 ≤ 2))) ∧
    (∃ (s : State) (k : Nat) (frame : List DWord), k < 2 ∧ (((lanesOf k).any fun l => s.suspended { page := 160, index := l }) = false) ∧ s.get Reg.KZL_STATE k = 4 ∧ s.linkOn k = true ∧ (frame.length = 64 ∧ BitVec.toNat (frame.getD 63 0) % 2 ^ 32 = crc32c (List.flatMap (fun d => leBytes 8 (BitVec.toNat d)) (List.take 63 frame)) ∧ bits (BitVec.toNat (frame.getD 1 0)) 31 28 ≤ 2) ∧ bit (BitVec.toNat (frame.getD 0 0)) 29 = true) ∧
    (∃ (s : State) (k : Nat) (frame : List DWord), k < 2 ∧ (((lanesOf k).any fun l => s.suspended { page := 160, index := l }) = false) ∧ s.get Reg.KZL_STATE k = 5 ∧ s.linkOn k = true ∧ (frame.length = 64 ∧ BitVec.toNat (frame.getD 63 0) % 2 ^ 32 = crc32c (List.flatMap (fun d => leBytes 8 (BitVec.toNat d)) (List.take 63 frame)) ∧ bits (BitVec.toNat (frame.getD 1 0)) 31 28 ≤ 2) ∧ bits (BitVec.toNat (frame.getD 1 0)) 31 28 ≠ 0 ∧ bits (BitVec.toNat (frame.getD 1 0)) 63 32 ≠ s.get Reg.KZL_RX_EXPECT k ∧ (s.get Reg.KZL_RX_EXPECT k + 2 ^ 32 - bits (BitVec.toNat (frame.getD 1 0)) 63 32) % 2 ^ 32 ≤ 2 ^ 31) ∧
    (∃ (s : State) (k : Nat) (frame : List DWord), k < 2 ∧ (((lanesOf k).any fun l => s.suspended { page := 160, index := l }) = false) ∧ s.get Reg.KZL_STATE k = 5 ∧ s.linkOn k = true ∧ (frame.length = 64 ∧ BitVec.toNat (frame.getD 63 0) % 2 ^ 32 = crc32c (List.flatMap (fun d => leBytes 8 (BitVec.toNat d)) (List.take 63 frame)) ∧ bits (BitVec.toNat (frame.getD 1 0)) 31 28 ≤ 2) ∧ bits (BitVec.toNat (frame.getD 1 0)) 31 28 ≠ 0 ∧ bits (BitVec.toNat (frame.getD 1 0)) 63 32 ≠ s.get Reg.KZL_RX_EXPECT k ∧ 2 ^ 31 < (s.get Reg.KZL_RX_EXPECT k + 2 ^ 32 - bits (BitVec.toNat (frame.getD 1 0)) 63 32) % 2 ^ 32) ∧
    (∃ (s : State) (k : Nat), k < 2 ∧ (s.get Reg.KZL_STATE k = 0 ∨ s.get Reg.KZL_STATE k = 6 ∨ s.linkOn k = false)) ∧
    (∃ (s : State) (k : Nat), k < 2 ∧ 1 ≤ s.get Reg.KZL_STATE k ∧ s.get Reg.KZL_STATE k ≤ 4 ∧ s.linkOn k = true) ∧
    (∃ (s : State) (k : Nat) (f : KzlFrame) (fs : List KzlFrame), k < 2 ∧ s.get Reg.KZL_STATE k = 5 ∧ s.linkOn k = true ∧ (s.link k).back = none ∧ (s.link k).queue = f :: fs ∧ (s.link k).held.length < 256) ∧
    (∃ (s : State) (k : Nat) (cause : Nat), k < 2 ∧ k = 0 ∧ s.get Reg.KZL_STATE k = 5 ∧ cause < 6) :=
  ⟨⟨withSt 3 4, 0, 0, by decide +kernel⟩,
   ⟨State.reset, 0, 0, by decide +kernel⟩,
   ⟨withSt 1 2, 0, by decide +kernel⟩,
   ⟨State.reset, 0, by decide +kernel⟩,
   ⟨State.reset, 0, by decide +kernel⟩,
   ⟨withSt 1 2, 0, { seq := 4, typ := 1, payload := [1, 2], sentAt := 66, tries := 1 }, [], by decide +kernel⟩,
   ⟨State.reset, 0, by decide +kernel⟩,
   ⟨withSt 3 4, 1, [], by decide +kernel⟩,
   ⟨withSt 3 4, 1, frameWords (2^29) 0 0 [], by decide +kernel⟩,
   ⟨withSt 5 5, 0, frameWords (2^30) 0xFFFFFFFF 2 [], by decide +kernel⟩,
   ⟨withSt 5 5, 0, frameWords (2^28) 5 2 [], by decide +kernel⟩,
   ⟨State.reset, 0, by decide +kernel⟩,
   ⟨withSt 1 2, 0, by decide +kernel⟩,
   ⟨withSt 5 5, 0, { seq := 0, typ := 1, payload := [1, 2], sentAt := 0, tries := 0 }, [], by decide +kernel⟩,
   ⟨withSt 5 5, 0, 0, by decide +kernel⟩⟩

end Sys2Proof.Tests.W12

namespace Sys2Proof.Tests.W13
open Sys2Proof.Tests
def b0 (m : Nat) : State := mk [(Reg.STBY_PAIR, 0, 1), (Reg.KZL_UP, 1, 1), (Reg.KEY_AUTH, 0, 1)] (running m)
def fo : State := b0 3
def tw (s : State) (f : Stby → Stby) : State := { s with stby := f s.stby }
def ac : State := tw ((b0 4).put Reg.STBY_ACTIVE 0 1) (fun b => {b with pMode := 3, own := [(4, 9), (5, 77)], window := 6})
def sy (n : Nat) (s : State := fo) : State := s.put Reg.STBY_SYNC 0 n
def stp (s : State) : State := { s with mode := { s.mode with running := false } }
def mv : State := (sy 4 (fo.put Reg.SLOT_STATE 15 2)).setSlot 15 fun x => { x with moves := [{target := {kind := 1, addr := 5}, value := 3, rule := 0, dur := 0, tag := 0}] }
def rl (l : List Nat) : List Word := l.map (BitVec.ofNat 32)

/-- The hypotheses of StandbyInterlock can be met, clause by clause. -/
theorem witness_standbyInterlock :
    (∃ (s : State) (level : Bool), level = false ∨ s.canClaim = false) ∧
    (∃ (s : State), s.canClaim = true ∧ s.stby.pGiveup = none ∧ s.getB Reg.KZL_UP 1 = true) ∧
    (∃ (s : State), s.canClaim = true ∧ (s.stby.pGiveup.isSome = true ∨ s.getB Reg.KZL_UP 1 = false)) ∧
    (∃ (s : State), s.stby.decideAt = none) ∧
    (∃ (s : State) (at' : Nat), s.stby.decideAt = some at' ∧ s.canClaim = true ∧ s.getB Reg.STBY_PARTNER_ACTIVE = true ∧ s.stby.pGiveup = none) ∧
    (∃ (s : State) (at' : Nat), s.stby.decideAt = some at' ∧ s.canClaim = true ∧ s.getB Reg.STBY_PARTNER_ACTIVE = false) ∧
    (∃ (s : State), s.stby.pGiveup = none ∨ s.stby.level = true) ∧
    (∃ (s : State) (at' : Nat), s.stby.pGiveup = some at' ∧ s.stby.level = false ∧ s.follows = true) ∧
    (∃ (s : State), s.getB Reg.STBY_PAIR = true ∧ 3 ≤ s.opMode ∧ s.opMode ≤ 5 ∧ s.clk.placed = true ∧ s.clk.pos % 1500000 = 0 ∧ s.stby.hbPos ≠ some s.clk.pos) ∧
    (∃ (s : State), s.getB Reg.STBY_PAIR = false ∨ s.stby.hbPos = some s.clk.pos) ∧
    (∃ (s : State), s.getB Reg.STBY_HB_IN_OK = false) ∧
    (∃ (s : State), s.getB Reg.STBY_HB_IN_OK = true) ∧
    (∃ (s : State), s.stby.giveup = none) ∧
    (∃ (s : State) (c : Nat) (at' : Nat), s.stby.giveup = some (c, at') ∧ s.clk.boundaryEdge ≤ at') ∧
    (∃ (s : State) (c : Nat) (at' : Nat), s.stby.giveup = some (c, at') ∧ s.getB Reg.STBY_ACTIVE = true ∧ at' < s.clk.boundaryEdge ∧ (s.giveupAcked = true ∨ at' + 24000 ≤ s.clk.now)) ∧
    (∃ (s : State), s.stby.released = none) ∧
    (∃ (s : State) (at' : Nat), s.stby.released = some at' ∧ s.getB Reg.STBY_GAVE_UP = true ∧ s.opMode = 3 ∧ s.stopBegun = false) ∧
    (∃ (s : State) (p : Plane), s.domState (pageDomain 168) = 3 ∧ (p = Plane.host ∨ s.getB Reg.KEY_AUTH = false ∨ s.getB Reg.STBY_PAIR = false)) ∧
    (∃ (s : State) (v : Word), s.domState (pageDomain 168) = 3 ∧ s.getB Reg.KEY_AUTH = true ∧ s.getB Reg.STBY_PAIR = true ∧ BitVec.toNat v = s.epoch 168 ∧ s.mode.trans = Trans.none ∧ s.opMode = 3 ∧ s.getB Reg.STBY_ACTIVE = false ∧ s.getB Reg.STBY_GAVE_UP = false) :=
  ⟨⟨State.reset, false, by decide +kernel⟩,
   ⟨fo, by decide +kernel⟩,
   ⟨fo.put Reg.KZL_UP 1 0, by decide +kernel⟩,
   ⟨State.reset, by decide +kernel⟩,
   ⟨tw (fo.put Reg.STBY_PARTNER_ACTIVE 0 1) (fun b => {b with decideAt := some 8, level := false}), 8, by decide +kernel⟩,
   ⟨tw fo (fun b => {b with pGiveup := some 5, level := false, decideAt := some 8}), 8, by decide +kernel⟩,
   ⟨State.reset, by decide +kernel⟩,
   ⟨tw fo (fun b => {b with pGiveup := some 5, level := false, decideAt := some 8}), 5, by decide +kernel⟩,
   ⟨fo, by decide +kernel⟩,
   ⟨State.reset, by decide +kernel⟩,
   ⟨State.reset, by decide +kernel⟩,
   ⟨tw ((fo.put Reg.STBY_HB_IN_OK 0 1).put Reg.STBY_GAVE_UP 0 1) (fun b => {b with level := false, released := some 5, hbEdges := [0,1,2]}), by decide +kernel⟩,
   ⟨State.reset, by decide +kernel⟩,
   ⟨tw ((b0 4).put Reg.STBY_ACTIVE 0 1) (fun b => {b with drive := true, giveup := some (1, 8), hbPos := some 7}), 1, 8, by decide +kernel⟩,
   ⟨(tw ((b0 4).put Reg.STBY_ACTIVE 0 1) (fun b => {b with drive := true, giveup := some (1, 8), hbPos := some 7})).modClk (fun c => {c with pos := 1500000, now := 30000}), 1, 8, by decide +kernel⟩,
   ⟨State.reset, by decide +kernel⟩,
   ⟨tw ((fo.put Reg.STBY_HB_IN_OK 0 1).put Reg.STBY_GAVE_UP 0 1) (fun b => {b with level := false, released := some 5, hbEdges := [0,1,2]}), 5, by decide +kernel⟩,
   ⟨fo, Plane.host, by decide +kernel⟩,
   ⟨fo, 1, by decide +kernel⟩⟩

/-- The hypotheses of StandbyRecords can be met, clause by clause. -/
theorem witness_standbyRecords :
    (∃ (s : State), s.stby.own = []) ∧
    (∃ (s : State) (k : Nat) (v : Nat), s.stby.own.getLast? = some (k, v) ∧ k + 1 = s.stby.window ∧ s.partnerFollows = true ∧ s.stby.check ≠ some (k, v)) ∧
    (∃ (s : State), s.get Reg.STBY_SYNC ≠ 3) ∧
    (∃ (s : State), s.get Reg.STBY_SYNC = 3) ∧
    (∃ (s : State) (c : Nat), c < 2 ∧ (s.bcore c).reseed = true ∧ (s.bcore c).halted = false ∧ (s.bcore c).log = []) ∧
    (∃ (s : State) (c : Nat), (s.bcore c).log ≠ []) ∧
    (∃ (s : State), s.getB Reg.STBY_PAIR = false) ∧
    (∃ (s : State) (body : List Word), s.getB Reg.STBY_PAIR = true ∧ bit (BitVec.toNat (body.getD 0 0)) 0 = true ∧ s.getB Reg.STBY_ACTIVE = true ∧ s.getB Reg.STBY_UNIT_B = true) ∧
    (∃ (s : State), s.follows = false) ∧
    (∃ (s : State) (body : List Word) (lane : Nat), s.partnerFollows = true ∧ BitVec.toNat (body.getD 0 0) = 4 + 16 * lane ∧ lane ≤ 16 ∧ (¬lane ∈ s.stby.staged)) ∧
    (∃ (s : State) (body : List Word) (lane : Nat), s.follows = true ∧ BitVec.toNat (body.getD 0 0) = lane ∧ lane < 16) ∧
    (∃ (s : State) (body : List Word) (m0 : Nat), s.follows = true ∧ s.get Reg.STBY_SYNC = 1 ∧ bits (BitVec.toNat (body.getD 0 0)) 4 0 < 16 ∧ bits (BitVec.toNat (body.getD 0 0)) 31 16 = m0 ∧ m0 ≠ 0) ∧
    (∃ (s : State) (body : List Word) (lane : Nat), s.follows = true ∧ BitVec.toNat (body.getD 0 0) = 3 + 16 * lane ∧ lane < 16) ∧
    (∃ (s : State) (body : List Word) (lane : Nat), s.follows = true ∧ BitVec.toNat (body.getD 0 0) = 2 + 16 * lane ∧ lane < 16 ∧ s.slotState lane ≠ 0) ∧
    (∃ (s : State) (body : List Word) (k : Nat) (mine : Nat), s.follows = true ∧ (List.find? (fun o => o.fst % 1024 == BitVec.toNat (body.getD 0 0) % 1024) s.stby.own = some (k, mine)) ∧ s.get Reg.STBY_SYNC = 4 ∧ mine < 2 ^ 32) ∧
    (∃ (s : State) (body : List Word) (r : Nat), s.follows = true ∧ bits (BitVec.toNat (body.getD 0 0)) 9 8 = r ∧ r < 3 ∧ s.get Reg.STBY_SYNC = 1 ∧ s.mode.running = false) ∧
    (∃ (s : State) (body : List Word) (r : Nat), s.follows = true ∧ bits (BitVec.toNat (body.getD 0 0)) 9 8 = r ∧ r < 3 ∧ s.get Reg.STBY_SYNC ≠ 1) ∧
    (∃ (s : State) (body : List Word), s.follows = true ∧ s.get Reg.STBY_SYNC = 1 ∧ BitVec.toNat (body.getD 0 0) = fldAt Reg.SE_PROG_ID 0 ∧ BitVec.toNat (body.getD 1 0) = s.get Reg.SE_PROG_ID) ∧
    (∃ (s : State) (body : List Word), s.follows = true ∧ s.get Reg.STBY_SYNC = 1 ∧ BitVec.toNat (body.getD 0 0) = fldAt Reg.SE_PROG_ID 0 ∧ BitVec.toNat (body.getD 1 0) ≠ s.get Reg.SE_PROG_ID ∧ s.mode.trans = Trans.none) ∧
    (∃ (s : State) (n : Nat) (body : List Word) (v : BitVec 32), s.follows = true ∧ s.get Reg.STBY_SYNC = 1 ∧ BitVec.toNat (body.getD 0 0) ≠ fldAt Reg.SE_PROG_ID 0 ∧ body = [BitVec.ofNat 32 (BitVec.toNat (body.getD 0 0)), v] ∧ s.absSample n < tget 0 s.stby.newest (BitVec.toNat (body.getD 0 0))) ∧
    (∃ (s : State) (body : List Word) (out : Bool) (i : Nat), s.follows = true ∧ s.get Reg.STBY_SYNC = 2 ∧ BitVec.toNat (body.getD 0 0) = 4096 * out.toNat + i ∧ i < stripCount out s.rate ∧ i < 4096 ∧ body.length < 1025) ∧
    (∃ (s : State) (body : List Word) (out : Bool) (i : Nat), s.follows = true ∧ s.get Reg.STBY_SYNC = 2 ∧ BitVec.toNat (body.getD 0 0) = 4096 * out.toNat + i ∧ i < stripCount out s.rate ∧ i < 4096 ∧ 1025 ≤ body.length) ∧
    (∃ (s : State) (body : List Word) (c : Nat), s.follows = true ∧ BitVec.toNat (body.getD 0 0) = c ∧ c < 2 ∧ body.length < 100 ∧ 2 ≤ s.get Reg.STBY_SYNC ∧ (¬c ∈ s.stby.cores)) :=
  ⟨⟨State.reset, by decide +kernel⟩,
   ⟨ac, 5, 77, by decide +kernel⟩,
   ⟨State.reset, by decide +kernel⟩,
   ⟨sy 3, by decide +kernel⟩,
   ⟨((sy 2).setBc 1 fun b => {b with reseed := true, halted := false}), 1, by decide +kernel⟩,
   ⟨((sy 2).setBc 1 fun b => {b with reseed := true, halted := false, log := [1]}), 1, by decide +kernel⟩,
   ⟨State.reset, by decide +kernel⟩,
   ⟨(fo.put Reg.STBY_ACTIVE 0 1).put Reg.STBY_UNIT_B 0 1, [5, 0x80000000], by decide +kernel⟩,
   ⟨State.reset, by decide +kernel⟩,
   ⟨ac, [0xf4], 15, by decide +kernel⟩,
   ⟨fo, [], 0, by decide +kernel⟩,
   ⟨sy 1, [0x4000f, 0x10000005, 6, 7, 8], 4, by decide +kernel⟩,
   ⟨fo, [0xf3], 15, by decide +kernel⟩,
   ⟨mv, [0xf2], 15, by decide +kernel⟩,
   ⟨tw (sy 4) (fun b => {b with own := [(1024 + 5, 3), (7, 77)]}), [5, 0x80000000], 1029, 3, by decide +kernel⟩,
   ⟨stp (sy 1), [], 0, by decide +kernel⟩,
   ⟨fo, [], 0, by decide +kernel⟩,
   ⟨sy 1, [0x10040, 0], by decide +kernel⟩,
   ⟨sy 1, [0x10040, 1], by decide +kernel⟩,
   ⟨tw (sy 1) (fun b => {b with newest := [(5, 99)]}), 0, [5, 3], 3, by decide +kernel⟩,
   ⟨sy 2, [], false, 0, by decide +kernel⟩,
   ⟨sy 2, rl (4097 :: List.replicate 1024 5), true, 1, by decide +kernel⟩,
   ⟨sy 3, [], 0, by decide +kernel⟩⟩

end Sys2Proof.Tests.W13

namespace Sys2Proof.Tests.W15_1
open Sys2Proof.Tests
def sramb : Tbl Byte := (List.range 30).map fun i => (i, BitVec.ofNat 8 (i + 1))
def q0 : State := let s := running 4; { s with mem := { s.mem with sram := sramb } }

/-- The hypotheses of InterconnectRequestsReachTheirTarget can be met, clause by clause. -/
theorem witness_interconnectRequestsReachTheirTarget :
    (∃ (s : State) (master : Nat) (addr : Nat) (acc : MemAcc), master ≤ 43 ∧ s.flt.paths.contains master = false ∧ (∀ (n : Nat), acc ≠ MemAcc.lockRead n) ∧ 268435456 ≤ addr ∧ addr + (accLen acc - 1) ≤ 335544319 ∧ s.domState (4 + (addr - 268435456) / 8388608) = 3) ∧
    (∃ (s : State) (master : Nat) (addr : Nat) (acc : MemAcc), master ≤ 43 ∧ s.flt.paths.contains master = false ∧ (∀ (n : Nat), acc ≠ MemAcc.lockRead n) ∧ 2147483648 ≤ addr ∧ addr + (accLen acc - 1) ≤ 4294967295 ∧ s.domState 15 = 3) ∧
    (∃ (s : State) (master : Nat) (addr : Nat) (host : Bool) (acc : MemAcc), 34 ≤ master ∧ master < 64 ∧ s.target master host addr acc = Target.none) ∧
    (∃ (s : State) (master : Nat) (off : Nat) (n : Nat), (master = 40 ∨ master = 41 ∨ master = 42) ∧ s.flt.paths.contains master = false ∧ 0 < n ∧ off + n ≤ 65536) :=
  ⟨⟨State.reset, 0, 268435456, MemAcc.read 1, by decide +kernel, by decide +kernel, nofun, by decide +kernel, by decide +kernel, by decide +kernel⟩,
   ⟨q0, 0, 2147483648, MemAcc.read 1, by decide +kernel, by decide +kernel, nofun, by decide +kernel, by decide +kernel, by decide +kernel⟩,
   ⟨State.reset, 40, 0, false, MemAcc.write [1, 2], by decide +kernel⟩,
   ⟨State.reset, 40, 0, 5, by decide +kernel⟩⟩

end Sys2Proof.Tests.W15_1

namespace Sys2Proof.Tests.W15_2
open Sys2Proof.Tests
def rr (m : Nat) (acc : MemAcc) (a : Nat) : Req := {master := m, access := acc, addr := a, since := 3}
def sramb : Tbl Byte := (List.range 30).map fun i => (i, BitVec.ofNat 8 (i + 1))
def q0 : State := let s := running 4; { s with mem := { s.mem with sram := sramb } }
def wR (l : List (Nat × Req)) (s : State) : State := { s with mem := { s.mem with reqs := l } }

/-- The hypotheses of GrantServesAnSramRequest can be met, clause by clause. -/
theorem witness_grantServesAnSramRequest :
    ∃ (s : State) (a : Nat) (r : Req) (d : List Byte), a < 8 ∧ s.mem.reqs = [(a, r)] ∧ s.blocked a r = false ∧ s.quotaMasked a r.master = false ∧ 268435456 + a * 8388608 ≤ r.addr ∧ r.addr + accLen r.access ≤ 268435456 + (a + 1) * 8388608 ∧ s.mem.broken = [] ∧ r.access = MemAcc.write d :=
  ⟨wR [(0, rr 5 (.write [9,8,7]) 0x10000001)] q0, 0, { master := 5, access := MemAcc.write [9, 8, 7], addr := 268435457, since := 3, lost := false, hint := 0 }, [9, 8, 7], by decide +kernel⟩

end Sys2Proof.Tests.W15_2

namespace Sys2Proof.Tests.W15_3
open Sys2Proof.Tests
def rr (m : Nat) (acc : MemAcc) (a : Nat) : Req := {master := m, access := acc, addr := a, since := 3}
def sramb : Tbl Byte := (List.range 30).map fun i => (i, BitVec.ofNat 8 (i + 1))
def q0 : State := let s := running 4; { s with mem := { s.mem with sram := sramb } }
def wR (l : List (Nat × Req)) (s : State) : State := { s with mem := { s.mem with reqs := l } }
def wL (l : List Lock) (s : State) : State := { s with mem := { s.mem with locks := l } }
def l1 : Lock := { bank := 0, master := 5, addr := 0x10000004, since := 0}

/-- The hypotheses of WindowsHoldsAndLocks can be met, clause by clause. -/
theorem witness_windowsHoldsAndLocks :
    (∃ (a : Nat), a < 10) ∧
    (∃ (s : State) (a : Nat) (n : Nat) (r : Req), a < 8 ∧ s.mem.reqs = [(a, r)] ∧ s.blocked a r = false ∧ s.quotaMasked a r.master = false ∧ 268435456 + a * 8388608 ≤ r.addr ∧ r.addr + accLen r.access ≤ 268435456 + (a + 1) * 8388608 ∧ s.mem.broken = [] ∧ r.master < 64 ∧ n < beats r.addr (accLen r.access)) ∧
    (∃ (s : State) (master : Nat) (addr : Nat) (n : Nat), master ≤ 43 ∧ s.flt.paths.contains master = false ∧ s.lockAllowed master addr n = true ∧ s.blocked ((addr - 268435456) / 8388608) { master := master, access := MemAcc.lockRead n, addr := addr, since := s.clk.now } = false) ∧
    (∃ (s : State) (master : Nat) (addr : Nat) (n : Nat), s.lockAllowed master addr n = false) ∧
    (∃ (s : State) (l : Lock), (List.find? (fun x => x.bank == l.bank) s.mem.locks = some l) ∧ l.bank < 64 ∧ l.master < 64) :=
  ⟨⟨0, by decide +kernel⟩,
   ⟨wR [(0, rr 5 (.read 9) 0x10000003)] q0, 0, 0, { master := 5, access := MemAcc.read 9, addr := 268435459, since := 3, lost := false, hint := 0 }, by decide +kernel⟩,
   ⟨State.reset, 0, 268435456, 0, by decide +kernel⟩,
   ⟨State.reset, 0, 0, 0, by decide +kernel⟩,
   ⟨wL [l1] q0, { bank := 0, master := 5, addr := 268435460, since := 0 }, by decide +kernel⟩⟩

end Sys2Proof.Tests.W15_3

namespace Sys2Proof.Tests.W15_4
open Sys2Proof.Tests
def sramb : Tbl Byte := (List.range 30).map fun i => (i, BitVec.ofNat 8 (i + 1))
def q0 : State := let s := running 4; { s with mem := { s.mem with sram := sramb } }
def wP (l : List Pass) (s : State) : State := { s with mem := { s.mem with passes := l } }
def ps : Pass := {base := 0x10000008, size := 16, cls := 3, owner := 0}
def ps2 : Pass := {base := 0x10000000, size := 64, cls := 3, owner := 0, running := true}

/-- The hypotheses of ScrubAndDarkFrame can be met, clause by clause. -/
theorem witness_scrubAndDarkFrame :
    (∃ (s : State) (bank : Nat), bank < 64 ∧ s.getB Reg.MEM_SCRUB_EN (bank / 8) = true ∧ s.get Reg.THERM_STATE < 2 ∧ s.get Reg.SUP_WARN_NOW = 0) ∧
    (∃ (s : State) (p : Pass), s.mem.passes = [p] ∧ p.running = false ∧ s.passMayRun p = true ∧ s.passPaused p = false) ∧
    (∃ (s : State) (p : Pass), (List.find? (fun q => q.base == p.base && q.running) s.mem.passes = some p) ∧ 268435456 ≤ p.base) :=
  ⟨⟨State.reset, 0, by decide +kernel⟩,
   ⟨wP [ps] q0, { base := 268435464, size := 16, cls := 3, owner := 0, running := false, done := 0, waited := false }, by decide +kernel⟩,
   ⟨wP [ps2] q0, { base := 268435456, size := 64, cls := 3, owner := 0, running := true, done := 0, waited := false }, by decide +kernel⟩⟩

end Sys2Proof.Tests.W15_4

namespace Sys2Proof.Tests.W15_5
open Sys2Proof.Tests
def sramb : Tbl Byte := (List.range 30).map fun i => (i, BitVec.ofNat 8 (i + 1))
def q0 : State := let s := running 4; { s with mem := { s.mem with sram := sramb } }

/-- The hypotheses of RemapCommitAndCheckUnits can be met, clause by clause. -/
theorem witness_remapCommitAndCheckUnits :
    (∃ (s : State), s.domState 4 = 3 ∧ s.getB Hdr.RUNNING 192 = false ∧ s.getB Hdr.RUNNING 193 = false) ∧
    (∃ (s : State) (p : Plane) (u : Nat) (v : Word), u < 4 ∧ s.domState 3 = 3 ∧ s.cvuWritable p u = true ∧ bit (BitVec.toNat v) 31 = true ∧ bits (BitVec.toNat v) 27 26 ≠ 2) :=
  ⟨⟨State.reset, by decide +kernel⟩,
   ⟨q0, Plane.host, 0, 0x80000000, by decide +kernel⟩⟩

end Sys2Proof.Tests.W15_5

namespace Sys2Proof.Tests.W15_6
open Sys2Proof.Tests
def sramb : Tbl Byte := (List.range 30).map fun i => (i, BitVec.ofNat 8 (i + 1))
def q0 : State := let s := running 4; { s with mem := { s.mem with sram := sramb } }
def sels : State := { q0 with sel := [(5, 3), (6, 8)] }

/-- The hypotheses of QueriesSelectAndComplete can be met, clause by clause. -/
theorem witness_queriesSelectAndComplete :
    (∃ (s : State), s.domState 3 = 3) ∧
    (∃ (s : State) (c : Nat), c < 2 ∧ s.domState 16 = 3) ∧
    (∃ (s : State) (item : Nat), tget 0 s.sel 5 = item + 1) ∧
    (∃ (s : State) (item : Nat), tget 0 s.sel 6 = item + 1) :=
  ⟨⟨q0, by decide +kernel⟩,
   ⟨q0, 0, by decide +kernel⟩,
   ⟨sels, 2, by decide +kernel⟩,
   ⟨sels, 7, by decide +kernel⟩⟩

end Sys2Proof.Tests.W15_6

namespace Sys2Proof.Tests.W16
open Sys2Proof.Tests
def done (s : State) : State := s.put Reg.MODE_START_DONE 0 1
def pair (s : State) : State := { (mk [(Reg.STBY_PAIR, 0, 1), (Reg.KZL_UP, 1, 1), (Reg.STBY_PARTNER_ACTIVE, 0, 1), (Reg.STBY_HB_IN_OK, 0, 1)] s) with stby := { s.stby with pMode := 4, statusAt := some 0, pSync := 4 } }
def act (s : State) : State := s.put Reg.STBY_ACTIVE 0 1
def tr (t : Trans) (l : Nat) (s : State) : State := { s with mode := { s.mode with trans := t, left := l } }
def booted (s : State) : State := { s with mgmt := { s.mgmt with booted := true } }
def rom (s : State) : State := { s with mgmt := { s.mgmt with inRom := true } }
def idle6 : List State := (List.range 6).flatMap fun m => let s := if m == 4 || m == 5 || m == 3 then running m else base m; [s, done s, pair (done s), act (pair (done s))]
def trs : List State := ([(.start 0 none,0), (.start 1 (some .host),0), (.start 4 (some .mgmt),0), (.start 3 none, 0), (.enter 4 (some .host),0), (.enter 3 (some .mgmt),0), (.fill 4 (some .host),0),
 (.rampIn 4 (some .host),0), (.rampIn 3 (some .mgmt),0), (.rampIn 3 none,0), (.stop 1 (some .host),0), (.stop 0 none,0), (.stop 2 none,3), (.hold 5 (some .host),0), (.hold 4 (some .mgmt),0), (.hold 4 (some .mgmt),7), (.rate 1 1 (some .host),0), (.rate 2 1 (some .host),0), (.rate 2 2 none,0), (.rate 4 1 (some .host),0), (.rate 5 1 (some .host),0), (.giveUp none,0), (.shutdown none,0), (.shutdown (some .mgmt),0), (.heat,0)] : List (Trans × Nat)).flatMap fun p =>
  [tr p.1 p.2 (booted (running 4)), tr p.1 p.2 (booted (base 1)), { (tr p.1 p.2 (rom (running 5))) with mode := { (tr p.1 p.2 (running 5)).mode with holdGain := 64 } }, { (tr p.1 p.2 ((running 3).put Reg.STBY_SYNC 0 2)) with mode := { (tr p.1 p.2 (running 5)).mode with holdGain := 0 } }]

/-- The hypotheses of RequestsBeginTransitions can be met, clause by clause. -/
theorem witness_requestsBeginTransitions :
    (∃ (s : State), s.mode.trans = Trans.none ∧ s.opMode = 1 ∧ s.getB Reg.MODE_START_DONE = true ∧ s.getB Reg.STBY_PAIR = false) ∧
    (∃ (s : State), s.mode.trans = Trans.none ∧ s.opMode = 5) ∧
    (∃ (s : State), s.mode.trans = Trans.none ∧ s.opMode = 4) ∧
    (∃ (s : State) (p : Plane), s.mode.trans = Trans.none ∧ s.opMode = 1 ∧ p = Plane.mgmt) ∧
    (∃ (s : State), s.mode.trans = Trans.none ∧ s.opMode = 1 ∧ s.getB Reg.MODE_START_DONE = true ∧ s.partnerLeads = true) ∧
    (∃ (s : State), s.mode.trans = Trans.none ∧ (s.opMode = 4 ∨ s.opMode = 5) ∧ s.holdsRole = true ∧ s.partnerReady = true) ∧
    (∃ (s : State), s.mode.trans = Trans.none ∧ (s.opMode = 3 ∨ s.opMode = 4)) ∧
    (∃ (s : State) (p : Plane), s.mode.trans = Trans.none ∧ s.opMode = 2 ∧ p = Plane.mgmt) ∧
    (∃ (s : State), s.mode.trans = Trans.none ∧ (s.opMode = 1 ∨ s.opMode = 2 ∨ s.opMode = 5)) ∧
    (∃ (s : State) (r : Nat), s.mode.trans = Trans.none ∧ r < 3 ∧ r ≠ s.rate ∧ (s.opMode = 4 ∨ s.opMode = 5) ∧ s.reservationAt r ≤ s.budgetAt r s.clk.div (s.tiersAt r)) :=
  ⟨⟨(idle6).getD 5 State.reset, by decide +kernel⟩,
   ⟨(idle6).getD 20 State.reset, by decide +kernel⟩,
   ⟨(idle6).getD 16 State.reset, by decide +kernel⟩,
   ⟨(idle6).getD 4 State.reset, Plane.mgmt, by decide +kernel⟩,
   ⟨(idle6).getD 6 State.reset, by decide +kernel⟩,
   ⟨(idle6).getD 19 State.reset, by decide +kernel⟩,
   ⟨(idle6).getD 12 State.reset, by decide +kernel⟩,
   ⟨(idle6).getD 8 State.reset, Plane.mgmt, by decide +kernel⟩,
   ⟨(idle6).getD 4 State.reset, by decide +kernel⟩,
   ⟨(idle6).getD 16 State.reset, 0, by decide +kernel⟩⟩

/-- The hypotheses of RequestsTurnedAway can be met, clause by clause. -/
theorem witness_requestsTurnedAway :
    (∃ (s : State) (r : Nat), s.mode.trans ≠ Trans.none ∧ (∀ (m : Nat) (q : Option Plane), s.mode.trans ≠ Trans.hold m q) ∧ r < 3) ∧
    (∃ (s : State), s.mode.trans = Trans.none ∧ (s.opMode = 0 ∨ s.opMode = 2)) ∧
    (∃ (s : State), s.mode.trans = Trans.none ∧ s.opMode ≠ 4) ∧
    (∃ (s : State), s.mode.trans = Trans.none ∧ s.opMode ≠ 1) ∧
    (∃ (s : State), s.mode.trans = Trans.none ∧ s.opMode = 0) ∧
    (∃ (s : State) (r : Nat), s.mode.trans = Trans.none ∧ r < 3 ∧ (s.opMode = 0 ∨ s.opMode = 3)) ∧
    (∃ (s : State) (p : Plane), s.mode.trans = Trans.none ∧ s.opMode = 1 ∧ p = Plane.host) ∧
    (∃ (s : State) (p : Plane), s.mode.trans = Trans.none ∧ s.opMode = 2 ∧ p = Plane.host) ∧
    (∃ (s : State) (r : Nat), s.mode.trans = Trans.none ∧ s.opMode = 1 ∧ s.getB Reg.MODE_START_DONE = false ∧ r < 3) ∧
    (∃ (r : Nat), 3 ≤ r) :=
  ⟨⟨State.reset, 0, by decide +kernel, nofun, by decide +kernel⟩,
   ⟨(idle6).getD 0 State.reset, by decide +kernel⟩,
   ⟨(idle6).getD 0 State.reset, by decide +kernel⟩,
   ⟨(idle6).getD 0 State.reset, by decide +kernel⟩,
   ⟨(idle6).getD 0 State.reset, by decide +kernel⟩,
   ⟨(idle6).getD 0 State.reset, 0, by decide +kernel⟩,
   ⟨(idle6).getD 4 State.reset, Plane.host, by decide +kernel⟩,
   ⟨(idle6).getD 8 State.reset, Plane.host, by decide +kernel⟩,
   ⟨(idle6).getD 4 State.reset, 0, by decide +kernel⟩,
   ⟨3, by decide +kernel⟩⟩

/-- The hypotheses of TransitionSteps can be met, clause by clause. -/
theorem witness_transitionSteps :
    (∃ (s : State) (m : Nat) (p : Option Plane), s.planeDue = some (m, p)) ∧
    (∃ (s : State) (m : Nat) (p : Option Plane), s.mode.trans = Trans.fill m p ∧ s.mode.left = 0) ∧
    (∃ (s : State) (r : Nat) (p : Option Plane), s.mode.trans = Trans.rate 4 r p ∧ s.mode.left = 0) ∧
    (∃ (s : State) (m : Nat) (p : Plane), s.mode.trans = Trans.rampIn m (some p) ∧ s.mode.left = 0 ∧ s.getP p Reg.MODE_BUSY = 1) ∧
    (∃ (s : State) (r : Nat) (p : Plane), s.mode.trans = Trans.rate 5 r (some p) ∧ s.mode.left = 0 ∧ s.getP p Reg.MODE_BUSY = 1) ∧
    (∃ (s : State) (r : Nat) (p : Option Plane), s.rateDue = some (r, p)) ∧
    (∃ (s : State) (m : Nat) (p : Plane), s.mode.trans = Trans.hold m (some p) ∧ s.mode.left = 0 ∧ s.getP p Reg.MODE_BUSY = 1 ∧ (s.mode.holdGain = if m = 5 then 0 else 64)) ∧
    (∃ (s : State) (p : Option Plane), s.mode.trans = Trans.stop 1 p ∧ s.mode.left = 0) ∧
    (∃ (s : State) (p : Option Plane), s.mode.trans = Trans.shutdown p ∧ s.get Reg.SUP_WARN_NOW = 0) :=
  ⟨⟨(trs).getD 16 State.reset, 4, some (Plane.host), by decide +kernel⟩,
   ⟨(trs).getD 24 State.reset, 4, some (Plane.host), by decide +kernel⟩,
   ⟨(trs).getD 76 State.reset, 1, some (Plane.host), by decide +kernel⟩,
   ⟨((trs).getD 28 State.reset).putP .host Reg.MODE_BUSY 0 1, 4, Plane.host, by decide +kernel⟩,
   ⟨((trs).getD 80 State.reset).putP .host Reg.MODE_BUSY 0 1, 1, Plane.host, by decide +kernel⟩,
   ⟨(trs).getD 68 State.reset, 1, some (Plane.host), by decide +kernel⟩,
   ⟨((trs).getD 55 State.reset).putP .host Reg.MODE_BUSY 0 1, 5, Plane.host, by decide +kernel⟩,
   ⟨(trs).getD 40 State.reset, some (Plane.host), by decide +kernel⟩,
   ⟨(trs).getD 88 State.reset, none, by decide +kernel⟩⟩

/-- The hypotheses of ResetAndStart can be met, clause by clause. -/
theorem witness_resetAndStart :
    (∃ (s : State) (k : Nat) (p : Option Plane), s.mode.trans = Trans.start k p ∧ 2 ≤ k ∧ s.startRuns = true) ∧
    (∃ (s : State) (p : Option Plane), s.mode.trans = Trans.start 4 p) ∧
    (∃ (s : State), s.mgmt.inRom = true) :=
  ⟨⟨(trs).getD 8 State.reset, 4, some (Plane.mgmt), by decide +kernel⟩,
   ⟨(trs).getD 8 State.reset, some (Plane.mgmt), by decide +kernel⟩,
   ⟨(trs).getD 2 State.reset, by decide +kernel⟩⟩

end Sys2Proof.Tests.W16

namespace Sys2Proof.Tests.W17
open Sys2Proof.Tests
def pw (f : Power → Power) (s : State) : State := { s with pwr := f s.pwr }
def doms (k : Nat) (s : State) : State := (List.range 17).foldl (fun s d => s.setDom d k) s
def dv (d c k : Nat) (pos : Nat) (s : State) : State := let s := pw (fun p => { p with dvfs := some (c, k) }) (s.put Reg.PWR_DIV_NOW 0 d); { s with clk := { s.clk with placed := true, pos := pos } }
def allI (s : State) : State := s.put Reg.PWR_IDLE_OFF 0 0x1FFFF

/-- The hypotheses of DomainsWakeAndGoOff can be met, clause by clause. -/
theorem witness_domainsWakeAndGoOff :
    (∃ (s : State) (d : Nat), d < 17 ∧ s.opMode ≠ 0 ∧ (s.domState d = 0 ∨ s.domState d = 1)) ∧
    (∃ (s : State) (d : Nat), d < 17 ∧ s.domState d = 2) ∧
    (∃ (s : State) (d : Nat), d < 17 ∧ s.opMode ≠ 0 ∧ bit (s.get Reg.PWR_IDLE_OFF) d = true ∧ s.domState d = 3 ∧ s.idleDomain d = true) :=
  ⟨⟨State.reset, 1, by decide +kernel⟩,
   ⟨doms 2 (running 4), 0, by decide +kernel⟩,
   ⟨allI (base 1), 12, by decide +kernel⟩⟩

/-- The hypotheses of DividersSuppliesSensorsFans can be met, clause by clause. -/
theorem witness_dividersSuppliesSensorsFans :
    (∃ (s : State) (v : Word), s.dvfsCheck (BitVec.toNat v % 4) = 0 ∧ s.get Reg.PWR_DIV_NOW < BitVec.toNat v % 4) ∧
    (∃ (s : State) (v : Word), s.dvfsCheck (BitVec.toNat v % 4) = 0 ∧ BitVec.toNat v % 4 < s.get Reg.PWR_DIV_NOW) ∧
    (∃ (s : State) (v : Word), s.dvfsCheck (BitVec.toNat v % 4) ≠ 0) ∧
    (∃ (s : State) (code : Nat), code < 3 ∧ s.pwr.dvfs = some (code, 0) ∧ (s.clk.placed = false ∨ s.clk.pos % 187500 = 0)) ∧
    (∃ (s : State) (code : Nat), code < 3 ∧ s.pwr.dvfs = some (code, 1) ∧ code < s.get Reg.PWR_DIV_NOW) ∧
    (∃ (s : State) (code : Nat), code < 3 ∧ s.pwr.dvfs = some (code, 1) ∧ s.get Reg.PWR_DIV_NOW ≤ code) ∧
    (∃ (mv : List Nat), mv.length = 10) ∧
    (∃ (s : State) (a : Nat), s.pwr.hold = true ∧ s.pwr.holdFrom = some a ∧ s.get Reg.SUP_WARN_NOW = 0) ∧
    (∃ (r : List Int), r.length = 8 ∧ ((r.any fun v => decide (500 ≤ v)) = true)) ∧
    (∃ (s : State), s.pwr.crossed < 3 ∧ s.pwr.crossed ≠ s.get Reg.THERM_STATE ∧ 1000 ≤ s.pwr.sinceChg) ∧
    (∃ (s : State) (f : Nat) (rpm : Nat), f < 2 ∧ rpm < s.mgmt.fanTach ∧ 300 ≤ s.get Reg.FAN_DUTY f ∧ s.get Reg.FAN_FAIL f = 0 ∧ rpm < 65536) ∧
    (∃ (s : State) (f : Nat) (rpm : Nat), f < 2 ∧ s.mgmt.fanTach < rpm ∧ rpm < 65536) :=
  ⟨⟨State.reset, 1, by decide +kernel⟩,
   ⟨(running 4).put Reg.PWR_DIV_NOW 0 1, 0, by decide +kernel⟩,
   ⟨State.reset, 3, by decide +kernel⟩,
   ⟨dv 0 1 0 187500 (running 4), 1, by decide +kernel⟩,
   ⟨dv 2 1 1 1 (running 4), 1, by decide +kernel⟩,
   ⟨dv 0 1 1 0 (running 4), 1, by decide +kernel⟩,
   ⟨[0, 0, 0, 0, 0, 0, 0, 0, 0, 0], by decide +kernel⟩,
   ⟨pw (fun p => { p with hold := true, holdFrom := some 5}) (running 4), 5, by decide +kernel⟩,
   ⟨[500, 500, 500, 500, 500, 500, 500, 500], by decide +kernel⟩,
   ⟨pw (fun p => {p with crossed := 1}) (running 4), by decide +kernel⟩,
   ⟨State.reset, 0, 0, by decide +kernel⟩,
   ⟨State.reset, 0, 900, by decide +kernel⟩⟩

end Sys2Proof.Tests.W17

namespace Sys2Proof.Tests.W18
open Sys2Proof.Tests
def fl (f : Flt → Flt) (s : State) : State := { s with flt := f s.flt }
def mg (f : Mgmt → Mgmt) (s : State) : State := { s with mgmt := f s.mgmt }
def us : List UnitId := [{page := 0}, {page := 0x10}, {page := 0x31}, {page := 0xC0}, {page := 0xC1}, {page := 0x40, index := 1}, {page := 0x40}, {page := 0xA0, index := 1}, {page := 0xA0, index := 7}, {page := 0xA0, index := 3}, {page := 0xB1, index := 5}, {page := 0xB8}, {page := 0xB9, index := 3}, {page := 0x90}, {page := 0xFFF}, {page := 0x60}, {page := 0x80}, {page := 0x81, index := 2}, {page := 4095, index := 65535}, {page := 0x90, index := 7}]
def tst (u : UnitId) (k : TestKind) (esc : Bool) (src : Nat) : FltTest := { unit := u, src := src, kind := k, stamp := 5, ts32 := 3, addr := 0x10000040, esc := esc, running := true, since := 5, begun := 7 }
def tests : List FltTest := [tst {page := 0x10} .se false 3, tst {page := 0xC0} .bc false 0xA6, tst {page := 0xC1} .bc true 0xA7, tst {page := 0x40, index := 1} .lane false 0x50, tst {page := 0x40, index := 72} .lane true 0x50]
def fencedAll : State := us.foldl (fun s u => (s.fenceUnit u false)) (running 4)
def fu (u : UnitId) (ep : Nat) (s : State) : State := (s.put Reg.FLT_FENCE_UNIT 0 (unitWord u)).put Reg.FLT_FENCE_EPOCH 0 ep

/-- The hypotheses of FaultEventsAreLoggedOrTested can be met, clause by clause. -/
theorem witness_faultEventsAreLoggedOrTested :
    (∃ (s : State) (src : Nat) (u : UnitId), src ≤ 192 ∧ u.page < 4096 ∧ u.index < 65536 ∧ s.unitDown u = false ∧ faultTest src u.index = none) ∧
    (∃ (s : State) (src : Nat) (u : UnitId) (k : TestKind), src ≤ 192 ∧ u.page < 4096 ∧ u.index < 65536 ∧ s.unitDown u = false ∧ faultTest src u.index = some k ∧ s.suspended u = false) ∧
    (∃ (s : State) (src : Nat) (u : UnitId), s.unitDown u = true ∧ src ≠ 183) ∧
    (∃ (s : State), s.get Reg.FLT_PULSE = 1) :=
  ⟨⟨State.reset, 148, { page := 160, index := 3 }, by decide +kernel⟩,
   ⟨State.reset, 0, { page := 0, index := 0 }, TestKind.se, by decide +kernel⟩,
   ⟨fencedAll, 0, { page := 0, index := 0 }, by decide +kernel⟩,
   ⟨(running 4).put Reg.FLT_PULSE 0 1, by decide +kernel⟩⟩

/-- The hypotheses of FencesAndTestEnds can be met, clause by clause. -/
theorem witness_fencesAndTestEnds :
    (∃ (s : State) (x : FltTest), (List.find? (fun t => t.unit == x.unit && t.running) s.flt.tests = some x) ∧ x.esc = false ∧ (x.kind = TestKind.bc ∨ x.kind = TestKind.lane)) ∧
    (∃ (s : State) (x : FltTest), (List.find? (fun t => t.unit == x.unit && t.running) s.flt.tests = some x) ∧ (x.kind = TestKind.se ∨ x.kind = TestKind.bc) ∧ fenceable x.unit = true ∧ isSubUnit x.unit = false ∧ s.unitDown x.unit = false) ∧
    (∃ (s : State) (u : UnitId), fenceable u = true ∧ isSubUnit u = false ∧ s.unitDown u = false ∧ s.epoch u.page + 1 < 2 ^ 32) ∧
    (∃ (s : State) (v : Word), BitVec.toNat v % 2 = 1 ∧ (s.get Reg.FLT_FENCE_UNIT ≠ unitWord (unitOfWord (s.get Reg.FLT_FENCE_UNIT)) ∨ fenceable (unitOfWord (s.get Reg.FLT_FENCE_UNIT)) = false)) ∧
    (∃ (s : State) (v : Word), BitVec.toNat v % 2 = 1 ∧ s.get Reg.FLT_FENCE_UNIT = unitWord (unitOfWord (s.get Reg.FLT_FENCE_UNIT)) ∧ fenceable (unitOfWord (s.get Reg.FLT_FENCE_UNIT)) = true ∧ s.get Reg.FLT_FENCE_EPOCH ≠ s.epoch (unitOfWord (s.get Reg.FLT_FENCE_UNIT)).page) ∧
    (∃ (s : State) (v : Word), BitVec.toNat v % 2 = 1 ∧ s.get Reg.FLT_FENCE_UNIT = unitWord (unitOfWord (s.get Reg.FLT_FENCE_UNIT)) ∧ fenceable (unitOfWord (s.get Reg.FLT_FENCE_UNIT)) = true ∧ s.get Reg.FLT_FENCE_EPOCH = s.epoch (unitOfWord (s.get Reg.FLT_FENCE_UNIT)).page ∧ s.unitDown (unitOfWord (s.get Reg.FLT_FENCE_UNIT)) = true) ∧
    (∃ (s : State) (v : Word), BitVec.toNat v % 2 = 1 ∧ s.get Reg.FLT_FENCE_UNIT = unitWord (unitOfWord (s.get Reg.FLT_FENCE_UNIT)) ∧ fenceable (unitOfWord (s.get Reg.FLT_FENCE_UNIT)) = true ∧ s.get Reg.FLT_FENCE_EPOCH = s.epoch (unitOfWord (s.get Reg.FLT_FENCE_UNIT)).page ∧ s.unitDown (unitOfWord (s.get Reg.FLT_FENCE_UNIT)) = false ∧ isSubUnit (unitOfWord (s.get Reg.FLT_FENCE_UNIT)) = false) :=
  ⟨⟨fl (fun f => {f with tests := tests}) (running 4), { unit := { page := 192, index := 0 }, src := 166, kind := TestKind.bc, stamp := 5, ts32 := 3, addr := 0x10000040, esc := false, severe := false, running := true, since := 5, begun := 7 }, by decide +kernel⟩,
   ⟨fl (fun f => {f with tests := tests}) (running 4), { unit := { page := 16, index := 0 }, src := 3, kind := TestKind.se, stamp := 5, ts32 := 3, addr := 0x10000040, esc := false, severe := false, running := true, since := 5, begun := 7 }, by decide +kernel⟩,
   ⟨State.reset, { page := 16, index := 0 }, by decide +kernel⟩,
   ⟨State.reset, 1, by decide +kernel⟩,
   ⟨fu {page := 0x10} 0 (running 4), 1, by decide +kernel⟩,
   ⟨fu {page := 0x10} (fencedAll.epoch 0x10) fencedAll, 1, by decide +kernel⟩,
   ⟨fu {page := 0x10} 1 (running 4), 1, by decide +kernel⟩⟩

/-- The hypotheses of SelfChecksMarchesAndFuses can be met, clause by clause. -/
theorem witness_selfChecksMarchesAndFuses :
    (∃ (s : State) (v : Word), BitVec.toNat v % 2 = 1 ∧ s.opMode = 2 ∧ s.get Reg.BIST_BUSY = 0 ∧ s.warned = false ∧ s.hot = false) ∧
    (∃ (s : State) (v : Word), BitVec.toNat v % 2 = 1 ∧ s.opMode ≠ 2) ∧
    (∃ (s : State) (v : Word), BitVec.toNat v % 2 = 1 ∧ s.marchRefusal = 0 ∧ s.warned = false ∧ s.hot = false) ∧
    (∃ (s : State) (v : Word), BitVec.toNat v % 2 = 1 ∧ s.mgmt.burn = none ∧ s.fuseRefusal = 0 ∧ List.take (256 - s.mgmt.fuseUsed) s.softRepairs ≠ []) ∧
    (∃ (s : State), (∀ (k : Nat) (p : Option Plane), s.mode.trans ≠ Trans.start k p) ∧ s.get Reg.BIST_BUSY = 1) ∧
    (∃ (s : State), s.mgmt.marchRun = true ∧ s.warned = false ∧ s.hot = false ∧ bit s.mgmt.marchReq 31 = true) ∧
    (∃ (s : State) (b : Burn), s.mgmt.burn = some b) :=
  ⟨⟨base 2, 1, by decide +kernel⟩,
   ⟨State.reset, 1, by decide +kernel⟩,
   ⟨((base 2).put Reg.MARCH_BANK_MASK 0 255).put Reg.MARCH_BG 0 1, 1, by decide +kernel⟩,
   ⟨mg (fun m => {m with repairs := [{bank := 1, row := 3, spare := 0, fused := false}, {bank := 0, row := 3, spare := 1, fused := true}]}) ((base 2).put Reg.KEY_AUTH 0 1), 1, by decide +kernel⟩,
   ⟨(base 2).put Reg.BIST_BUSY 0 1, nofun, by decide +kernel⟩,
   ⟨mg (fun m => {m with marchRun := true, marchReq := 2^31 + 255 + 1024}) (base 2), by decide +kernel⟩,
   ⟨mg (fun m => {m with fuseUsed := 255, burn := some ⟨[(1,3,0)]⟩}) (base 2), { left := [(1, 3, 0)] }, by decide +kernel⟩⟩

/-- The hypotheses of WatchdogRestartsTheController can be met, clause by clause. -/
theorem witness_watchdogRestartsTheController :
    (∃ (v : Word), BitVec.toNat v % 2 = 1) ∧
    (∃ (s : State), s.get Reg.FLT_WDT = 0) ∧
    (∃ (s : State), s.get Reg.FLT_WDT ≠ 0 ∧ s.fwHeader false = none ∧ s.fwHeader true = none) :=
  ⟨⟨1, by decide +kernel⟩,
   ⟨State.reset, by decide +kernel⟩,
   ⟨(base 1).put Reg.FLT_WDT 0 500, by decide +kernel⟩⟩

end Sys2Proof.Tests.W18

namespace Sys2Proof.Tests.W19
open Sys2Proof.Tests
def mg (f : Mgmt → Mgmt) (s : State) : State := { s with mgmt := f s.mgmt }
def ky (f : KeyStore → KeyStore) (s : State) : State := mg (fun m => { m with keys := f m.keys }) s
def K1 : List Byte := (List.range 32).map (BitVec.ofNat 8)
def envW (id len num : Nat) (uid : Nat) (body : List Nat) : List Word :=
  let ws := [id + len * 65536, num % 2^32, num / 2^32, uid] ++ body
  (ws ++ leWords (hmac K1 (wordBytes ws))).map (BitVec.ofNat 32)
def img (gen : Nat) : List Byte := let h := wordBytes [0x50524F56, gen, 0]; h ++ leBytes 4 (crc32 h)
def auth (s : State) : State := s.put Reg.KEY_AUTH 0 1
def withImg (gen : Nat) (s : State) : State := (s.put Reg.PROV_SRC_ADDR 0 0x10000000).sramWrite 0 (img gen)
def src (s : State) : State := (s.put Reg.PROV_FLASH_SRC 0 0x10000100).sramWrite 0x100 ((List.range 256).map (BitVec.ofNat 8))
def m2 : State := base 2
def op (o : FlashOp) (s : State) : State := mg (fun m => { m with flashOp := o, flash := [(5, 3), (4099, 7)] }) s

/-- The hypotheses of KeyStoreCommands can be met, clause by clause. -/
theorem witness_keyStoreCommands :
    (∃ (s : State), s.mgmt.keys.envelope.length < 257) ∧
    (∃ (s : State), 976 < bits ((List.map (fun x => BitVec.toNat x) s.mgmt.keys.envelope).getD 0 0) 31 16 ∨ (List.map (fun x => BitVec.toNat x) s.mgmt.keys.envelope).length ≠ 12 + (bits ((List.map (fun x => BitVec.toNat x) s.mgmt.keys.envelope).getD 0 0) 31 16 + 3) / 4) ∧
    (∃ (s : State), (¬(976 < bits ((List.map (fun x => BitVec.toNat x) s.mgmt.keys.envelope).getD 0 0) 31 16 ∨ (List.map (fun x => BitVec.toNat x) s.mgmt.keys.envelope).length ≠ 12 + (bits ((List.map (fun x => BitVec.toNat x) s.mgmt.keys.envelope).getD 0 0) 31 16 + 3) / 4)) ∧ (s.mkey ((List.map (fun x => BitVec.toNat x) s.mgmt.keys.envelope).getD 0 0 % 2) = none)) ∧
    (∃ (s : State) (k : List Byte), (¬(976 < bits ((List.map (fun x => BitVec.toNat x) s.mgmt.keys.envelope).getD 0 0) 31 16 ∨ (List.map (fun x => BitVec.toNat x) s.mgmt.keys.envelope).length ≠ 12 + (bits ((List.map (fun x => BitVec.toNat x) s.mgmt.keys.envelope).getD 0 0) 31 16 + 3) / 4)) ∧ (s.mkey ((List.map (fun x => BitVec.toNat x) s.mgmt.keys.envelope).getD 0 0 % 2) = some k) ∧ (hmac k (List.take (16 + (bits ((List.map (fun x => BitVec.toNat x) s.mgmt.keys.envelope).getD 0 0) 31 16 + 3) / 4 * 4) (wordBytes (List.map (fun x => BitVec.toNat x) s.mgmt.keys.envelope))) ≠ List.drop (16 + (bits ((List.map (fun x => BitVec.toNat x) s.mgmt.keys.envelope).getD 0 0) 31 16 + 3) / 4 * 4) (wordBytes (List.map (fun x => BitVec.toNat x) s.mgmt.keys.envelope)))) ∧
    (∃ (s : State) (k : List Byte), (¬(976 < bits ((List.map (fun x => BitVec.toNat x) s.mgmt.keys.envelope).getD 0 0) 31 16 ∨ (List.map (fun x => BitVec.toNat x) s.mgmt.keys.envelope).length ≠ 12 + (bits ((List.map (fun x => BitVec.toNat x) s.mgmt.keys.envelope).getD 0 0) 31 16 + 3) / 4)) ∧ (s.mkey ((List.map (fun x => BitVec.toNat x) s.mgmt.keys.envelope).getD 0 0 % 2) = some k) ∧ (hmac k (List.take (16 + (bits ((List.map (fun x => BitVec.toNat x) s.mgmt.keys.envelope).getD 0 0) 31 16 + 3) / 4 * 4) (wordBytes (List.map (fun x => BitVec.toNat x) s.mgmt.keys.envelope))) = List.drop (16 + (bits ((List.map (fun x => BitVec.toNat x) s.mgmt.keys.envelope).getD 0 0) 31 16 + 3) / 4 * 4) (wordBytes (List.map (fun x => BitVec.toNat x) s.mgmt.keys.envelope))) ∧ ((List.map (fun x => BitVec.toNat x) s.mgmt.keys.envelope).getD 3 0 ≠ s.get Reg.KEY_UID)) ∧
    (∃ (s : State) (k : List Byte), (¬(976 < bits ((List.map (fun x => BitVec.toNat x) s.mgmt.keys.envelope).getD 0 0) 31 16 ∨ (List.map (fun x => BitVec.toNat x) s.mgmt.keys.envelope).length ≠ 12 + (bits ((List.map (fun x => BitVec.toNat x) s.mgmt.keys.envelope).getD 0 0) 31 16 + 3) / 4)) ∧ (s.mkey ((List.map (fun x => BitVec.toNat x) s.mgmt.keys.envelope).getD 0 0 % 2) = some k) ∧ (hmac k (List.take (16 + (bits ((List.map (fun x => BitVec.toNat x) s.mgmt.keys.envelope).getD 0 0) 31 16 + 3) / 4 * 4) (wordBytes (List.map (fun x => BitVec.toNat x) s.mgmt.keys.envelope))) = List.drop (16 + (bits ((List.map (fun x => BitVec.toNat x) s.mgmt.keys.envelope).getD 0 0) 31 16 + 3) / 4 * 4) (wordBytes (List.map (fun x => BitVec.toNat x) s.mgmt.keys.envelope))) ∧ ((List.map (fun x => BitVec.toNat x) s.mgmt.keys.envelope).getD 3 0 = s.get Reg.KEY_UID) ∧ ((List.map (fun x => BitVec.toNat x) s.mgmt.keys.envelope).getD 1 0 + 2 ^ 32 * (List.map (fun x => BitVec.toNat x) s.mgmt.keys.envelope).getD 2 0 ≤ s.keyCtr ((List.map (fun x => BitVec.toNat x) s.mgmt.keys.envelope).getD 0 0 % 2))) ∧
    (∃ (s : State) (k : List Byte), (¬(976 < bits ((List.map (fun x => BitVec.toNat x) s.mgmt.keys.envelope).getD 0 0) 31 16 ∨ (List.map (fun x => BitVec.toNat x) s.mgmt.keys.envelope).length ≠ 12 + (bits ((List.map (fun x => BitVec.toNat x) s.mgmt.keys.envelope).getD 0 0) 31 16 + 3) / 4)) ∧ (s.mkey ((List.map (fun x => BitVec.toNat x) s.mgmt.keys.envelope).getD 0 0 % 2) = some k) ∧ (hmac k (List.take (16 + (bits ((List.map (fun x => BitVec.toNat x) s.mgmt.keys.envelope).getD 0 0) 31 16 + 3) / 4 * 4) (wordBytes (List.map (fun x => BitVec.toNat x) s.mgmt.keys.envelope))) = List.drop (16 + (bits ((List.map (fun x => BitVec.toNat x) s.mgmt.keys.envelope).getD 0 0) 31 16 + 3) / 4 * 4) (wordBytes (List.map (fun x => BitVec.toNat x) s.mgmt.keys.envelope))) ∧ ((List.map (fun x => BitVec.toNat x) s.mgmt.keys.envelope).getD 3 0 = s.get Reg.KEY_UID) ∧ (s.keyCtr ((List.map (fun x => BitVec.toNat x) s.mgmt.keys.envelope).getD 0 0 % 2) < (List.map (fun x => BitVec.toNat x) s.mgmt.keys.envelope).getD 1 0 + 2 ^ 32 * (List.map (fun x => BitVec.toNat x) s.mgmt.keys.envelope).getD 2 0)) ∧
    (∃ (s : State) (v : Word), bit (BitVec.toNat v) 31 = true ∧ s.opMode = 2 ∧ s.mgmt.keys.closed = false ∧ (s.getB Reg.KEY_AUTH = true ∧ s.get Reg.KEY_ID = BitVec.toNat v % 2 ∨ s.keysEmpty = true)) :=
  ⟨⟨State.reset, by decide +kernel⟩,
   ⟨State.reset, by decide +kernel⟩,
   ⟨ky (fun k => {k with key1 := some K1, envelope := envW 0 5 5 0 [1,2]}) m2, by decide +kernel⟩,
   ⟨ky (fun k => {k with key0 := some K1, envelope := (envW 0 5 9 0 [1,2]).set 6 9}) m2, [0, 1, 2, 3, 4, 5, 6, 7, 8, 9, 0xa, 0xb, 0xc, 0xd, 0xe, 0xf, 0x10, 0x11, 0x12, 0x13, 0x14, 0x15, 0x16, 0x17, 0x18, 0x19, 0x1a, 0x1b, 0x1c, 0x1d, 0x1e, 0x1f], by decide +kernel⟩,
   ⟨ky (fun k => {k with key1 := some K1, envelope := envW 1 5 0 1 [1,2]}) m2, [0, 1, 2, 3, 4, 5, 6, 7, 8, 9, 0xa, 0xb, 0xc, 0xd, 0xe, 0xf, 0x10, 0x11, 0x12, 0x13, 0x14, 0x15, 0x16, 0x17, 0x18, 0x19, 0x1a, 0x1b, 0x1c, 0x1d, 0x1e, 0x1f], by decide +kernel⟩,
   ⟨ky (fun k => {k with key1 := some K1, envelope := envW 1 5 0 0 [1,2]}) m2, [0, 1, 2, 3, 4, 5, 6, 7, 8, 9, 0xa, 0xb, 0xc, 0xd, 0xe, 0xf, 0x10, 0x11, 0x12, 0x13, 0x14, 0x15, 0x16, 0x17, 0x18, 0x19, 0x1a, 0x1b, 0x1c, 0x1d, 0x1e, 0x1f], by decide +kernel⟩,
   ⟨ky (fun k => {k with key1 := some K1, envelope := envW 1 0 5 0 []}) m2, [0, 1, 2, 3, 4, 5, 6, 7, 8, 9, 0xa, 0xb, 0xc, 0xd, 0xe, 0xf, 0x10, 0x11, 0x12, 0x13, 0x14, 0x15, 0x16, 0x17, 0x18, 0x19, 0x1a, 0x1b, 0x1c, 0x1d, 0x1e, 0x1f], by decide +kernel⟩,
   ⟨m2, 0x80000000, by decide +kernel⟩⟩

/-- The hypotheses of FlashWindow can be met, clause by clause. -/
theorem witness_flashWindow :
    (∃ (s : State) (off : Nat), groupZero (s.get Reg.PROV_FLASH_SRC) 256 = some off ∧ s.mgmt.flashOp ≠ FlashOp.none) ∧
    (∃ (s : State) (off : Nat), groupZero (s.get Reg.PROV_FLASH_SRC) 256 = some off ∧ s.mgmt.flashOp = FlashOp.none ∧ s.opMode ≠ 2) ∧
    (∃ (s : State) (off : Nat), groupZero (s.get Reg.PROV_FLASH_SRC) 256 = some off ∧ s.mgmt.flashOp = FlashOp.none ∧ s.opMode = 2 ∧ s.getB Reg.KEY_AUTH = false) ∧
    (∃ (s : State) (off : Nat), groupZero (s.get Reg.PROV_FLASH_SRC) 256 = some off ∧ s.mgmt.flashOp = FlashOp.none ∧ s.opMode = 2 ∧ s.getB Reg.KEY_AUTH = true ∧ s.flashProtected (s.get Reg.PROV_FLASH_ADDR / 4096 * 4096) 4096 = true) ∧
    (∃ (s : State) (off : Nat), groupZero (s.get Reg.PROV_FLASH_SRC) 256 = some off ∧ s.mgmt.flashOp = FlashOp.none ∧ s.opMode = 2 ∧ s.getB Reg.KEY_AUTH = true ∧ s.flashProtected (s.get Reg.PROV_FLASH_ADDR / 256 * 256) 256 = true) ∧
    (∃ (s : State) (off : Nat), groupZero (s.get Reg.PROV_FLASH_SRC) 256 = some off ∧ s.mgmt.flashOp = FlashOp.none ∧ s.opMode = 2 ∧ s.getB Reg.KEY_AUTH = true ∧ s.flashProtected (s.get Reg.PROV_FLASH_ADDR / 4096 * 4096) 4096 = false) ∧
    (∃ (s : State) (off : Nat), groupZero (s.get Reg.PROV_FLASH_SRC) 256 = some off ∧ s.mgmt.flashOp = FlashOp.none ∧ s.opMode = 2 ∧ s.getB Reg.KEY_AUTH = true ∧ s.flashProtected (s.get Reg.PROV_FLASH_ADDR / 256 * 256) 256 = false) ∧
    (∃ (s : State) (op : FlashOp) (a : Nat), s.mgmt.flashOp = op ∧ op = FlashOp.erase a) ∧
    (∃ (s : State) (op : FlashOp) (a : Nat) (d : List Byte), s.mgmt.flashOp = op ∧ op = FlashOp.program a d) ∧
    (∃ (s : State) (op : FlashOp) (a : Nat) (off : Nat), s.mgmt.flashOp = op ∧ op = FlashOp.read a off) ∧
    (∃ (s : State) (op : FlashOp) (a : Nat) (off : Nat) (d : List Byte), s.mgmt.flashOp = op ∧ (op = FlashOp.erase a ∨ op = FlashOp.program a d ∨ op = FlashOp.read a off)) :=
  ⟨⟨op (.erase 4096) (src m2), 256, by decide +kernel⟩,
   ⟨State.reset, 0, by decide +kernel⟩,
   ⟨m2, 0, by decide +kernel⟩,
   ⟨auth m2, 0, by decide +kernel⟩,
   ⟨auth m2, 0, by decide +kernel⟩,
   ⟨(src (auth m2)).put Reg.PROV_FLASH_ADDR 0 0x20000, 256, by decide +kernel⟩,
   ⟨(src (auth m2)).put Reg.PROV_FLASH_ADDR 0 0x20000, 256, by decide +kernel⟩,
   ⟨op (.erase 4096) (src m2), FlashOp.erase 4096, 4096, by decide +kernel⟩,
   ⟨op (.program 4096 [1,2,3,4,5]) (src m2), FlashOp.program 4096 [1, 2, 3, 4, 5], 4096, [1, 2, 3, 4, 5], by decide +kernel⟩,
   ⟨op (.read 0 1) (src m2), FlashOp.read 0 1, 0, 1, by decide +kernel⟩,
   ⟨op (.erase 4096) (src m2), FlashOp.erase 4096, 4096, 0, [0x56, 0x4f, 0x52, 0x50, 1, 0, 0, 0, 0, 0, 0, 0, 0x37, 0xc3, 0x3a, 0xee], by decide +kernel⟩⟩

/-- The hypotheses of ProvisioningCommits can be met, clause by clause. -/
theorem witness_provisioningCommits :
    (∃ (s : State), s.mgmt.flashOp ≠ FlashOp.none) ∧
    (∃ (s : State), s.mgmt.flashOp = FlashOp.none ∧ s.opMode ≠ 2) ∧
    (∃ (s : State), s.mgmt.flashOp = FlashOp.none ∧ s.opMode = 2 ∧ s.getB Reg.KEY_AUTH = false ∧ s.keysEmpty = false) ∧
    (∃ (s : State), s.mgmt.flashOp = FlashOp.none ∧ s.opMode = 2 ∧ s.getB Reg.KEY_AUTH = true ∧ provParse s.provImage = none) ∧
    (∃ (s : State) (gen : Nat) (rs : List ProvRec), s.mgmt.flashOp = FlashOp.none ∧ s.opMode = 2 ∧ s.getB Reg.KEY_AUTH = true ∧ provParse s.provImage = some (gen, rs) ∧ gen ≠ (s.get Reg.PROV_GEN + 1) % 2 ^ 32) ∧
    (∃ (s : State) (gen : Nat) (rs : List ProvRec), s.mgmt.flashOp = FlashOp.none ∧ s.opMode = 2 ∧ s.getB Reg.KEY_AUTH = true ∧ provParse s.provImage = some (gen, rs) ∧ gen = (s.get Reg.PROV_GEN + 1) % 2 ^ 32) ∧
    (∃ (s : State) (image : List Byte) (gen : Nat) (rs : List ProvRec), s.mgmt.flashOp = FlashOp.commit image ∧ provParse image = some (gen, rs)) :=
  ⟨⟨op (.erase 4096) (src m2), by decide +kernel⟩,
   ⟨State.reset, by decide +kernel⟩,
   ⟨ky (fun k => {k with key1 := some K1, envelope := envW 1 0 5 0 []}) m2, by decide +kernel⟩,
   ⟨auth m2, by decide +kernel⟩,
   ⟨withImg 2 (auth m2), 2, [], by decide +kernel⟩,
   ⟨withImg 1 (auth m2), 1, [], by decide +kernel⟩,
   ⟨op (.commit (img 1)) m2, [0x56, 0x4f, 0x52, 0x50, 1, 0, 0, 0, 0, 0, 0, 0, 0x37, 0xc3, 0x3a, 0xee], 1, [], by decide +kernel⟩⟩

end Sys2Proof.Tests.W19

namespace Sys2Proof.Tests.W20
open Sys2Proof.Tests
def hs (f : HostIf → HostIf) (s : State) : State := { s with host := f s.host }
def up (s : State) : State := hs (fun h => { h with busMaster := true, linkUp := true }) s
def ring (q : Nat) (r : HostRing) (s : State) : State := hs (fun h => { h with rings := tput {} h.rings q r }) s
def en (s : State) : State := (List.range 4).foldl (fun s q => ((s.put Reg.HOSTQ_EN q 1).put Reg.HOSTQ_CPL_SLOTS q 8).put Reg.HOSTQ_CPL_BASE_LO q (q * 64)) s
def wsOf (seq op epoch : Nat) (l : List Nat) : List Word := (([seq, op, epoch, 0] ++ l ++ List.replicate 16 0).take 16).map (BitVec.ofNat 32)
def cm (seq op : Nat) (l : List Nat) : RingCmd := { seq := seq, op := op, words := wsOf seq op 0 l }
def rec0 (k : Nat) : Cpl := hostCpl k 0 0 0 5 0
def ex (n : Nat) (s : State) : State := (List.range 4).foldl (fun s q => s.put Reg.HOSTQ_RING_EXPECT q n) s
def due (n : Nat) (s : State) : State := (List.range 4).foldl (fun s q => ring q { doorbell := some n, cursor := n, records := [rec0 (n-1), rec0 (n-2)] } s) s

/-- The hypotheses of HostInterfaceCommands can be met, clause by clause. -/
theorem witness_hostInterfaceCommands :
    (∃ (s : State) (width : Nat) (speed : Nat), s.hostLinkHeld = false ∧ (width = 1 ∨ width = 2 ∨ width = 4) ∧ 1 ≤ speed ∧ speed ≤ 4) ∧
    (∃ (s : State) (v : Nat) (f : Bool) (m : Bool), v < 64 ∧ s.hostReadable = true ∧ s.vectorDue v = true ∧ s.getB Reg.INTC_IN_SERVICE v = false ∧ s.holdoffPast v = true ∧ (f || m) = true) ∧
    (∃ (k : Nat), k < 2) :=
  ⟨⟨State.reset, 1, 1, by decide +kernel⟩,
   ⟨((((up (running 4)).put Reg.INTC_MAP_EN1 0 1).put Reg.INTC_MAP_VEC1 0 5).put Hdr.IRQ_STAT 1 3).put Hdr.IRQ_EN 1 1, 5, false, true, by decide +kernel⟩,
   ⟨0, by decide +kernel⟩⟩

/-- The hypotheses of HostRings can be met, clause by clause. -/
theorem witness_hostRings :
    (∃ (s : State) (q : Nat) (ws : List Word), q < 4 ∧ s.getB Reg.HOSTQ_EN q = true ∧ s.ringDue q = true ∧ (s.hostRing q).cmd = none ∧ s.getB Reg.HOSTQ_GAP_STOP q = false ∧ s.getB Reg.HOSTQ_FETCH_ERR q = false ∧ s.cplFree q = true ∧ (s.hostRing q).replay = [] ∧ ws.length = 16 ∧ s.hostReadable = true ∧ BitVec.toNat (ws.getD 0 0) = s.get Reg.HOSTQ_RING_EXPECT q ∧ ({ seq := BitVec.toNat (ws.getD 0 0), op := bits (BitVec.toNat (ws.getD 1 0)) 7 0, words := ws } : RingCmd).argsOk = true ∧ ringOps.contains (bits (BitVec.toNat (ws.getD 1 0)) 7 0) = true ∧ (BitVec.toNat (ws.getD 2 0) = 0 ∨ BitVec.toNat (ws.getD 2 0) = s.epoch (bits (BitVec.toNat (ws.getD 1 0)) 27 16)) ∧ bits (BitVec.toNat (ws.getD 1 0)) 7 0 ≠ 16) ∧
    (∃ (s : State) (q : Nat) (ws : List Word), q < 4 ∧ s.getB Reg.HOSTQ_EN q = true ∧ s.ringDue q = true ∧ (s.hostRing q).cmd = none ∧ s.getB Reg.HOSTQ_GAP_STOP q = false ∧ s.getB Reg.HOSTQ_FETCH_ERR q = false ∧ s.cplFree q = true ∧ (s.hostRing q).replay = [] ∧ ws.length = 16 ∧ s.hostReadable = true ∧ BitVec.toNat (ws.getD 0 0) = s.get Reg.HOSTQ_RING_EXPECT q ∧ ringOps.contains (bits (BitVec.toNat (ws.getD 1 0)) 7 0) = false) ∧
    (∃ (s : State) (q : Nat) (ws : List Word), q < 4 ∧ s.getB Reg.HOSTQ_EN q = true ∧ s.ringDue q = true ∧ (s.hostRing q).cmd = none ∧ s.getB Reg.HOSTQ_GAP_STOP q = false ∧ s.getB Reg.HOSTQ_FETCH_ERR q = false ∧ s.cplFree q = true ∧ (s.hostRing q).replay = [] ∧ ws.length = 16 ∧ s.hostReadable = true ∧ BitVec.toNat (ws.getD 0 0) = s.get Reg.HOSTQ_RING_EXPECT q ∧ ringOps.contains (bits (BitVec.toNat (ws.getD 1 0)) 7 0) = true ∧ ({ seq := BitVec.toNat (ws.getD 0 0), op := bits (BitVec.toNat (ws.getD 1 0)) 7 0, words := ws } : RingCmd).argsOk = false) ∧
    (∃ (s : State) (q : Nat) (ws : List Word) (r : Cpl), q < 4 ∧ s.getB Reg.HOSTQ_EN q = true ∧ s.ringDue q = true ∧ (s.hostRing q).cmd = none ∧ s.getB Reg.HOSTQ_GAP_STOP q = false ∧ s.getB Reg.HOSTQ_FETCH_ERR q = false ∧ s.cplFree q = true ∧ (s.hostRing q).replay = [] ∧ ws.length = 16 ∧ s.hostReadable = true ∧ BitVec.toNat (ws.getD 0 0) ≠ s.get Reg.HOSTQ_RING_EXPECT q ∧ (s.get Reg.HOSTQ_RING_EXPECT q + 2 ^ 32 - BitVec.toNat (ws.getD 0 0)) % 2 ^ 32 ≤ 256 ∧ (List.find? (fun x => x.seq == BitVec.toNat (ws.getD 0 0)) (s.hostRing q).records = some r)) ∧
    (∃ (s : State) (q : Nat) (ws : List Word), q < 4 ∧ s.getB Reg.HOSTQ_EN q = true ∧ s.ringDue q = true ∧ (s.hostRing q).cmd = none ∧ s.getB Reg.HOSTQ_GAP_STOP q = false ∧ s.getB Reg.HOSTQ_FETCH_ERR q = false ∧ s.cplFree q = true ∧ (s.hostRing q).replay = [] ∧ ws.length = 16 ∧ s.hostReadable = true ∧ 2 ^ 31 < (s.get Reg.HOSTQ_RING_EXPECT q + 2 ^ 32 - BitVec.toNat (ws.getD 0 0)) % 2 ^ 32) ∧
    (∃ (s : State) (q : Nat), q < 4 ∧ s.getB Reg.HOSTQ_EN q = false) ∧
    (∃ (s : State) (q : Nat) (v : Word), q < 4 ∧ (s.getB Reg.HOSTQ_EN q = false ∨ (s.get Reg.HOSTQ_RING_EXPECT q + 2 ^ 32 - BitVec.toNat v) % 2 ^ 32 = 0 ∨ 256 < (s.get Reg.HOSTQ_RING_EXPECT q + 2 ^ 32 - BitVec.toNat v) % 2 ^ 32)) ∧
    (∃ (s : State) (q : Nat) (v : Word), q < 4 ∧ s.getB Reg.HOSTQ_EN q = true ∧ 0 < (s.get Reg.HOSTQ_RING_EXPECT q + 2 ^ 32 - BitVec.toNat v) % 2 ^ 32 ∧ (s.get Reg.HOSTQ_RING_EXPECT q + 2 ^ 32 - BitVec.toNat v) % 2 ^ 32 ≤ 256) ∧
    (∃ (s : State) (q : Nat) (c : RingCmd), q < 4 ∧ (s.hostRing q).cmd = some c ∧ c.op = 0 ∧ c.began = false ∧ c.mute = false ∧ s.getB Reg.HOSTQ_EN q = true ∧ (s.hostRing q).replay = [] ∧ s.cplFree q = true ∧ s.hostReadable = true) :=
  ⟨⟨due 5 (ex 5 (up (en (running 4)))), 0, [5, 0, 0, 0, 0, 0, 0, 0, 0, 0, 0, 0, 0, 0, 0, 0], by decide +kernel⟩,
   ⟨due 5 (ex 5 (up (en (running 4)))), 0, [5, 0x77, 0, 0, 0, 0, 0, 0, 0, 0, 0, 0, 0, 0, 0, 0], by decide +kernel⟩,
   ⟨due 5 (ex 5 (up (en (running 4)))), 0, [5, 1, 0, 0, 1, 0, 0, 0, 0, 0, 0, 0, 0, 0, 0, 0], by decide +kernel⟩,
   ⟨due 5 (ex 5 (up (en (running 4)))), 0, [4, 0, 0, 0, 0, 0, 0, 0, 0, 0, 0, 0, 0, 0, 0, 0], { seq := 4, words := [4, 0, 5, 0] }, by decide +kernel⟩,
   ⟨due 5 (ex 4 (up (en (running 4)))), 0, [5, 0, 0, 0, 0, 0, 0, 0, 0, 0, 0, 0, 0, 0, 0, 0], by decide +kernel⟩,
   ⟨State.reset, 0, by decide +kernel⟩,
   ⟨State.reset, 0, 0, by decide +kernel⟩,
   ⟨en (running 4), 0, 0xffffffff, by decide +kernel⟩,
   ⟨ring 1 { cmd := some (cm 3 0 []), records := [rec0 2, rec0 1] } (ex 4 (up (en (running 4)))), 1, { seq := 3, op := 0, words := [3, 0, 0, 0, 0, 0, 0, 0, 0, 0, 0, 0, 0, 0, 0, 0], began := false, mute := false }, by decide +kernel⟩⟩

end Sys2Proof.Tests.W20

namespace Sys2Proof.Tests.W21
open Sys2Proof.Tests
def hs (f : HostIf → HostIf) (s : State) : State := { s with host := f s.host }
def up (s : State) : State := hs (fun h => { h with busMaster := true, linkUp := true }) s
def ring (q : Nat) (r : HostRing) (s : State) : State := hs (fun h => { h with rings := tput {} h.rings q r }) s
def en (s : State) : State := (List.range 4).foldl (fun s q => ((s.put Reg.HOSTQ_EN q 1).put Reg.HOSTQ_CPL_SLOTS q 8).put Reg.HOSTQ_CPL_BASE_LO q (q * 64)) s
def wsOf (seq op epoch : Nat) (l : List Nat) : List Word := (([seq, op, epoch, 0] ++ l ++ List.replicate 16 0).take 16).map (BitVec.ofNat 32)
def cm (seq op : Nat) (l : List Nat) : RingCmd := { seq := seq, op := op, words := wsOf seq op 0 l }

/-- The hypotheses of RegisterWrites can be met, clause by clause. -/
theorem witness_registerWrites :
    (∃ (off : Nat) (data : List Byte), off % 4 ≠ 0 ∨ data.length % 4 ≠ 0 ∨ data = []) ∧
    (∃ (page : Nat), page < 4) ∧
    (∃ (s : State) (q : Nat), q < 4 ∧ s.getB Reg.HOSTQ_EN q = false) ∧
    (∃ (s : State) (q : Nat), q < 4 ∧ s.getB Reg.HOSTQ_EN q = true) ∧
    (∃ (s : State) (q : Nat) (c : RingCmd), (s.hostRing q).cmd = some c ∧ c.op = 1 ∧ c.began = false ∧ c.argsOk = true) :=
  ⟨⟨0, [], by decide +kernel⟩,
   ⟨0, by decide +kernel⟩,
   ⟨State.reset, 0, by decide +kernel⟩,
   ⟨en (running 4), 0, by decide +kernel⟩,
   ⟨ring 0 { cmd := some (cm 3 1 [0x10, 2, 7, 9]) } (up (en (running 4))), 0, { seq := 3, op := 1, words := [3, 1, 0, 0, 0x10, 2, 7, 9, 0, 0, 0, 0, 0, 0, 0, 0], began := false, mute := false }, by decide +kernel⟩⟩

/-- The hypotheses of RegisterReadsResetsAndFreezes can be met, clause by clause. -/
theorem witness_registerReadsResetsAndFreezes :
    (∃ (s : State), ∀ (q : Nat), q < 4 → s.getB Reg.HOSTQ_EN q = false) ∧
    (∃ (s : State) (q : Nat), q < 4 ∧ s.getB Reg.HOSTQ_EN q = true) ∧
    (∃ (page : Nat) (on : Bool), page < 4 ∧ on = true) ∧
    (∃ (p : Plane) (off : Nat) (n : Nat), (off % 4 ≠ 0 ∨ n % 4 ≠ 0 ∨ n = 0) ∧ p = Plane.host) ∧
    (∃ (p : Plane) (off : Nat) (n : Nat), (off % 4 ≠ 0 ∨ n % 4 ≠ 0 ∨ n = 0) ∧ p = Plane.mgmt) ∧
    (∃ (s : State) (p : Plane) (f : Fld), (f = Reg.PWR_WAKE_MAX ∨ f = Reg.THERM_TJ_MAX) ∧ s.getB Hdr.FREEZE (fldAt f 0 / 4096) = false ∧ p = Plane.host) ∧
    (∃ (s : State) (p : Plane) (f : Fld), (f = Reg.PWR_WAKE_MAX ∨ f = Reg.THERM_TJ_MAX) ∧ s.getB Hdr.FREEZE (fldAt f 0 / 4096) = false ∧ p = Plane.mgmt) ∧
    (∃ (a : Nat), 15728640 ≤ a ∧ a < 15736832 ∧ a % 4 = 0) ∧
    (∃ (s : State) (q : Nat) (c : RingCmd), (s.hostRing q).cmd = some c ∧ c.op = 2 ∧ c.began = false ∧ c.argsOk = true) :=
  ⟨⟨State.reset, by decide +kernel⟩,
   ⟨en (running 4), 0, by decide +kernel⟩,
   ⟨0, true, by decide +kernel⟩,
   ⟨Plane.host, 0, 0, by decide +kernel⟩,
   ⟨Plane.mgmt, 0, 0, by decide +kernel⟩,
   ⟨State.reset, Plane.host, { addr := 917600, hi := 15, lo := 0, step := 0, per := 1, pst := 0, cnt := 1, grp := 1, lim := 1, acc := Acc.rc, rst := 0 }, by decide +kernel⟩,
   ⟨State.reset, Plane.mgmt, { addr := 917600, hi := 15, lo := 0, step := 0, per := 1, pst := 0, cnt := 1, grp := 1, lim := 1, acc := Acc.rc, rst := 0 }, by decide +kernel⟩,
   ⟨15728640, by decide +kernel⟩,
   ⟨ring 0 { cmd := some (cm 3 2 [0x0, 5, 0x100, 0]) } (up (en (running 4))), 0, { seq := 3, op := 2, words := [3, 2, 0, 0, 0, 5, 0x100, 0, 0, 0, 0, 0, 0, 0, 0, 0], began := false, mute := false }, by decide +kernel⟩⟩

end Sys2Proof.Tests.W21
end

section
/-! SUPPORT. Every operation of the model keeps the byte memories and the register words in canonical form. Statements O3 and O4. -/

namespace Sys2Proof.Machine

-- one proof after another: side by side, the many small proofs that split a match wait for each other and use up the threads
set_option Elab.async false

/-! ## The canonical form of a state and of an outcome

`h.op : (s.op …).Canonical` for each operation `op` of the model, so that a chain of operations is followed by the same chain of
lemmas. -/

/-- The byte memories and the register words of a state are in canonical form. -/
def State.Canonical (s : State) : Prop := Memory.wf s = true

/-- A command that answers a next state answers one in canonical form. -/
def Out.Canonical (o : Out) : Prop := ∀ t, o = .next t → t.Canonical

variable {s t : State}

protected theorem Out.Canonical.ok (h : s.Canonical) : Out.Canonical (ok s) := by
  rintro _ ⟨⟩
  exact h

/-- The form concerns the register words, the memories, the host interface and the management plane, and nothing else of the state. -/
protected theorem State.Canonical.same {pending clk ptp hel frozen free sel flt mode pwr scn eph dp ports net lanes kzl stby se prog bc}
    (h : s.Canonical) :
    (State.mk pending clk ptp hel s.regs frozen free sel flt s.mem s.host mode s.mgmt pwr scn eph dp ports net lanes kzl stby se prog
      bc).Canonical :=
  h

protected theorem State.Canonical.ite {c : Prop} {_ : Decidable c} (hs : s.Canonical) (ht : t.Canonical) :
    (if c then s else t).Canonical := by
  split
  · exact hs
  · exact ht

/-- A choice between two results, each a state with an answer. -/
protected theorem State.Canonical.iteFst {α : Type} {c : Prop} {_ : Decidable c} {a b : State × α} (ha : a.1.Canonical)
    (hb : b.1.Canonical) : (if c then a else b).1.Canonical := by
  split
  · exact ha
  · exact hb

protected theorem State.Canonical.iteSnd {α : Type} {c : Prop} {_ : Decidable c} {a b : α × State} (ha : a.2.Canonical)
    (hb : b.2.Canonical) : (if c then a else b).2.Canonical := by
  split
  · exact ha
  · exact hb

protected theorem State.Canonical.iteSndFst {α β : Type} {c : Prop} {_ : Decidable c} {a b : α × State × β}
    (ha : a.2.1.Canonical) (hb : b.2.1.Canonical) : (if c then a else b).2.1.Canonical := by
  split
  · exact ha
  · exact hb

protected theorem Out.Canonical.ite {c : Prop} {_ : Decidable c} {a b : Out} (ha : Out.Canonical a) (hb : Out.Canonical b) :
    Out.Canonical (if c then a else b) := by
  split
  · exact ha
  · exact hb

protected theorem State.Canonical.forRange {f : Nat → State → State} {n lo : Nat} (h : s.Canonical)
    (hf : ∀ i x, x.Canonical → (f i x).Canonical) : (forRange f lo n s).Canonical :=
  Memory.wf_forRange hf n lo s h

protected theorem State.Canonical.forEach {α : Type} {f : α → State → State} {l : List α} (h : s.Canonical)
    (hf : ∀ a x, x.Canonical → (f a x).Canonical) : (forEach f l s).Canonical :=
  Memory.wf_forEach hf l s h

protected theorem State.Canonical.foldl {α : Type} {f : State → α → State} {l : List α} (h : s.Canonical)
    (hf : ∀ x a, x.Canonical → (f x a).Canonical) : (l.foldl f s).Canonical := by
  induction l generalizing s with
  | nil => exact h
  | cons a r ih => exact ih (hf s a h)

/-- A result taken apart into its value and the state that goes with it. -/
theorem State.Canonical.of_eq {α : Type} {p : α × State} {x : α} (hp : p.2.Canonical) (e : p = (x, s)) : s.Canonical := by
  subst e
  exact hp

/-- Folding a state along with other values keeps the form when each round does. -/
theorem State.Canonical.foldl_of {α β : Type} (m : β → State) {f : β → α → β}
    (hf : ∀ b a, (m b).Canonical → (m (f b a)).Canonical) (l : List α) (b : β) (h : (m b).Canonical) :
    (m (l.foldl f b)).Canonical := by
  induction l generalizing b with
  | nil => exact h
  | cons a r ih => exact ih _ (hf b a h)

/-! ## Stores that the form speaks of -/

theorem State.Canonical.sram (h : s.Canonical) : twf (fun _ => 0) s.mem.sram = true := ((Memory.wf_iff s).1 h).1

theorem State.Canonical.dram (h : s.Canonical) : twf (fun _ => 0) s.mem.dram = true := ((Memory.wf_iff s).1 h).2.1

protected theorem State.Canonical.modMem {f : Mem → Mem} (h : s.Canonical) (hs : twf (fun _ => 0) (f s.mem).sram = true)
    (hd : twf (fun _ => 0) (f s.mem).dram = true) : (s.modMem f).Canonical := by
  obtain ⟨-, -, hflash, hhost, hregs⟩ := (Memory.wf_iff s).1 h
  exact (Memory.wf_iff _).2 ⟨hs, hd, hflash, hhost, hregs⟩

/-- A change of the memory part that leaves SRAM and DRAM alone. -/
theorem State.Canonical.keepMem {f : Mem → Mem} (h : s.Canonical) (hs : ∀ m, (f m).sram = m.sram := by intro _; rfl)
    (hd : ∀ m, (f m).dram = m.dram := by intro _; rfl) : (s.modMem f).Canonical :=
  h.modMem ((hs _).symm ▸ h.sram) ((hd _).symm ▸ h.dram)

/-- A change of the host interface that leaves host memory alone. -/
theorem State.Canonical.keepHost {f : HostIf → HostIf} (h : s.Canonical) (hm : ∀ m, (f m).mem = m.mem := by intro _; rfl) :
    (s.modHost f).Canonical :=
  Memory.wf_congr h rfl rfl rfl (hm _) rfl

/-- A change of the management plane that leaves the flash alone. -/
theorem State.Canonical.keepMgmt {f : Mgmt → Mgmt} (h : s.Canonical) (hf : ∀ m, (f m).flash = m.flash := by intro _; rfl) :
    (s.modMgmt f).Canonical :=
  Memory.wf_congr h rfl rfl (hf _) rfl rfl

protected theorem State.Canonical.filterRegs {p : Nat × Word → Bool} (h : s.Canonical) :
    { s with regs := s.regs.filter p }.Canonical :=
  Memory.wf_filter_regs h p

/-! ## Ops -/

protected theorem State.Canonical.setWord {a : Nat} {v : Word} (h : s.Canonical) : (s.setWord a v).Canonical :=
  Memory.wf_setWord h a v

protected theorem State.Canonical.put {f : Fld} {i v : Nat} (h : s.Canonical) : (s.put f i v).Canonical :=
  h.setWord

protected theorem State.Canonical.putB {f : Fld} {i : Nat} {b : Bool} (h : s.Canonical) : (s.putB f i b).Canonical :=
  h.put

protected theorem State.Canonical.count {f : Fld} {i n : Nat} (h : s.Canonical) : (s.count f i n).Canonical :=
  h.put

protected theorem State.Canonical.countWrap {f : Fld} {i : Nat} (h : s.Canonical) : (s.countWrap f i).Canonical :=
  h.put

protected theorem State.Canonical.keepMax {f : Fld} {i v : Nat} (h : s.Canonical) : (s.keepMax f i v).Canonical :=
  .ite h.put h

protected theorem State.Canonical.setBitOf {f : Fld} {i b : Nat} {v : Bool} (h : s.Canonical) : (s.setBitOf f i b v).Canonical :=
  h.put

protected theorem State.Canonical.setMapBit {f : Fld} {n : Nat} {v : Bool} (h : s.Canonical) : (s.setMapBit f n v).Canonical :=
  h.setBitOf

protected theorem State.Canonical.irq {f : Fld} {i : Nat} (h : s.Canonical) : (s.irq f i).Canonical :=
  h.put

protected theorem State.Canonical.modClk {f : Clk → Clk} (h : s.Canonical) : (s.modClk f).Canonical :=
  .same h

protected theorem State.Canonical.modPtp {f : PtpClk → PtpClk} (h : s.Canonical) : (s.modPtp f).Canonical :=
  .same h

protected theorem State.Canonical.modFlt {f : Flt → Flt} (h : s.Canonical) : (s.modFlt f).Canonical :=
  .same h

protected theorem State.Canonical.modMode {f : ModeSt → ModeSt} (h : s.Canonical) : (s.modMode f).Canonical :=
  .same h

protected theorem State.Canonical.modPwr {f : Power → Power} (h : s.Canonical) : (s.modPwr f).Canonical :=
  .same h

protected theorem State.Canonical.pageErr {page n : Nat} (h : s.Canonical) : (s.pageErr page n).Canonical :=
  h.count

protected theorem State.Canonical.bumpEpoch {page : Nat} (h : s.Canonical) : (s.bumpEpoch page).Canonical :=
  h.put

protected theorem State.Canonical.progress {page : Nat} {busy : Bool} {pos total : Nat} (h : s.Canonical) :
    (s.progress page busy pos total).Canonical :=
  h.putB.put.put

protected theorem State.Canonical.progressStop {page : Nat} (h : s.Canonical) : (s.progressStop page).Canonical :=
  h.putB

protected theorem State.Canonical.advanceTo {edge : Nat} (h : s.Canonical) : (s.advanceTo edge).Canonical :=
  .same h

protected theorem State.Canonical.draw (h : s.Canonical) : s.draw.2.Canonical :=
  .same h

protected theorem State.Canonical.put0 {f : Fld} {v : Nat} (h : s.Canonical) : (s.put0 f v).Canonical :=
  h.put

/-! ## Moves -/

protected theorem State.Canonical.modDp {f : Data → Data} (h : s.Canonical) : (s.modDp f).Canonical :=
  .same h

protected theorem State.Canonical.modScn {f : Scn → Scn} (h : s.Canonical) : (s.modScn f).Canonical :=
  .same h

protected theorem State.Canonical.modEph {f : Eph → Eph} (h : s.Canonical) : (s.modEph f).Canonical :=
  .same h

/-! ## Mirror -/

protected theorem State.Canonical.setLink {k : Nat} {f : Kzl → Kzl} (h : s.Canonical) : (s.setLink k f).Canonical :=
  .same h

protected theorem State.Canonical.kzlQueue {k typ : Nat} {payload : List Byte} (h : s.Canonical) : (s.kzlQueue k typ payload).Canonical :=
  .ite h.setLink h

protected theorem State.Canonical.sendRecord {typ sample : Nat} {body : List Nat} (h : s.Canonical) :
    (s.sendRecord typ sample body).Canonical :=
  h.kzlQueue

protected theorem State.Canonical.sendStatus (h : s.Canonical) : s.sendStatus.Canonical :=
  .ite h h.sendRecord

protected theorem State.Canonical.mirrorMove {lane meridian : Nat} {m : SMove} (h : s.Canonical) :
    (s.mirrorMove lane meridian m).Canonical :=
  .ite (.sendRecord (.same h)) h

protected theorem State.Canonical.mirrorSlot {op lane sample : Nat} (h : s.Canonical) : (s.mirrorSlot op lane sample).Canonical :=
  .ite h.sendRecord h

protected theorem State.Canonical.measured {kind index v0 v1 : Nat} {now : State → State} (h : s.Canonical)
    (hnow : ∀ t, t.Canonical → (now t).Canonical) : (s.measured kind index v0 v1 now).Canonical :=
  .ite h (.ite (.same h.sendRecord) (hnow s h))

/-! ## Sources -/

protected theorem State.Canonical.modPorts {f : Ports → Ports} (h : s.Canonical) : (s.modPorts f).Canonical :=
  .same h

protected theorem State.Canonical.modNet {f : Net → Net} (h : s.Canonical) : (s.modNet f).Canonical :=
  .same h

protected theorem State.Canonical.setRxp {p : Nat} {f : PortRx → PortRx} (h : s.Canonical) : (s.setRxp p f).Canonical :=
  h.modPorts

protected theorem State.Canonical.setTxp {p : Nat} {f : PortTx → PortTx} (h : s.Canonical) : (s.setTxp p f).Canonical :=
  h.modPorts

protected theorem State.Canonical.putPortFld {p : Nat} {a m t : Fld} {v : Nat} (h : s.Canonical) : (s.putPortFld p a m t v).Canonical :=
  .ite h.put (.ite h.put h.put)

protected theorem State.Canonical.countPortFld {p : Nat} {a m t : Fld} (h : s.Canonical) : (s.countPortFld p a m t).Canonical :=
  .ite h.count (.ite h.count h.count)

/-! ## Domains -/

protected theorem State.Canonical.setDom {d v : Nat} (h : s.Canonical) : (s.setDom d v).Canonical := by
  unfold State.setDom
  extract_lets s1
  have h1 : s1.Canonical := .ite h h.irq
  exact .ite h1.put0 h1.put0

protected theorem State.Canonical.wakeStart {d : Nat} (h : s.Canonical) : (s.wakeStart d).Canonical :=
  .ite h h.setDom.modPwr

protected theorem State.Canonical.wakeDone {d us : Nat} (h : s.Canonical) : (s.wakeDone d us).Canonical :=
  h.setDom.modPwr.count.keepMax.irq

protected theorem State.Canonical.wakeFor {page : Nat} (h : s.Canonical) : (s.wakeFor page).Canonical :=
  .ite h h.wakeStart.advanceTo.wakeDone

protected theorem State.Canonical.atPage {page : Nat} {f : State → Out} (h : s.Canonical)
    (hf : ∀ t, t.Canonical → Out.Canonical (f t)) : Out.Canonical (s.atPage page f) :=
  .ite (.ok h) (hf _ h.wakeFor)

/-! ## FaultLog -/

protected theorem State.Canonical.logEvent {stamp ts32 src outcome : Nat} {retry retired severe : Bool} {u : UnitId} {addr : Word}
    {testTicks : Nat} (h : s.Canonical) : (s.logEvent stamp ts32 src outcome retry retired severe u addr testTicks).Canonical :=
  h.put.put.put.put.put.put.put.put.put0.modFlt

protected theorem State.Canonical.faultPulse (h : s.Canonical) : s.faultPulse.Canonical :=
  h.put0.put0

protected theorem State.Canonical.countSource {src : Nat} (h : s.Canonical) : (s.countSource src).1.Canonical :=
  .iteFst h.count (.iteFst h.count.put h.count.modFlt.put)

protected theorem State.Canonical.showTests (h : s.Canonical) : s.showTests.Canonical :=
  h.put0.put0

protected theorem State.Canonical.raise {src : Nat} {u : UnitId} {addr : Word} (h : s.Canonical) : (s.raise src u addr).Canonical := by
  dsimp only [State.raise]
  refine .ite h ?_
  split
  · exact .logEvent (.ite h.countSource.setMapBit.irq.faultPulse h.countSource)
  · exact .ite (.logEvent (.modFlt (.ite h.countSource.setMapBit.irq.faultPulse h.countSource)))
      (.showTests (.modFlt (.ite h.countSource.setMapBit.irq.faultPulse h.countSource)))

protected theorem State.Canonical.execFaultEvent {src : Nat} {unit : UnitId} {addr : Word} (h : s.Canonical) :
    Out.Canonical (execFaultEvent src unit addr s) :=
  .ok (.ite h.raise h)

protected theorem State.Canonical.execFaultNPulseEnd (h : s.Canonical) : Out.Canonical (execFaultNPulseEnd s) :=
  .ok (.ite h.put0.put0 h)

/-! ## Substrate -/

protected theorem State.Canonical.sramWrite {off : Nat} {d : List Byte} (h : s.Canonical) : (s.sramWrite off d).Canonical :=
  Memory.wf_sramWrite h off d

protected theorem State.Canonical.dramWrite {off : Nat} {d : List Byte} (h : s.Canonical) : (s.dramWrite off d).Canonical :=
  Memory.wf_dramWrite d s off h

protected theorem State.Canonical.respond {master addr : Nat} {err : Bool} {data : List Byte} (h : s.Canonical) :
    (s.respond master addr err data).Canonical :=
  h.keepMem

protected theorem State.Canonical.hostWrite {addr : Nat} {d : List Byte} (h : s.Canonical) : (s.hostWrite addr d).1.Canonical :=
  Memory.wf_hostWrite h addr d

protected theorem State.Canonical.decodeError {master addr : Nat} (h : s.Canonical) : (s.decodeError master addr).Canonical :=
  h.count.put0.put0.irq

protected theorem State.Canonical.cvuFeed {u : Nat} {d : List Byte} (h : s.Canonical) : (s.cvuFeed u d).Canonical :=
  h.keepMem

protected theorem State.Canonical.cvuTap {kind index : Nat} {dirOk : Nat → Bool} {d : List Byte} (h : s.Canonical) :
    (s.cvuTap kind index dirOk d).Canonical :=
  h.forRange fun _ _ h => .ite h.cvuFeed h

protected theorem State.Canonical.cvuBus {master addr : Nat} {wr err : Bool} {d : List Byte} (h : s.Canonical) :
    (s.cvuBus master addr wr err d).Canonical :=
  h.forRange fun _ _ h => .ite (.ite (.ite h h.put) h.cvuFeed) h

protected theorem State.Canonical.cvuLoad {u : Nat} (h : s.Canonical) : (s.cvuLoad u).Canonical :=
  h.keepMem

protected theorem State.Canonical.cvuCtrl {p : Plane} {u v : Nat} (h : s.Canonical) : (s.cvuCtrl p u v).Canonical :=
  .ite h (.ite (.cvuLoad (.putB (.ite (.putB (.put (.put (.put (.put (.put (.put (.ite h.pageErr h))))))))
    (.bumpEpoch (.putB (.put (.put (.put (.put (.put (.put (.ite h.pageErr h))))))))))))
      (.ite (.irq (.ite (.putB (.put (.put (.put (.put (.put (.put (.ite h.pageErr h))))))))
        (.bumpEpoch (.putB (.put (.put (.put (.put (.put (.put (.ite h.pageErr h)))))))))))
          (.ite (.putB (.put (.put (.put (.put (.put (.put (.ite h.pageErr h))))))))
            (.bumpEpoch (.putB (.put (.put (.put (.put (.put (.put (.ite h.pageErr h))))))))))))

protected theorem State.Canonical.setRead {p : Plane} {v : Nat} (h : s.Canonical) : (s.setRead p v).Canonical := by
  cases p <;> exact h.keepHost

protected theorem State.Canonical.readAt {p : Plane} {page : Nat} {f : State → Out} (h : s.Canonical)
    (hf : ∀ t, t.Canonical → Out.Canonical (f t)) : Out.Canonical (s.readAt p page f) :=
  .ite (.ok h.setRead) (hf _ h.wakeFor)

protected theorem State.Canonical.cvuReadLo {p : Plane} {u : Nat} (h : s.Canonical) : (s.cvuReadLo p u).Canonical :=
  h.setWord.setWord.setRead

protected theorem State.Canonical.execCvuEnable {p : Plane} {u : Nat} {v : Word} (h : s.Canonical) :
    Out.Canonical (execCvuEnable p u v s) :=
  h.atPage fun _ h => .ok (.ite h.cvuCtrl h)

protected theorem State.Canonical.execCvuResultLoRead {p : Plane} {u : Nat} (h : s.Canonical) :
    Out.Canonical (execCvuResultLoRead p u s) :=
  h.readAt fun _ h => .ok (.ite h.cvuReadLo h)

protected theorem State.Canonical.showPasses (h : s.Canonical) : s.showPasses.Canonical := by
  dsimp only [State.showPasses]
  split
  · exact h.put0.put0.progress
  · exact .ite h.put0.put0 h.put0.put0.putB

protected theorem State.Canonical.retag {base size cls owner : Nat} (h : s.Canonical) : (s.retag base size cls owner).Canonical :=
  h.keepMem.showPasses

protected theorem State.Canonical.allocBuf {size cls owner : Nat} (h : s.Canonical) : (s.allocBuf size cls owner).Canonical := by
  dsimp only [State.allocBuf]
  split
  · exact .retag (.same h)
  · exact .same h

protected theorem State.Canonical.freeBufs {cls owner : Nat} (h : s.Canonical) : (s.freeBufs cls owner).Canonical :=
  h.forEach fun _ _ h => h.retag

protected theorem State.Canonical.moveBufs {cls owner owner' : Nat} (h : s.Canonical) : (s.moveBufs cls owner owner').Canonical :=
  h.forEach fun _ _ h => h.retag

protected theorem State.Canonical.execDarkFramePassStart {base : Nat} (h : s.Canonical) :
    Out.Canonical (execDarkFramePassStart base s) := by
  dsimp only [execDarkFramePassStart]
  split
  · exact .ok h
  · exact .ite (.ok h.keepMem.showPasses) (.ok h)

protected theorem State.Canonical.zeroSram {base size : Nat} (h : s.Canonical) : (s.zeroSram base size).Canonical :=
  Memory.wf_zeroSram h base size

protected theorem State.Canonical.execDarkFrameComplete {base : Nat} (h : s.Canonical) :
    Out.Canonical (execDarkFrameComplete base s) := by
  dsimp only [execDarkFrameComplete]
  split
  · exact .ok h
  · exact .ok (.ite h.zeroSram.progress.keepMem.count.count.irq.showPasses.putB h.zeroSram.progress.keepMem.count.count.irq.showPasses)

protected theorem State.Canonical.select {q item : Nat} {valid : Fld} (h : s.Canonical) : (s.select q item valid).Canonical :=
  .same h.put0

protected theorem State.Canonical.selDone {q : Nat} (h : s.Canonical) : (s.selDone q).Canonical :=
  .same h

protected theorem State.Canonical.execOwnQaddr {v : Word} (h : s.Canonical) : Out.Canonical (execOwnQaddr v s) :=
  h.atPage fun _ h => .ok h.select

protected theorem State.Canonical.snapOwn {a : Nat} (h : s.Canonical) : (s.snapOwn a).Canonical := by
  unfold State.snapOwn
  extract_lets _ s1 s2
  have h1 : s1.Canonical := by
    unfold s1
    split <;> exact h.put0.put0.put0.put0.put0
  refine .put0 ?_
  unfold s2
  split
  · exact h1.put0.putB.put0
  · exact h1.put0.put0.put0

protected theorem State.Canonical.memError {off master : Nat} {uncorr : Bool} {syn : Nat} (h : s.Canonical) :
    (s.memError off master uncorr syn).Canonical := by
  unfold State.memError
  extract_lets g s1 s2 s3 s4
  have h1 : s1.Canonical := .ite h.count.irq h.count.irq
  exact .ite h1.put.put.putB.put.put.put.raise h1.put.put.putB.put.put.put

protected theorem State.Canonical.dramError {off master : Nat} {uncorr : Bool} (h : s.Canonical) :
    (s.dramError off master uncorr).Canonical :=
  .ite h.count.irq.put0.put0.raise h.count.irq

protected theorem State.Canonical.perform {r : Req} {n : Nat} {ecc : Ecc} (h : s.Canonical) : (s.perform r n ecc).Canonical := by
  dsimp only [State.perform]
  split
  · exact .ite h.keepMem.respond (.respond (.cvuBus (.keepMem (.ite h.sramWrite h.dramWrite))))
  · refine .respond (.cvuBus ?_)
    split
    · refine .ite ?_ ?_
      · refine .keepMem ?_
        split
        · exact h
        · exact .ite h.memError h.dramError
        · exact .ite h.memError h.dramError
      · split
        · exact h
        · exact .ite h.memError h.dramError
        · exact .ite h.memError h.dramError
    · split
      · exact h
      · exact .ite h.memError h.dramError
      · exact .ite h.memError h.dramError

protected theorem State.Canonical.countGrant {a : Nat} {r : Req} (h : s.Canonical) : (s.countGrant a r).Canonical :=
  h.keepMem

protected theorem State.Canonical.sendHints {a : Nat} {granted : List Req} (h : s.Canonical) : (s.sendHints a granted).Canonical :=
  h.keepMem

protected theorem State.Canonical.serve {a : Nat} {ecc : Ecc} {l : List Req} (h : s.Canonical) : (s.serve a ecc l).Canonical := by
  induction l generalizing s ecc with
  | nil => exact h
  | cons r l ih => exact ih (.perform (.keepMem h.countGrant))

protected theorem State.Canonical.execArbGrant {a : Nat} {ecc : Ecc} (h : s.Canonical) : Out.Canonical (execArbGrant a ecc s) :=
  .ok (.sendHints (.serve (.ite h.count h)))

protected theorem State.Canonical.execArbWindowEnd {a : Nat} (h : s.Canonical) : Out.Canonical (execArbWindowEnd a s) :=
  .ok h.keepMem

protected theorem State.Canonical.execHoldCut {a n : Nat} (h : s.Canonical) : Out.Canonical (execHoldCut a n s) := by
  dsimp only [execHoldCut]
  split
  · exact .ok h
  · exact .ite (.ok h) (.ok h.countGrant.keepMem.perform.count.put0.put0.irq.raise)

protected theorem State.Canonical.raiseReq {a master addr : Nat} {acc : MemAcc} (h : s.Canonical) :
    (s.raiseReq a master addr acc).Canonical :=
  .keepMem (.ite h.count h)

protected theorem State.Canonical.execLockRead {master addr n : Nat} (h : s.Canonical) : Out.Canonical (execLockRead master addr n s) :=
  .ite (.ok h.respond) (.ite (.ok h.raiseReq) (.ok h.countGrant.perform))

protected theorem State.Canonical.execLockBreak {bank : Nat} (h : s.Canonical) : Out.Canonical (execLockBreak bank s) := by
  dsimp only [execLockBreak]
  split
  · exact .ok h
  · exact .ok h.advanceTo.keepMem.count.put0.put0.irq.raise

protected theorem State.Canonical.execScrubStep {bank : Nat} {ecc : Ecc} (h : s.Canonical) :
    Out.Canonical (execScrubStep bank ecc s) := by
  dsimp only [execScrubStep]
  refine .ite (.ok h) (.ok ?_)
  refine .ite ?_ ?_
  · refine .irq (.count (.keepMem ?_))
    split
    · exact h
    · exact h.memError
    · exact h.memError
  · refine .keepMem ?_
    split
    · exact h
    · exact h.memError
    · exact h.memError

protected theorem State.Canonical.remapWrite {p : Plane} {v : Nat} (h : s.Canonical) : (s.remapWrite p v).Canonical :=
  .ite h (.ite h.pageErr h.put0)

protected theorem State.Canonical.execRemap {p : Plane} {v : Word} (h : s.Canonical) : Out.Canonical (execRemap p v s) :=
  h.atPage fun _ h => .ok h.remapWrite

protected theorem State.Canonical.arbCommit {p : Plane} {v : Nat} (h : s.Canonical) : (s.arbCommit p v).Canonical :=
  .ite h (h.forRange fun _ _ h => .ite h.put h)

protected theorem State.Canonical.execArbCommit {p : Plane} {v : Word} (h : s.Canonical) : Out.Canonical (execArbCommit p v s) :=
  h.atPage fun _ h => .ok h.arbCommit

protected theorem State.Canonical.shadowWrite {p : Plane} {i v : Nat} (h : s.Canonical) : (s.shadowWrite p i v).Canonical :=
  .ite h.put h

protected theorem State.Canonical.execArbQsel {v : Word} (h : s.Canonical) : Out.Canonical (execArbQsel v s) :=
  h.atPage fun _ h => .ok h.select

protected theorem State.Canonical.snapArb {item : Nat} (h : s.Canonical) : (s.snapArb item).Canonical :=
  h.putB.putB.put0.put0.put0.put0.put0.put0.put0.put0

protected theorem State.Canonical.fenceBufs {u : UnitId} (h : s.Canonical) : (s.fenceBufs u).Canonical := by
  dsimp only [State.fenceBufs]
  refine .ite ?_ ?_
  · split
    · exact h.moveBufs
    · exact h.freeBufs
  · refine .ite h.freeBufs ?_
    split
    · exact h.freeBufs
    · exact h

protected theorem State.Canonical.fence {u : UnitId} {retire : Bool} (h : s.Canonical) : (s.fence u retire).Canonical := by
  unfold State.fence
  extract_lets ms s1 s2 s3 s4 s5 s6
  have h2 : s2.Canonical := h.advanceTo.keepMem
  have h4 : s4.Canonical := .ite h2.modFlt (.ite h2.put.put h2.put)
  exact .modFlt (.fenceBufs (.bumpEpoch (.ite h4.put (.ite h4.put.put h4))))

/-! ## Fabric -/

protected theorem State.Canonical.takeTag {src : Nat} (h : s.Canonical) : (State.takeTag src s).Canonical :=
  .ite h h.modDp

protected theorem State.Canonical.takeTags (h : s.Canonical) : s.takeTags.Canonical :=
  (h.forEach fun _ _ h => h.takeTag).modDp

protected theorem State.Canonical.pushHist {src : Nat} {x : Word} (h : s.Canonical) : (s.pushHist src x).Canonical :=
  h.modDp

protected theorem State.Canonical.stickyBus {map irq : Fld} {b : Nat} (h : s.Canonical) : (s.stickyBus map irq b).Canonical :=
  .ite h h.setMapBit.irq

protected theorem State.Canonical.partnerPartial {b : Nat} (h : s.Canonical) : (s.partnerPartial b).2.Canonical := by
  dsimp only [State.partnerPartial]
  refine .iteSnd h ?_
  split
  · exact h.modDp
  · exact h.count

protected theorem State.Canonical.writeBus {unwritten act : List Nat} {b : Nat} (h : s.Canonical) :
    (State.writeBus unwritten act b s).Canonical :=
  .modDp (.pushHist (.iteSnd h (.iteSnd h (.iteSnd (.ite (.stickyBus (.partnerPartial (.pushHist (.ite h.stickyBus h))))
    (.partnerPartial (.pushHist (.ite h.stickyBus h)))) (.ite h.stickyBus h)))))

protected theorem State.Canonical.showShort {act : List Nat} {b : Nat} (h : s.Canonical) : (State.showShort act b s).Canonical :=
  .ite h.setMapBit.stickyBus h.setMapBit

protected theorem State.Canonical.runFabric {unwritten : List Nat} (h : s.Canonical) : (s.runFabric unwritten).Canonical :=
  ((h.takeTags.forEach fun _ _ h => h.writeBus).forEach fun _ _ h => h.showShort).put0.keepMax.put0.put0.put0.put0.put0.put0.put0

protected theorem State.Canonical.showBudget (h : s.Canonical) : s.showBudget.Canonical :=
  h.put0.put0.put0.put0

protected theorem State.Canonical.showRate (h : s.Canonical) : s.showRate.Canonical :=
  h.put0.put0.put0.showBudget

protected theorem State.Canonical.shedBuses {n : Nat} (h : s.Canonical) : (State.shedBuses n s).Canonical := by
  induction n generalizing s with
  | zero => exact h
  | succ b ih => exact .ite h (.ite (ih h.setMapBit.count.irq.put0) (ih h))

protected theorem State.Canonical.fitBudget (h : s.Canonical) : s.fitBudget.Canonical :=
  .ite h h.modScn.modDp.shedBuses

protected theorem State.Canonical.snapXp {id : Nat} (h : s.Canonical) : (s.snapXp id).Canonical :=
  h.putB.putB.putB.putB.put0.put0.put0.put0

protected theorem State.Canonical.snapSrc {src : Nat} (h : s.Canonical) : (s.snapSrc src).Canonical :=
  h.put0.put0.put0

/-! ## GiveUp -/

protected theorem State.Canonical.stbyFault {f : Fld} (h : s.Canonical) : (s.stbyFault f).Canonical :=
  h.put0.irq

protected theorem State.Canonical.giveUpStart {cause : Nat} (h : s.Canonical) : (s.giveUpStart cause).Canonical :=
  .sendStatus (.same h.put0)

protected theorem State.Canonical.giveUpFor {k : Nat} (h : s.Canonical) : (s.giveUpFor k).Canonical :=
  .ite h (.ite h.giveUpStart h.stbyFault.irq.put0.irq)

protected theorem State.Canonical.showSpares (h : s.Canonical) : s.showSpares.Canonical :=
  .ite h h.put0

protected theorem State.Canonical.giveUpOn {u : UnitId} (h : s.Canonical) : (s.giveUpOn u).Canonical :=
  .ite (.ite h.giveUpFor h) (.ite h.giveUpFor (.ite h.giveUpFor (.ite h.giveUpFor (.ite h.giveUpFor h))))

protected theorem State.Canonical.fenceOut {u : UnitId} {retire : Bool} (h : s.Canonical) : (s.fenceOut u retire).Canonical :=
  h.fence.showSpares.giveUpOn

/-! ## Express -/

protected theorem State.Canonical.pushEgress {d : Nat} {x : Word} (h : s.Canonical) : (s.pushEgress d x).Canonical := by
  dsimp only [State.pushEgress]
  refine .modDp ?_
  split
  · exact .ite h.count h
  · exact h

protected theorem State.Canonical.expShut {r : Nat} (h : s.Canonical) : (s.expShut r).Canonical :=
  .modDp (.ite h h.setMapBit.irq)

protected theorem State.Canonical.expPass {x : Word} {r : Nat} (h : s.Canonical) : (State.expPass x r s).Canonical :=
  .ite h.expShut h.modDp

protected theorem State.Canonical.express {src : Nat} {x : Word} (h : s.Canonical) : (s.express src x).Canonical :=
  .ite h (h.forEach fun _ _ h => h.expPass)

protected theorem State.Canonical.expressDue (h : s.Canonical) : s.expressDue.Canonical :=
  h.modDp.forEach fun _ _ h => h.pushEgress

protected theorem State.Canonical.expSilence (h : s.Canonical) : s.expSilence.Canonical :=
  (h.forEach fun _ _ h => .ite h h.expShut.pushEgress).put0

/-! ## Rconv -/

protected theorem State.Canonical.setLane {m : Nat} {f : Lane → Lane} (h : s.Canonical) : (s.setLane m f).Canonical :=
  h.modDp

protected theorem State.Canonical.laneTo {m st : Nat} (h : s.Canonical) : (s.laneTo m st).Canonical := by
  unfold State.laneTo
  extract_lets was s1 s2 s3 s4
  have h1 : s3.Canonical := .ite h.setLane.setMapBit.put0 h.setLane.setMapBit
  have h2 : s4.Canonical := .ite h1.put0 h1
  exact .ite h2.put0.irq (.ite h2.put0 (.ite h2.setMapBit.irq (.ite h2.setMapBit.irq h2)))

protected theorem State.Canonical.laneRatio {m ratio rate : Nat} (h : s.Canonical) : (s.laneRatio m ratio rate).Canonical :=
  h.setLane

protected theorem State.Canonical.laneSt {m st v : Nat} (h : s.Canonical) : (s.laneSt m st v).Canonical :=
  h.laneTo.setLane

protected theorem State.Canonical.laneLock {m ratio rate : Nat} (h : s.Canonical) : (s.laneLock m ratio rate).Canonical :=
  (h.measured fun _ h => h.laneRatio).measured fun _ h => h.laneSt

protected theorem State.Canonical.execLaneLock {m ratio rate : Nat} (h : s.Canonical) : Out.Canonical (execLaneLock m ratio rate s) :=
  .ite (.ok h) (.ite (.ite (.ok h.laneLock) (.ok h)) (.ite (.ite (.ok h.laneLock) (.ite (.ok h) (.ok h.laneLock))) (.ok h)))

protected theorem State.Canonical.execLaneUnlock {m : Nat} {input : Bool} (h : s.Canonical) : Out.Canonical (execLaneUnlock m input s) :=
  .ok (.ite (h.measured fun _ h => h.laneSt) h)

protected theorem State.Canonical.execLaneUnlockRampEnd {m : Nat} (h : s.Canonical) : Out.Canonical (execLaneUnlockRampEnd m s) :=
  .ite (.ok h.laneTo.setLane) (.ok h)

protected theorem State.Canonical.execRangeEnter {m rate : Nat} (h : s.Canonical) : Out.Canonical (execRangeEnter m rate s) :=
  .ok (.ite (h.measured fun _ h => h.laneSt) h)

protected theorem State.Canonical.execRangeExit {m rate : Nat} (h : s.Canonical) : Out.Canonical (execRangeExit m rate s) :=
  .ok (.ite (h.measured fun _ h => h.laneSt) h)

protected theorem State.Canonical.takeEntry {m : Nat} (h : s.Canonical) : (State.takeEntry m s).Canonical := by
  unfold State.takeEntry
  extract_lets l e dip s1 s2
  clear_value dip
  have h1 : s1.Canonical := by
    unfold s1
    split
    · exact h.setLane
    · exact h
  refine .ite ?_ (.ite h1.setLane.laneTo.setLane (.ite h1.setLane.laneTo.setLane h1.setLane.laneTo.setLane))
  split
  · exact .ite h1.laneTo.setLane h1
  · exact h1

protected theorem State.Canonical.feedLane {x : Word} {m : Nat} (h : s.Canonical) : (State.feedLane x m s).Canonical :=
  h.setLane

protected theorem State.Canonical.runLane {m : Nat} (h : s.Canonical) : (State.runLane m s).Canonical :=
  .setLane (.ite h.takeEntry.feedLane h.takeEntry)

protected theorem State.Canonical.land {src : Nat} {x : Word} (h : s.Canonical) : (s.land src x).Canonical :=
  .forEach (.ite h.express.modDp (h.express.modDp.forEach fun _ _ h => h.feedLane)) fun _ _ h => .ite h.laneTo.setLane h

protected theorem State.Canonical.countSlip {src : Nat} (h : s.Canonical) : (s.countSlip src).Canonical := by
  dsimp only [State.countSlip]
  split
  · exact h.countPortFld
  · exact h

protected theorem State.Canonical.latchOne {edge src : Nat} (h : s.Canonical) : (State.latchOne edge src s).Canonical :=
  .modDp (.ite h.countSlip h)

protected theorem State.Canonical.latchAll {edge : Nat} (h : s.Canonical) : (s.latchAll edge).Canonical :=
  h.forEach fun _ _ h => h.latchOne

protected theorem State.Canonical.snapLane {m : Nat} (h : s.Canonical) : (s.snapLane m).Canonical :=
  h.put0.put0.put0.put0.put0.put0

protected theorem State.Canonical.snapPatch {src : Nat} (h : s.Canonical) : (s.snapPatch src).Canonical :=
  h.put0.put0

/-! ## Strip -/

protected theorem State.Canonical.setStrip {out : Bool} {n : Nat} {f : Strip → Strip} (h : s.Canonical) :
    (s.setStrip out n f).Canonical :=
  h.modDp

protected theorem State.Canonical.stripEvent {out : Bool} {n : Nat} {f : Fld} (h : s.Canonical) : (s.stripEvent out n f).Canonical :=
  .irq (.ite h.put.setMapBit h.put.setMapBit)

protected theorem State.Canonical.stripEventIf {c out : Bool} {n : Nat} {f : Fld} (h : s.Canonical) :
    (s.stripEventIf c out n f).Canonical :=
  .ite h.stripEvent h

/-- The state of the machine that a strip at work carries is in canonical form. -/
def Work.Canonical (w : Work) : Prop := w.m.Canonical

variable {w v : Work}

protected theorem Work.Canonical.ite {c : Prop} {_ : Decidable c} (hw : w.Canonical) (hv : v.Canonical) :
    (if c then w else v).Canonical := by
  split
  · exact hw
  · exact hv

/-- A choice between two results, each a value and the work that goes on. -/
protected theorem Work.Canonical.iteSnd {α : Type} {c : Prop} {_ : Decidable c} {a b : α × Work} (ha : a.2.Canonical)
    (hb : b.2.Canonical) : (if c then a else b).2.Canonical := by
  split
  · exact ha
  · exact hb

/-- A result taken apart into its value and the work that goes on. -/
theorem Work.Canonical.of_eq {α : Type} {p : α × Work} {x : α} (hp : p.2.Canonical) (e : p = (x, w)) : w.Canonical := by
  subst e
  exact hp

protected theorem Work.Canonical.setCell {k x : Nat} (h : w.Canonical) : (w.setCell k x).Canonical := h

protected theorem Work.Canonical.seed {k : Nat} (h : w.Canonical) : (w.seed k).Canonical :=
  .ite h (State.Canonical.draw h)

protected theorem Work.Canonical.secCopy {k a b : Nat} {x : Word} (h : w.Canonical) : (w.secCopy k a b x).2.Canonical :=
  .iteSnd h h.seed

protected theorem Work.Canonical.section {base off : Nat} {x : Word} (h : w.Canonical) : (w.section base off x).2.Canonical := by
  dsimp only [Work.section]
  split
  · exact h.secCopy
  · exact .secCopy (.secCopy (.ite h.setCell h))

protected theorem Work.Canonical.sections {base off n : Nat} {x : Word} (h : w.Canonical) :
    (w.sections base off n x).2.Canonical := by
  induction n generalizing w off x with
  | zero => exact h
  | succ n ih => exact ih h.section

protected theorem Work.Canonical.dynCopy {k : Nat} {words : List Nat} {key det audio : Word} (h : w.Canonical) :
    (w.dynCopy k words key det audio).2.Canonical :=
  .iteSnd h h.seed

protected theorem Work.Canonical.dyn {base : Nat} {offs : List Nat} {key det audio : Word} (h : w.Canonical) :
    (w.dyn base offs key det audio).2.Canonical := by
  dsimp only [Work.dyn]
  split
  · exact h.dynCopy
  · exact .dynCopy (.dynCopy (.ite h.setCell h))

protected theorem Work.Canonical.gain {g : Nat × Nat} {neg : Bool} {x : Word} (h : w.Canonical) : (w.gain g neg x).2.Canonical := h

protected theorem State.Canonical.ringWrite {out : Bool} {n : Nat} {x : Word} (h : s.Canonical) : (s.ringWrite out n x).Canonical :=
  h.dramWrite

protected theorem Work.Canonical.delay {out : Bool} {n key : Nat} {late : Bool} {x : Word} (h : w.Canonical) :
    (w.delay out n key late x).2.Canonical :=
  .iteSnd (State.Canonical.stripEvent (State.Canonical.ringWrite h)) (State.Canonical.ringWrite h)

protected theorem Work.Canonical.insert {n p : Nat} {x : Word} (h : w.Canonical) : (w.insert n p x).2.Canonical :=
  .iteSnd h (State.Canonical.stripEventIf h)

protected theorem Work.Canonical.notches {n k : Nat} {x : Word} (h : w.Canonical) : (w.notches n k x).2.Canonical := by
  induction k generalizing w x with
  | zero => exact h
  | succ k ih => exact ih (.iteSnd h h)

protected theorem State.Canonical.runIn {lateFetch : List Nat} {n : Nat} (h : s.Canonical) :
    (State.runIn lateFetch n s).Canonical := by
  have hw : Work.Canonical { st := s.inStrip n, m := s } := h
  unfold State.runIn
  extract_lets base w
  split
  split
  next e1 =>
  have h1 := Work.Canonical.of_eq hw.gain e1
  extract_lets postTrim
  split
  next e2 =>
  have h2 := Work.Canonical.of_eq h1.insert e2
  split
  next e3 =>
  have h3 := Work.Canonical.of_eq h2.sections e3
  split
  next e4 =>
  have h4 := Work.Canonical.of_eq h3.sections e4
  extract_lets postEq
  split
  next x5 w5 e5 =>
  have h5 : Work.Canonical w5 := .of_eq h4.insert e5
  extract_lets line key strip w6
  have h6 : w6.Canonical := h5
  clear_value w6
  split
  next e7 =>
  have h7 := Work.Canonical.of_eq h6.dyn e7
  split
  next e8 =>
  have h8 := Work.Canonical.of_eq h7.section e8
  split
  next e9 =>
  have h9 := Work.Canonical.of_eq h8.section e9
  split
  next e10 =>
  have h10 := Work.Canonical.of_eq h9.dyn e10
  split
  next x11 w11 e11 =>
  have h11 : Work.Canonical w11 := .of_eq (.iteSnd h10.gain h10) e11
  extract_lets postDyn
  split
  next x12 w12 e12 =>
  have h12 := Work.Canonical.of_eq h11.insert e12
  extract_lets w13
  have h13 : w13.Canonical := .ite h12.setCell h12.setCell
  clear_value w13
  split
  next e14 =>
  have h14 := Work.Canonical.of_eq h13.delay e14
  extract_lets postDelay am
  split
  next e15 =>
  have h15 := Work.Canonical.of_eq h14.gain e15
  extract_lets fade postLevel
  split
  next e16 =>
  have h16 := Work.Canonical.of_eq h15.gain e16
  split
  next e17 =>
  have h17 := Work.Canonical.of_eq h16.gain e17
  exact .setStrip (.stripEventIf (.stripEventIf (.put (.put (.put (.put h17))))))

protected theorem State.Canonical.freeNotches {n : Nat} (h : s.Canonical) : (State.freeNotches n s).Canonical :=
  h.forRange fun _ _ h => .ite h.put.put.setStrip h

protected theorem State.Canonical.runOut {lateFetch : List Nat} {n : Nat} (h : s.Canonical) :
    (State.runOut lateFetch n s).Canonical := by
  have hw : Work.Canonical { st := s.outStrip n, m := s } := h
  unfold State.runOut
  extract_lets base w bus
  split
  split
  next e1 =>
  have h1 := Work.Canonical.of_eq hw.gain e1
  split
  next e2 =>
  have h2 := Work.Canonical.of_eq h1.sections e2
  extract_lets postEq
  split
  next e3 =>
  have h3 := Work.Canonical.of_eq h2.notches e3
  split
  next e4 =>
  have h4 := Work.Canonical.of_eq h3.dyn e4
  extract_lets postLim
  split
  next e5 =>
  have h5 := Work.Canonical.of_eq h4.delay e5
  extract_lets dip
  split
  next e6 =>
  have h6 := Work.Canonical.of_eq h5.gain e6
  exact .freeNotches (.setStrip (.stripEventIf (.stripEventIf (.put h6))))

protected theorem State.Canonical.missStrip {out : Bool} {n : Nat} (h : s.Canonical) : (State.missStrip out n s).Canonical :=
  h.ringWrite.stripEvent.irq.raise.setStrip

protected theorem State.Canonical.feedStrip {n : Nat} (h : s.Canonical) : (State.feedStrip n s).Canonical :=
  .ite (.ite h.setStrip (.ite h.setStrip (.setStrip (.ite h h.setMapBit.irq)))) (.ite h.setStrip h.setStrip)

/-! ## Scene -/

protected theorem State.Canonical.countRefusal {st : Nat} (h : s.Canonical) : (s.countRefusal st).Canonical :=
  .ite h.count.irq h

protected theorem State.Canonical.setSlot {i : Nat} {f : Slot → Slot} (h : s.Canonical) : (s.setSlot i f).Canonical :=
  h.modScn

protected theorem State.Canonical.showSlot {i : Nat} (h : s.Canonical) : (State.showSlot i s).Canonical :=
  h.put.put.put

protected theorem State.Canonical.showScn (h : s.Canonical) : s.showScn.Canonical :=
  h.put0.keepMax.put0.putB.putB.putB.put0

protected theorem State.Canonical.ephDrop {p : EphEntry → Bool} (h : s.Canonical) : (s.ephDrop p).Canonical :=
  h.modEph.put0.put0.putB

protected theorem State.Canonical.endSlot {i status : Nat} (h : s.Canonical) : (s.endSlot i status).Canonical := by
  unfold State.endSlot
  extract_lets s1 s2 s3 s4 s5 s6
  have h1 : s1.Canonical := .ite h.mirrorSlot h
  exact .showScn (.showSlot (.ite h1.put.put.setSlot.ephDrop.freeBufs.irq h1.put.put.setSlot.ephDrop.freeBufs))

protected theorem State.Canonical.settleSlot {i : Nat} (h : s.Canonical) : (s.settleSlot i).Canonical :=
  .ite h.put.irq h

protected theorem State.Canonical.slotReceive {i : Nat} {r : Rec} (h : s.Canonical) : (s.slotReceive i r).2.Canonical := by
  dsimp only [State.slotReceive]
  refine .showScn (.showSlot ?_)
  split
  · exact h.setSlot
  · exact .setSlot (.ite h.put.put h)

protected theorem State.Canonical.slotReceiveAll {i idx : Nat} {l : List Rec} (h : s.Canonical) :
    (s.slotReceiveAll i idx l).2.Canonical := by
  induction l generalizing s idx with
  | nil => exact h
  | cons r l ih =>
    exact .iteSnd h.slotReceive (ih h.slotReceive)

protected theorem State.Canonical.meet {slot rule dur fresh : Nat} {m : SMove} (h : s.Canonical) :
    (s.meet slot rule dur fresh m).Canonical :=
  .ite h.modScn.put h.modScn

protected theorem State.Canonical.storeMove {m : SMove} (h : s.Canonical) : (s.storeMove m).Canonical :=
  .ite h.setWord h.setWord

protected theorem State.Canonical.commitMove {step : Bool} {due : List Due} {d : Due} {fresh : Nat} (h : s.Canonical) :
    (State.commitMove step due d fresh s).Canonical :=
  .ite h.modScn h.meet

protected theorem State.Canonical.commitAll {step : Bool} {all : List Due} (h : s.Canonical) : (s.commitAll step all).1.Canonical :=
  (h.forEach fun _ _ h => h.commitMove).forEach fun _ _ h => h.storeMove

protected theorem State.Canonical.freeLive (h : s.Canonical) : s.freeLive.Canonical :=
  h.forRange fun _ _ h => .ite (.ite h.showSlot h.showSlot.put.irq.freeBufs) h

protected theorem State.Canonical.leaveFlight (h : s.Canonical) : s.leaveFlight.Canonical :=
  h.modScn.freeLive

protected theorem State.Canonical.meridian (h : s.Canonical) : s.meridian.1.Canonical :=
  .showScn (.freeLive (.ite (h.commitAll.forEach fun _ _ h => .showSlot
    (.irq (.setSlot (.ite h.put.put.put.count.irq h.put.put)))).count.modScn.freeBufs
      (h.commitAll.forEach fun _ _ h => .showSlot (.irq (.setSlot (.ite h.put.put.put.count.irq h.put.put)))).count.modScn))

protected theorem State.Canonical.ephAdd {e : EphEntry} (h : s.Canonical) : (s.ephAdd e).Canonical :=
  h.modEph.ephDrop

protected theorem State.Canonical.attach {i trig time : Nat} (h : s.Canonical) : (s.attach i trig time).2.Canonical :=
  .iteSnd h.count (.iteSnd h.count.irq (.iteSnd h.put.putB (.ite (.ephAdd (.ite h.put.putB.modScn.setSlot.put h.put.putB.modScn.setSlot))
    (.ite h.put.putB.modScn.setSlot.put h.put.putB.modScn.setSlot))))

protected theorem State.Canonical.liveRefused {st : Nat} {r : Rec} (h : s.Canonical) : (s.liveRefused st r).Canonical :=
  h.count.pageErr.put0.put0.put0.irq

protected theorem State.Canonical.liveMove {r : Rec} (h : s.Canonical) : (s.liveMove r).2.1.Canonical := by
  dsimp only [State.liveMove]
  split
  · exact h.liveRefused
  · split
    · exact h.countRefusal.liveRefused
    · split
      · exact .showScn (.count (.commitAll (.ite h.modScn h.modScn.count)))
      · exact .showScn (.mirrorMove (.modScn (.ite (.allocBuf (.ite h.modScn h.modScn.count)) (.ite h.modScn h.modScn.count))))

protected theorem State.Canonical.liveAll {idx : Nat} {done : List SMove} {l : List Rec} (h : s.Canonical) :
    (s.liveAll idx done l).2.1.Canonical := by
  induction l generalizing s idx done with
  | nil => exact h
  | cons r l ih => exact .iteSndFst h.liveMove (ih h.liveMove)

/-! ## Ephemeris -/

protected theorem State.Canonical.putP {p : Plane} {f : Fld} {i v : Nat} (h : s.Canonical) : (s.putP p f i v).Canonical :=
  h.setWord

protected theorem State.Canonical.newHandle (h : s.Canonical) : s.newHandle.2.Canonical :=
  h.draw

protected theorem State.Canonical.execEphPush {p : Plane} {v : Word} (h : s.Canonical) : Out.Canonical (execEphPush p v s) :=
  h.atPage fun _ h => .ite (.ok h) (.ite (.ok h.putP.putP.putP)
    (.ite (.ok h.count.irq.putP.putP.putP) (.ite (.ok h.count.putP.putP.putP) (.ok h.newHandle.ephAdd.putP.putP.putP))))

protected theorem State.Canonical.execEphCancel {v : Word} (h : s.Canonical) : Out.Canonical (execEphCancel v s) :=
  h.atPage fun _ h => .ok h.ephDrop

protected theorem State.Canonical.ephFired {x : EphEntry} (h : s.Canonical) : (s.ephFired x).Canonical :=
  .ite h.ephDrop.count.count.irq h.ephDrop.count

protected theorem State.Canonical.fireCommit {i : Nat} {x : EphEntry} (h : s.Canonical) : (s.fireCommit i x).Canonical :=
  h.ephFired.setSlot

protected theorem State.Canonical.driveLine {line : Nat} (h : s.Canonical) : (s.driveLine line).Canonical :=
  h.modEph

protected theorem State.Canonical.startPulse {line : Nat} {pol : Bool} {width : Nat} (h : s.Canonical) :
    (s.startPulse line pol width).Canonical :=
  h.modEph.driveLine

protected theorem State.Canonical.fireCueOut {x : EphEntry} (h : s.Canonical) : (s.fireCueOut x).Canonical := by
  dsimp only [State.fireCueOut]
  split
  · exact h.ephFired.irq.startPulse
  · exact h

protected theorem State.Canonical.execEphCommitFire {slot : Nat} (h : s.Canonical) : Out.Canonical (execEphCommitFire slot s) := by
  dsimp only [execEphCommitFire]
  split
  · exact .ok h
  · exact .ite (.ok h) (.ok h.advanceTo.fireCommit)

protected theorem State.Canonical.execCueOutFire {handle : Nat} (h : s.Canonical) : Out.Canonical (execCueOutFire handle s) := by
  dsimp only [execCueOutFire]
  split
  · exact .ok h
  · exact .ite (.ok h) (.ok h.advanceTo.fireCueOut)

protected theorem State.Canonical.execCueOutPulseEnd {line : Nat} (h : s.Canonical) : Out.Canonical (execCueOutPulseEnd line s) := by
  dsimp only [execCueOutPulseEnd]
  split
  · exact .ok h
  · exact .ok h.advanceTo.modEph.driveLine

protected theorem State.Canonical.execCueEdgeConfirm {line : Nat} {level : Bool} (h : s.Canonical) :
    Out.Canonical (execCueEdgeConfirm line level s) :=
  .ite (.ok h) (.ite (.ok h.setBitOf) (.ite (.ok h.setBitOf.count.setBitOf.count)
    (.ok (h.setBitOf.count.setBitOf.forEach fun _ _ h => h.setSlot))))

protected theorem State.Canonical.execEphNextSecLoRead {p : Plane} (h : s.Canonical) : Out.Canonical (execEphNextSecLoRead p s) := by
  dsimp only [execEphNextSecLoRead]
  refine h.readAt fun _ h => ?_
  split <;> exact .ok h.putP.putP.putP.setRead

/-! ## PtpTime -/

protected theorem State.Canonical.setCalendar {c : Civil} (h : s.Canonical) : (s.setCalendar c).Canonical :=
  h.put0.put0.put0.put0.put0.put0

protected theorem State.Canonical.calAutoLoad (h : s.Canonical) : s.calAutoLoad.1.Canonical := by
  dsimp only [State.calAutoLoad]
  split
  · exact h.setCalendar
  · exact h.put0.irq

protected theorem State.Canonical.taiApply (h : s.Canonical) : s.taiApply.Canonical :=
  h.put0.put0.put0.irq

protected theorem State.Canonical.calTick (h : s.Canonical) : s.calTick.Canonical :=
  .ite h.setCalendar.put0.irq h.setCalendar

protected theorem State.Canonical.execSecondsCarry (h : s.Canonical) : Out.Canonical (execSecondsCarry s) := by
  dsimp only [execSecondsCarry]
  refine .ite (.ok h) (.ite (.ok (.iteFst (.calAutoLoad (.modPtp (.ite h.advanceTo.modPtp.taiApply h.advanceTo.modPtp)))
    (.modPtp (.ite h.advanceTo.modPtp.taiApply h.advanceTo.modPtp)))) ?_)
  split
  · exact .ok (.setCalendar (.iteFst (.calAutoLoad (.modPtp (.ite h.advanceTo.modPtp.taiApply h.advanceTo.modPtp)))
      (.modPtp (.ite h.advanceTo.modPtp.taiApply h.advanceTo.modPtp))))
  · exact .ok (.calTick (.iteFst (.calAutoLoad (.modPtp (.ite h.advanceTo.modPtp.taiApply h.advanceTo.modPtp)))
      (.modPtp (.ite h.advanceTo.modPtp.taiApply h.advanceTo.modPtp))))

protected theorem State.Canonical.execCalSetGo {v : Word} (h : s.Canonical) : Out.Canonical (execCalSetGo v s) :=
  h.atPage fun _ h => .ite (.ok h) (.ite (.ok h.put0.modPtp) (.ok h.put0.irq))

protected theorem State.Canonical.execCalTaiUtcArm {v : Word} (h : s.Canonical) : Out.Canonical (execCalTaiUtcArm v s) :=
  h.atPage fun _ h => .ok (.ite h.put0 h)

protected theorem State.Canonical.execCalDateRead {p : Plane} (h : s.Canonical) : Out.Canonical (execCalDateRead p s) :=
  h.readAt fun _ h => .ok h.setWord.setRead

protected theorem State.Canonical.execTimeSecLoRead {p : Plane} (h : s.Canonical) : Out.Canonical (execTimeSecLoRead p s) :=
  h.readAt fun _ h => .ok h.setWord.setWord.setWord.setWord.setWord.setWord.setRead

protected theorem State.Canonical.mirrorStep {n : ℤ} (h : s.Canonical) : (s.mirrorStep n).Canonical :=
  .ite h h.sendRecord

protected theorem State.Canonical.decideStep {x : Nat} (h : s.Canonical) : (s.decideStep x).Canonical :=
  .ite h h.modPtp.mirrorStep

protected theorem State.Canonical.ephStep {pre post : Nat} (h : s.Canonical) : (s.ephStep pre post).Canonical :=
  h.modEph

protected theorem State.Canonical.rxStep {pre post i : Nat} (h : s.Canonical) : (State.rxStep pre post i s).Canonical :=
  .ite h (.ite h.put h.put.modNet)

protected theorem State.Canonical.txStep {pre post i : Nat} (h : s.Canonical) : (State.txStep pre post i s).Canonical :=
  h.modNet

protected theorem State.Canonical.netStep {pre post : Nat} (h : s.Canonical) : (s.netStep pre post).Canonical :=
  (h.forEach fun _ _ h => h.rxStep).forEach fun _ _ h => h.txStep

protected theorem State.Canonical.stepBy {n : ℤ} (h : s.Canonical) : (s.stepBy n).Canonical := by
  unfold State.stepBy
  extract_lets pre post moved s1 c s2 s3 s4 due s5
  have h1 : s5.Canonical := .ite h.modPtp.put0.put0.put0.irq.ephStep.netStep.taiApply h.modPtp.put0.put0.put0.irq.ephStep.netStep
  exact .ite h1.calAutoLoad h1

protected theorem State.Canonical.execPtpStep (h : s.Canonical) : Out.Canonical (execPtpStep s) := by
  dsimp only [execPtpStep]
  split
  · exact .ok h
  · exact .ok (.ite h.advanceTo.stepBy h)

protected theorem State.Canonical.showTxts (h : s.Canonical) : s.showTxts.Canonical :=
  (h.put0.forRange fun _ _ h => h.put).put0.put0

protected theorem State.Canonical.pushTxts {port cookie : Nat} {words : List Word} (h : s.Canonical) :
    (s.pushTxts port cookie words).Canonical :=
  .ite h.count.irq h.modPtp.showTxts.irq

protected theorem State.Canonical.execTimeTxtsPop {p : Plane} {v : Word} (h : s.Canonical) : Out.Canonical (execTimeTxtsPop p v s) :=
  h.atPage fun _ h => .ok (.ite h.modPtp.showTxts h)

/-! ## Heliostat -/

protected theorem State.Canonical.modHel {f : Hel → Hel} (h : s.Canonical) : (s.modHel f).Canonical :=
  .same h

protected theorem State.Canonical.setCand {c : Nat} {f : HelCand → HelCand} (h : s.Canonical) : (s.setCand c f).Canonical :=
  h.modHel

protected theorem State.Canonical.helLog {kind frm goal cand reason : Nat} (h : s.Canonical) :
    (s.helLog kind frm goal cand reason).Canonical :=
  h.put.put.put0.put0

protected theorem State.Canonical.helReject {c reason : Nat} (h : s.Canonical) : (s.helReject c reason).Canonical :=
  h.put.put.put.count.setCand.setBitOf.irq.helLog

protected theorem State.Canonical.helAccept {c : Nat} (h : s.Canonical) : (s.helAccept c).Canonical :=
  h.put.count.setCand.setBitOf.irq.helLog

protected theorem State.Canonical.takeTrim (h : s.Canonical) : s.takeTrim.Canonical :=
  h.modHel.put0

protected theorem State.Canonical.showHold (h : s.Canonical) : s.showHold.Canonical :=
  h.put0.put0

protected theorem State.Canonical.showEligible (h : s.Canonical) : s.showEligible.Canonical :=
  h.forRange fun _ _ h => h.putB

protected theorem State.Canonical.helGoto {new cand reason : Nat} {switch : Bool} (h : s.Canonical) :
    (s.helGoto new cand reason switch).Canonical := by
  unfold State.helGoto
  extract_lets old s1 hold s2 s3 s4 s5 s6 s7
  have h1 : s2.Canonical := .ite h.takeTrim.helLog.put0.irq.count h.takeTrim.helLog.setBitOf.irq.count
  have h2 : s6.Canonical := .ite h1.put0.put0.modHel.put0.modPtp.decideStep h1.put0.put0.modHel.put0
  exact .showHold (.ite h2.put0.put0 h2)

protected theorem State.Canonical.helDecide (h : s.Canonical) : s.helDecide.Canonical := by
  dsimp only [State.helDecide]
  refine .showEligible (.ite (.ite h h.helGoto) ?_)
  refine .ite ?_ ?_
  · split
    · exact h.helGoto
    · refine .ite ?_ h
      split
      · exact h.helGoto
      · exact h
  · refine .ite ?_ ?_
    · split
      · exact h.helGoto
      · exact .ite h.helGoto (.ite h.helGoto (.ite h.helGoto (.ite h.put0.helGoto h)))
    · refine .ite ?_ ?_
      · split <;> exact h.helGoto
      · refine .ite h ?_
        split
        · exact .ite h.helGoto h
        · exact h

protected theorem State.Canonical.helActivity {c : Nat} (h : s.Canonical) : (s.helActivity c).Canonical := by
  unfold State.helActivity
  extract_lets first s1 s2
  have h1 : s2.Canonical := .ite h.setCand.put h.setCand
  exact .ite h1.put h1

protected theorem State.Canonical.helLose {c reason : Nat} (h : s.Canonical) : (s.helLose c reason).Canonical :=
  .ite h (.ite h.setCand.put.put.put.put.put (.helDecide (.ite h.setCand.put.put.put.put.helReject h.setCand.put.put.put.put.put.put)))

protected theorem State.Canonical.execActivityEvent {c : Nat} (h : s.Canonical) : Out.Canonical (execActivityEvent c s) :=
  .ok (.ite h.helActivity h)

protected theorem State.Canonical.execActivityLoss {c : Nat} {declared : Bool} (h : s.Canonical) :
    Out.Canonical (execActivityLoss c declared s) :=
  .ite (.ok h) (.ite (.ok h.helLose) (.ok h.advanceTo.helLose))

protected theorem State.Canonical.helMeasure {raw : List (Option ℤ)} (h : s.Canonical) : (s.helMeasure raw).Canonical := by
  dsimp only [State.helMeasure]
  refine h.forRange fun _ _ h => ?_
  split
  · exact h.setCand.putB.put.put
  · exact h.setCand.put.put

protected theorem State.Canonical.helRejects (h : s.Canonical) : s.helRejects.Canonical :=
  h.forRange fun _ _ h => .ite h (.ite h.helReject (.ite (.ite h.helReject h) (.ite h.helReject h)))

protected theorem State.Canonical.helAccepts (h : s.Canonical) : s.helAccepts.Canonical :=
  h.forRange fun _ _ h => .ite h (.ite h.put.setCand (.ite h.put.setCand (.ite h.put.setCand (.ite h.put.helAccept h.put))))

protected theorem State.Canonical.helLimit {want : ℤ} (h : s.Canonical) : (s.helLimit want).Canonical :=
  .modHel (.ite h.put0.irq.helLog h)

protected theorem State.Canonical.helFar (h : s.Canonical) : s.helFar.Canonical :=
  .ite (.ite h.modHel.decideStep h.modHel) h

protected theorem State.Canonical.helPhase {phase : ℤ} (h : s.Canonical) : (s.helPhase phase).Canonical :=
  .ite h (.ite h.put0.put0 (.ite h.put0.put0 h.put0))

protected theorem State.Canonical.execMeasurementInstant {raw : List (Option ℤ)} {trim phase : ℤ} (h : s.Canonical) :
    Out.Canonical (execMeasurementInstant raw trim phase s) := by
  unfold execMeasurementInstant
  extract_lets s1 sel mean t s2 s3 s4 s5 s6 want
  have h5 : s5.Canonical := h.advanceTo.modHel.put0.helMeasure.helRejects.helAccepts.helFar.helPhase.helDecide
  exact .ite (.ok h) (.ok (.showHold (.helLimit (.ite h5.modHel h5))))

protected theorem State.Canonical.execAcqTimeout (h : s.Canonical) : Out.Canonical (execAcqTimeout s) :=
  .ite (.ok h) (.ok h.advanceTo.helDecide)

protected theorem State.Canonical.execAcqHoldoffExpire (h : s.Canonical) : Out.Canonical (execAcqHoldoffExpire s) :=
  .ite (.ok h) (.ok h.advanceTo.helDecide)

protected theorem State.Canonical.execWtrExpire (h : s.Canonical) : Out.Canonical (execWtrExpire s) := by
  dsimp only [execWtrExpire]
  refine .ite (.ok h) ?_
  split
  · exact .ok h
  · exact .ok h.advanceTo.helDecide

protected theorem State.Canonical.helLoad {g0 g1 : Nat} {cw : List (Nat × Nat)} {commit : Bool} (h : s.Canonical) :
    (s.helLoad g0 g1 cw commit).Canonical := by
  unfold State.helLoad
  extract_lets old s1 s2 bad s3 s4
  have h1 : s4.Canonical := .forRange (.ite (h.put0.put0.forRange fun _ _ h => h.put.put).put0.helLog
    (h.put0.put0.forRange fun _ _ h => h.put.put)) fun _ _ h => .ite
      (.put (.ite h.put.put.setCand (.ite (.setCand (.put (.put (.ite h.helReject h)))) (.ite h.put.setCand h))))
        (.ite h.put.put.setCand (.ite (.setCand (.put (.put (.ite h.helReject h)))) (.ite h.put.setCand h)))
  exact .ite h1.helDecide h1

protected theorem State.Canonical.helStart (h : s.Canonical) : s.helStart.Canonical :=
  .forRange (.modHel (.ite h h.helGoto)) fun _ _ h => .ite h.put h

protected theorem State.Canonical.setServo {x : Nat} {f : Servo → Servo} (h : s.Canonical) : (s.setServo x f).Canonical :=
  h.modPtp

protected theorem State.Canonical.mpdClear {x : Nat} (h : s.Canonical) : (s.mpdClear x).Canonical :=
  h.setServo.put

protected theorem State.Canonical.execSvxPush {p : Plane} {x : Nat} {v : Word} (h : s.Canonical) :
    Out.Canonical (execSvxPush p x v s) := by
  dsimp only [execSvxPush]
  refine h.atPage fun _ h => ?_
  refine .ite (.ok h) (.ite (.ok h.count.irq) (.ite (.ite (.ok h.setServo.setServo.put.put.count.helActivity) (.ok h.setServo.put)) ?_))
  split
  · exact .ok h
  · exact .ok h.setServo.put.put

protected theorem State.Canonical.execMpdTimeout {x : Nat} (h : s.Canonical) : Out.Canonical (execMpdTimeout x s) :=
  .ite (.ok h.advanceTo.mpdClear) (.ok h)

protected theorem State.Canonical.servoCtrl {x v : Nat} (h : s.Canonical) : (s.servoCtrl x v).Canonical := by
  unfold State.servoCtrl
  extract_lets was dom s1 s2 s3
  have h1 : s2.Canonical := .ite h.putB.put h.putB.put.bumpEpoch
  have h2 : s3.Canonical := .ite h1.mpdClear h1
  exact .ite h2.helLose h2

/-! ## LocalPorts -/

protected theorem State.Canonical.refreshTx {p : Nat} (h : s.Canonical) : (State.refreshTx p s).Canonical :=
  .ite (.ite (.put (.put (.putB (.ite h.irq h)))) (.put (.putB (.ite h.irq h))))
    (.ite (.ite h.putB.put h.putB) (.ite h.put (.ite (.put (.put (.putB (.ite h.irq h)))) (.put (.putB (.ite h.irq h))))))

protected theorem State.Canonical.refreshPorts (h : s.Canonical) : s.refreshPorts.Canonical :=
  h.forRange fun _ _ h => h.refreshTx

protected theorem State.Canonical.rxIrqLos {p : Nat} (h : s.Canonical) : (s.rxIrqLos p).Canonical :=
  .ite h.irq (.ite h.irq h.irq)

protected theorem State.Canonical.rxSlip {p : Nat} (h : s.Canonical) : (s.rxSlip p).Canonical :=
  h.countPortFld

protected theorem State.Canonical.rxGain {p rate : Nat} (h : s.Canonical) : (s.rxGain p rate).Canonical :=
  .ite h.putPortFld.putPortFld.setRxp.setBitOf.irq (.ite h.putPortFld.putPortFld.setRxp.irq h.putPortFld.putPortFld.setRxp)

protected theorem State.Canonical.rxDrop {p : Nat} (h : s.Canonical) : (s.rxDrop p).Canonical := by
  unfold State.rxDrop
  extract_lets s1 s2 s3 s4
  have h1 : s3.Canonical := .ite h.putPortFld.putPortFld.putPortFld h.putPortFld.putPortFld
  exact .ite h1.setRxp.put.setBitOf h1.setRxp

protected theorem State.Canonical.rxSeen {p : Nat} (h : s.Canonical) : (s.rxSeen p).Canonical :=
  .ite h.putPortFld.setBitOf h.putPortFld

protected theorem State.Canonical.trackPhase {p rate : Nat} (h : s.Canonical) : (s.trackPhase p rate).Canonical := by
  dsimp only [State.trackPhase]
  refine .ite h ?_
  split
  · exact h.setRxp
  · exact .ite h (.setRxp (.ite h.putPortFld.rxSlip h))

protected theorem State.Canonical.rxMediaBit {p v : Nat} (h : s.Canonical) : (s.rxMediaBit p v).Canonical :=
  h.putPortFld

protected theorem State.Canonical.execMediaSet {p : Nat} (h : s.Canonical) : Out.Canonical (execMediaSet p s) :=
  .ite (.ok h) (.ok (h.advanceTo.measured fun _ h => h.rxMediaBit))

protected theorem State.Canonical.execLossOfSignal {p : Nat} (h : s.Canonical) : Out.Canonical (execLossOfSignal p s) := by
  unfold execLossOfSignal
  extract_lets s1 held media s2 s3 s4 s5
  have h4 : s4.Canonical := h.advanceTo.setRxp.putPortFld.rxIrqLos.rxDrop
  have h5 : s5.Canonical := .ite h4.setBitOf.setBitOf (.ite h4.put.setRxp h4)
  exact .ite (.ok h) (.ok (.ite h5.helLose h5))

protected theorem State.Canonical.execLosRampEnd {p : Nat} (h : s.Canonical) : Out.Canonical (execLosRampEnd p s) := by
  dsimp only [execLosRampEnd]
  split
  · exact .ok (.ite h.setRxp h)
  · exact .ok h

protected theorem State.Canonical.execSignalReturn {p : Nat} (h : s.Canonical) : Out.Canonical (execSignalReturn p s) :=
  .ok (.ite h h.rxSeen.setRxp)

protected theorem State.Canonical.takeSample {p ch : Nat} {good : Bool} {x : Word} (h : s.Canonical) :
    (s.takeSample p ch good x).Canonical :=
  .ite h h.setRxp.land

protected theorem State.Canonical.rampLandings {p : Nat} (h : s.Canonical) : (State.rampLandings p s).Canonical := by
  dsimp only [State.rampLandings]
  split
  · exact h
  · exact (h.forRange fun _ _ h => h.forRange fun _ _ h => h.land).setRxp

protected theorem State.Canonical.putBlock {f : Fld} {base : Nat} {ws : List Nat} (h : s.Canonical) : (s.putBlock f base ws).Canonical :=
  h.forRange fun _ _ h => h.put

protected theorem State.Canonical.adoptBlock {r : Nat} (h : s.Canonical) : (s.adoptBlock r).Canonical :=
  .putB (.put (.countWrap (.ite (.putBlock (.ite (.putBlock (.ite (.putBlock (.ite h.putBlock h.putBlock.setBitOf.irq))
    h.putBlock.count.irq)) (.irq (.setBitOf (.putBlock (.ite (.putBlock (.ite h.putBlock h.putBlock.setBitOf.irq))
      h.putBlock.count.irq)))))) (.irq (.count (.putBlock (.ite (.putBlock (.ite h.putBlock h.putBlock.setBitOf.irq))
        h.putBlock.count.irq)))))))

protected theorem State.Canonical.trackBlock {r : Nat} {f : AesFrame} (h : s.Canonical) : (s.trackBlock r f).Canonical := by
  unfold State.trackBlock
  extract_lets blk n lose fresh s1
  have h1 : s1.Canonical := .ite (.ite h.put.setRxp (.ite h.adoptBlock.setRxp h.count.put)) (.ite h.count.put h)
  exact .ite h1.setRxp h1

protected theorem State.Canonical.execAes3RxFrame {r : Nat} {f : AesFrame} (h : s.Canonical) : Out.Canonical (execAes3RxFrame r f s) :=
  .ite (.ok h) (.ite (.ite (.ok (.rxGain (.ite (.helActivity (.ite h.rxSeen.setRxp h.rxSeen)) (.ite h.rxSeen.setRxp h.rxSeen))))
    (.ok (.setRxp (.ite (.helActivity (.ite h.rxSeen.setRxp h.rxSeen)) (.ite h.rxSeen.setRxp h.rxSeen)))))
      (.ok (.trackBlock (.takeSample (.takeSample (.ite (.ite
        (.trackPhase (.setRxp (.put (.ite (.helActivity (.ite h.rxSeen.setRxp h.rxSeen)) (.ite h.rxSeen.setRxp h.rxSeen)))))
          (.count (.trackPhase (.setRxp (.put (.ite (.helActivity (.ite h.rxSeen.setRxp h.rxSeen)) (.ite h.rxSeen.setRxp h.rxSeen)))))))
            (.count (.ite (.trackPhase (.setRxp (.put (.ite (.helActivity (.ite h.rxSeen.setRxp h.rxSeen))
              (.ite h.rxSeen.setRxp h.rxSeen))))) (.count (.trackPhase
                (.setRxp (.put (.ite (.helActivity (.ite h.rxSeen.setRxp h.rxSeen)) (.ite h.rxSeen.setRxp h.rxSeen))))))))))))))

protected theorem State.Canonical.execAes3LockLoss {r : Nat} (h : s.Canonical) : Out.Canonical (execAes3LockLoss r s) :=
  .ite (.ok h) (.ok h.advanceTo.rxDrop)

protected theorem State.Canonical.takeEgress {p slot d : Nat} {oldest : Bool} (h : s.Canonical) :
    (s.takeEgress p slot d oldest).2.2.Canonical := by
  dsimp only [State.takeEgress]
  split
  · exact h.expressDue.setTxp
  · split
    · exact h.expressDue.modDp.setTxp
    · exact h.expressDue

protected theorem State.Canonical.startBlock {p : Nat} {cs user : List Nat} (h : s.Canonical) : (s.startBlock p cs user).Canonical :=
  .ite h.setTxp h

protected theorem State.Canonical.execAes3TxFrame {t : Nat} (h : s.Canonical) : Out.Canonical (execAes3TxFrame t s) :=
  .ite (.ok h) (.ok h.startBlock.takeEgress.takeEgress.setTxp.put)

protected theorem State.Canonical.execMadiRxFrame {m : Nat} {f : MadiFrame} (h : s.Canonical) : Out.Canonical (execMadiRxFrame m f s) := by
  unfold execMadiRxFrame
  extract_lets p s1 n lo hi count clean s2 fits s3 k s4 s5 vz
  have h1 : s1.Canonical := h.rxSeen.setRxp
  have h2 : s2.Canonical := .ite h1 h1.put.irq
  have h3 : s3.Canonical := h2.forEach fun _ _ h => .ite (.ite h h.count) (.count (.ite h h.count))
  have h5 : s5.Canonical := h3.put.setRxp.trackPhase
  exact .ite (.ok h) (.ite (.ite (.ok h3.rxGain) (.ok h3.setRxp)) (.ite (.ok h3)
    (.ok (h5.forRange fun _ _ h => .takeSample (.ite h.setBitOf h.setBitOf)))))

protected theorem State.Canonical.execMadiTxFrame {m : Nat} (h : s.Canonical) : Out.Canonical (execMadiTxFrame m s) := by
  unfold execMadiTxFrame
  extract_lets p
  split
  · exact .ok h
  · refine .ite (.ok h) (.ok (.put (.setTxp ?_)))
    refine .foldl_of Prod.snd (fun b _ hb => ?_) _ _ h.startBlock
    exact hb.takeEgress

protected theorem State.Canonical.execTdmFsEdge {q count : Nat} (h : s.Canonical) : Out.Canonical (execTdmFsEdge q count s) :=
  .ite (.ok h) (.ite (.ok h.rxSeen.setRxp.setRxp.put.put) (.ite (.ok h.rxSeen.setRxp) (.ok h.rxSeen.setRxp.count.irq)))

protected theorem State.Canonical.execTdmRxFrame {q : Nat} {slots : List Nat} {rate : Nat} (h : s.Canonical) :
    Out.Canonical (execTdmRxFrame q slots rate s) :=
  .ite (.ok h) (.ite (.ok h) (.ok (.forRange (.iteSnd (.ite h.rxSeen.setRxp.put.setRxp
    (.trackPhase (.putB (.ite h.rxSeen.setRxp.put.setRxp.irq h.rxSeen.setRxp.put.setRxp))))
      (.draw (.ite h.rxSeen.setRxp.put.setRxp (.trackPhase (.putB (.ite h.rxSeen.setRxp.put.setRxp.irq h.rxSeen.setRxp.put.setRxp))))))
        fun _ _ h => h.takeSample)))

protected theorem State.Canonical.execTdmTxFrame {q : Nat} (h : s.Canonical) : Out.Canonical (execTdmTxFrame q s) := by
  unfold execTdmTxFrame
  refine .ite (.ok h) (.ok (.put (.setTxp (.ite (.count ?_) ?_)))) <;>
  · refine .foldl_of (fun c : List Nat × Bool × State => c.2.2) (fun _ _ hb => ?_) _ _ h
    dsimp only
    split
    · exact hb
    · exact hb.takeEgress

protected theorem State.Canonical.execRestart {q : Nat} (h : s.Canonical) : Out.Canonical (execRestart q s) :=
  .ite (.ok h) (.ite (.ok h.put) (.ok h.setRxp))

protected theorem State.Canonical.execVcxoLoopUpdate {v : Nat} {off : ℤ} (h : s.Canonical) :
    Out.Canonical (execVcxoLoopUpdate v off s) := by
  unfold execVcxoLoopUpdate
  extract_lets bound run s1 near
  have h1 : s1.Canonical := h.putB.putB
  refine .ite (.ok h) (.ite (.ok ?_) ?_)
  · clear_value bound
    split
    · exact h1.putPortFld.setRxp
    · exact h1
  · split
    next want s2 hd =>
    have h2 : s2.Canonical := .of_eq h1.draw hd
    extract_lets code room lo hi w s3 goal next s4
    have h3 : s3.Canonical := .ite h2.setBitOf.irq h2
    have h4 : s4.Canonical := .ite h3 h3.put.modPorts
    clear_value bound
    split
    · exact .ok h4
    · exact .ite (.ok h4.setRxp.putPortFld) (.ite (.ok h4.setRxp.putPortFld) (.ok h4.setRxp))

protected theorem State.Canonical.showBalls (h : s.Canonical) : s.showBalls.Canonical :=
  h.put0

protected theorem State.Canonical.ballChange {n old new : Nat} (h : s.Canonical) : (s.ballChange n old new).Canonical :=
  .ite h h.modPorts.showBalls

protected theorem State.Canonical.ballStep {n k : Nat} (h : s.Canonical) : (s.ballStep n k).Canonical :=
  h.modPorts

protected theorem State.Canonical.execPmuxRelease {n : Nat} (h : s.Canonical) : Out.Canonical (execPmuxRelease n s) :=
  .ok h.ballStep

protected theorem State.Canonical.execPmuxTake {n : Nat} (h : s.Canonical) : Out.Canonical (execPmuxTake n s) :=
  .ok h.ballStep

protected theorem State.Canonical.execPmuxFirstFrame {n : Nat} (h : s.Canonical) : Out.Canonical (execPmuxFirstFrame n s) := by
  dsimp only [execPmuxFirstFrame]
  split
  · exact .ok h
  · exact .ok (.irq (.ite h.modPorts.showBalls.setTxp (.ite h.modPorts.showBalls.setTxp h.modPorts.showBalls)))

protected theorem State.Canonical.portMoved {a old new : Nat} (h : s.Canonical) : (s.portMoved a old new).Canonical :=
  .ite h.ballChange (.ite (h.forRange fun _ _ h => .ite h h.put.put)
    (((h.forRange fun _ _ h => .ite h.setTxp h).forRange fun _ _ h => .ite h.setTxp h).forRange fun _ _ h => .ite h.rxDrop
      (.ite h.putPortFld h)).refreshPorts)

protected theorem State.Canonical.portsStop (h : s.Canonical) : s.portsStop.Canonical :=
  (((h.forRange fun _ _ h => h.put).forRange fun _ _ h => h.put).forRange fun _ _ h => h.put).modPorts.modDp

/-! ## Net -/

protected theorem State.Canonical.busWrite {master addr : Nat} {d : List Byte} (h : s.Canonical) :
    (s.busWrite master addr d).1.Canonical := by
  dsimp only [State.busWrite]
  split
  · exact h.sramWrite
  · exact h.dramWrite
  · exact h

protected theorem State.Canonical.setRing {r : Nat} {f : NetRing → NetRing} (h : s.Canonical) : (s.setRing r f).Canonical :=
  h.modNet

protected theorem State.Canonical.writeNetCpl {x q : Nat} {words : List Word} (h : s.Canonical) : (s.writeNetCpl x q words).Canonical :=
  .ite h.pageErr (.ite (.pageErr (.iteFst h.hostWrite h.busWrite)) (.put (.iteFst h.hostWrite h.busWrite)))

protected theorem State.Canonical.netDone {x q seq len status info : Nat} (h : s.Canonical) :
    (s.netDone x q seq len status info).Canonical :=
  h.setRing.writeNetCpl

protected theorem State.Canonical.acceptDesc {x q : Nat} {d : NetDesc} (h : s.Canonical) : (s.acceptDesc x q d).Canonical :=
  .ite h.put.setRing.netDone h.put.setRing

protected theorem State.Canonical.dupDesc {x q seq : Nat} (h : s.Canonical) : (s.dupDesc x q seq).Canonical := by
  dsimp only [State.dupDesc]
  refine .ite h.count.writeNetCpl ?_
  split
  · exact h.count.writeNetCpl
  · exact .ite h.count h.count.writeNetCpl

protected theorem State.Canonical.fetchDescs {x q : Nat} {got : Nat → Option (List Word)} {n k : Nat} (h : s.Canonical) :
    (State.fetchDescs x q got n k s).Canonical := by
  induction n generalizing s k with
  | zero => exact h
  | succ n ih =>
    unfold State.fetchDescs
    extract_lets r expect
    split
    · exact h.writeNetCpl
    · exact .ite (ih h.acceptDesc) (.ite (ih h.dupDesc) h.count.irq.writeNetCpl)

protected theorem State.Canonical.execNetRingDb {p : Plane} {x q : Nat} {v : Word} {descs : List (List Word)} (h : s.Canonical) :
    Out.Canonical (execNetRingDb p x q v descs s) :=
  .ite (.ok h) (.ok h.fetchDescs)

protected theorem State.Canonical.deliverFrame {x q : Nat} {bytes : List Byte} (h : s.Canonical) :
    (s.deliverFrame x q bytes).Canonical := by
  dsimp only [State.deliverFrame]
  split
  · exact .ite (.ite h.count.irq h) (.pageErr (.ite h.count.irq h))
  · exact .ite (.netDone (.ite (.ite (.irq (.count (.iteFst h.hostWrite h.busWrite))) (.iteFst h.hostWrite h.busWrite))
      (.pageErr (.ite (.irq (.count (.iteFst h.hostWrite h.busWrite))) (.iteFst h.hostWrite h.busWrite)))))
        (.netDone (.iteFst h.hostWrite h.busWrite))

protected theorem State.Canonical.setRxs {i : Nat} {f : RxStream → RxStream} (h : s.Canonical) : (s.setRxs i f).Canonical :=
  h.modNet

protected theorem State.Canonical.rxLeg {x i seq : Nat} (h : s.Canonical) : (s.rxLeg x i seq).Canonical :=
  .ite h.setRxs.putB.count.count h.setRxs.putB.count

protected theorem State.Canonical.rxStore {i rtpTime : Nat} {sm : List (List Word)} (h : s.Canonical) :
    (s.rxStore i rtpTime sm).Canonical := by
  unfold State.rxStore
  extract_lets w4 w6 st media now mNow ref m ixs far late kept fresh s2 s3 s4 s5
  have h1 : s3.Canonical := .ite h.setRxs.count h.setRxs
  have h2 : s4.Canonical := .ite h1.count.put (.ite h1.count h1)
  have h3 : s5.Canonical := by
    unfold s5
    clear_value media fresh
    split
    · exact .ite h2.put h2
    · exact h2
  exact .ite h3.setRxs.count.put h3

protected theorem State.Canonical.rxPacket {x i : Nat} {rtp : List Byte} (h : s.Canonical) : (s.rxPacket x i rtp).Canonical := by
  dsimp only [State.rxPacket]
  refine .ite h ?_
  split
  · exact .ite (.rxStore (.rxLeg (.ite h.cvuTap h.cvuTap.put.irq))) h.count.put.irq
  · exact h.count.put.irq

protected theorem State.Canonical.rxFlush {i st : Nat} (h : s.Canonical) : (s.rxFlush i st).Canonical :=
  h.modNet.put.put.put

protected theorem State.Canonical.execRxStreamWait {i : Nat} (h : s.Canonical) : Out.Canonical (execRxStreamWait i s) :=
  .ite (.ok h) (.ok h.advanceTo.rxFlush.irq)

protected theorem State.Canonical.execRxLegDown {i leg : Nat} (h : s.Canonical) : Out.Canonical (execRxLegDown i leg s) := by
  dsimp only [execRxLegDown]
  split
  · exact .ok h
  · exact .ok h.advanceTo.setRxs.put

protected theorem State.Canonical.netSample {src : Nat} {x : Word} (h : s.Canonical) : (s.netSample src x).Canonical :=
  .ite h.express.modDp h.land

protected theorem State.Canonical.netDeliver {i : Nat} {xs : List Word} (h : s.Canonical) : (s.netDeliver i xs).Canonical :=
  h.forRange fun _ _ h => h.netSample

protected theorem State.Canonical.rxDue {i m : Nat} (h : s.Canonical) : (State.rxDue i m s).Canonical := by
  dsimp only [State.rxDue]
  split
  · exact h.netDeliver
  · exact h.netDeliver.count.put

protected theorem State.Canonical.rxLatchStream {t i : Nat} (h : s.Canonical) : (State.rxLatchStream t i s).Canonical := by
  dsimp only [State.rxLatchStream]
  refine .ite h ?_
  split
  · exact h
  · exact .ite h (h.forRange fun _ _ h => h.rxDue).setRxs

protected theorem State.Canonical.rxLatchAll {t : Nat} (h : s.Canonical) : (s.rxLatchAll t).Canonical :=
  h.forEach fun _ _ h => h.rxLatchStream

protected theorem State.Canonical.rxLandAsync {i : Nat} (h : s.Canonical) : (s.rxLandAsync i).Canonical := by
  dsimp only [State.rxLandAsync]
  refine .ite h ?_
  split
  · exact .ite h h.setRxs.count.put
  · exact .ite h.setRxs.netDeliver h

protected theorem State.Canonical.classify {x : Nat} {f : List Byte} {p : RxParsed} (h : s.Canonical) : (s.classify x f p).Canonical := by
  dsimp only [State.classify]
  split
  · refine .ite h.deliverFrame ?_
    split
    · exact h.rxPacket
    · exact .ite h.deliverFrame h.count
  · exact .ite h.deliverFrame h.count

protected theorem State.Canonical.execNetRxFrame {x : Nat} {frame : List Byte} {fcsOk : Bool} (h : s.Canonical) :
    Out.Canonical (execNetRxFrame x frame fcsOk s) :=
  .ite (.ok h) (.ite (.ok h.count.count) (.ite (.ok h.count.count) (.ok h.count.classify)))

protected theorem State.Canonical.setTxs {i : Nat} {f : TxStream → TxStream} (h : s.Canonical) : (s.setTxs i f).Canonical :=
  h.modNet

protected theorem State.Canonical.netEntry {i : Nat} (h : s.Canonical) : (s.netEntry i).Canonical := by
  dsimp only [State.netEntry]
  split
  · exact h.ephDrop.ephAdd
  · exact h.ephDrop

protected theorem State.Canonical.txSample {i stamp : Nat} {word : Nat → Word} (h : s.Canonical) :
    (State.txSample i stamp word s).Canonical := by
  unfold State.txSample
  extract_lets w6 n rate ws clips s1 s2 s3 t rtp p s4 s5
  have h1 : s1.Canonical := .ite h h.count.put.irq
  have h5 : s5.Canonical := .ite h1.setTxs.setTxs.setTxs.put.put h1.setTxs.setTxs
  exact .ite h5.netEntry h5

protected theorem State.Canonical.txGather {t : Nat} {word : Nat → Word} {i : Nat} (h : s.Canonical) :
    (State.txGather t word i s).Canonical := by
  dsimp only [State.txGather]
  split
  · exact h.txSample
  · exact .ite h.txSample h
  · exact .ite h.txSample h
  · exact h.forRange fun _ _ h => h.txSample

protected theorem State.Canonical.txGatherAll {t : Nat} {word : Nat → Word} (h : s.Canonical) : (s.txGatherAll t word).Canonical :=
  .ite (h.forEach fun _ _ h => h.txGather) h

protected theorem State.Canonical.sendFrame {x sfd prev : Nat} {audio : Bool} {bytes : List Byte} (h : s.Canonical) :
    (s.sendFrame x sfd prev audio bytes).2.Canonical :=
  h.modNet.count

protected theorem State.Canonical.txFrame {x i : Nat} {p : TxPacket} (h : s.Canonical) : (s.txFrame x i p).2.Canonical :=
  h.draw

protected theorem State.Canonical.launchOn {x i : Nat} {p : TxPacket} (h : s.Canonical) : (s.launchOn x i p).2.Canonical :=
  .iteSnd h.count.put.irq (.ite h.txFrame.sendFrame h.txFrame.sendFrame.count.put.irq.keepMax)

protected theorem State.Canonical.execPacketLaunch (h : s.Canonical) : Out.Canonical (execPacketLaunch s) := by
  unfold execPacketLaunch
  extract_lets nets first
  clear_value first
  split
  · exact .ok h
  · extract_lets i s1
    split
    · exact .ok h
    · extract_lets s2 s3 port
      have h3 : s3.Canonical := h.advanceTo.setTxs.ephFired.netEntry
      refine .ite (.ok h3.count) ?_
      split
      next a s4 h0 =>
      have h4 : s4.Canonical := .of_eq (.iteSnd h3 h3.launchOn) h0
      split
      next b s5 h1 =>
      have h5 : s5.Canonical := .of_eq (.iteSnd h4 h4.launchOn) h1
      exact .ok (.ite h5.count h5)

protected theorem State.Canonical.sendDesc {x q : Nat} {d : NetDesc} {data : Option (List Byte)} (h : s.Canonical) :
    (s.sendDesc x q d data).Canonical := by
  dsimp only [State.sendDesc]
  refine .ite h.netDone ?_
  split
  · exact h.netDone
  · exact .ite h (.netDone (.ite h.sendFrame.advanceTo.pushTxts h.sendFrame.advanceTo))

protected theorem State.Canonical.execHostFrameTx {x : Nat} {data : Option (List Byte)} (h : s.Canonical) :
    Out.Canonical (execHostFrameTx x data s) := by
  dsimp only [execHostFrameTx]
  split
  · exact .ok h
  · exact .ite (.ok h) (.ok h.sendDesc)

protected theorem State.Canonical.execMgmtFrameTx {x : Nat} (h : s.Canonical) : Out.Canonical (execMgmtFrameTx x s) := by
  dsimp only [execMgmtFrameTx]
  split
  · exact .ok h
  · exact .ite (.ok h) (.ok h.sendDesc)

protected theorem State.Canonical.execNetLinkUp {x : Nat} {an : Bool} (h : s.Canonical) : Out.Canonical (execNetLinkUp x an s) :=
  .ite (.ok h) (.ok h.put.put.putB.putB.irq)

protected theorem State.Canonical.linkDown {x : Nat} (h : s.Canonical) : (State.linkDown x s).Canonical :=
  .ite h h.put.put.put.count.irq

protected theorem State.Canonical.execNetLinkDown {x : Nat} (h : s.Canonical) : Out.Canonical (execNetLinkDown x s) :=
  .ok h.linkDown

protected theorem State.Canonical.txShow {i : Nat} (h : s.Canonical) : (State.txShow i s).Canonical :=
  h.put

protected theorem State.Canonical.streamsMode (h : s.Canonical) : s.streamsMode.Canonical :=
  .ite (h.forEach fun _ _ h => h.txShow) (((h.forEach fun _ _ h => h.txShow).forEach fun _ _ h => .ite h.rxFlush h).forEach fun _ _ h =>
    h.setTxs.netEntry)

protected theorem State.Canonical.streamMoved {tx : Bool} {i old new : Nat} (h : s.Canonical) : (s.streamMoved tx i old new).Canonical :=
  .ite h (.ite (.ite h.modNet.put.allocBuf.txShow h.rxFlush.allocBuf) (.ite h.modNet.netEntry.freeBufs.txShow h.rxFlush.freeBufs))

/-! ## HostRing -/

protected theorem State.Canonical.setHostRing {q : Nat} {f : HostRing → HostRing} (h : s.Canonical) : (s.setHostRing q f).Canonical :=
  h.keepHost

protected theorem State.Canonical.showRing {q : Nat} (h : s.Canonical) : (s.showRing q).Canonical :=
  h.putB.put.putB

protected theorem State.Canonical.drainCpl {q n : Nat} (h : s.Canonical) : (State.drainCpl q n s).Canonical := by
  induction n generalizing s with
  | zero => exact h
  | succ n ih =>
    unfold State.drainCpl
    split
    · exact h
    · have hw : ∀ a d f, ((s.setHostRing q f).hostWrite a d).1.Canonical := fun _ _ _ => h.setHostRing.hostWrite
      exact .ite h (ih (.ite (hw _ _ _).put.setBitOf (hw _ _ _).pageErr))

protected theorem State.Canonical.sendCpl {q : Nat} {c : Cpl} (h : s.Canonical) : (s.sendCpl q c).Canonical :=
  h.setHostRing.drainCpl.showRing

protected theorem State.Canonical.ringEnd {q slot status info : Nat} (h : s.Canonical) : (s.ringEnd q slot status info).Canonical := by
  dsimp only [State.ringEnd]
  split
  · exact h
  · exact .ite h.setHostRing.count.sendCpl h.setHostRing.count.showRing

protected theorem State.Canonical.ringBegan {q : Nat} (h : s.Canonical) : (s.ringBegan q).Canonical :=
  h.setHostRing

protected theorem State.Canonical.execHostqRingDb {q : Nat} {v : Word} (h : s.Canonical) : Out.Canonical (execHostqRingDb q v s) :=
  .ite (.ok h) (.ok h.setHostRing.put.put.showRing)

protected theorem State.Canonical.execHostqFetch {q : Nat} {desc : Option (List Word)} (h : s.Canonical) :
    Out.Canonical (execHostqFetch q desc s) := by
  unfold execHostqFetch
  extract_lets r expect s1 s2 s3 s4
  refine .ite (.ok (.ite h h.showRing)) ?_
  split
  · exact .ok h.put.irq
  · extract_lets words seq op c s5 epoch here
    have h1 : s1.Canonical := h.setHostRing
    have h5 : s5.Canonical := h1.put.setHostRing.showRing
    refine .ite (.ite (.ok h5.ringEnd) (.ite (.ok h5.ringEnd) (.ite (.ok h5.ringEnd) (.ite (.ok h5.ringEnd) (.ok h5)))))
      (.ite (.ite (.ok h1.count.sendCpl) ?_) (.ok h1.count.setBitOf.put.sendCpl))
    split <;> exact .ok h1.count.sendCpl

protected theorem State.Canonical.execRingReplay {q : Nat} {v : Word} (h : s.Canonical) : Out.Canonical (execRingReplay q v s) :=
  .ite (.ok h) (.ite (.ok h.pageErr) (.ok (h.forEach fun _ _ h => h.count.sendCpl)))

protected theorem State.Canonical.execHostqRingEn {q : Nat} {on : Bool} (h : s.Canonical) : Out.Canonical (execHostqRingEn q on s) :=
  .ite (.ok h) (.ite (.ok h.put.put.put.bumpEpoch.setHostRing.showRing) (.ok h.put.bumpEpoch.setHostRing.showRing))

protected theorem State.Canonical.cplRead {q v : Nat} (h : s.Canonical) : (s.cplRead q v).Canonical :=
  h.put.drainCpl.showRing

protected theorem State.Canonical.execCmdNop {q : Nat} (h : s.Canonical) : Out.Canonical (execCmdNop q s) := by
  dsimp only [execCmdNop]
  split
  · exact .ok h.ringEnd
  · exact .ok h

/-! ## Bridge -/

protected theorem State.Canonical.setBc {c : Nat} {f : Bc → Bc} (h : s.Canonical) : (s.setBc c f).Canonical :=
  .same h

protected theorem State.Canonical.onBc {c : Nat} {f : Bc → State → State} (h : s.Canonical)
    (hf : ∀ b t, t.Canonical → (f b t).Canonical) : Out.Canonical (s.onBc c f) :=
  .ok (.ite (hf _ s h) h)

protected theorem State.Canonical.bcNext {c : Nat} (h : s.Canonical) : (s.bcNext c).Canonical :=
  h.draw.setBc

protected theorem State.Canonical.execBridgeInstruction {c instr : Nat} (h : s.Canonical) :
    Out.Canonical (execBridgeInstruction c instr s) :=
  h.onBc fun _ _ h => h.setBc

protected theorem State.Canonical.doubleTrap {c : Nat} (h : s.Canonical) : (s.doubleTrap c).Canonical :=
  .ite h.setBc.putB.putB.raise h.setBc.putB.putB.raise.fenceOut

protected theorem State.Canonical.frameTrap {c : Nat} (h : s.Canonical) : (s.frameTrap c).Canonical :=
  h.setBc.bcNext

protected theorem State.Canonical.execEnter {c : Nat} (h : s.Canonical) : Out.Canonical (execEnter c s) :=
  h.onBc fun _ _ h => .ite h.doubleTrap (.ite h.setBc.bcNext h.frameTrap)

protected theorem State.Canonical.execLeave {c : Nat} (h : s.Canonical) : Out.Canonical (execLeave c s) :=
  h.onBc fun _ _ h => .ite h.doubleTrap (.ite h.setBc.bcNext (.ite h.frameTrap h.doubleTrap))

protected theorem State.Canonical.execPark3 {c : Nat} (h : s.Canonical) : Out.Canonical (execPark3 c s) :=
  h.onBc fun _ _ h => h.draw.setBc.bcNext

protected theorem State.Canonical.execUnpark {c : Nat} (h : s.Canonical) : Out.Canonical (execUnpark c s) :=
  h.onBc fun _ _ h => h.draw.setBc.bcNext

protected theorem State.Canonical.execTrapx {c : Nat} (h : s.Canonical) : Out.Canonical (execTrapx c s) :=
  h.onBc fun _ _ h => h.setBc

protected theorem State.Canonical.bcCapture {c : Nat} (h : s.Canonical) : (s.bcCapture c).Canonical :=
  .ite h h.put.put.put.setBc

protected theorem State.Canonical.execBcQsel {c : Nat} {v : Word} (h : s.Canonical) : Out.Canonical (execBcQsel c v s) :=
  h.atPage fun _ h => .ok (.ite h h.put.setBc)

protected theorem State.Canonical.bcTake {c edge : Nat} (h : s.Canonical) : (s.bcTake c edge).Canonical :=
  h.setBc

protected theorem State.Canonical.seedCore {c : Nat} (h : s.Canonical) : (State.seedCore c s).Canonical :=
  (h.forRange fun _ _ h => h.sendRecord).sendRecord.sendRecord

protected theorem State.Canonical.snapCore {c : Nat} (h : s.Canonical) : (State.snapCore c s).Canonical :=
  .ite h (.same h.seedCore)

protected theorem State.Canonical.bcReplay {c : Nat} (h : s.Canonical) : (s.bcReplay c).Canonical :=
  h.setBc

protected theorem State.Canonical.execWaits {c : Nat} (h : s.Canonical) : Out.Canonical (execWaits c s) :=
  h.onBc fun _ _ h => .ite (.bcReplay (.snapCore (.bcNext (.bcCapture
    (.setBc (.keepMax (.ite (.irq (.put (.ite (.irq (.put (.ite h.put h))) (.ite h.put h))))
      (.ite (.irq (.put (.ite h.put h))) (.ite h.put h)))))))))
        (.ite (.bcTake (.snapCore (.bcNext (.bcCapture (.setBc
          (.keepMax (.ite (.irq (.put (.ite (.irq (.put (.ite h.put h))) (.ite h.put h))))
            (.ite (.irq (.put (.ite h.put h))) (.ite h.put h)))))))))
              (.snapCore (.bcNext (.bcCapture (.setBc (.keepMax
                (.ite (.irq (.put (.ite (.irq (.put (.ite h.put h))) (.ite h.put h))))
                  (.ite (.irq (.put (.ite h.put h))) (.ite h.put h)))))))))

protected theorem State.Canonical.bcCollect {c : Nat} (h : s.Canonical) : (State.bcCollect c s).Canonical :=
  .forRange (.setBc (.ite h.count.irq.put.raise h)) fun _ _ h => h.setBitOf.modDp

protected theorem State.Canonical.bcLog {c : Nat} (h : s.Canonical) : (State.bcLog c s).Canonical :=
  h.setBc

protected theorem State.Canonical.bcSend {c : Nat} (h : s.Canonical) : (State.bcSend c s).Canonical :=
  .ite (.ite (.bcReplay (.ite h.bcLog.bcCapture h.bcLog)) (.ite h.bcLog.bcCapture h.bcLog))
    (.ite (h.forRange fun _ _ h => h.setBc).bcCapture (.ite (h.forRange fun _ _ h => h.setBc)
      (.ite (h.forRange fun _ _ h => h.setBc).bcTake (h.forRange fun _ _ h => h.setBc).setBc)))

protected theorem State.Canonical.execTestAndSet {c addr : Nat} (h : s.Canonical) : Out.Canonical (execTestAndSet c addr s) :=
  h.onBc fun _ _ h => .ite h.draw.respond.setBc (.ite h.raiseReq h.countGrant.sramWrite.setBc)

protected theorem State.Canonical.bcScratch {c : Nat} (h : s.Canonical) : (s.bcScratch c).Canonical :=
  .ite h.freeBufs (.ite h.allocBuf (h.forEach fun _ _ h => h.retag))

protected theorem State.Canonical.execLoadBridge {q : Nat} {image : Option (List Byte)} (h : s.Canonical) :
    Out.Canonical (execLoadBridge q image s) := by
  dsimp only [execLoadBridge]
  split
  · exact .ok h
  · refine .ite (.ok h.ringEnd) (.ite (.ok h.ringEnd) (.ite (.ok h) ?_))
    split
    · exact .ok h.ringEnd
    · exact .ite (.ok h.progress.progressStop.ringEnd) (.ite (.ok h.progress.progressStop.ringEnd)
        (.ok h.progress.progress.ringBegan.setBc))

protected theorem State.Canonical.bcChannels {c mask : Nat} {on : Bool} (h : s.Canonical) : (s.bcChannels c mask on).Canonical :=
  h.forRange fun _ _ h => .ite h.setBitOf h

protected theorem State.Canonical.execBridgeLoadWrite {c : Nat} (h : s.Canonical) : Out.Canonical (execBridgeLoadWrite c s) := by
  dsimp only [execBridgeLoadWrite]
  split
  · exact .ok h
  · exact .ite (.ok h) (.ite (.ok h.bcChannels.bcScratch.setBc.progress.ringEnd)
      (.ok (.setBc (.same h.putB.bcChannels.bcScratch.progress))))

protected theorem State.Canonical.execBridgeCoreStart {c : Nat} (h : s.Canonical) : Out.Canonical (execBridgeCoreStart c s) := by
  dsimp only [execBridgeCoreStart]
  split
  · exact .ok h
  · exact .ite (.ok h) (.ok (.ringEnd (.progress (.ite (.same h.setBc.putB) h.setBc.putB))))

/-! ## PageRead -/

protected theorem State.Canonical.freezePage {page : Nat} {on : Bool} (h : s.Canonical) : (s.freezePage page on).Canonical :=
  .ite h (.ite h.putB (.putB (.ite h (.same h))))

protected theorem State.Canonical.thaw {a m : Nat} (h : s.Canonical) : (s.thaw a m).Canonical :=
  .ite h (.same h)

/-! ## HostIf -/

protected theorem State.Canonical.ringReset {q : Nat} (h : s.Canonical) : (State.ringReset q s).Canonical :=
  h.put.setHostRing.showRing

protected theorem State.Canonical.hostIfReset {linkDown d3 : Bool} (h : s.Canonical) : (s.hostIfReset linkDown d3).Canonical := by
  unfold State.hostIfReset
  extract_lets on s1 s2 s3 s4 s5
  have h1 : s1.Canonical := h.forRange fun _ _ h => h.ringReset
  have h3 : s3.Canonical := .forRange (.ite h1.bumpEpoch h1) fun _ _ h => h.put
  have h5 : s5.Canonical := h3.filterRegs.keepHost
  exact .ite h5.put0.put0 h5

protected theorem State.Canonical.execHostIfReset {linkDown d3 : Bool} (h : s.Canonical) :
    Out.Canonical (execHostIfReset linkDown d3 s) :=
  .ok h.hostIfReset

protected theorem State.Canonical.execPcieLinkUp {width speed : Nat} {master : Bool} (h : s.Canonical) :
    Out.Canonical (execPcieLinkUp width speed master s) :=
  .ite (.ok h) (.ok h.put0.put0.keepHost)

protected theorem State.Canonical.execMsixMessage {v : Nat} {on funcMask vecMask : Bool} (h : s.Canonical) :
    Out.Canonical (execMsixMessage v on funcMask vecMask s) :=
  .ite (.ok h) (.ite (.ok h.keepHost) (.ite (.ok h.keepHost.keepHost) (.ok h.keepHost.keepHost.put)))

protected theorem State.Canonical.execIntcEoi {k : Nat} {v : Word} (h : s.Canonical) : Out.Canonical (execIntcEoi k v s) :=
  .ite (.ok h) (.ok (h.forRange fun _ _ h => .ite h.put h))

/-! ## Link -/

protected theorem State.Canonical.linkTo {k st : Nat} (h : s.Canonical) : (s.linkTo k st).Canonical :=
  .ite h.put.putB.setLink.putB.put.put (.ite h.put.putB.setLink.putB.put.put h.put.putB.setLink.progressStop)

protected theorem State.Canonical.linkAdvance {k : Nat} (h : s.Canonical) : (s.linkAdvance k).Canonical :=
  .ite h (.ite (.linkTo (.ite (.linkTo (.ite h.linkTo h)) (.ite h.linkTo h))) (.ite (.linkTo (.ite h.linkTo h)) (.ite h.linkTo h)))

protected theorem State.Canonical.execLaneCdrLock {l pcie : Nat} (h : s.Canonical) : Out.Canonical (execLaneCdrLock l pcie s) := by
  dsimp only [execLaneCdrLock]
  refine .ite (.ok h) (.ite (.ok h) (.ite (.ok h) (.ok ?_)))
  split
  · exact h.put.put.put.setBitOf.linkAdvance
  · exact h.put.put.put.setBitOf

protected theorem State.Canonical.execLaneAdaptDone {l ctle : Nat} {dfe eye : Word} (h : s.Canonical) :
    Out.Canonical (execLaneAdaptDone l ctle dfe eye s) := by
  dsimp only [execLaneAdaptDone]
  refine .ite (.ok h) (.ok ?_)
  split
  · exact .linkAdvance (.ite h.put h.put.put.setWord.put.put)
  · exact .ite h.put h.put.put.setWord.put.put

protected theorem State.Canonical.setLaneHw {l : Nat} {f : LaneHw → LaneHw} (h : s.Canonical) : (s.setLaneHw l f).Canonical :=
  .same h

protected theorem State.Canonical.prbsCount {l bits errs : Nat} (h : s.Canonical) : (s.prbsCount l bits errs).Canonical :=
  .ite h.setLaneHw h

protected theorem State.Canonical.execPrbsChkLock {l : Nat} (h : s.Canonical) : Out.Canonical (execPrbsChkLock l s) :=
  .ok (.ite h.put h)

protected theorem State.Canonical.execPrbsChkRelock {l bits errs : Nat} (h : s.Canonical) :
    Out.Canonical (execPrbsChkRelock l bits errs s) :=
  .ite (.ok h) (.ok h.prbsCount.put.count.irq)

protected theorem State.Canonical.prbsClr {l : Nat} (h : s.Canonical) : (s.prbsClr l).Canonical :=
  .put (.same h)

protected theorem State.Canonical.execPrbsClr {l : Nat} (h : s.Canonical) : Out.Canonical (execPrbsClr l s) :=
  .ok h.prbsClr

protected theorem State.Canonical.execLaneErrLoRead {p : Plane} {l bits errs : Nat} (h : s.Canonical) :
    Out.Canonical (execLaneErrLoRead p l bits errs s) :=
  .ok h.prbsCount.put.setWord.setWord.setRead

protected theorem State.Canonical.cascShow (h : s.Canonical) : s.cascShow.Canonical :=
  .ite h (.ite h.put0.irq.modDp h.put0.irq.modDp)

protected theorem State.Canonical.sendCasc (h : s.Canonical) : s.sendCasc.Canonical :=
  .ite h (h.forEach fun _ _ h => h.kzlQueue)

protected theorem State.Canonical.cascStore {b i : Nat} {x : Word} (h : s.Canonical) : (s.cascStore b i x).Canonical := by
  dsimp only [State.cascStore]
  refine .modDp ?_
  split
  · exact .ite h.modDp.count h
  · exact h

protected theorem State.Canonical.cascTake {k head mine : Nat} {parts : List Nat} (h : s.Canonical) :
    (s.cascTake k head mine parts).Canonical :=
  .ite ((h.putB.setLink.forRange fun _ _ h => h.cascStore).forEach fun _ _ h => .ite h.setMapBit h.stickyBus)
    (h.putB.setLink.forRange fun _ _ h => h.cascStore)

protected theorem State.Canonical.kzlFail {k cause : Nat} (h : s.Canonical) : (s.kzlFail k cause).Canonical := by
  unfold State.kzlFail
  extract_lets st s2 s3 s4 s5 s6 s7
  have h3 : s3.Canonical := h.put.setLink
  have h5 : s5.Canonical := h3.count.irq.bumpEpoch.linkTo.setLink
  have h7 : s7.Canonical := .ite (.foldl (.ite h5.helLose h5) fun _ _ h => h.put) (.ite h3.linkTo h3)
  exact .linkAdvance (.cascShow (.ite h7 h7.raise))

protected theorem State.Canonical.execKzlAlignDone {k map skew : Nat} {partnerB : Bool} {partnerLink : Nat} (h : s.Canonical) :
    Out.Canonical (execKzlAlignDone k map skew partnerB partnerLink s) :=
  .ite (.ok h) (.ok (h.foldl fun _ _ h => h.put).put.put.putB.put.linkTo)

protected theorem State.Canonical.execKzlStateTimeout {k : Nat} (h : s.Canonical) : Out.Canonical (execKzlStateTimeout k s) :=
  .ite (.ok h) (.ok h.advanceTo.linkTo.count.irq)

protected theorem State.Canonical.goBack {k : Nat} (h : s.Canonical) : (s.goBack k).Canonical := by
  dsimp only [State.goBack]
  split
  · exact h
  · exact h.setLink.irq

protected theorem State.Canonical.execKzlRto {k : Nat} (h : s.Canonical) : Out.Canonical (execKzlRto k s) := by
  dsimp only [execKzlRto]
  split
  · exact .ok h
  · exact .ok h.advanceTo.count.goBack

protected theorem State.Canonical.linkWord {k : Nat} (h : s.Canonical) : (s.linkWord k).2.Canonical :=
  h.setLink

protected theorem State.Canonical.putFrame {k seq typ : Nat} {payload : List Byte} (h : s.Canonical) :
    (s.putFrame k seq typ payload).Canonical :=
  h.linkWord.setLink

protected theorem State.Canonical.kzlSlot {k : Nat} (h : s.Canonical) : (s.kzlSlot k).Canonical := by
  dsimp only [State.kzlSlot]
  refine .ite h (.ite h.putFrame ?_)
  split
  · exact .ite h.putFrame.count.setLink.kzlFail h.putFrame.count.setLink
  · split
    · exact h.putFrame
    · exact .ite h.kzlFail h.cvuTap.putFrame.setLink.put.keepMax

protected theorem State.Canonical.takeAck {k ack : Nat} (h : s.Canonical) : (s.takeAck k ack).Canonical :=
  .ite h.setLink.put h

protected theorem State.Canonical.takeEcho {k id turn : Nat} (h : s.Canonical) : (s.takeEcho k id turn).Canonical :=
  .ite h (.ite h.setLink h.setLink.put.setLink)

protected theorem State.Canonical.takeTick {k pos : Nat} {base : Bool} (h : s.Canonical) : (s.takeTick k pos base).Canonical := by
  unfold State.takeTick
  extract_lets s1 s2
  have h1 : s1.Canonical := .ite h.helActivity h
  split
  · exact h1.setLink
  · exact .ite h1.setLink (.ite h1.setLink.put.setLink (.ite h1.setLink.setLink (.ite h1.setLink.put.count.setLink h1.setLink.setLink)))

protected theorem State.Canonical.linkUp {k : Nat} (h : s.Canonical) : (s.linkUp k).Canonical :=
  h.setLink.linkTo.put.put.put.irq.bumpEpoch.cascShow

protected theorem State.Canonical.takeLinkWord {k w : Nat} (h : s.Canonical) : (s.takeLinkWord k w).Canonical := by
  unfold State.takeLinkWord
  extract_lets s1 s2 s3 s4 s5
  have h1 : s1.Canonical := .ite h.linkUp h
  have h2 : s2.Canonical := .ite h1.takeAck h1
  have h3 : s3.Canonical := .ite h2.goBack h2
  exact .ite h3.setLink.takeEcho.takeTick h3.setLink.takeEcho

protected theorem State.Canonical.partnerCount {k sample : Nat} (h : s.Canonical) : (s.partnerCount k sample).Canonical :=
  h.setLink

protected theorem State.Canonical.mirrorCasc {head mine : Nat} {parts : List Nat} (h : s.Canonical) :
    (s.mirrorCasc head mine parts).Canonical :=
  .ite h (.ite h.sendRecord h.sendRecord.sendRecord)

protected theorem State.Canonical.kzlReceive {k : Nat} {frame : List DWord} (h : s.Canonical) : (s.kzlReceive k frame).Canonical := by
  unfold State.kzlReceive
  extract_lets w st bytes typ len s1 seq expect pay s2 s3 s4 mine recs s5 bad
  have h1 : s1.Canonical := h.takeLinkWord
  have h3 : s3.Canonical := h1.put.setLink.cvuTap
  have h5 : s5.Canonical := by
    unfold s5
    split
    · exact h3.partnerCount
    · exact h3
  exact .ite h (.ite h.count (.ite h1 (.ite (.ite (.ite h3.partnerCount.cascTake.mirrorCasc h3.partnerCount)
    (.ite (.ite h5 h5.count) h3)) (.ite h1.count h1.count.setLink))))

protected theorem State.Canonical.kzlEn {k : Nat} {on : Bool} (h : s.Canonical) : (s.kzlEn k on).Canonical :=
  .ite h.linkAdvance (.linkTo (.foldl (.ite h.kzlFail h) fun _ _ h => h.put.put.put.put.put.setBitOf))

/-! ## StripEngine -/

protected theorem State.Canonical.setEng {e : Nat} {t : Se} (h : s.Canonical) : (s.setEng e t).Canonical :=
  .same h

protected theorem State.Canonical.onEngine {e : Nat} {f : Se → Se} (h : s.Canonical) : Out.Canonical (s.onEngine e f) :=
  .ok (.ite h.setEng h)

protected theorem State.Canonical.seIllegal {e : Nat} (h : s.Canonical) : (s.seIllegal e).Canonical :=
  h.raise

protected theorem State.Canonical.execMacNop {e : Nat} (h : s.Canonical) : Out.Canonical (execMacNop e s) :=
  h.onEngine

protected theorem State.Canonical.execMpy {e src q mask : Nat} (h : s.Canonical) : Out.Canonical (execMpy e src q mask s) :=
  h.onEngine

protected theorem State.Canonical.execMac {e src q mask : Nat} (h : s.Canonical) : Out.Canonical (execMac e src q mask s) :=
  h.onEngine

protected theorem State.Canonical.execMsu {e src q mask : Nat} (h : s.Canonical) : Out.Canonical (execMsu e src q mask s) :=
  h.onEngine

protected theorem State.Canonical.execClr {e mask : Nat} (h : s.Canonical) : Out.Canonical (execClr e mask s) :=
  h.onEngine

protected theorem State.Canonical.execLda {e src mask : Nat} (h : s.Canonical) : Out.Canonical (execLda e src mask s) :=
  h.onEngine

protected theorem State.Canonical.execAdda {e src mask : Nat} (h : s.Canonical) : Out.Canonical (execAdda e src mask s) :=
  h.onEngine

protected theorem State.Canonical.execSuba {e src mask : Nat} (h : s.Canonical) : Out.Canonical (execSuba e src mask s) :=
  h.onEngine

protected theorem State.Canonical.execAdd {e dd ds dt : Nat} (h : s.Canonical) : Out.Canonical (execAdd e dd ds dt s) :=
  h.onEngine

protected theorem State.Canonical.execSub {e dd ds dt : Nat} (h : s.Canonical) : Out.Canonical (execSub e dd ds dt s) :=
  h.onEngine

protected theorem State.Canonical.execAdds {e dd ds dt : Nat} (h : s.Canonical) : Out.Canonical (execAdds e dd ds dt s) :=
  h.onEngine

protected theorem State.Canonical.execSubs {e dd ds dt : Nat} (h : s.Canonical) : Out.Canonical (execSubs e dd ds dt s) :=
  h.onEngine

protected theorem State.Canonical.execNeg {e dd ds : Nat} (h : s.Canonical) : Out.Canonical (execNeg e dd ds s) :=
  h.onEngine

protected theorem State.Canonical.execAbsD {e dd ds : Nat} (h : s.Canonical) : Out.Canonical (execAbsD e dd ds s) :=
  h.onEngine

protected theorem State.Canonical.execAndD {e dd ds dt : Nat} (h : s.Canonical) : Out.Canonical (execAndD e dd ds dt s) :=
  h.onEngine

protected theorem State.Canonical.execOrD {e dd ds dt : Nat} (h : s.Canonical) : Out.Canonical (execOrD e dd ds dt s) :=
  h.onEngine

protected theorem State.Canonical.execXorD {e dd ds dt : Nat} (h : s.Canonical) : Out.Canonical (execXorD e dd ds dt s) :=
  h.onEngine

protected theorem State.Canonical.execCmp {e ds dt : Nat} (h : s.Canonical) : Out.Canonical (execCmp e ds dt s) :=
  h.onEngine

protected theorem State.Canonical.execDiv {e dd ds dt : Nat} (h : s.Canonical) : Out.Canonical (execDiv e dd ds dt s) :=
  h.onEngine

protected theorem State.Canonical.execDivComplete {e : Nat} (h : s.Canonical) : Out.Canonical (execDivComplete e s) :=
  h.onEngine

protected theorem State.Canonical.execAsr {e dd ds dt : Nat} (h : s.Canonical) : Out.Canonical (execAsr e dd ds dt s) :=
  h.onEngine

protected theorem State.Canonical.execLsr {e dd ds dt : Nat} (h : s.Canonical) : Out.Canonical (execLsr e dd ds dt s) :=
  h.onEngine

protected theorem State.Canonical.execLsl {e dd ds dt : Nat} (h : s.Canonical) : Out.Canonical (execLsl e dd ds dt s) :=
  h.onEngine

protected theorem State.Canonical.execLsls {e dd ds dt : Nat} (h : s.Canonical) : Out.Canonical (execLsls e dd ds dt s) :=
  h.onEngine

protected theorem State.Canonical.execAsri {e dd count : Nat} (h : s.Canonical) : Out.Canonical (execAsri e dd count s) :=
  h.onEngine

protected theorem State.Canonical.execLsri {e dd count : Nat} (h : s.Canonical) : Out.Canonical (execLsri e dd count s) :=
  h.onEngine

protected theorem State.Canonical.execLsli {e dd count : Nat} (h : s.Canonical) : Out.Canonical (execLsli e dd count s) :=
  h.onEngine

protected theorem State.Canonical.execLslsi {e dd count : Nat} (h : s.Canonical) : Out.Canonical (execLslsi e dd count s) :=
  h.onEngine

protected theorem State.Canonical.execAsra {e acc count : Nat} (h : s.Canonical) : Out.Canonical (execAsra e acc count s) :=
  h.onEngine

protected theorem State.Canonical.execLsra {e acc count : Nat} (h : s.Canonical) : Out.Canonical (execLsra e acc count s) :=
  h.onEngine

protected theorem State.Canonical.execLsla {e acc count : Nat} (h : s.Canonical) : Out.Canonical (execLsla e acc count s) :=
  h.onEngine

protected theorem State.Canonical.execLslsa {e acc count : Nat} (h : s.Canonical) : Out.Canonical (execLslsa e acc count s) :=
  h.onEngine

protected theorem State.Canonical.seEcc {e : Nat} {ecc : Ecc} (h : s.Canonical) : (s.seEcc e ecc).1.Canonical := by
  dsimp only [State.seEcc]
  split
  · exact h
  · exact h.count.irq
  · exact h.raise

protected theorem State.Canonical.execLoad {e slot space an mode reg : Nat} {ecc : Ecc} (h : s.Canonical) :
    Out.Canonical (execLoad e slot space an mode reg ecc s) :=
  .ite (.ok h) (.ite (.ok h.seEcc) h.seEcc.onEngine)

protected theorem State.Canonical.execStore {e slot space an mode reg : Nat} (h : s.Canonical) :
    Out.Canonical (execStore e slot space an mode reg s) :=
  h.onEngine

protected theorem State.Canonical.execLoadAddressFile {e slot space an mode reg : Nat} {ecc : Ecc} (h : s.Canonical) :
    Out.Canonical (execLoadAddressFile e slot space an mode reg ecc s) :=
  .ite (.ok h) (.ite (.ok h.seEcc) h.seEcc.onEngine)

protected theorem State.Canonical.execAuAddOffset {e an nm : Nat} (h : s.Canonical) : Out.Canonical (execAuAddOffset e an nm s) :=
  h.onEngine

protected theorem State.Canonical.execAuLoadBase {e an : Nat} (h : s.Canonical) : Out.Canonical (execAuLoadBase e an s) :=
  h.onEngine

/-! ## SeControl -/

protected theorem State.Canonical.onCtrl {e : Nat} {f : Se → Se} (h : s.Canonical) : Out.Canonical (s.onCtrl e f) :=
  h.onEngine

protected theorem State.Canonical.ctrlIllegal {e : Nat} (h : s.Canonical) : (s.ctrlIllegal e).Canonical :=
  h.setEng.seIllegal

protected theorem State.Canonical.onCtrlNotSlot {e : Nat} {f : Se → Se} (h : s.Canonical) : Out.Canonical (s.onCtrlNotSlot e f) :=
  .ite (.ok h) (.ite (.ok h.ctrlIllegal) (.ok h.setEng))

protected theorem State.Canonical.execNop {e : Nat} (h : s.Canonical) : Out.Canonical (execNop e s) :=
  h.onCtrl

protected theorem State.Canonical.execBr {e target : Nat} (h : s.Canonical) : Out.Canonical (execBr e target s) :=
  h.onCtrlNotSlot

protected theorem State.Canonical.execBrc {e cond target : Nat} (h : s.Canonical) : Out.Canonical (execBrc e cond target s) := by
  dsimp only [execBrc]
  refine .ite (.ok h) ?_
  split
  · exact .ok h.ctrlIllegal
  · exact h.onCtrlNotSlot

protected theorem State.Canonical.execBri {e ds : Nat} (h : s.Canonical) : Out.Canonical (execBri e ds s) :=
  h.onCtrlNotSlot

protected theorem State.Canonical.execBrk {e : Nat} (h : s.Canonical) : Out.Canonical (execBrk e s) :=
  h.onCtrlNotSlot

protected theorem State.Canonical.repeat {e last : Nat} {count : Se → Nat} (h : s.Canonical) : Out.Canonical (s.repeat e last count) :=
  .ite (.ok h) (.ite (.ok h.ctrlIllegal) (.ok h.setEng))

protected theorem State.Canonical.execRep {e count last : Nat} (h : s.Canonical) : Out.Canonical (execRep e count last s) :=
  h.repeat

protected theorem State.Canonical.execRepd {e ds last : Nat} (h : s.Canonical) : Out.Canonical (execRepd e ds last s) :=
  h.repeat

protected theorem State.Canonical.execLdi {e dd : Nat} {v : Word} (h : s.Canonical) : Out.Canonical (execLdi e dd v s) :=
  h.onCtrl

protected theorem State.Canonical.execMvtc {e cr ds : Nat} (h : s.Canonical) : Out.Canonical (execMvtc e cr ds s) := by
  dsimp only [execMvtc]
  split
  · exact .ok (.ite h.ctrlIllegal h)
  · exact h.onCtrl

protected theorem State.Canonical.execMvfc {e cr dd : Nat} (h : s.Canonical) : Out.Canonical (execMvfc e cr dd s) := by
  dsimp only [execMvfc]
  split
  · exact .ok (.ite h.ctrlIllegal h)
  · exact h.onCtrl

protected theorem State.Canonical.execGath16 {e src dsp ad isp ai base : Nat} (h : s.Canonical) :
    Out.Canonical (execGath16 e src dsp ad isp ai base s) :=
  .ite (.ok h) (.ite (.ok h.ctrlIllegal) (.ok h.setEng))

protected theorem State.Canonical.gatherFail {e k cause addr src : Nat} (h : s.Canonical) : (s.gatherFail e k cause addr src).Canonical :=
  h.setEng.put.put.put.put.put.irq.raise

protected theorem State.Canonical.gatherRun {e : Nat} {g : SeGather} {n k : Nat} (h : s.Canonical) :
    (State.gatherRun e g n k s).2.Canonical := by
  induction n generalizing s k with
  | zero => exact h
  | succ n ih =>
    unfold State.gatherRun
    split
    · exact ih h.setEng
    · exact h.gatherFail

protected theorem State.Canonical.execGatherComplete {e : Nat} (h : s.Canonical) : Out.Canonical (execGatherComplete e s) := by
  dsimp only [execGatherComplete]
  split
  · exact .ok h
  · exact .ite (.ok h.gatherRun) (.ok h.gatherRun.put.setEng)

protected theorem State.Canonical.execGatherFault {e k cause : Nat} (h : s.Canonical) : Out.Canonical (execGatherFault e k cause s) := by
  dsimp only [execGatherFault]
  split
  · exact .ok h
  · exact .ite (.ok h) (.ite (.ok h.gatherRun) (.ok h.gatherRun.gatherFail))

protected theorem State.Canonical.seEvent {code e : Nat} (h : s.Canonical) : (s.seEvent code e).Canonical :=
  .ite h h.setEng

protected theorem State.Canonical.execEventAccept {e : Nat} (h : s.Canonical) : Out.Canonical (execEventAccept e s) :=
  h.onEngine

protected theorem State.Canonical.execRte {e : Nat} (h : s.Canonical) : Out.Canonical (execRte e s) :=
  h.onCtrlNotSlot

protected theorem State.Canonical.execEventLatency {e code : Nat} (h : s.Canonical) : Out.Canonical (execEventLatency e code s) := by
  dsimp only [execEventLatency]
  split
  · exact .ok h
  · exact .ite (.ok h) (.ok h.setEng.raise)

protected theorem State.Canonical.execDmaErr {e : Nat} {depends : Bool} (h : s.Canonical) : Out.Canonical (execDmaErr e depends s) :=
  .ite (.ok h) (.ok (.ite h.seEvent.raise h.seEvent))

protected theorem State.Canonical.foldStickies {e : Nat} (h : s.Canonical) : (s.foldStickies e).Canonical :=
  .setEng (.ite (.irq (.put (.putB (.put (.ite (.put (.ite (.put (.ite h.put.stripEvent h)) (.ite h.put.stripEvent h)))
    (.ite (.put (.ite h.put.stripEvent h)) (.ite h.put.stripEvent h)))))))
      (.ite (.put (.ite (.put (.ite h.put.stripEvent h)) (.ite h.put.stripEvent h)))
        (.ite (.put (.ite h.put.stripEvent h)) (.ite h.put.stripEvent h))))

protected theorem State.Canonical.seCapture {e : Nat} {out : Bool} {n : Nat} (h : s.Canonical) : (s.seCapture e out n).Canonical :=
  .ite h h.put.put.put.putB.put.put.setEng

protected theorem State.Canonical.execSeQsel {e : Nat} {v : Word} (h : s.Canonical) : Out.Canonical (execSeQsel e v s) :=
  h.atPage fun _ h => .ite (.ok h) (.ok h.put.setEng)

protected theorem State.Canonical.execStripBegin {e : Nat} {out : Bool} {n : Nat} (h : s.Canonical) :
    Out.Canonical (execStripBegin e out n s) :=
  .ite (.ok h) (.ite (.ok h.ctrlIllegal) (.ok h.foldStickies.put.setEng))

protected theorem State.Canonical.execStripEnd {e : Nat} {res dout : Word} {send : Nat} (h : s.Canonical) :
    Out.Canonical (execStripEnd e res dout send s) := by
  dsimp only [execStripEnd]
  refine .ite (.ok h) ?_
  split
  · exact .ite (.ok h.ctrlIllegal) (.ok h.setEng)
  · exact .ite (.ok h.ctrlIllegal) (.ok h.setEng.seCapture.foldStickies)

protected theorem State.Canonical.seBoundary {e : Nat} (h : s.Canonical) : (State.seBoundary e s).Canonical :=
  .ite h (.ite (.seCapture (.setEng (.ite h h.put.keepMax))) (.setEng (.ite h h.put.keepMax)))

/-! ## Metering -/

protected theorem State.Canonical.meterStart (h : s.Canonical) : s.meterStart.Canonical :=
  .modDp (.ite h h.put0.put0)

protected theorem State.Canonical.meterEnd {change : Bool} (h : s.Canonical) : (s.meterEnd change).Canonical :=
  .ite (.meterStart (.forEach (.modDp (.put0 (.ite (.irq (.put0 (.iteFst h h.hostWrite))) (.irq (.pageErr (.iteFst h h.hostWrite)))))) fun
    _ _ h => h.seEvent)) (.modDp (.forEach (.modDp (.put0 (.ite (.irq (.put0 (.iteFst h h.hostWrite)))
      (.irq (.pageErr (.iteFst h h.hostWrite)))))) fun _ _ h => h.seEvent))

protected theorem State.Canonical.execMeterFrameBoundary (h : s.Canonical) : Out.Canonical (execMeterFrameBoundary s) :=
  .ok (.ite h.meterEnd h)

protected theorem State.Canonical.meterPeriod (h : s.Canonical) : s.meterPeriod.Canonical :=
  .ite h h.modDp

protected theorem State.Canonical.meterEnable (h : s.Canonical) : s.meterEnable.Canonical :=
  .ite h.meterStart (.ite h.modDp h)

protected theorem State.Canonical.execMtrRdSet {v : Word} (h : s.Canonical) : Out.Canonical (execMtrRdSet v s) :=
  h.atPage fun _ h => .ok h.put0

protected theorem State.Canonical.setEye {t : Nat} {f : Frame → Frame} (h : s.Canonical) : (s.setEye t f).Canonical :=
  h.modDp

protected theorem State.Canonical.eyeStart {t : Nat} (h : s.Canonical) : (s.eyeStart t).Canonical :=
  .setEye (.ite h h.put.put)

protected theorem State.Canonical.eyeMode {t : Nat} (h : s.Canonical) : (s.eyeMode t).Canonical :=
  .ite h.setEye h.setEye.eyeStart

protected theorem State.Canonical.eyePoint {t : Nat} (h : s.Canonical) : (s.eyePoint t).Canonical :=
  .ite h.eyeStart h

protected theorem State.Canonical.eyeEnd {t : Nat} {change : Bool} (h : s.Canonical) : (s.eyeEnd t change).Canonical :=
  .ite (.setEye (.setBitOf (.put (.setEye (.ite (.setBitOf (.put (.iteFst h h.hostWrite)))
    (.setBitOf (.pageErr (.iteFst h h.hostWrite)))))))) (.eyeStart
      (.setEye (.ite (.setBitOf (.put (.iteFst h h.hostWrite))) (.setBitOf (.pageErr (.iteFst h h.hostWrite))))))

protected theorem State.Canonical.execEyeBlockEnd {t : Nat} (h : s.Canonical) : Out.Canonical (execEyeBlockEnd t s) :=
  .ok (.ite h.eyeEnd h)

protected theorem State.Canonical.eyePeriod (h : s.Canonical) : s.eyePeriod.Canonical :=
  h.forRange fun _ _ h => .ite h.setEye h

protected theorem State.Canonical.meterOverdue (h : s.Canonical) : s.meterOverdue.Canonical :=
  .forRange (.ite h.meterEnd h) fun _ _ h => .ite h.eyeEnd h

protected theorem State.Canonical.meterRateChange (h : s.Canonical) : s.meterRateChange.Canonical :=
  .forRange (.ite h.meterEnd h) fun _ _ h => .ite h.eyeEnd h

protected theorem State.Canonical.execEyeRdSet {t : Nat} {v : Word} (h : s.Canonical) : Out.Canonical (execEyeRdSet t v s) :=
  h.atPage fun _ h => .ok (.ite h.put h)

/-! ## RegEffect -/

protected theorem State.Canonical.cvuRelease {u : Nat} (h : s.Canonical) : (s.cvuRelease u).Canonical :=
  h.put.put.bumpEpoch

protected theorem State.Canonical.scnDone {who : Origin} {slot status index : Nat} (h : s.Canonical) :
    (s.scnDone who slot status index).Canonical := by
  dsimp only [State.scnDone]
  split
  · exact h.ringEnd
  · exact h.putP.putP.putP.putP.putP

protected theorem State.Canonical.loadEnd {status index : Nat} (h : s.Canonical) : (s.loadEnd status index).Canonical := by
  dsimp only [State.loadEnd]
  split
  · exact h
  · exact .scnDone (.irq (.modScn (.ite h h.cvuRelease)))

protected theorem State.Canonical.loadCut {slot status : Nat} (h : s.Canonical) : (s.loadCut slot status).Canonical :=
  .ite h.progressStop.loadEnd h

protected theorem State.Canonical.clearPage {page : Nat} {w1c cnt : Bool} (h : s.Canonical) : (s.clearPage page w1c cnt).Canonical :=
  h.forEach fun _ _ h => h.setWord.thaw

protected theorem State.Canonical.scnReset (h : s.Canonical) : s.scnReset.Canonical :=
  (h.forRange fun _ _ h => .ite h.endSlot.loadCut h).modScn.freeBufs.showScn.clearPage

protected theorem State.Canonical.hostqReset (h : s.Canonical) : s.hostqReset.Canonical :=
  .ite h (h.forRange fun _ _ h => h.put.put.put.setHostRing).clearPage.bumpEpoch

protected theorem State.Canonical.softReset {page : Nat} (h : s.Canonical) : (s.softReset page).Canonical :=
  .ite h (.ite h.hostqReset (.ite h.bumpEpoch.clearPage (.ite h.bumpEpoch.scnReset
    (.ite h.bumpEpoch.ephDrop.clearPage (.ite h.bumpEpoch.clearPage.clearPage.filterRegs.put0.put0
      (.ite h.bumpEpoch.clearPage.modPtp.showTxts (.ite (.same h.bumpEpoch.clearPage)
        (.ite h.bumpEpoch.clearPage.keepMem (.ite h.bumpEpoch.clearPage.filterRegs.put0 h.bumpEpoch.clearPage)))))))))

protected theorem State.Canonical.softResetNow {p : Plane} {page : Nat} (h : s.Canonical) : (s.softResetNow p page).Canonical :=
  .ite h h.wakeFor.softReset

protected theorem State.Canonical.regEffect {m : SMove} {old new : Nat} (h : s.Canonical) : (s.regEffect m old new).Canonical := by
  dsimp only [State.regEffect]
  refine .ite (.ite h.putB.freezePage.softReset h.putB.freezePage) (.ite h.cascShow ?_)
  refine .ite ?_ ?_
  · split
    · exact .ite h.eyeMode h
    · exact h
  · refine .ite ?_ ?_
    · split
      · exact .ite h h.eyePoint
      · exact h
    · refine .ite h.portMoved ?_
      refine .ite ?_ ?_
      · split
        · exact .ite (.hostIfReset (.ite (.put (.ite h.prbsClr.put h)) (.ite h.prbsClr.put h)))
            (.ite (.put (.ite h.prbsClr.put h)) (.ite h.prbsClr.put h))
        · exact h
      · refine .ite ?_ h
        split
        · exact .ite h h.kzlEn
        · exact h

protected theorem State.Canonical.moveEffect {before : State} {m : SMove} (h : s.Canonical) : (State.moveEffect before m s).Canonical :=
  .ite h.regEffect (.ite h.streamMoved h)

protected theorem State.Canonical.moveEffects {before : State} {done : List SMove} (h : s.Canonical) :
    (s.moveEffects before done).Canonical :=
  (h.forEach fun _ _ h => h.bumpEpoch).forEach fun _ _ h => h.moveEffect

/-! ## Health -/

protected theorem State.Canonical.flashErase {off n : Nat} (h : s.Canonical) : (s.flashErase off n).Canonical :=
  Memory.wf_flashErase h off n

protected theorem State.Canonical.flashProgram {off : Nat} {d : List Byte} (h : s.Canonical) : (s.flashProgram off d).Canonical :=
  Memory.wf_flashProgram h off d

protected theorem State.Canonical.healthWrite {kind : Nat} {good full : Bool} {logicFail : Nat} {rows : List (Nat × Nat)}
    (h : s.Canonical) : (s.healthWrite kind good full logicFail rows).Canonical :=
  h.draw.flashErase.flashProgram

protected theorem State.Canonical.keyClear (h : s.Canonical) : s.keyClear.Canonical :=
  h.keepMgmt.put0.put0.put0.forRange fun _ _ h => h.put.put

protected theorem State.Canonical.bistFail {map : Nat} (h : s.Canonical) : (s.bistFail map).Canonical :=
  h.put0.forRange fun _ _ h => .ite h.raise h

protected theorem State.Canonical.showRepairs (h : s.Canonical) : s.showRepairs.Canonical :=
  (h.forRange fun _ _ h => h.put.put).put0.put0

protected theorem State.Canonical.repairRow {hold listed : Bool} {r : Nat × Nat} (h : s.Canonical) :
    (State.repairRow hold listed r s).Canonical := by
  dsimp only [State.repairRow]
  refine .ite h ?_
  split
  · exact h.keepMgmt
  · exact .ite h.raise.irq.keepMgmt h.raise.irq

protected theorem State.Canonical.domainsOn (h : s.Canonical) : s.domainsOn.Canonical :=
  (h.forEach fun _ _ h => h.setDom).modPwr

protected theorem State.Canonical.dropSram {g : Nat} (h : s.Canonical) : (s.dropSram g).Canonical :=
  Memory.wf_dropSram h g

protected theorem State.Canonical.parkSram0 (h : s.Canonical) : s.parkSram0.Canonical :=
  .ite h.setDom (.ite h.setDom.dropSram h.setDom)

protected theorem State.Canonical.domainsOff (h : s.Canonical) : (s.domainsOff).Canonical := by
  unfold State.domainsOff
  extract_lets s1 s2
  have h1 : s1.Canonical := h.forEach fun _ _ h => h.setDom
  have hd : (forRange (fun g s => s.dropSram g) 1 7 s1).Canonical := h1.forRange fun _ _ h => h.dropSram
  have h2 : s2.Canonical := hd.modMem hd.sram rfl
  exact h2.parkSram0.showPasses.modPwr

/-! ## SceneCmd -/

protected theorem State.Canonical.scnTake {who : Origin} {op slot : Nat} (h : s.Canonical) : (s.scnTake who op slot).2.Canonical := by
  dsimp only [State.scnTake]
  split
  · split
    · exact .iteSnd h.ringBegan h
    · exact h
  · exact .iteSnd h (.iteSnd h.putP.putP.putP h.putP.putP)

protected theorem State.Canonical.scnServe {who : Origin} {op slot : Nat} {f : ScnCmd → State → Out} (h : s.Canonical)
    (hf : ∀ c t, t.Canonical → Out.Canonical (f c t)) : Out.Canonical (s.scnServe who op slot f) := by
  have ht : (s.scnTake who op slot).2.Canonical := h.scnTake
  unfold State.scnServe
  split
  · next e =>
    rw [e] at ht
    exact .ok ht
  · next e =>
    rw [e] at ht
    exact .ite (.ok ht.scnDone) (hf _ _ ht)

protected theorem State.Canonical.loadShow (h : s.Canonical) : s.loadShow.Canonical := by
  dsimp only [State.loadShow]
  split
  · exact h
  · exact h.putB.put.put

protected theorem State.Canonical.settled {i : Nat} (h : s.Canonical) : (s.settled i).Canonical :=
  .ite (.ite h.settleSlot.showSlot.progress.loadEnd h.settleSlot.showSlot.loadShow) h.settleSlot.showSlot

protected theorem State.Canonical.commitNow {i : Nat} (h : s.Canonical) : (s.commitNow i).Canonical :=
  .ite h.commitAll.put.irq.put.irq.setSlot.freeBufs.showSlot.showScn.moveEffects h

protected theorem State.Canonical.closeSlot {i : Nat} (h : s.Canonical) : (s.closeSlot i).2.Canonical :=
  .iteSnd h.countRefusal.endSlot (h.put.forEach fun _ _ h => h.mirrorMove).mirrorSlot

protected theorem State.Canonical.execOpenSlot {who : Origin} (h : s.Canonical) : Out.Canonical (execOpenSlot who s) := by
  dsimp only [execOpenSlot]
  refine h.scnServe fun _ _ h => ?_
  split
  · exact .ok h.scnDone
  · exact .ok (h.forRange fun _ _ h => h.setWord).put.setSlot.allocBuf.showScn.scnDone

protected theorem State.Canonical.execClose {who : Origin} {slot : Nat} (h : s.Canonical) : Out.Canonical (execClose who slot s) :=
  h.scnServe fun _ _ h => .ite (.ok h.scnDone) (.ite (.ok h.scnDone)
    (.ite (.ok h.scnDone) (.ite (.ok h.closeSlot.loadCut.scnDone)
      (.ok (.scnDone (.showScn (.commitNow (.settled (.ite h.closeSlot.loadCut.attach h.closeSlot.loadCut.attach.put)))))))))

protected theorem State.Canonical.execArm {who : Origin} {slot : Nat} (h : s.Canonical) : Out.Canonical (execArm who slot s) :=
  h.scnServe fun _ _ h => .ite (.ok h.scnDone) (.ite (.ok h.scnDone)
    (.ite (.ok h.scnDone) (.ite (.ok h.attach.scnDone) (.ok h.attach.put.irq.commitNow.scnDone))))

protected theorem State.Canonical.execAbort {who : Origin} {slot : Nat} (h : s.Canonical) : Out.Canonical (execAbort who slot s) :=
  h.scnServe fun _ _ h => .ite (.ok h.scnDone) (.ite (.ok h.scnDone) (.ok h.endSlot.loadCut.scnDone))

protected theorem State.Canonical.cvuClaim {u : Nat} (h : s.Canonical) : (s.cvuClaim u).Canonical :=
  h.put.put.put.put.put.put.put.put.put.put.put.put.cvuLoad.bumpEpoch

protected theorem State.Canonical.execLoadImage {who : Origin} {slot : Nat} (h : s.Canonical) :
    Out.Canonical (execLoadImage who slot s) :=
  h.scnServe fun _ _ h => .ite (.ok h.scnDone) (.ite (.ok h.scnDone) (.ite (.ok h.endSlot.irq.scnDone) (.ok h.cvuClaim.modScn.progress)))

protected theorem State.Canonical.loadRefuse {slot status index : Nat} (h : s.Canonical) : (s.loadRefuse slot status index).Canonical :=
  h.endSlot.progressStop.loadEnd

protected theorem State.Canonical.execImageLoadEnd {image : List Byte} {err : Bool} (h : s.Canonical) :
    Out.Canonical (execImageLoadEnd image err s) := by
  dsimp only [execImageLoadEnd]
  split
  · exact .ok h
  · exact .ite (.ok h) (.ite (.ok h.loadRefuse) (.ite (.ok h.loadRefuse)
      (.ite (.ok h.loadRefuse) (.ite (.ok h.put.put.loadRefuse)
        (.ite (.ok h.put.put.cvuFeed.slotReceiveAll.loadRefuse)
          (.ite (.ok h.put.put.cvuFeed.slotReceiveAll.loadRefuse)
            (.ite (.ok h.put.put.cvuFeed.slotReceiveAll.closeSlot.progressStop.loadEnd)
              (.ok h.put.put.cvuFeed.slotReceiveAll.closeSlot.cvuRelease.modScn.put.loadShow.settled))))))))

protected theorem State.Canonical.execMoves {who : Origin} {slot : Nat} {data : Option (List Word)} (h : s.Canonical) :
    Out.Canonical (execMoves who slot data s) := by
  dsimp only [execMoves]
  refine h.scnServe fun _ _ h => ?_
  refine .ite (.ok h.scnDone) (.ite (.ok h.scnDone) ?_)
  split
  · exact .ok h.scnDone
  · exact .ite (.ok h.liveAll.moveEffects.scnDone) (.ok h.slotReceiveAll.scnDone)

protected theorem State.Canonical.execScnPortPush {p : Plane} {lane : Nat} (h : s.Canonical) : Out.Canonical (execScnPortPush p lane s) :=
  h.atPage fun _ h => .ite (.ok h.putP.putP) (.ite (.ok h.putP.putP)
    (.ite (.ok h.liveMove.moveEffects.putP.putP) (.ite (.ok h.putP.putP) (.ok h.slotReceive.putP.putP))))

protected theorem State.Canonical.execLiveWrite {off : Nat} {v : Word} (h : s.Canonical) : Out.Canonical (execLiveWrite off v s) :=
  .ite (.ok h) (.ok h.wakeFor.liveMove.moveEffects)

protected theorem State.Canonical.cutSlot {i : Nat} (h : s.Canonical) : (State.cutSlot i s).Canonical :=
  .ite h (.ite h.setSlot.mirrorSlot (.ite (.ite h.endSlot h.setSlot) h))

protected theorem State.Canonical.execSceneCutoff (h : s.Canonical) : Out.Canonical (execSceneCutoff s) := by
  unfold execSceneCutoff
  extract_lets s1
  have h1 : s1.Canonical := .ite h h.advanceTo
  exact .ite (.ok h1) (.ite (.ok (h1.forRange fun _ _ h => h.cutSlot).modScn.mirrorSlot) (.ok (h1.forRange fun _ _ h => h.cutSlot)))

protected theorem State.Canonical.execDeferredXfadeStart (h : s.Canonical) : Out.Canonical (execDeferredXfadeStart s) :=
  .ok h.modScn

protected theorem State.Canonical.reportStaged {lane : Nat} (h : s.Canonical) : (s.reportStaged lane).Canonical :=
  .ite h.sendRecord h

protected theorem State.Canonical.execDerivationDone {lane word : Nat} (h : s.Canonical) :
    Out.Canonical (execDerivationDone lane word s) :=
  .ite (.ok h) (.ite (.ok (.ite h.modScn.reportStaged h.modScn)) (.ok (.ite h.setSlot.settled.reportStaged h.setSlot.settled)))

protected theorem State.Canonical.execScnQw0 {v : Word} (h : s.Canonical) : Out.Canonical (execScnQw0 v s) :=
  h.atPage fun _ h => .ok h.select

protected theorem State.Canonical.snapScn {item : Nat} (h : s.Canonical) : (s.snapScn item).Canonical :=
  h.putB.put0.putB.putB.put0.put0.put0.put0.put0

protected theorem State.Canonical.execRconvQsel {v : Word} (h : s.Canonical) : Out.Canonical (execRconvQsel v s) :=
  h.atPage fun _ h => .ok h.select

protected theorem State.Canonical.execPatchQsel {v : Word} (h : s.Canonical) : Out.Canonical (execPatchQsel v s) :=
  h.atPage fun _ h => .ok h.select

protected theorem State.Canonical.execFabXpQsel {v : Word} (h : s.Canonical) : Out.Canonical (execFabXpQsel v s) :=
  h.atPage fun _ h => .ok h.select

protected theorem State.Canonical.execFabSrcQsel {v : Word} (h : s.Canonical) : Out.Canonical (execFabSrcQsel v s) :=
  h.atPage fun _ h => .ok h.select

protected theorem State.Canonical.execSnapshotDone {q : Query} (h : s.Canonical) : Out.Canonical (execSnapshotDone q s) := by
  dsimp only [execSnapshotDone]
  split
  · exact .ok h
  · refine .ok (.put0 (.selDone ?_))
    split
    · exact h.snapLane
    · exact h.snapPatch
    · exact h.snapXp
    · exact h.snapSrc
    · exact h.snapScn
    · exact h.snapArb
    · exact h.snapOwn

/-! ## Strips -/

protected theorem State.Canonical.setStripEngine {out : Bool} {n e : Nat} (h : s.Canonical) : (s.setStripEngine out n e).Canonical :=
  .ite h (.ite h.put h.put)

protected theorem State.Canonical.takeSlots {out : Bool} {shed displaced : List Nat} (h : s.Canonical) :
    (s.takeSlots out shed displaced).Canonical :=
  h.forEach fun _ _ h => h.setStripEngine

protected theorem State.Canonical.placeStrips (h : s.Canonical) : s.placeStrips.Canonical :=
  (((h.modDp.forRange fun _ _ h => h.setStripEngine).forRange fun _ _ h => h.setStripEngine).forRange fun _ _ h =>
    h.put.put).takeSlots.takeSlots.modDp.put0

protected theorem State.Canonical.restartStrip {out : Bool} {n : Nat} (h : s.Canonical) : (State.restartStrip out n s).Canonical :=
  h.setStrip

protected theorem State.Canonical.showMembers (h : s.Canonical) : s.showMembers.Canonical :=
  h.forRange fun _ _ h => .ite h h.put

protected theorem State.Canonical.dropNotches (h : s.Canonical) : s.dropNotches.Canonical :=
  h.filterRegs

protected theorem State.Canonical.rebuildStrips (h : s.Canonical) : (s.rebuildStrips).Canonical := by
  unfold State.rebuildStrips
  extract_lets s1 s2 s3 s4
  have h1 : s1.Canonical := h.modScn
  have h2 : s2.Canonical := h1.modMem h1.sram (twf_filter h1.dram _)
  exact .same h2.modDp.dropNotches

protected theorem State.Canonical.passSlots {e heir : Nat} (h : s.Canonical) : (s.passSlots e heir).Canonical :=
  h.forRange fun _ _ h => .ite h.modDp h

protected theorem State.Canonical.emptyEngine {e : Nat} (h : s.Canonical) : (s.emptyEngine e).Canonical :=
  h.put.put.modFlt

protected theorem State.Canonical.execStripMigration {e : Nat} (h : s.Canonical) : Out.Canonical (execStripMigration e s) := by
  dsimp only [execStripMigration]
  refine .ite (.ok h) ?_
  split
  · exact .ok h
  · exact .ite (.ok h.emptyEngine) (.ok ((h.put.put.emptyEngine.passSlots.putB.putB.bumpEpoch.showSpares.forEach fun _ _ h =>
      h.setStripEngine.restartStrip).forEach fun _ _ h => h.setStripEngine.restartStrip))

protected theorem State.Canonical.execStripShed {e : Nat} (h : s.Canonical) : Out.Canonical (execStripShed e s) :=
  .ite (.ok h) (.ite (.ok h.emptyEngine) (.ok ((h.emptyEngine.passSlots.forEach fun _ _ h => h.setStrip).forEach fun _ _ h =>
    h.setStrip).modDp.put0.irq.put0))

protected theorem State.Canonical.shedStop (h : s.Canonical) : s.shedStop.Canonical :=
  ((h.takeSlots.takeSlots.forEach fun _ _ h => h.restartStrip).forEach fun _ _ h => h.restartStrip).modDp

protected theorem State.Canonical.execShedStop (h : s.Canonical) : Out.Canonical (execShedStop s) :=
  .ok (.ite h h.shedStop)

protected theorem State.Canonical.amSet {g own total len n : Nat} (h : s.Canonical) : (s.amSet g own total len n).Canonical :=
  h.stripEventIf.setStrip

protected theorem State.Canonical.amGroup {g : Nat} (h : s.Canonical) : (State.amGroup g s).Canonical :=
  .ite h (h.forEach fun _ _ h => h.amSet)

protected theorem State.Canonical.execAutomixUpdate (h : s.Canonical) : Out.Canonical (execAutomixUpdate s) :=
  .ite (.ok h) (.ok ((h.modDp.forRange fun _ _ h => h.amGroup).forEach fun _ _ h => h.seEvent))

protected theorem State.Canonical.amEqual (h : s.Canonical) : s.amEqual.Canonical :=
  h.forRange fun _ _ h => h.forEach fun _ _ h => h.setStrip

protected theorem State.Canonical.setNotch {q w : Nat} (h : s.Canonical) : (s.setNotch q w).Canonical :=
  .setWord (.setStrip (.ite h.modDp h))

protected theorem State.Canonical.lgDecide {q w : Nat} (h : s.Canonical) : (s.lgDecide q w).Canonical :=
  h.measured fun _ h => h.setNotch

protected theorem State.Canonical.lgCandidate {c : Nat × Nat} (h : s.Canonical) : (State.lgCandidate c s).Canonical := by
  dsimp only [State.lgCandidate]
  refine .ite h (.ite h.stripEvent ?_)
  split
  · exact .ite h.stripEventIf h.stripEventIf.lgDecide
  · exact .ite h.stripEventIf h.stripEventIf.stripEventIf.lgDecide

protected theorem State.Canonical.execLgFrameEnd {cands : List (Nat × Nat)} (h : s.Canonical) : Out.Canonical (execLgFrameEnd cands s) :=
  .ite (.ok h) (.ok (.forEach (.ite h.modDp (h.modDp.forEach fun _ _ h => h.lgCandidate)) fun _ _ h => h.seEvent))

protected theorem State.Canonical.execLgNotchRelax {n k : Nat} (h : s.Canonical) : Out.Canonical (execLgNotchRelax n k s) :=
  .ok (.ite h.lgDecide h)

protected theorem State.Canonical.lgEnforce {n : Nat} (h : s.Canonical) : (State.lgEnforce n s).Canonical :=
  .ite h (h.forRange fun _ _ h => .ite h.setNotch h)

/-! ## Plane -/

protected theorem State.Canonical.modeAnswer {p : Plane} {st : Nat} (h : s.Canonical) : (s.modeAnswer p st).Canonical :=
  .ite h.putP.putP.putP h.putP.putP.putP.irq

protected theorem State.Canonical.modeAnswerOf {p : Option Plane} {st : Nat} (h : s.Canonical) : (s.modeAnswerOf p st).Canonical := by
  dsimp only [State.modeAnswerOf]
  split
  · exact .ite h.modeAnswer (.ite h h.irq)
  · exact h

protected theorem State.Canonical.setTrans {t : Trans} {left : Nat} (h : s.Canonical) : (s.setTrans t left).Canonical :=
  h.modMode

protected theorem State.Canonical.transBegin {t : Trans} {left target : Nat} (h : s.Canonical) : (s.transBegin t left target).Canonical :=
  h.put0.put0.setTrans

protected theorem State.Canonical.transIdle (h : s.Canonical) : s.transIdle.Canonical :=
  h.put0.put0.setTrans

protected theorem State.Canonical.transDone (h : s.Canonical) : s.transDone.Canonical :=
  h.transIdle.count.irq.modeAnswerOf

protected theorem State.Canonical.preempt (h : s.Canonical) : s.preempt.Canonical := by
  dsimp only [State.preempt]
  split
  · exact h
  · exact h.modeAnswerOf.transIdle

protected theorem State.Canonical.prbsOff (h : s.Canonical) : s.prbsOff.Canonical :=
  h.forRange fun _ _ h => h.put.put.put

protected theorem State.Canonical.parkUnits (h : s.Canonical) : s.parkUnits.Canonical :=
  ((h.modPtp.modClk.forRange fun _ _ h => h.kzlEn).forRange fun _ _ h => .ite h.rxDrop h).forRange fun _ _ h => h.linkDown

protected theorem State.Canonical.stbyPins (h : s.Canonical) : s.stbyPins.Canonical :=
  .same h

protected theorem State.Canonical.setSync {v : Nat} (h : s.Canonical) : (s.setSync v).Canonical := by
  unfold State.setSync
  extract_lets s1 busy s2 now s3
  have h1 : s1.Canonical := .ite h.irq h
  exact .same (.put0 (.ite h1.progress h1.putB))

protected theorem State.Canonical.reseedDrop (h : s.Canonical) : s.reseedDrop.Canonical :=
  .same h

protected theorem State.Canonical.setMode {m : Nat} (h : s.Canonical) : (s.setMode m).Canonical := by
  unfold State.setMode
  extract_lets was s1 s2 s3 s4 s5
  have h1 : s2.Canonical := .ite h.put0.put0.put0.prbsOff h.put0.put0.put0
  have h2 : s3.Canonical := .ite h1.parkUnits h1
  have h3 : s4.Canonical := .ite h2.helStart h2
  exact .sendStatus (.cascShow (.showScn (.streamsMode (.stbyPins (.ite h3.reseedDrop.setSync h3)))))

protected theorem State.Canonical.rederive (h : s.Canonical) : s.rederive.Canonical :=
  h.modScn.forRange fun _ _ h => .ite h.put.showSlot h

protected theorem State.Canonical.stripBuffers (h : s.Canonical) : s.stripBuffers.Canonical :=
  h.forRange fun _ _ h => .ite h.freeBufs h.freeBufs.allocBuf

protected theorem State.Canonical.freshFabric (h : s.Canonical) : s.freshFabric.Canonical :=
  h.modDp.forEach fun _ _ h => h.modDp

protected theorem State.Canonical.buildStrips (h : s.Canonical) : s.buildStrips.Canonical :=
  h.rebuildStrips.placeStrips.amEqual.stripBuffers.freshFabric.modDp.forRange fun _ _ h => h.putB

protected theorem State.Canonical.planeOn {m : Nat} {p : Option Plane} (h : s.Canonical) : (s.planeOn m p).Canonical := by
  unfold State.planeOn
  extract_lets runs s1 s2 s3 s4
  have h1 : s2.Canonical := .ite h.modMode.streamsMode h.modMode.setMode
  exact .setTrans (.showRate (.refreshPorts (.ite h1.buildStrips.modScn h1.buildStrips)))

protected theorem State.Canonical.execDataPlaneStart (h : s.Canonical) : Out.Canonical (execDataPlaneStart s) := by
  dsimp only [execDataPlaneStart]
  split
  · exact .ok h.planeOn
  · exact .ok h

protected theorem State.Canonical.rampIn (h : s.Canonical) : s.rampIn.Canonical := by
  dsimp only [State.rampIn]
  split
  · exact .ite h.setTrans h
  · exact .ite h.setTrans h
  · exact h

protected theorem State.Canonical.execRateRampIn (h : s.Canonical) : Out.Canonical (execRateRampIn s) :=
  .ok h.rampIn

protected theorem State.Canonical.rampDone (h : s.Canonical) : s.rampDone.Canonical := by
  dsimp only [State.rampDone]
  split
  · exact .ite h.transDone h
  · exact .ite h.transDone h
  · exact h

protected theorem State.Canonical.execRateChangeDone (h : s.Canonical) : Out.Canonical (execRateChangeDone s) :=
  .ok h.rampDone

protected theorem State.Canonical.laneRescale {old new m : Nat} (h : s.Canonical) : (State.laneRescale old new m s).Canonical :=
  .setLane (.ite h.laneTo h)

protected theorem State.Canonical.rateSwitch {r : Nat} {p : Option Plane} (h : s.Canonical) : (s.rateSwitch r p).Canonical :=
  (h.meterRateChange.modScn.leaveFlight.showScn.put0.irq.buildStrips.rederive.forEach fun _ _ h =>
    h.laneRescale).refreshPorts.modPorts.showRate.setTrans

protected theorem State.Canonical.execRateSwitch (h : s.Canonical) : Out.Canonical (execRateSwitch s) := by
  dsimp only [execRateSwitch]
  split
  · exact .ok h.rateSwitch
  · exact .ok h

protected theorem State.Canonical.sceneStop (h : s.Canonical) : s.sceneStop.Canonical := by
  unfold State.sceneStop
  extract_lets s1 s2 s3
  have h1 : s1.Canonical := h.forRange fun _ _ h => .ite h.endSlot.loadCut h
  exact .showScn (.ephDrop (.modScn (.ite h1 h1.modScn.freeBufs)))

protected theorem State.Canonical.dataStop (h : s.Canonical) : s.dataStop.Canonical :=
  .showBudget (.portsStop (.modMode (.modDp (.forRange (.forEach (.ite h h.shedStop) fun _ _ h => .ite h h.laneTo) fun _ _ h =>
    h.freeBufs.putB))))

protected theorem State.Canonical.dropRole (h : s.Canonical) : s.dropRole.Canonical :=
  .ite h (.same h.put0.irq.bumpEpoch)

protected theorem State.Canonical.planeStop (h : s.Canonical) : s.planeStop.Canonical :=
  h.sceneStop.dataStop.dropRole.streamsMode

protected theorem State.Canonical.startBegin {p : Option Plane} {full : Bool} (h : s.Canonical) : (s.startBegin p full).Canonical :=
  h.put0.put0.put0.progress.transBegin.modMode

protected theorem State.Canonical.enterStart {p : Option Plane} (h : s.Canonical) : (s.enterStart p).Canonical :=
  .startBegin (.ite h h.setMode)

protected theorem State.Canonical.shutdownEnd {failMap : Nat} {rows : List (Nat × Nat)} {memFail : Bool} (h : s.Canonical) :
    (s.shutdownEnd failMap rows memFail).Canonical := by
  dsimp only [State.shutdownEnd]
  split
  · exact .ite h h.keyClear.bistFail.healthWrite.progress.setMode.domainsOff.progress.transDone
  · exact h

protected theorem State.Canonical.stopNow (h : s.Canonical) : s.stopNow.Canonical := by
  dsimp only [State.stopNow]
  split
  · exact .ite h (.ite h.planeStop.progress.enterStart h.planeStop.progress.setTrans)
  · exact .ite h h.planeStop.setMode.domainsOff.transDone
  · exact h

protected theorem State.Canonical.execDataPlaneStop {failMap : Nat} {rows : List (Nat × Nat)} {memFail : Bool} (h : s.Canonical) :
    Out.Canonical (execDataPlaneStop failMap rows memFail s) :=
  .ok h.stopNow.shutdownEnd

protected theorem State.Canonical.holdDone (h : s.Canonical) : s.holdDone.Canonical := by
  dsimp only [State.holdDone]
  split
  · exact .ite h.transDone h
  · exact h

protected theorem State.Canonical.execHoldRampEnd (h : s.Canonical) : Out.Canonical (execHoldRampEnd s) :=
  .ok h.holdDone

protected theorem State.Canonical.tickTrans (h : s.Canonical) : s.tickTrans.Canonical := by
  dsimp only [State.tickTrans]
  split
  · exact .ite h (.ite h.enterStart (.ite h.setMode.transDone (.ite h.modMode.setMode.setSync h.modMode)))
  · exact h.modMode
  · exact .ite h h.modMode
  · exact .ite h h.modMode.modMode
  · exact .ite (.ite h.modMode.progress h.modMode) (.modMode (.ite h.modMode.progress h.modMode))
  · exact .modMode (.ite h.setMode.setTrans h)
  · exact .ite h.setTrans h.modMode.modMode
  · exact h.modMode
  · exact .ite h h.modMode.modMode
  · exact h

protected theorem State.Canonical.transOverdue (h : s.Canonical) : s.transOverdue.Canonical := by
  unfold State.transOverdue
  extract_lets s1 s2
  have h1 : s2.Canonical := by
    unfold s2
    split
    · exact h.rampDone.holdDone.rampIn.stopNow.planeOn
    · exact h.rampDone.holdDone.rampIn.stopNow
  split
  · exact h1.rateSwitch
  · exact h1

/-! ## Power -/

protected theorem State.Canonical.openBytes {n : Nat} (h : s.Canonical) : (s.openBytes n).2.Canonical :=
  .same h

protected theorem State.Canonical.flashOpen {off n : Nat} (h : s.Canonical) : (s.flashOpen off n).Canonical :=
  h.openBytes.flashErase.flashProgram

protected theorem State.Canonical.flashCut (h : s.Canonical) : s.flashCut.Canonical := by
  dsimp only [State.flashCut]
  refine .keepMgmt ?_
  split
  · exact h.flashOpen
  · exact h.flashOpen
  · exact h

protected theorem State.Canonical.flashAbandon (h : s.Canonical) : s.flashAbandon.Canonical := by
  dsimp only [State.flashAbandon]
  split
  · exact h
  · exact h.flashCut.progressStop.put0.put0.irq
  · exact h.flashCut.put0.put0.irq

protected theorem State.Canonical.fuseDone {l : List (Nat × Nat × Nat)} (h : s.Canonical) : (s.fuseDone l).Canonical :=
  h.keepMgmt

protected theorem State.Canonical.fuseEnd {done spent status : Nat} (h : s.Canonical) : (s.fuseEnd done spent status).Canonical := by
  dsimp only [State.fuseEnd]
  split
  · exact h
  · exact h.fuseDone.keepMgmt.put0.progress.showRepairs.put0.put0.put0.irq

protected theorem State.Canonical.fuseStop (h : s.Canonical) : s.fuseStop.Canonical := by
  dsimp only [State.fuseStop]
  split
  · exact h
  · exact h.draw.fuseEnd

protected theorem State.Canonical.fanDuty {f : Nat} (h : s.Canonical) : (State.fanDuty f s).Canonical :=
  .put (.ite (.ite h.put h.put.setBitOf.irq) h.put)

protected theorem State.Canonical.fans (h : s.Canonical) : s.fans.Canonical :=
  h.fanDuty.fanDuty

protected theorem State.Canonical.execFanFail {f rpm : Nat} (h : s.Canonical) : Out.Canonical (execFanFail f rpm s) :=
  .ite (.ok h) (.ok h.put.put.irq.raise.fans)

protected theorem State.Canonical.execFanRecover {f rpm : Nat} (h : s.Canonical) : Out.Canonical (execFanRecover f rpm s) :=
  .ite (.ok h) (.ok h.put.put.fans)

protected theorem State.Canonical.sensor {t : List ℤ} {i : Nat} (h : s.Canonical) : (State.sensor t i s).Canonical :=
  .ite h.put.modPwr.put.irq.modPwr.raise h.put.modPwr

protected theorem State.Canonical.dwell {tj : ℤ} {k : Nat} (h : s.Canonical) : (State.dwell tj k s).Canonical :=
  h.modPwr

protected theorem State.Canonical.execSensorRead {t : List ℤ} (h : s.Canonical) : Out.Canonical (execSensorRead t s) := by
  unfold execSensorRead
  extract_lets s1 s2 s3 live tj s4 s5 s6 s7 s8
  have h1 : s5.Canonical := .ite (h.advanceTo.modPwr.forRange fun _ _ h => h.sensor).put0.put0
    (h.advanceTo.modPwr.forRange fun _ _ h => h.sensor).put0
  exact .ok (.fans (.ite (.ite (h1.forRange fun _ _ h => h.dwell).modPwr.modPwr.count (h1.forRange fun _ _ h => h.dwell).modPwr.modPwr)
    (h1.forRange fun _ _ h => h.dwell).modPwr))

protected theorem State.Canonical.heatPark (h : s.Canonical) : s.heatPark.Canonical := by
  dsimp only [State.heatPark]
  refine .ite h.flashAbandon.fuseStop ?_
  refine .ite ?_ ?_
  · refine .transBegin (.irq ?_)
    split
    · exact h.flashAbandon.fuseStop
    · exact h.flashAbandon.fuseStop.modeAnswerOf.transIdle
  · refine .transDone (.domainsOff (.setMode (.setTrans (.transBegin (.irq ?_)))))
    split
    · exact h.flashAbandon.fuseStop
    · exact h.flashAbandon.fuseStop.modeAnswerOf.transIdle

protected theorem State.Canonical.execThermalStateChange (h : s.Canonical) : Out.Canonical (execThermalStateChange s) :=
  .ite (.ok h) (.ok (.ite (.heatPark (.fans (.putB (.showPasses
    (.ite h.put0.irq.modPwr.put0 (.ite h.put0.irq.modPwr.put0 (.ite h.put0.irq.modPwr.put0 h.put0.irq.modPwr)))))))
      (.fans (.putB (.showPasses (.ite h.put0.irq.modPwr.put0
        (.ite h.put0.irq.modPwr.put0 (.ite h.put0.irq.modPwr.put0 h.put0.irq.modPwr))))))))

protected theorem State.Canonical.rail {mv : List Nat} {r : Nat} (h : s.Canonical) : (State.rail mv r s).Canonical :=
  .ite h.put (.ite (.modPwr (.count (.irq (.setBitOf (.setBitOf (.modPwr (.ite h.put.setBitOf.irq h.put)))))))
    (.ite (.put0 (.put0 (.setBitOf (.modPwr (.ite h.put.setBitOf.irq h.put))))) (.modPwr (.ite h.put.setBitOf.irq h.put))))

protected theorem State.Canonical.holdTick {mv : List Nat} (h : s.Canonical) : (State.holdTick mv s).Canonical :=
  .ite h h.modPwr.put0

protected theorem State.Canonical.execSupplySample {mv : List Nat} (h : s.Canonical) : Out.Canonical (execSupplySample mv s) :=
  .ok (.showScn (.showPasses (.putB (.ite (h.advanceTo.modPwr.forRange fun _ _ h => h.rail).holdTick.fuseStop
    (h.advanceTo.modPwr.forRange fun _ _ h => h.rail).holdTick))))

protected theorem State.Canonical.execSupplyHoldEnd (h : s.Canonical) : Out.Canonical (execSupplyHoldEnd s) := by
  dsimp only [execSupplyHoldEnd]
  split
  · exact .ite (.ok h) (.ok h.advanceTo.modPwr.put0.showScn)
  · exact .ok h

protected theorem State.Canonical.coreLimits {code : Nat} (h : s.Canonical) : (s.coreLimits code).Canonical :=
  h.put.put.put

protected theorem State.Canonical.dvfsEnd {st : Nat} (h : s.Canonical) : (s.dvfsEnd st).Canonical :=
  h.coreLimits.modPwr.put0.put0.irq

protected theorem State.Canonical.execDvfsReq {p : Plane} {v : Word} (h : s.Canonical) : Out.Canonical (execDvfsReq p v s) := by
  dsimp only [execDvfsReq]
  refine .ite (.ok h) ?_
  split
  · exact .ite (.ok h.dvfsEnd) (.ite (.ok h.put0.coreLimits.put0.modPwr) (.ok h.put0.coreLimits.modPwr))
  · exact .ok h.put0.irq

protected theorem State.Canonical.execDvfsDividerChange (h : s.Canonical) : Out.Canonical (execDvfsDividerChange s) := by
  dsimp only [execDvfsDividerChange]
  split
  · exact .ite (.ok h) (.ite (.ok h.put0.modClk.showBudget.dvfsEnd) (.ok h.put0.modClk.showBudget.put0.modPwr))
  · exact .ok h

protected theorem State.Canonical.execDvfsRailConfirm (h : s.Canonical) : Out.Canonical (execDvfsRailConfirm s) := by
  dsimp only [execDvfsRailConfirm]
  split
  · exact .ite (.ok h.modPwr) (.ok h.dvfsEnd)
  · exact .ok h

protected theorem State.Canonical.execDvfsVoltTimeout (h : s.Canonical) : Out.Canonical (execDvfsVoltTimeout s) := by
  dsimp only [execDvfsVoltTimeout]
  split
  · exact .ok h.put0.raise.dvfsEnd
  · exact .ok h

protected theorem State.Canonical.laneDark {l : Nat} (h : s.Canonical) : (State.laneDark l s).Canonical :=
  h.put.put.put.put.put.put.setBitOf

protected theorem State.Canonical.execDomainIdleOff {d : Nat} (h : s.Canonical) : Out.Canonical (execDomainIdleOff d s) :=
  .ite (.ok h) (.ite (.ok h.setDom.linkDown.linkDown.laneDark.laneDark)
    (.ite (.ok (h.setDom.forRange fun _ _ h => h.laneDark)) (.ok h.setDom)))

protected theorem State.Canonical.execDomainWake {d : Nat} (h : s.Canonical) : Out.Canonical (execDomainWake d s) :=
  .ite (.ok h) (.ok h.wakeStart)

/-! ## Prov -/

protected theorem State.Canonical.setKeyCtr {k v : Nat} (h : s.Canonical) : (s.setKeyCtr k v).Canonical :=
  .ite h.put0.put0 h.put0.put0

protected theorem State.Canonical.execKeyData {p : Plane} {v : Word} (h : s.Canonical) : Out.Canonical (execKeyData p v s) :=
  .ite (.ok h) (.ok h.keepMgmt)

protected theorem State.Canonical.execKeyCheck {p : Plane} (h : s.Canonical) : Out.Canonical (execKeyCheck p s) :=
  .ite (.ok h) (.ok (.ite h.keepMgmt.putB.put0.put0.setKeyCtr h.keepMgmt.putB.put0.put0))

protected theorem State.Canonical.execKeyDone {p : Plane} (h : s.Canonical) : Out.Canonical (execKeyDone p s) :=
  .ok (.ite h.put0 h)

protected theorem State.Canonical.execKeyWrap {p : Plane} {v : Word} (h : s.Canonical) : Out.Canonical (execKeyWrap p v s) :=
  .ite (.ok h) (.ok ((h.forRange fun _ _ h => h.put).forRange fun _ _ h => h.put))

protected theorem State.Canonical.execScanChainEnable (h : s.Canonical) : Out.Canonical (execScanChainEnable s) :=
  .ok h.keyClear

protected theorem State.Canonical.fltSource {ws : List Nat} {src : Nat} (h : s.Canonical) : (State.fltSource ws src s).Canonical := by
  dsimp only [State.fltSource]
  refine .ite (.ite h h.put0) ?_
  split
  · exact .put0 (.ite h.setWord h.setWord.put.modFlt)
  · exact .ite (.put0 (.ite h.setWord h.setWord.put.modFlt)) (.ite h.setWord h.setWord.put.modFlt)

protected theorem State.Canonical.fltLoad {body : Option (List Nat)} (h : s.Canonical) : (s.fltLoad body).Canonical := by
  dsimp only [State.fltLoad]
  split
  · exact h.put0.forRange fun _ _ h => h.fltSource
  · exact (h.put0.forRange fun _ _ h => h.fltSource).put0

protected theorem State.Canonical.fanLoad {body : Option (List Nat)} (h : s.Canonical) : (s.fanLoad body).Canonical := by
  refine .fans (h.keepMgmt fun _ => ?_)
  split <;> rfl

protected theorem State.Canonical.shedLoad {body : Option (List Nat)} (h : s.Canonical) : (s.shedLoad body).Canonical :=
  h.keepMgmt

protected theorem State.Canonical.keysLoad {body : Option (List Nat)} (h : s.Canonical) : (s.keysLoad body).Canonical :=
  h.keepMgmt.putB.putB.putB.put0.forRange fun _ _ h => h.put

protected theorem State.Canonical.keyCtrLoad {body : Option (List Nat)} (h : s.Canonical) : (s.keyCtrLoad body).Canonical :=
  h.keepMgmt.setKeyCtr.setKeyCtr

protected theorem State.Canonical.arbLoad {body : Option (List Nat)} (h : s.Canonical) : (s.arbLoad body).Canonical :=
  (h.put0.forRange fun _ _ h => h.setWord.setWord).forRange fun _ _ h => h.setWord.put.put

protected theorem State.Canonical.helRecord {body : Option (List Nat)} {commit : Bool} (h : s.Canonical) :
    (s.helRecord body commit).Canonical := by
  dsimp only [State.helRecord]
  split <;> exact h.helLoad

protected theorem State.Canonical.provApply {rs : List ProvRec} {start fromReset : Bool} (h : s.Canonical) :
    (s.provApply rs start fromReset).Canonical := by
  unfold State.provApply
  extract_lets body s1 lat s2 s3 s4
  have h3 : s3.Canonical := .ite h.count.setWord.setWord.keepMgmt h.count
  exact .keyCtrLoad (.keysLoad (.fltLoad (.shedLoad (.fanLoad (.helRecord (.ite h3.arbLoad h3))))))

protected theorem State.Canonical.provLoad (h : s.Canonical) : s.provLoad.Canonical := by
  dsimp only [State.provLoad]
  split
  · exact h.put0.put0.put0.provApply
  · exact h.put0.put0.put0.provApply.raise

protected theorem State.Canonical.provEnd {commit : Bool} {st : Nat} (h : s.Canonical) : (s.provEnd commit st).Canonical :=
  h.put0.put0.irq

protected theorem State.Canonical.execProvCommit {p : Plane} (h : s.Canonical) : Out.Canonical (execProvCommit p s) :=
  .ite (.ok h) (.ite (.ok h.put0.provEnd) (.ok h.put0.flashErase.progress.keepMgmt))

protected theorem State.Canonical.execProvCommitEnd {good : Bool} (h : s.Canonical) : Out.Canonical (execProvCommitEnd good s) := by
  dsimp only [execProvCommitEnd]
  split
  · refine .ite (.ok h.keepMgmt.flashOpen.progressStop.provEnd) ?_
    split
    · exact .ok h.keepMgmt.flashProgram.progress.put0.put0.put0.provApply.provEnd
    · exact .ok h.keepMgmt.flashProgram.progress.provEnd
  · exact .ok h

protected theorem State.Canonical.window {p : Plane} {refuse : Nat} {op : FlashOp} (h : s.Canonical) : (s.window p refuse op).Canonical :=
  .ite h (.ite h.put0.provEnd h.put0.keepMgmt)

protected theorem State.Canonical.execFlashErase {p : Plane} (h : s.Canonical) : Out.Canonical (execFlashErase p s) :=
  .ok h.window

protected theorem State.Canonical.execFlashProgram {p : Plane} (h : s.Canonical) : Out.Canonical (execFlashProgram p s) := by
  dsimp only [execFlashProgram]
  split <;> exact .ok h.window

protected theorem State.Canonical.execFlashRead {p : Plane} (h : s.Canonical) : Out.Canonical (execFlashRead p s) := by
  dsimp only [execFlashRead]
  split <;> exact .ok h.window

protected theorem State.Canonical.execFlashCommandEnd {good : Bool} (h : s.Canonical) : Out.Canonical (execFlashCommandEnd good s) := by
  unfold execFlashCommandEnd
  extract_lets op t t2
  clear_value op
  have h1 : t.Canonical := .ite h h.flashCut
  split
  · exact .ok (.provEnd (.ite h1.keepMgmt.flashErase h1.keepMgmt))
  · exact .ok (.provEnd (.ite h1.keepMgmt.flashProgram h1.keepMgmt))
  · exact .ok (.provEnd (.ite h1.keepMgmt.sramWrite h1.keepMgmt))
  · exact .ok h

/-! ## Sample -/

protected theorem State.Canonical.placeRef (h : s.Canonical) : s.placeRef.Canonical :=
  h.draw.modClk.advanceTo.modPtp

protected theorem State.Canonical.quietStrip {out : Bool} {n : Nat} (h : s.Canonical) : (State.quietStrip out n s).Canonical :=
  h.setStrip

protected theorem State.Canonical.loadedStrip {out : Bool} {n : Nat} {res dout : Word} {send : Nat} (h : s.Canonical) :
    (State.loadedStrip out n res dout send s).Canonical :=
  .setStrip (.same h)

protected theorem State.Canonical.runStrip {w : SampleIn} {out : Bool} {n : Nat} (h : s.Canonical) :
    (State.runStrip w out n s).Canonical := by
  dsimp only [State.runStrip]
  refine .ite h (.ite h.quietStrip (.ite (.missStrip (.ite h h.setStrip)) ?_))
  split
  · exact .loadedStrip (.ite h h.setStrip)
  · exact .ite (.runOut (.ite h h.setStrip)) (.runIn (.ite h h.setStrip))

protected theorem State.Canonical.fabricWork {unwritten : List Nat} (h : s.Canonical) : (s.fabricWork unwritten).Canonical :=
  .ite (h.forEach fun _ _ h => h.pushHist).modDp (.ite h.runFabric h.runFabric.irq.raise)

protected theorem State.Canonical.pushResults {ins : List Nat} (h : s.Canonical) : (s.pushResults ins).Canonical :=
  (h.forEach fun _ _ h => h.pushHist).forRange fun _ _ h => .ite h.pushHist h

protected theorem State.Canonical.lanesWork (h : s.Canonical) : s.lanesWork.Canonical :=
  .ite (h.forEach fun _ _ h => h.setLane) (h.forEach fun _ _ h => h.runLane)

protected theorem State.Canonical.muteShedding (h : s.Canonical) : s.muteShedding.Canonical :=
  h.forEach fun _ _ h => h.setStrip

protected theorem State.Canonical.vendorCycles {w : SampleIn} (h : s.Canonical) : (s.vendorCycles w).Canonical :=
  h.forRange fun _ _ h => .ite h h.put.keepMax

protected theorem State.Canonical.periodWork {w : SampleIn} (h : s.Canonical) : (s.periodWork w).Canonical :=
  .same (((h.vendorCycles.muteShedding.bcCollect.bcCollect.forEach fun _ _ h => h.runStrip).fabricWork.sendCasc.modDp.forEach fun _ _ h =>
    h.runStrip).pushResults.lanesWork.forEach fun _ _ h => h.feedStrip)

protected theorem State.Canonical.netEgress {d : Nat} {x : Word} (h : s.Canonical) : (s.netEgress d x).Canonical :=
  h.modDp

protected theorem State.Canonical.egrDeliver {d : Nat} {x : Word} (h : s.Canonical) : (s.egrDeliver d x).Canonical :=
  .ite h.netEgress (.ite h.netEgress.modDp h.pushEgress)

protected theorem State.Canonical.egrSilent {on : Bool} {d : Nat} (h : s.Canonical) : (s.egrSilent on d).Canonical :=
  .egrDeliver (.ite h.setMapBit.irq h)

protected theorem State.Canonical.egrDecimate {by2 d : Nat} (h : s.Canonical) : (s.egrDecimate by2 d).Canonical :=
  .ite h.modDp.egrDeliver h.modDp

protected theorem State.Canonical.handOne {on : List Nat} {d : Nat} (h : s.Canonical) : (State.handOne on d s).Canonical := by
  dsimp only [State.handOne]
  split
  · exact h.egrDeliver
  · exact h.egrDecimate
  · exact h.egrDecimate
  · exact h.egrSilent

protected theorem State.Canonical.crcWords {ds : List Nat} (h : s.Canonical) : (s.crcWords ds).Canonical :=
  .same h

protected theorem State.Canonical.insertSends (h : s.Canonical) : s.insertSends.Canonical :=
  h.forEach fun _ _ h => .ite h.modDp h

protected theorem State.Canonical.handOff {t : Nat} (h : s.Canonical) : (s.handOff t).Canonical :=
  (h.modDp.forEach fun _ _ h => h.handOne).insertSends.txGatherAll.modDp.crcWords.put0.put0

protected theorem State.Canonical.windowTick (h : s.Canonical) : s.windowTick.Canonical :=
  .ite h (.same h)

protected theorem State.Canonical.applyMeas {m : Meas} (h : s.Canonical) : (State.applyMeas m s).Canonical :=
  .ite (.ite h.laneRatio h) (.ite (.ite h.laneSt h) (.ite (.same h)
    (.ite (.same h) (.ite (.ite h.rxMediaBit h) (.ite (.ite h.setNotch h) h)))))

protected theorem State.Canonical.takeMeas (h : s.Canonical) : s.takeMeas.Canonical :=
  .forEach (.same h) fun _ _ h => h.applyMeas

protected theorem State.Canonical.decideClasses (h : s.Canonical) : s.decideClasses.Canonical := by
  dsimp only [State.decideClasses]
  refine .ite (h.forEach fun _ _ h => ?_) (.ite h (.same h))
  split
  · exact .sendRecord (.same h)
  · exact .ite h (h.measured fun _ h => h)

protected theorem State.Canonical.takeMode (h : s.Canonical) : s.takeMode.Canonical := by
  dsimp only [State.takeMode]
  split
  · exact h
  · exact .ite h (.ite (.transBegin (.same h)) (.same h))

protected theorem State.Canonical.followHold (h : s.Canonical) : s.followHold.Canonical :=
  .ite h h.modMode

protected theorem State.Canonical.takeTime (h : s.Canonical) : s.takeTime.Canonical := by
  dsimp only [State.takeTime]
  split
  · exact h
  · exact .ite h (.ite (.ite (.same h) (.stepBy (.same h))) (.modPtp (.same h)))

protected theorem State.Canonical.mirrorTick (h : s.Canonical) : s.mirrorTick.Canonical :=
  h.takeMeas.takeMode.followHold.takeTime.decideClasses

protected theorem State.Canonical.openWords {n : Nat} (h : s.Canonical) : (s.openWords n).2.Canonical :=
  .same h

protected theorem State.Canonical.seedStrip {k : Nat} (h : s.Canonical) : (State.seedStrip k s).Canonical :=
  h.forRange fun _ _ h => h.openWords.sendRecord

protected theorem State.Canonical.wantCores {cs : List Nat} (h : s.Canonical) : (s.wantCores cs).Canonical :=
  .forEach (.same h) fun _ _ h => h.snapCore

protected theorem State.Canonical.seedTick (h : s.Canonical) : s.seedTick.Canonical :=
  .ite (.ite h (.same h)) (.ite (.wantCores (.same h)) (.wantCores (.same (h.forRange fun _ _ h => h.seedStrip))))

protected theorem State.Canonical.reseedFull {c : Nat} (h : s.Canonical) : (State.reseedFull c s).Canonical :=
  .ite h (.ite h.setBc.setSync h.setBc)

protected theorem State.Canonical.firePassed (h : s.Canonical) : s.firePassed.Canonical := by
  dsimp only [State.firePassed]
  refine h.forEach fun _ _ h => ?_
  split
  · exact h.fireCommit
  · exact h.fireCueOut
  · exact h

protected theorem State.Canonical.reschedule (h : s.Canonical) : s.reschedule.Canonical :=
  .ite h (.ite (.ite h.modFlt h.modFlt.put0.fitBudget) (.giveUpFor (.ite h.modFlt h.modFlt.put0.fitBudget)))

protected theorem State.Canonical.boundaryCounts (h : s.Canonical) : s.boundaryCounts.Canonical :=
  h.modDp.showMembers.put0.showBudget

protected theorem State.Canonical.commitTick (h : s.Canonical) : s.commitTick.Canonical :=
  .ite (.same h.leaveFlight.firePassed.meridian.moveEffects) h.leaveFlight.firePassed.meridian.moveEffects

protected theorem State.Canonical.boundaryAt {edge : Nat} {ran : Bool} (h : s.Canonical) : (s.boundaryAt edge ran).Canonical := by
  unfold State.boundaryAt
  extract_lets t s1 s2 s3 s4 s5 s6 s7 s8 s9
  have h1 : s2.Canonical := .ite h.tickTrans.expressDue.windowTick.handOff.meterPeriod.eyePeriod h.tickTrans.expressDue.windowTick
  have h2 : s6.Canonical := .ite ((h1.commitTick.mirrorTick.latchAll.rxLatchAll.forRange fun _ _ h => h.rampLandings).forRange fun _ _ h
    => h.seBoundary) (h1.commitTick.mirrorTick.latchAll.rxLatchAll.forRange fun _ _ h => h.rampLandings)
  have h3 : s7.Canonical := .ite h2.bcSend.bcSend.reseedFull.reseedFull h2
  exact .sendStatus (.seedTick (.boundaryCounts (.reschedule (.ite (h3.meterEnable.expSilence.forEach fun _ _ h => h.lgEnforce)
    h3.meterEnable.expSilence))))

protected theorem State.Canonical.execSampleBoundary {w : SampleIn} (h : s.Canonical) : Out.Canonical (execSampleBoundary w s) :=
  .ite (.ok h) (.ite (.ok h.placeRef.boundaryAt) (.ok (.boundaryAt
    (.modClk (.advanceTo (.ite (.periodWork (.ite h.transOverdue.meterOverdue.shedStop h.transOverdue.meterOverdue))
      (.ite h.transOverdue.meterOverdue.shedStop h.transOverdue.meterOverdue)))))))

protected theorem State.Canonical.execSampleLanding {src : Nat} {x : Word} (h : s.Canonical) :
    Out.Canonical (execSampleLanding src x s) := by
  dsimp only [execSampleLanding]
  refine .ite ?_ ?_
  · split
    · exact .ok h.rxLandAsync
    · exact .ok h
  · split
    · exact .ok (.ite h.land h)
    · exact .ok h

protected theorem State.Canonical.progProgress {busy : Bool} {pos total : Nat} (h : s.Canonical) :
    (s.progProgress busy pos total).Canonical :=
  h.forRange fun _ _ h => h.progress

protected theorem State.Canonical.progRefuse {q st info : Nat} (h : s.Canonical) : (s.progRefuse q st info).Canonical :=
  (h.forRange fun _ _ h => h.progressStop).ringEnd

protected theorem State.Canonical.execLoadStripProgram {q : Nat} {image : Option (List Byte)} (h : s.Canonical) :
    Out.Canonical (execLoadStripProgram q image s) := by
  unfold execLoadStripProgram
  -- a variable in the place of the check keeps the kernel from running the CRC when it reduces the match
  obtain ⟨check, hc⟩ : ∃ f, f = progStatus := ⟨_, rfl⟩
  rw [← hc]
  split
  · exact .ok h
  · refine .ite (.ok h) (.ite (.ok h.ringEnd) ?_)
    split
    · exact .ok h.ringEnd
    · split
      exact .ite (.ok h.progProgress.progRefuse) (.ok (.same h.progProgress.ringBegan))

protected theorem State.Canonical.execProgWriteStart (h : s.Canonical) : Out.Canonical (execProgWriteStart s) := by
  dsimp only [execProgWriteStart]
  split
  · exact .ok h
  · exact .ite (.ok h) (.ok (.same (.forRange (.ite h.rebuildStrips.amEqual h) fun _ _ h => .ite h h.setEng)))

protected theorem State.Canonical.execProgWriteEnd (h : s.Canonical) : Out.Canonical (execProgWriteEnd s) := by
  dsimp only [execProgWriteEnd]
  split
  · exact .ok h
  · exact .ite (.ok h) (.ok (.ringEnd (.progProgress (.same (h.advanceTo.forRange fun _ _ h => .ite h h.setEng.put.putB.bumpEpoch)))))

/-! ## Standby -/

protected theorem State.Canonical.modStby {f : Stby → Stby} (h : s.Canonical) : (s.modStby f).Canonical :=
  .same h

protected theorem State.Canonical.interlock {f : Fld} (h : s.Canonical) : (s.interlock f).Canonical :=
  h.stbyFault.raise

protected theorem State.Canonical.claimShow {p : Option Plane} (h : s.Canonical) : (s.claimShow p).Canonical := by
  unfold State.claimShow
  extract_lets s1
  have h1 : s1.Canonical := .ite h.irq h
  refine .ite h1.transBegin.sendStatus (.ite h1.setMode.preempt.transBegin ?_)
  split
  · exact .ite (.transDone (.transBegin (.ite h1.setMode.preempt h1.setMode))) (.transBegin (.ite h1.setMode.preempt h1.setMode))
  · exact .modeAnswerOf (.put0 (.ite h1.setMode.preempt h1.setMode))

protected theorem State.Canonical.claim {p : Option Plane} {low : Bool} (h : s.Canonical) : (s.claim p low).Canonical :=
  .ite h.modStby.advanceTo.stbyFault.modeAnswerOf (.claimShow
    (.stbyPins (.ite h.modStby.advanceTo.modStby.put0.put0.put0.put0.put0.count.irq.bumpEpoch.stbyFault
      h.modStby.advanceTo.modStby.put0.put0.put0.put0.put0.count.irq.bumpEpoch)))

protected theorem State.Canonical.execActiveNConfirm {level low : Bool} (h : s.Canonical) :
    Out.Canonical (execActiveNConfirm level low s) :=
  .ite (.ok h.putB.modStby) (.ite (.ok h.putB.modStby.claim) (.ok h.putB.modStby.modStby))

protected theorem State.Canonical.execReleaseDecisionTimeout {low : Bool} (h : s.Canonical) :
    Out.Canonical (execReleaseDecisionTimeout low s) := by
  dsimp only [execReleaseDecisionTimeout]
  split
  · exact .ok h
  · exact .ite (.ok h.advanceTo.modStby) (.ite (.ok h.advanceTo.modStby.interlock) (.ok h.advanceTo.modStby.claim))

protected theorem State.Canonical.execReadbackFault (h : s.Canonical) : Out.Canonical (execReadbackFault s) :=
  .ok (.ite h.interlock h)

protected theorem State.Canonical.execStuckLow (h : s.Canonical) : Out.Canonical (execStuckLow s) := by
  dsimp only [execStuckLow]
  split
  · exact .ok h
  · exact .ite (.ok h) (.ok h.advanceTo.modStby.interlock)

protected theorem State.Canonical.linkGone {low : Bool} (h : s.Canonical) : (s.linkGone low).Canonical :=
  .ite h.claim h

protected theorem State.Canonical.execHbToggle (h : s.Canonical) : Out.Canonical (execHbToggle s) :=
  .ite (.ok h) (.ok h.modStby)

protected theorem State.Canonical.execHbInEdge (h : s.Canonical) : Out.Canonical (execHbInEdge s) :=
  .ite (.ok h) (.ok (.ite h.modStby.put0 h.modStby))

protected theorem State.Canonical.execHbLost (h : s.Canonical) : Out.Canonical (execHbLost s) :=
  .ite (.ok h) (.ite (.ok h.advanceTo.put0.modStby.stbyFault.irq.modStby.interlock) (.ok h.advanceTo.put0.modStby.stbyFault.irq))

protected theorem State.Canonical.standDown {p : Option Plane} (h : s.Canonical) : (s.standDown p).Canonical := by
  unfold State.standDown
  extract_lets s1 s2 s3 s4
  have h1 : s1.Canonical := .ite h.irq h
  split
  · exact h1.put0.irq.bumpEpoch.modStby.setMode.setSync.transDone
  · exact h1.put0.irq.bumpEpoch.modStby.setMode.setSync.transBegin.transDone
  · exact h1.put0.irq.bumpEpoch.modStby.setMode.setSync.put0

protected theorem State.Canonical.showReseed (h : s.Canonical) : s.showReseed.Canonical :=
  h.progress

protected theorem State.Canonical.reseed (h : s.Canonical) : s.reseed.Canonical :=
  h.setSync.count.modStby.showReseed

protected theorem State.Canonical.reseeded (h : s.Canonical) : s.reseeded.Canonical :=
  .ite h.showReseed.setSync.progress h.showReseed

protected theorem State.Canonical.compareWindow {w own partner : Nat} (h : s.Canonical) : (s.compareWindow w own partner).Canonical :=
  .ite (.ite h.put0.put0.count.sendRecord.modStby.setSync.modStby h.put0.put0.count.sendRecord.modStby)
    h.put0.put0.count.sendRecord.count.irq.raise.reseed

protected theorem State.Canonical.tryCompare (h : s.Canonical) : s.tryCompare.Canonical := by
  dsimp only [State.tryCompare]
  split
  · exact h
  · split
    · exact h
    · exact .ite h.modStby.compareWindow h.modStby

protected theorem State.Canonical.execCheckWindowEnd (h : s.Canonical) : Out.Canonical (execCheckWindowEnd s) := by
  dsimp only [execCheckWindowEnd]
  split
  · exact .ok h
  · exact .ite (.ok h) (.ite (.ite (.ok h.put0) (.ok h.put0.modStby.sendRecord)) (.ok h.put0.tryCompare))

protected theorem State.Canonical.execConfirmTimeout (h : s.Canonical) : Out.Canonical (execConfirmTimeout s) :=
  .ite (.ok h) (.ok (.ite h.advanceTo.modStby.setSync h.advanceTo.modStby.reseed))

protected theorem State.Canonical.coreDone {c : Nat} (h : s.Canonical) : (s.coreDone c).Canonical :=
  h.modStby.reseeded

protected theorem State.Canonical.execBcCatchupDone {c : Nat} (h : s.Canonical) : Out.Canonical (execBcCatchupDone c s) :=
  .ite (.ok h) (.ok h.setBc.coreDone)

protected theorem State.Canonical.sendRegs (h : s.Canonical) : s.sendRegs.Canonical :=
  h.sendRecord.forRange fun _ _ h => .ite h (h.forRange fun _ _ h => .ite h.sendRecord h)

protected theorem State.Canonical.sendParams (h : s.Canonical) : s.sendParams.Canonical :=
  (h.forRange fun _ _ h => h.sendRecord).forEach fun _ _ h => h.sendRecord

protected theorem State.Canonical.sendMoves (h : s.Canonical) : s.sendMoves.Canonical :=
  ((h.forRange fun _ _ h => .ite (h.forEach fun _ _ h => h.mirrorMove).mirrorSlot h).forEach fun _ _ h => h.mirrorMove).forEach fun _ _ h
    => h.mirrorMove

protected theorem State.Canonical.mirrorMode {sample mode rate : Nat} (h : s.Canonical) : (s.mirrorMode sample mode rate).Canonical :=
  .ite h.sendRecord h

protected theorem State.Canonical.sendJoin (h : s.Canonical) : s.sendJoin.Canonical :=
  h.sendRegs.sendParams.sendMoves.mirrorMode.mirrorStep

protected theorem State.Canonical.execStatusRecord {_sample : Nat} {body : List Word} (h : s.Canonical) :
    Out.Canonical (execStatusRecord _sample body s) :=
  .ite (.ok h) (.ite (.ok h.putB.putB.modStby.stbyFault.standDown) (.ite (.ok h.putB.putB.modStby.sendJoin) (.ok h.putB.putB.modStby)))

protected theorem State.Canonical.rebuildRun {slot first : Nat} {m : SMove} (h : s.Canonical) : (s.rebuildRun slot first m).Canonical :=
  h.draw.draw.modScn

protected theorem State.Canonical.takeMove {lane : Nat} {m : SMove} (h : s.Canonical) : (s.takeMove lane m).Canonical :=
  .ite h.modScn (.showSlot (.setSlot (.put (.ite h h.setSlot.put))))

protected theorem State.Canonical.execMoveRecord {_sample : Nat} {body : List Word} (h : s.Canonical) :
    Out.Canonical (execMoveRecord _sample body s) :=
  .ite (.ok h) (.ite (.ok h.rebuildRun) (.ok (.ite h.takeMove.reportStaged h.takeMove)))

protected theorem State.Canonical.execSlotRecord {sample : Nat} {body : List Word} (h : s.Canonical) :
    Out.Canonical (execSlotRecord sample body s) :=
  .ite (.ok h) (.ite (.ok (.ite h.modStby h)) (.ite (.ok h) (.ite
    (.ite (.ok h) (.ok (.showScn (.ite h.settleSlot h.settleSlot.reportStaged))))
      (.ite (.ok (.ite h.endSlot h)) (.ite (.ite (.ok h.modScn) (.ok h.modScn.setSlot)) (.ok h))))))

protected theorem State.Canonical.execMeasRecord {sample : Nat} {body : List Word} (h : s.Canonical) :
    Out.Canonical (execMeasRecord sample body s) :=
  .ite (.ok h) (.ok h.modStby)

protected theorem State.Canonical.execCheckRecord {_sample : Nat} {body : List Word} (h : s.Canonical) :
    Out.Canonical (execCheckRecord _sample body s) :=
  .ite (.ok h.modStby.tryCompare) (.ite (.ok (.ite h.count h.count.count)) (.ok h))

protected theorem State.Canonical.execCascRecord {sample : Nat} {body : List Word} (h : s.Canonical) :
    Out.Canonical (execCascRecord sample body s) :=
  .ite (.ok h) (.ok h.cascTake)

protected theorem State.Canonical.execModeRecord {sample : Nat} {body : List Word} (h : s.Canonical) :
    Out.Canonical (execModeRecord sample body s) :=
  .ite (.ok h) (.ite (.ok (.modStby (.ite h h.meterRateChange.put0.refreshPorts))) (.ok h.modStby))

protected theorem State.Canonical.adoptCount (h : s.Canonical) : s.adoptCount.Canonical :=
  .ite h h.modClk.modScn.modDp.modStby.put

protected theorem State.Canonical.joined (h : s.Canonical) : s.joined.Canonical := by
  dsimp only [State.joined]
  split
  · exact .ite (h.forEach fun _ _ h => h.setWord).adoptCount.modStby.reseed.setTrans
      (h.forEach fun _ _ h => h.setWord).adoptCount.modStby.reseed
  · exact (h.forEach fun _ _ h => h.setWord).adoptCount.modStby.reseed

protected theorem State.Canonical.execTimeRecord {sample : Nat} {body : List Word} (h : s.Canonical) :
    Out.Canonical (execTimeRecord sample body s) :=
  .ite (.ok h) (.ok (.modStby (.ite h.joined h)))

protected theorem State.Canonical.joinRefused (h : s.Canonical) : s.joinRefused.Canonical := by
  dsimp only [State.joinRefused]
  split
  · exact .ite h.setMode.modeAnswerOf.transIdle.progressStop h.setSync
  · exact h.setSync

protected theorem State.Canonical.pageWord {at' a v : Nat} (h : s.Canonical) : (State.pageWord at' a v s).Canonical :=
  .ite h h.storeMove.moveEffects.modStby

protected theorem State.Canonical.execPageRecord {sample : Nat} {body : List Word} (h : s.Canonical) :
    Out.Canonical (execPageRecord sample body s) :=
  .ite (.ok h) (.ite (.ok (.ite h h.joinRefused)) (.ok (h.forEach fun _ _ h => h.pageWord)))

protected theorem State.Canonical.installStrip {out : Bool} {n : Nat} (h : s.Canonical) : (s.installStrip out n).Canonical :=
  h.setStrip

protected theorem State.Canonical.execSeedRecord {_sample : Nat} {body : List Word} (h : s.Canonical) :
    Out.Canonical (execSeedRecord _sample body s) :=
  .ite (.ok h) (.ite (.ok h.modStby) (.ok h.modStby.installStrip.modStby.reseeded))

protected theorem State.Canonical.seedBegin {c : Nat} (h : s.Canonical) : (s.seedBegin c).Canonical :=
  h.modStby.setBc

protected theorem State.Canonical.seedLoaded {c : Nat} (h : s.Canonical) : (s.seedLoaded c).Canonical :=
  .ite h.setBc.coreDone (.ite h.setBc.putB h.setBc.putB.bcReplay)

protected theorem State.Canonical.execBcseedRecord {_sample : Nat} {body : List Word} (h : s.Canonical) :
    Out.Canonical (execBcseedRecord _sample body s) :=
  .ite (.ok h) (.ite (.ok (.ite h.seedBegin h)) (.ok (.ite (.seedLoaded (.setBc (.ite h.seedBegin h))) (.setBc (.ite h.seedBegin h)))))

protected theorem State.Canonical.execGiveupRelease (h : s.Canonical) : Out.Canonical (execGiveupRelease s) := by
  dsimp only [execGiveupRelease]
  split
  · exact .ok h
  · exact .ite (.ok h) (.ok h.standDown.put0.modStby.sendStatus)

protected theorem State.Canonical.execGiveupReclaim {low : Bool} (h : s.Canonical) : Out.Canonical (execGiveupReclaim low s) := by
  dsimp only [execGiveupReclaim]
  split
  · exact .ok h
  · exact .ite (.ok h) (.ite (.ok h.advanceTo.modStby.claim.stbyFault.put0.irq) (.ok h.advanceTo.modStby.claim))

protected theorem State.Canonical.execStbyForce {p : Plane} {v : Word} {low : Bool} (h : s.Canonical) :
    Out.Canonical (execStbyForce p v low s) :=
  h.atPage fun _ h => .ite (.ok h) (.ite (.ok h.raise) (.ite (.ok h.putP.putP.putP.modeAnswer)
    (.ite (.ok h.putP.putP.putP.modeAnswer) (.ite (.ok h.putP.putP.putP.modeAnswer)
      (.ite (.ok h.putP.putP.putP.modeAnswer) (.ok h.putP.putP.putP.stbyFault.modStby.claim))))))

protected theorem State.Canonical.linkChanged {before : State} {low : Bool} (h : s.Canonical) : (s.linkChanged before low).Canonical :=
  .ite h.linkGone (.ite (.sendStatus (.ite h.modStby.setSync h.modStby)) h)

protected theorem State.Canonical.execKzlFrameRx {k : Nat} {frame : List DWord} (h : s.Canonical) :
    Out.Canonical (execKzlFrameRx k frame s) :=
  .ok (.ite h.kzlReceive.linkChanged h)

protected theorem State.Canonical.execKzlFrameTx {k : Nat} {low : Bool} (h : s.Canonical) : Out.Canonical (execKzlFrameTx k low s) :=
  .ok (.ite h.kzlSlot.linkChanged h)

protected theorem State.Canonical.execKzlLinkFail {k cause : Nat} {low : Bool} (h : s.Canonical) :
    Out.Canonical (execKzlLinkFail k cause low s) :=
  .ok (.ite h.kzlFail.linkChanged h)

protected theorem State.Canonical.execLaneCdrLost {l : Nat} {low : Bool} (h : s.Canonical) : Out.Canonical (execLaneCdrLost l low s) := by
  dsimp only [execLaneCdrLost]
  refine .ite (.ok h) (.ok (.linkChanged ?_))
  split
  · exact .ite h.laneDark.irq.kzlFail h.laneDark.irq
  · exact .ite h.laneDark.irq.linkDown h.laneDark.irq

/-! ## Modes -/

protected theorem State.Canonical.fwCopy {b : Bool} (h : s.Canonical) : (s.fwCopy b).Canonical := by
  dsimp only [State.fwCopy]
  split
  · exact h
  · exact h.sramWrite.put0.putB.keepMgmt

protected theorem State.Canonical.boot {a b : Bool} (h : s.Canonical) : (s.boot a b).Canonical := by
  dsimp only [State.boot]
  split
  · exact h.fwCopy
  · exact h.fwCopy
  · exact h.fwCopy
  · exact h.put0.put0.setTrans.keepMgmt.progressStop

protected theorem State.Canonical.afterReset {rail : Option Nat} {straps : Nat} (h : s.Canonical) :
    (s.afterReset rail straps).Canonical := by
  unfold State.afterReset
  extract_lets s1 cause t1 t2 t3 t4
  have h2 : t2.Canonical := by
    obtain ⟨-, -, hflash, hhost, -⟩ := (Memory.wf_iff s1).1 h.flashCut.fuseStop
    exact (Memory.wf_iff t2).2 ⟨rfl, rfl, hflash, hhost, rfl⟩
  exact h2.put0.putB.putB.putB.put0.put0.showRepairs.progress

protected theorem State.Canonical.execDeviceReset {rail : Option Nat} {straps : Nat} {slotA slotB : Bool} (h : s.Canonical) :
    Out.Canonical (execDeviceReset rail straps slotA slotB s) := by
  dsimp only [execDeviceReset]
  split
  · exact .ite (.ok h.afterReset.boot) (.ok h)
  · exact .ok h.afterReset.boot

protected theorem State.Canonical.execSmbusFwImage {image : List Byte} {verified : Bool} (h : s.Canonical) :
    Out.Canonical (execSmbusFwImage image verified s) :=
  .ite (.ok h) (.ite (.ok h.flashErase.flashProgram.afterReset.boot) (.ok h.flashErase.flashProgram.flashErase))

protected theorem State.Canonical.startStep {k : Nat} (h : s.Canonical) : (s.startStep k).Canonical := by
  dsimp only [State.startStep]
  split
  · exact h.put0.progress.setTrans
  · exact h

protected theorem State.Canonical.startFail (h : s.Canonical) : s.startFail.Canonical :=
  h.put0.progressStop.progressStop.transIdle.modeAnswerOf

protected theorem State.Canonical.startPower (h : s.Canonical) : s.startPower.Canonical :=
  .startStep (.forRange (.same (h.domainsOn.forRange fun _ _ h => h.setEng.put.putB)) fun _ _ h => h.linkAdvance)

protected theorem State.Canonical.startPhase {d : Nat} {ready : Bool} (h : s.Canonical) : (s.startPhase d ready).Canonical := by
  dsimp only [State.startPhase]
  split
  · exact .ite h (.ite h.startFail (.ite h.startPower h.setDom))
  · exact h

protected theorem State.Canonical.execDomainReady {d : Nat} {ready : Bool} (h : s.Canonical) :
    Out.Canonical (execDomainReady d ready s) :=
  .ite (.ok h) (.ite (.ok h.startPhase) (.ite (.ok h.setDom.modPwr.put0) (.ok h.advanceTo.wakeDone)))

protected theorem State.Canonical.chooseCheck (h : s.Canonical) : s.chooseCheck.2.Canonical := by
  dsimp only [State.chooseCheck]
  split
  · exact h.put0.put0.put0.put0.put0.put0
  · exact h.put0.putB.putB.putB.put0.put0

protected theorem State.Canonical.checkedMemories (h : s.Canonical) : s.checkedMemories.Canonical :=
  ((h.forRange fun _ _ h => h.dropSram).forRange fun _ _ h => h.setEng).forRange fun _ _ h => h.setBc.put.putB

protected theorem State.Canonical.bistShow {kind : Nat} (h : s.Canonical) : (s.bistShow kind).Canonical :=
  h.put0.put0.put0.irq

protected theorem State.Canonical.liftAll (h : s.Canonical) : s.liftAll.Canonical :=
  ((((((h.forEach fun _ _ h => h.putB.putB).forRange fun _ _ h => h.putB).forRange fun _ _ h =>
    h.putB).modFlt.keepMem.modDp.put0.put0.forRange fun _ _ h => h.put).put0.put0.put0.put0.put0.put0.put0.put0.put0.put0.forRange fun _ _
      h => h.put).forRange fun _ _ h => .linkAdvance (.ite h.linkTo h)).put0.modStby

protected theorem State.Canonical.startCheck {failMap : Nat} {rows : List (Nat × Nat)} {memFail : Bool} (h : s.Canonical) :
    (s.startCheck failMap rows memFail).Canonical := by
  unfold State.startCheck
  split
  next quick s1 hc =>
  have h1 : s1.Canonical := State.Canonical.of_eq h.keyClear.chooseCheck hc
  extract_lets s2 listed s3 s4 s5 s6 s7 s8 s9 s10
  have h6 : s6.Canonical := h1.putB.putB.checkedMemories.bistFail.bistShow.put0.healthWrite.progress.modMode
  have h8 : s8.Canonical := h6.startStep.provLoad.startStep.keepMgmt
  have h9 : s9.Canonical := h8.forEach fun _ _ h => h.repairRow
  have h10 : s10.Canonical := h9.forEach fun _ _ h => h.repairRow
  exact .ite h6.startFail h10.showRepairs.liftAll.startStep

protected theorem State.Canonical.startUpTo4 {failMap : Nat} {rows : List (Nat × Nat)} {memFail : Bool} (h : s.Canonical) :
    (s.startUpTo4 failMap rows memFail).Canonical := by
  dsimp only [State.startUpTo4]
  split
  · exact .ite h.startPower.startCheck (.ite h.startCheck h)
  · exact h

protected theorem State.Canonical.execBistDone {failMap : Nat} {rows : List (Nat × Nat)} {memFail : Bool} (h : s.Canonical) :
    Out.Canonical (execBistDone failMap rows memFail s) := by
  dsimp only [execBistDone]
  split
  · exact .ok (.ite h h.startUpTo4)
  · exact .ite (.ok h) (.ok h.checkedMemories.bistFail.bistShow.put0.progress.modMode)

protected theorem State.Canonical.dramTrained {success : Bool} {mr4 : Nat} (h : s.Canonical) : (s.dramTrained success mr4).Canonical :=
  .ite h.irq.put0.putB.putB.putB.progress h.irq.put0.putB.putB.putB.progressStop

protected theorem State.Canonical.execDramTrainingDone {success : Bool} {mr4 : Nat} (h : s.Canonical) :
    Out.Canonical (execDramTrainingDone success mr4 s) := by
  dsimp only [execDramTrainingDone]
  split
  · exact .ok (.ite h.dramTrained.startStep h.dramTrained.startFail)
  · exact .ok h.dramTrained

protected theorem State.Canonical.startEnd (h : s.Canonical) : s.startEnd.Canonical :=
  (h.forRange fun _ _ h => h.dropSram).keepMem.showPasses.startStep.startStep.put0.irq.transDone.showScn

protected theorem State.Canonical.execStartDone {good : Bool} (h : s.Canonical) : Out.Canonical (execStartDone good s) := by
  dsimp only [execStartDone]
  split
  · refine .ite (.ok h) (.ite (.ok h.startFail) (.ok (.startEnd ?_)))
    split
    · exact h.startUpTo4.dramTrained.startStep
    · exact h.startUpTo4
  · exact .ok h

protected theorem State.Canonical.modeRequest {p : Plane} {m : Nat} (h : s.Canonical) : (s.modeRequest p m).Canonical :=
  h.putP.putP.putP

protected theorem State.Canonical.whenIdle {p : Plane} {f : State → State} (h : s.Canonical)
    (hf : ∀ t, t.Canonical → (f t).Canonical) : (s.whenIdle p f).Canonical :=
  .ite (hf s h) h.modeAnswer

protected theorem State.Canonical.holdRamp {p : Plane} {m : Nat} (h : s.Canonical) : (s.holdRamp p m).Canonical :=
  h.transBegin.mirrorMode

protected theorem State.Canonical.stopBegin {p : Plane} {m : Nat} (h : s.Canonical) : (s.stopBegin p m).Canonical :=
  h.transBegin

protected theorem State.Canonical.claimRequest {p : Plane} {low : Bool} (h : s.Canonical) : (s.claimRequest p low).Canonical :=
  .ite h.claim h.modeAnswer

protected theorem State.Canonical.showRequest {p : Plane} {low : Bool} (h : s.Canonical) : (State.showRequest p low s).Canonical :=
  .ite (.ite h.modeAnswer (.ite h.claimRequest h.transBegin)) (.ite h.holdRamp (.ite (.ite h.claimRequest h.modeAnswer) h.modeAnswer))

protected theorem State.Canonical.holdReverse {p : Plane} {goal : Nat} (h : s.Canonical) : (s.holdReverse p goal).Canonical :=
  .holdRamp (.ite h h.modeAnswerOf)

protected theorem State.Canonical.execReqShow {p : Plane} {low : Bool} (h : s.Canonical) : Out.Canonical (execReqShow p low s) :=
  .ok (.ite h.modeRequest.holdReverse (h.modeRequest.whenIdle fun _ h => h.showRequest))

protected theorem State.Canonical.execReqHold {p : Plane} (h : s.Canonical) : Out.Canonical (execReqHold p s) :=
  .ok (.ite h.modeRequest.holdReverse (h.modeRequest.whenIdle fun _ h => .ite h.holdRamp h.modeAnswer))

protected theorem State.Canonical.followRequest {p : Plane} (h : s.Canonical) : (State.followRequest p s).Canonical :=
  .ite (.ite h.modeAnswer (.ite h.modeAnswer h.transBegin.modStby)) (.ite (.ite h.modeAnswer h.transBegin.giveUpStart) h.modeAnswer)

protected theorem State.Canonical.execReqFollow {p : Plane} (h : s.Canonical) : Out.Canonical (execReqFollow p s) :=
  .ok (h.modeRequest.whenIdle fun _ h => h.followRequest)

protected theorem State.Canonical.execReqStart {p : Plane} {full : Bool} (h : s.Canonical) : Out.Canonical (execReqStart p full s) :=
  .ok (h.modeRequest.whenIdle fun _ h => .ite h.modMode.enterStart
    (.ite h.modMode.stopBegin (.ite (.ite h.modMode.transBegin h.modeAnswer) h.modeAnswer)))

protected theorem State.Canonical.execReqMaint {p : Plane} (h : s.Canonical) : Out.Canonical (execReqMaint p s) :=
  .ok (h.modeRequest.whenIdle fun _ h => .ite h.modeAnswer (.ite h.modeAnswer h.transBegin))

protected theorem State.Canonical.execReqPark {p : Plane} (h : s.Canonical) : Out.Canonical (execReqPark p s) :=
  .ok (h.modeRequest.whenIdle fun _ h => .ite h.modeAnswer h.stopBegin)

protected theorem State.Canonical.rateNow {r : Nat} (h : s.Canonical) : (s.rateNow r).Canonical :=
  h.modClk.meterRateChange.put0.irq.refreshPorts.showRate

protected theorem State.Canonical.rateRequest {p : Plane} {r : Nat} (h : s.Canonical) : (State.rateRequest p r s).Canonical :=
  .ite h.modeAnswer (.ite h.modeAnswer (.ite h.modeAnswer (.ite h.modeAnswer (.ite h.rateNow.modeAnswer h.transBegin.mirrorMode))))

protected theorem State.Canonical.execSetRate {p : Plane} {rate : Nat} (h : s.Canonical) : Out.Canonical (execSetRate p rate s) :=
  .ok (.ite h.putP.putP.modeAnswer (h.putP.putP.whenIdle fun _ h => h.rateRequest))

/-! ## Faults -/

protected theorem State.Canonical.subUnitOut {u : UnitId} (h : s.Canonical) : (s.subUnitOut u).Canonical := by
  dsimp only [State.subUnitOut]
  refine .ite ?_ ?_
  · split
    · exact h.laneDark.kzlFail
    · exact .ite h.laneDark.linkDown h.laneDark
  · split
    · exact h.modDp
    · exact h

protected theorem State.Canonical.fenceUnit {u : UnitId} {retire : Bool} (h : s.Canonical) : (s.fenceUnit u retire).Canonical :=
  h.fenceOut.subUnitOut

protected theorem State.Canonical.execFence {unit : UnitId} (h : s.Canonical) : Out.Canonical (execFence unit s) :=
  .ok (.ite h.fenceUnit h)

protected theorem State.Canonical.fenceAnswer {st : Nat} (h : s.Canonical) : (s.fenceAnswer st).Canonical :=
  h.put0.put0.irq

protected theorem State.Canonical.execFltFenceGo {p : Plane} {v : Word} (h : s.Canonical) : Out.Canonical (execFltFenceGo p v s) :=
  .ite (.ok h) (.ite (.ok h.put0.fenceAnswer) (.ite (.ok h.put0.raise.fenceAnswer)
    (.ite (.ok h.put0.fenceAnswer) (.ok h.put0.fenceUnit.fenceAnswer))))

protected theorem State.Canonical.mark {f : Fld} {k : Nat} (h : s.Canonical) : (s.mark f k).Canonical :=
  h.put0

protected theorem State.Canonical.showRetired {u : UnitId} (h : s.Canonical) : (s.showRetired u).Canonical := by
  dsimp only [State.showRetired]
  refine .ite h.mark (.ite h.mark (.ite h.mark (.ite h.mark (.ite h.mark ?_))))
  split
  · exact h.setMapBit
  · exact h

protected theorem State.Canonical.retireUnit {u : UnitId} {addr : Word} (h : s.Canonical) : (s.retireUnit u addr).2.Canonical :=
  .iteSnd (.irq (.showRetired (.bumpEpoch (.ite h h.put)))) (.iteSnd h.fenceUnit.showRetired.irq
    (.iteSnd h.modFlt.bumpEpoch.showRetired.irq (.iteSnd (.iteSnd h.repairRow.bumpEpoch.showRepairs.irq h.repairRow)
      (.iteSnd (.iteSnd h (.iteSnd h.modFlt.bumpEpoch.put0.irq h.raise)) (.iteSnd h.modFlt.bumpEpoch.irq h)))))

protected theorem State.Canonical.seResume {e since : Nat} (h : s.Canonical) : (s.seResume e since).2.Canonical := by
  dsimp only [State.seResume]
  split
  · exact h.setEng
  · exact .iteSnd h.setEng.stripEvent h.setEng

protected theorem State.Canonical.seWord {e : Nat} {addr : Word} (h : s.Canonical) : (s.seWord e addr).Canonical := by
  dsimp only [State.seWord]
  refine .ite h.setEng (.ite h.setEng ?_)
  split
  · exact h.setEng
  · exact h

protected theorem State.Canonical.zeroGranule {u : UnitId} {addr : Word} (h : s.Canonical) : (s.zeroGranule u addr).Canonical :=
  .ite h.sramWrite (.ite h.dramWrite h)

protected theorem State.Canonical.restored {t : FltTest} (h : s.Canonical) : (s.restored t).Canonical := by
  dsimp only [State.restored]
  split
  · exact .ite h.seWord h
  · exact h.zeroGranule
  · exact h.zeroGranule
  · exact h

protected theorem State.Canonical.testResume {t : FltTest} (h : s.Canonical) : (s.testResume t).2.Canonical := by
  dsimp only [State.testResume]
  split
  · exact h.seResume
  · exact .iteSnd (h.forEach fun _ _ h => h.laneTo.setLane) h
  · exact h

protected theorem State.Canonical.startTests (h : s.Canonical) : s.startTests.Canonical :=
  h.modFlt.showTests

protected theorem State.Canonical.execTargetedTestEnd {unit : UnitId} {pass : Bool} (h : s.Canonical) :
    Out.Canonical (execTargetedTestEnd unit pass s) := by
  dsimp only [execTargetedTestEnd]
  split
  · exact .ok h
  · exact .ok (.startTests (.irq (.ite h.advanceTo.modFlt.restored.testResume.count.logEvent
      h.advanceTo.modFlt.restored.count.retireUnit.logEvent)))

protected theorem State.Canonical.execFltWdtKick {p : Plane} {v : Word} (h : s.Canonical) : Out.Canonical (execFltWdtKick p v s) :=
  .ite (.ok h.modFlt) (.ok h)

protected theorem State.Canonical.execWdtExpire (h : s.Canonical) : Out.Canonical (execWdtExpire s) :=
  .ite (.ok h) (.ite (.ok h.advanceTo.raise.put0.modFlt.keepMgmt.boot) (.ok h.advanceTo.raise.put0.modFlt.keepMgmt.keepMgmt))

protected theorem State.Canonical.execBistGo {p : Plane} {v : Word} (h : s.Canonical) : Out.Canonical (execBistGo p v s) :=
  .ite (.ok h) (.ite (.ok h.put0) (.ite (.ok h.put0) (.ite (.ok h.put0) (.ok h.put0.put0.put0.keyClear.progress))))

protected theorem State.Canonical.execMarchGo {p : Plane} {v : Word} (h : s.Canonical) : Out.Canonical (execMarchGo p v s) :=
  .ite (.ok h) (.ite (.ok h.put0) (.ok h.put0.put0.put0.putB.keepMgmt))

protected theorem State.Canonical.showMarch (h : s.Canonical) : s.showMarch.Canonical :=
  h.put0.putB.put0.put0

protected theorem State.Canonical.marchFail {r : Nat × Nat} (h : s.Canonical) : (State.marchFail r s).Canonical :=
  .ite h.count h.count.keepMgmt

protected theorem State.Canonical.marchLeaves {req phase bank : Nat} (h : s.Canonical) :
    (State.marchLeaves req phase bank s).Canonical := by
  have hf : ∀ p : Nat × Byte → Bool, (s.modMem fun m => { m with sram := m.sram.filter p }).Canonical := Memory.wf_filter_sram h
  exact .ite h (.ite (hf _) ((hf _).forRange fun _ _ h => h.forRange fun _ _ h => .ite h h.sramWrite))

protected theorem State.Canonical.execMarchDone {rows : List (Nat × Nat)} (h : s.Canonical) : Out.Canonical (execMarchDone rows s) :=
  .ite (.ok h) (.ok (.irq (.put0 (.put0 (.put0 (.ite (.draw (.ite (h.keepMgmt.forEach fun _ _ h => h.marchFail).showMarch
    (h.keepMgmt.forEach fun _ _ h => h.marchFail).showMarch.irq))
      (.forRange (.draw (.ite (h.keepMgmt.forEach fun _ _ h => h.marchFail).showMarch
        (h.keepMgmt.forEach fun _ _ h => h.marchFail).showMarch.irq)) fun _ _ h => h.marchLeaves)))))))

protected theorem State.Canonical.marchRead {p : Plane} (h : s.Canonical) : (s.marchRead p).Canonical :=
  h.setRead.keepMgmt.showMarch

protected theorem State.Canonical.execMarchFifoRead {p : Plane} (h : s.Canonical) : Out.Canonical (execMarchFifoRead p s) :=
  .ok h.marchRead

protected theorem State.Canonical.execRepFuseGo {p : Plane} {v : Word} (h : s.Canonical) : Out.Canonical (execRepFuseGo p v s) :=
  .ite (.ok h) (.ite (.ok h.put0.put0.put0.irq) (.ite (.ok h.put0.put0.put0.irq) (.ok h.put0.put0.keepMgmt.progress)))

protected theorem State.Canonical.execFuseBurnDone {verified stopped : Bool} (h : s.Canonical) :
    Out.Canonical (execFuseBurnDone verified stopped s) := by
  dsimp only [execFuseBurnDone]
  split
  · exact .ok h
  · exact .ite (.ok h.fuseStop) (.ite (.ok h.fuseEnd) (.ok h.draw.fuseEnd))

/-! ## Control -/

protected theorem State.Canonical.goOn {o : Out} (h : s.Canonical) (ho : Out.Canonical o) : (s.goOn o).Canonical := by
  unfold State.goOn
  split
  · exact ho _ rfl
  · exact h

theorem State.Canonical.firstOf_nil (h : s.Canonical) : (firstOf [] s).Canonical := h

/-- The first effect of a list keeps the form when each effect does. -/
theorem State.Canonical.firstOf_cons {o : Option State} {l : List (Option State)} (ho : ∀ u, o = some u → u.Canonical)
    (hl : (firstOf l t).Canonical) : (firstOf (o :: l) t).Canonical := by
  cases o with
  | none => exact hl
  | some u => exact ho u rfl

/-- The effect of a write on the register of a field. -/
theorem State.Canonical.of_onFld {f : Fld} {a : Nat} {act : Nat → State → Out} {u : State} (h : s.Canonical)
    (hact : ∀ i, Out.Canonical (act i s)) (e : onFld f a act s = some u) : u.Canonical := by
  obtain ⟨i, -, rfl⟩ := Option.map_eq_some_iff.1 e
  exact h.goOn (hact i)

/-- A list of effects of a write, the first of them on the register of a field. -/
theorem State.Canonical.firstOf_onFld {f : Fld} {a : Nat} {act : Nat → State → Out} {l : List (Option State)} (h : s.Canonical)
    (hact : ∀ i, Out.Canonical (act i s)) (hl : (firstOf l t).Canonical) : (firstOf (onFld f a act s :: l) t).Canonical :=
  .firstOf_cons (fun _ e => h.of_onFld hact e) hl

protected theorem State.Canonical.writeW1c {p : Plane} {a v : Nat} (h : s.Canonical) : (s.writeW1c p a v).Canonical :=
  .ite h h.setWord.thaw

protected theorem State.Canonical.writeRw {p : Plane} {a v : Nat} (h : s.Canonical) : (s.writeRw p a v).Canonical :=
  .ite h h.setWord

protected theorem State.Canonical.execModeReq {p : Plane} {v : Nat} (h : s.Canonical) : Out.Canonical (execModeReq p v s) :=
  .ite (.ok h.putP.putP.modeAnswer) (.ite h.execSetRate (.ite (.ok h.putP.putP.putP.modeAnswer)
    (.ite h.execReqPark (.ite h.execReqStart (.ite h.execReqMaint (.ite h.execReqFollow (.ite h.execReqHold h.draw.execReqShow)))))))

protected theorem State.Canonical.execScnCmd {p : Plane} {v : Nat} (h : s.Canonical) : Out.Canonical (execScnCmd p v s) :=
  .ite h.execOpenSlot (.ite h.execClose (.ite h.execArm (.ite h.execAbort
    (.ite h.execLoadImage (.ite (State.Canonical.execMoves (.same h)) (.ite (.ok h) (.ok h.putP.putP.putP)))))))

protected theorem State.Canonical.execNetDb {p : Plane} {i : Nat} {v : Word} (h : s.Canonical) : Out.Canonical (execNetDb p i v s) :=
  State.Canonical.execNetRingDb (.same h)

protected theorem State.Canonical.writeGated {p : Plane} {a : Nat} {v : Word} (h : s.Canonical) : (s.writeGated p a v).Canonical :=
  .firstOf_onFld h (fun _ => h.execSeQsel) <| .firstOf_onFld h (fun _ => h.execBcQsel) <|
  .firstOf_onFld h (fun _ => h.execRconvQsel) <| .firstOf_onFld h (fun _ => h.execPatchQsel) <|
  .firstOf_onFld h (fun _ => h.execFabXpQsel) <| .firstOf_onFld h (fun _ => h.execFabSrcQsel) <|
  .firstOf_onFld h (fun _ => h.execMtrRdSet) <| .firstOf_onFld h (fun _ => h.execEyeRdSet) <|
  .firstOf_onFld h (fun _ => h.execNetDb) <| .firstOf_onFld h (fun _ => .ok h.put) <|
  .firstOf_onFld h (fun _ => h.draw.execStbyForce) <| .firstOf_nil h

protected theorem State.Canonical.writeHostq {p : Plane} {a : Nat} {v : Word} (h : s.Canonical) : (s.writeHostq p a v).Canonical :=
  .ite (.ite h.pageErr h.writeRw) <|
  .firstOf_onFld h (fun _ => h.execHostqRingEn) <| .firstOf_onFld h (fun _ => h.execHostqRingDb) <|
  .firstOf_onFld h (fun _ => .ok h.cplRead) <| .firstOf_onFld h (fun _ => h.execRingReplay) <| .firstOf_nil h

protected theorem State.Canonical.writeScn {p : Plane} {a : Nat} {v : Word} (h : s.Canonical) : (s.writeScn p a v).Canonical :=
  .firstOf_onFld h (fun _ => h.execScnCmd) <| .firstOf_onFld h (fun _ => h.execScnPortPush) <|
  .firstOf_onFld h (fun _ => h.execScnQw0) <| .firstOf_onFld h (fun _ => .ok (.ite h h.putB.bumpEpoch)) <|
  .firstOf_onFld h (fun _ => h.execEphPush) <| .firstOf_onFld h (fun _ => h.execEphCancel) <|
  .firstOf_onFld h (fun _ => h.execTimeTxtsPop) <| .firstOf_onFld h (fun _ => h.execSvxPush) <|
  .firstOf_onFld h (fun _ => .ok (.ite h.servoCtrl h)) <| .firstOf_onFld h (fun _ => h.execCalSetGo) <|
  .firstOf_onFld h (fun _ => h.execCalTaiUtcArm) <| .firstOf_onFld h (fun _ => .ok h.putB.modPtp) <|
  .firstOf_nil (.ite h h.writeRw)

protected theorem State.Canonical.writeMem {p : Plane} {a : Nat} {v : Word} (h : s.Canonical) : (s.writeMem p a v).Canonical := by
  refine .firstOf_onFld h (fun _ => h.execArbQsel) <| .firstOf_onFld h (fun _ => h.execOwnQaddr) <|
    .firstOf_onFld h (fun _ => h.execCvuEnable) <| .firstOf_nil <| .ite (.ite h.writeRw h) <| .ite h <|
    .firstOf_cons (fun u e => ?_) <| .firstOf_onFld h (fun _ => .ok h.shadowWrite) <|
    .firstOf_onFld h (fun _ => .ok (.ite h h.putB.bumpEpoch)) <| .firstOf_nil h
  obtain ⟨-, e⟩ := Option.ite_none_right_eq_some.1 e
  cases e
  exact h.goOn h.execRemap

protected theorem State.Canonical.writeMgmt {a : Nat} {v : Word} (h : s.Canonical) : (s.writeMgmt a v).Canonical :=
  .firstOf_onFld h (fun _ => .ok (.ite h.put0 h.put0.put0)) <| .firstOf_onFld h (fun _ => .ok h.writeRw.modFlt) <|
  .firstOf_onFld h (fun _ => h.execFltFenceGo) <| .firstOf_onFld h (fun _ => h.execFltWdtKick) <|
  .firstOf_onFld h (fun _ => h.execBistGo) <| .firstOf_onFld h (fun _ => .ok h.writeRw.modMode) <|
  .firstOf_onFld h (fun _ => h.execMarchGo) <| .firstOf_onFld h (fun _ => h.execRepFuseGo) <|
  .firstOf_onFld h (fun _ => h.execDvfsReq) <| .firstOf_onFld h (fun _ => .ok (.ite h.writeRw.parkSram0 h.writeRw)) <|
  .firstOf_onFld h (fun _ => .ok h.writeRw.fans) <| .firstOf_onFld h (fun _ => h.execKeyData) <|
  .firstOf_onFld h (fun _ => .ite h.execKeyCheck (.ok h)) <| .firstOf_onFld h (fun _ => .ite h.execKeyDone (.ok h)) <|
  .firstOf_onFld h (fun _ => .ok h.put) <| .firstOf_onFld h (fun _ => h.execKeyWrap) <|
  .firstOf_onFld h (fun _ => .ite h.execProvCommit (.ok h)) <|
  .firstOf_onFld h (fun _ => .ite h.execFlashErase (.ite h.execFlashProgram (.ite h.execFlashRead (.ok h)))) <|
  .firstOf_nil h.writeRw

protected theorem State.Canonical.writePlain {p : Plane} {a : Nat} {v : Word} (h : s.Canonical) : (s.writePlain p a v).Canonical :=
  .ite (.firstOf_onFld h (fun _ => h.execModeReq) (.firstOf_nil h)) <|
  .ite (.firstOf_onFld h (fun _ => h.execIntcEoi) (.firstOf_nil (.ite h h.writeRw))) <|
  .ite h.writeHostq <| .ite h.writeScn <| .ite h.writeMem <| .ite (.ite h h.writeMgmt) h.writeRw

protected theorem State.Canonical.writeCtrl {p : Plane} {page v : Nat} (h : s.Canonical) : (s.writeCtrl p page v).Canonical :=
  .ite (.goOn h h.execLiveWrite) (.ite h.freezePage.softResetNow h.freezePage)

protected theorem State.Canonical.writeWord {p : Plane} {a : Nat} {v : Word} (h : s.Canonical) : (State.writeWord p a v s).Canonical :=
  .ite (.ite h h.wakeFor.pageErr) (.ite h (.ite h.wakeFor.writeW1c.writeCtrl
    (.ite (.ite (.goOn h.wakeFor.writeW1c h.wakeFor.writeW1c.execLiveWrite) h.wakeFor.writeW1c.put)
      (.ite (.ite (.goOn h.wakeFor.writeW1c h.wakeFor.writeW1c.execArbCommit) h.wakeFor.writeW1c)
        (.ite h.wakeFor.writeW1c (.ite (.writeGated (.goOn h.wakeFor.writeW1c h.wakeFor.writeW1c.execLiveWrite))
          h.wakeFor.writeW1c.writePlain))))))

protected theorem State.Canonical.badAccess {p : Plane} {isRead : Bool} (h : s.Canonical) : (s.badAccess p isRead).Canonical := by
  cases p <;> exact .ite h.count.irq h.count.irq.keepHost

protected theorem State.Canonical.writeWords {p : Plane} {off : Nat} {l : List Nat} (h : s.Canonical) :
    (State.writeWords p off l s).Canonical := by
  induction l generalizing s off with
  | nil => exact h
  | cons v r ih => exact ih h.writeWord

protected theorem State.Canonical.regWrite {p : Plane} {off : Nat} {data : List Byte} (h : s.Canonical) :
    (State.regWrite p off data s).Canonical :=
  .ite h.badAccess h.writeWords

protected theorem State.Canonical.execRegisterWrite {p : Plane} {off : Nat} {data : List Byte} (h : s.Canonical) :
    Out.Canonical (execRegisterWrite p off data s) :=
  .ok h.regWrite

protected theorem State.Canonical.execSoftReset {p : Plane} {page : Nat} (h : s.Canonical) : Out.Canonical (execSoftReset p page s) :=
  .ite (.ok h.writeCtrl) (.ok h.softResetNow)

protected theorem State.Canonical.execFreeze {p : Plane} {page : Nat} {on : Bool} (h : s.Canonical) :
    Out.Canonical (execFreeze p page on s) :=
  .ok h.writeWord

protected theorem State.Canonical.setReads {p : Plane} {l : List Nat} (h : s.Canonical) : (s.setReads p l).Canonical := by
  cases p <;> exact .same h

protected theorem State.Canonical.clearRc {a : Nat} (h : s.Canonical) : (s.clearRc a).Canonical :=
  .ite h h.setWord.thaw

protected theorem State.Canonical.utilShown {a : Nat} (h : s.Canonical) : (s.utilShown a).Canonical :=
  .ite h.draw.put0 h

protected theorem State.Canonical.readOne {p : Plane} {a : Nat} (h : s.Canonical) : (s.readOne p a).2.Canonical := by
  unfold State.readOne
  extract_lets page s1 special
  have h1 : s1.Canonical := h.wakeFor
  have hs : (special.getD s1).Canonical := by
    exact .firstOf_onFld h1 (fun _ => h1.execTimeSecLoRead) <|
    .firstOf_onFld h1 (fun _ => h1.execCalDateRead) <| .firstOf_onFld h1 (fun _ => h1.execEphNextSecLoRead) <|
    .firstOf_onFld h1 (fun _ => h1.execCvuResultLoRead) <| .firstOf_onFld h1 (fun _ => h1.draw.draw.execLaneErrLoRead) <|
    .firstOf_onFld h1 (fun _ => h1.execMarchFifoRead) <| .firstOf_nil h1
  clear_value special
  refine .iteSnd h ?_
  cases special with
  | none => exact .ite h1.utilShown h1.utilShown.clearRc
  | some t => exact hs

protected theorem State.Canonical.readMany {p : Plane} {off n : Nat} (h : s.Canonical) :
    (State.readMany p off n s).2.Canonical := by
  induction n generalizing s off with
  | zero => exact h
  | succ n ih => exact ih h.readOne

protected theorem State.Canonical.regRead {p : Plane} {off n : Nat} (h : s.Canonical) : (State.regRead p off n s).Canonical :=
  .ite h.badAccess h.readMany.setReads

protected theorem State.Canonical.execRcRead {p : Plane} {off n : Nat} (h : s.Canonical) : Out.Canonical (execRcRead p off n s) :=
  .ok h.regRead

protected theorem State.Canonical.execRegWrite {q : Nat} (h : s.Canonical) : Out.Canonical (execRegWrite q s) := by
  dsimp only [execRegWrite]
  split
  · exact .ok h
  · exact .ok h.ringBegan.writeWords.ringEnd

protected theorem State.Canonical.execRegRead {q : Nat} (h : s.Canonical) : Out.Canonical (execRegRead q s) := by
  dsimp only [execRegRead]
  split
  · exact .ok h
  · exact .ok (.ringEnd (.ite h.ringBegan.readMany.hostWrite h.ringBegan.readMany.hostWrite.pageErr))

protected theorem State.Canonical.regRequest {master addr off : Nat} {acc : MemAcc} (h : s.Canonical) :
    (s.regRequest master addr off acc).Canonical := by
  dsimp only [State.regRequest]
  split
  · exact h.regWrite.respond
  · exact h.regRead.respond

protected theorem State.Canonical.hostRequest {master addr : Nat} {acc : MemAcc} (h : s.Canonical) :
    (s.hostRequest master addr acc).Canonical := by
  dsimp only [State.hostRequest]
  split
  · exact h.hostWrite.respond
  · exact .ite h.respond (.respond (.same h))

protected theorem State.Canonical.wakeMem {d : Nat} (h : s.Canonical) : (s.wakeMem d).Canonical :=
  .ite h h.wakeStart.advanceTo.wakeDone

protected theorem State.Canonical.execInterconnectRequest {master : Nat} {host : Bool} {addr : Nat} {acc : MemAcc} (h : s.Canonical) :
    Out.Canonical (execInterconnectRequest master host addr acc s) := by
  dsimp only [execInterconnectRequest]
  refine .ite (.ok h.respond) ?_
  split
  · exact .ok (.ite h.respond h.wakeMem.raiseReq)
  · exact .ok (.ite h.respond h.wakeMem.raiseReq)
  · exact .ok h.regRequest
  · exact .ok h.respond
  · exact .ok h.hostRequest
  · exact .ok (.ite h.decodeError.respond.seEvent h.decodeError.respond)

/-! ## Dispatch -/

protected theorem State.Canonical.exec {i : Instr} (h : s.Canonical) : Out.Canonical (exec i s) := by
  dsimp only [exec]
  split
  · exact h.execDeviceReset
  · exact h.execStartDone
  · exact h.execHostIfReset
  · exact h.execSmbusFwImage
  · exact h.execSampleBoundary
  · exact h.execSampleLanding
  · exact h.execLaneLock
  · exact h.execLaneUnlock
  · exact h.execLaneUnlockRampEnd
  · exact h.execRangeEnter
  · exact h.execRangeExit
  · exact h.execSetRate
  · exact h.execRconvQsel
  · exact h.execPatchQsel
  · exact h.execSeQsel
  · exact h.execBcQsel
  · exact h.execFabXpQsel
  · exact h.execFabSrcQsel
  · exact h.execScnQw0
  · exact h.execArbQsel
  · exact h.execOwnQaddr
  · exact h.execSnapshotDone
  · exact h.execStripBegin
  · exact h.execStripEnd
  · exact h.execDerivationDone
  · exact h.execStripMigration
  · exact h.execStripShed
  · exact h.execLgFrameEnd
  · exact h.execLgNotchRelax
  · exact h.execMacNop
  · exact h.execMpy
  · exact h.execMac
  · exact h.execMsu
  · exact h.execClr
  · exact h.execLda
  · exact h.execAdda
  · exact h.execSuba
  · exact h.execAdd
  · exact h.execSub
  · exact h.execAdds
  · exact h.execSubs
  · exact h.execNeg
  · exact h.execAbsD
  · exact h.execAndD
  · exact h.execOrD
  · exact h.execXorD
  · exact h.execCmp
  · exact h.execDiv
  · exact h.execDivComplete
  · exact h.execAsr
  · exact h.execLsr
  · exact h.execLsl
  · exact h.execLsls
  · exact h.execAsri
  · exact h.execLsri
  · exact h.execLsli
  · exact h.execLslsi
  · exact h.execAsra
  · exact h.execLsra
  · exact h.execLsla
  · exact h.execLslsa
  · exact h.execLoad
  · exact h.execStore
  · exact h.execLoadAddressFile
  · exact h.execAuAddOffset
  · exact h.execAuLoadBase
  · exact h.execNop
  · exact h.execBr
  · exact h.execBrc
  · exact h.execBri
  · exact h.execBrk
  · exact h.execRep
  · exact h.execRepd
  · exact h.execGath16
  · exact h.execGatherComplete
  · exact h.execGatherFault
  · exact h.execLdi
  · exact h.execMvtc
  · exact h.execMvfc
  · exact h.execRte
  · exact h.execDmaErr
  · exact h.execEventAccept
  · exact h.execEventLatency
  · exact h.execWaits
  · exact h.execEnter
  · exact h.execLeave
  · exact h.execPark3
  · exact h.execUnpark
  · exact h.execTrapx
  · exact h.execTestAndSet
  · exact h.execBridgeInstruction
  · exact h.execLoadStripProgram
  · exact h.execLoadBridge
  · exact h.execBridgeLoadWrite
  · exact h.execBridgeCoreStart
  · exact h.execMtrRdSet
  · exact h.execEyeBlockEnd
  · exact h.execEyeRdSet
  · exact h.execOpenSlot
  · exact h.execClose
  · exact h.execArm
  · exact h.execAbort
  · exact h.execLoadImage
  · exact h.execImageLoadEnd
  · exact h.execMoves
  · exact h.execScnPortPush
  · exact h.execLiveWrite
  · exact h.execEphPush
  · exact h.execEphCancel
  · exact h.execEphCommitFire
  · exact h.execCueOutFire
  · exact h.execCueOutPulseEnd
  · exact h.execCueEdgeConfirm
  · exact h.execMeasurementInstant
  · exact h.execActivityLoss
  · exact h.execCalSetGo
  · exact h.execCalTaiUtcArm
  · exact h.execTimeSecLoRead
  · exact h.execCalDateRead
  · exact h.execEphNextSecLoRead
  · exact h.execTimeTxtsPop
  · exact h.execSvxPush
  · exact h.execMpdTimeout
  · exact h.execNetRxFrame
  · exact h.execRxStreamWait
  · exact h.execRxLegDown
  · exact h.execHostFrameTx
  · exact h.execMgmtFrameTx
  · exact h.execNetRingDb
  · exact h.execNetLinkUp
  · exact h.execNetLinkDown
  · exact h.execAes3RxFrame
  · exact h.execAes3LockLoss
  · exact h.execLossOfSignal
  · exact h.execLosRampEnd
  · exact h.execSignalReturn
  · exact h.execMediaSet
  · exact h.execAes3TxFrame
  · exact h.execMadiRxFrame
  · exact h.execMadiTxFrame
  · exact h.execTdmFsEdge
  · exact h.execTdmRxFrame
  · exact h.execTdmTxFrame
  · exact h.execRestart
  · exact h.execVcxoLoopUpdate
  · exact h.execPmuxRelease
  · exact h.execPmuxTake
  · exact h.execPmuxFirstFrame
  · exact h.execLaneCdrLock
  · exact h.execLaneCdrLost
  · exact h.execLaneAdaptDone
  · exact h.execPrbsChkLock
  · exact h.execPrbsChkRelock
  · exact h.execPrbsClr
  · exact h.execLaneErrLoRead
  · exact h.execKzlFrameRx
  · exact h.execKzlFrameTx
  · exact h.execKzlRto
  · exact h.execKzlLinkFail
  · exact h.execKzlAlignDone
  · exact h.execKzlStateTimeout
  · exact h.execActiveNConfirm
  · exact h.execReleaseDecisionTimeout
  · exact h.execGiveupReclaim
  · exact h.execStbyForce
  · exact h.execBcCatchupDone
  · exact h.execStatusRecord
  · exact h.execMoveRecord
  · exact h.execSlotRecord
  · exact h.execMeasRecord
  · exact h.execCheckRecord
  · exact h.execCascRecord
  · exact h.execModeRecord
  · exact h.execTimeRecord
  · exact h.execPageRecord
  · exact h.execSeedRecord
  · exact h.execBcseedRecord
  · exact h.execInterconnectRequest
  · exact h.execArbGrant
  · exact h.execArbWindowEnd
  · exact h.execHoldCut
  · exact h.execLockRead
  · exact h.execLockBreak
  · exact h.execScrubStep
  · exact h.execFence
  · exact h.execDarkFramePassStart
  · exact h.execDarkFrameComplete
  · exact h.execDramTrainingDone
  · exact h.execRemap
  · exact h.execCvuEnable
  · exact h.execCvuResultLoRead
  · exact h.execArbCommit
  · exact h.execRegisterWrite
  · exact h.execRcRead
  · exact h.execSoftReset
  · exact h.execFreeze
  · exact h.execMsixMessage
  · exact h.execIntcEoi
  · exact h.execHostqRingDb
  · exact h.execHostqFetch
  · exact h.execRingReplay
  · exact h.execHostqRingEn
  · exact h.execCmdNop
  · exact h.execRegWrite
  · exact h.execRegRead
  · exact h.execReqShow
  · exact h.execReqHold
  · exact h.execReqFollow
  · exact h.execReqStart
  · exact h.execReqMaint
  · exact h.execReqPark
  · exact h.execDataPlaneStop
  · exact h.execFlashErase
  · exact h.execFlashProgram
  · exact h.execFlashRead
  · exact h.execProvCommit
  · exact h.execKeyData
  · exact h.execKeyCheck
  · exact h.execKeyDone
  · exact h.execKeyWrap
  · exact h.execDomainIdleOff
  · exact h.execDomainWake
  · exact h.execDomainReady
  · exact h.execDvfsReq
  · exact h.execSupplySample
  · exact h.execSensorRead
  · exact h.execFanFail
  · exact h.execFanRecover
  · exact h.execFltWdtKick
  · exact h.execFaultEvent
  · exact h.execTargetedTestEnd
  · exact h.execFltFenceGo
  · exact h.execBistGo
  · exact h.execBistDone
  · exact h.execMarchGo
  · exact h.execMarchDone
  · exact h.execMarchFifoRead
  · exact h.execRepFuseGo
  · exact h.execFuseBurnDone
  · exact h.execActivityEvent
  · exact h.execPcieLinkUp
  · exact h.execFlashCommandEnd
  · exact h.execProvCommitEnd
  · exact h.execScanChainEnable
  · exact h.execRateSwitch
  · exact h.execRateRampIn
  · exact h.execRateChangeDone
  · exact h.execShedStop
  · exact h.execAutomixUpdate
  · exact h.execProgWriteStart
  · exact h.execProgWriteEnd
  · exact h.execMeterFrameBoundary
  · exact h.execSceneCutoff
  · exact h.execDeferredXfadeStart
  · exact h.execAcqTimeout
  · exact h.execAcqHoldoffExpire
  · exact h.execWtrExpire
  · exact h.execPtpStep
  · exact h.execSecondsCarry
  · exact h.execPacketLaunch
  · exact h.execReadbackFault
  · exact h.execHbToggle
  · exact h.execHbInEdge
  · exact h.execHbLost
  · exact h.execGiveupRelease
  · exact h.execCheckWindowEnd
  · exact h.execConfirmTimeout
  · exact h.execDataPlaneStart
  · exact h.execHoldRampEnd
  · exact h.execDvfsDividerChange
  · exact h.execDvfsRailConfirm
  · exact h.execDvfsVoltTimeout
  · exact h.execSupplyHoldEnd
  · exact h.execThermalStateChange
  · exact h.execWdtExpire
  · exact h.execFaultNPulseEnd
  · exact h.execStuckLow

/-- One step of the block keeps the canonical form: a command's effect does, and an idle edge moves the clock alone. -/
protected theorem State.Canonical.step (h : s.Canonical) : Out.Canonical (step s) := by
  unfold Machine.step
  split
  · exact .ok (.same h)
  · exact .exec (.same h)

/-! ## The statements -/

/-- Settles O4: each command of the model is a chain of operations that keep the form. -/
theorem everyStepKeepsTablesCanonical : Obligations.EveryStepKeepsTablesCanonical :=
  fun _ t h e => State.Canonical.step h t e

/-- Settles O3: the reset state lists no register word and no byte but those of its own choice, so each word reads as its reset word. -/
theorem resetIsCanonical : Obligations.ResetIsCanonical :=
  ⟨Memory.wf_reset, rfl, fun _ => rfl, rfl, rfl⟩

end Sys2Proof.Machine
end

section
/-! SUPPORT. Accesses to the register pages that the gate does not guard. Statement O59. -/

namespace Sys2Proof.Machine

variable {s t u : State}

/-! ## Changes of register words alone -/

theorem OnlyWords.setWord (s : State) (a : Nat) (v : Word) : OnlyWords [a] s (s.setWord a v) :=
  ⟨rfl, fun _ hb => s.word_setWord_other _ _ _ (List.ne_of_not_mem_cons hb)⟩

theorem OnlyWords.put (s : State) (f : Fld) (i v : Nat) : OnlyWords [fldAt f i] s (s.put f i v) := .setWord _ _ _

theorem OnlyWords.cons {k : Nat} {ks : List Nat} (h : OnlyWords [k] s t) (h' : OnlyWords ks t u) : OnlyWords (k :: ks) s u := by
  obtain ⟨ht, hw⟩ := h
  obtain ⟨hu, hw'⟩ := h'
  refine ⟨by rw [hu, ht], fun a ha => ?_⟩
  rw [hw' a (List.not_mem_of_not_mem_cons ha), hw a (by simpa using List.ne_of_not_mem_cons ha)]

/-! ## Bits cleared in a word -/

theorem toNat_and_mask (w : Word) : w.toNat &&& 0xFFFFFFFF = w.toNat := by
  have h := Nat.and_two_pow_sub_one_eq_mod w.toNat 32
  rwa [Nat.mod_eq_of_lt w.isLt] at h

/-- Taking the bits of a mask away from a word clears them. -/
theorem toNat_sub_and (w : Word) (m : Nat) : w.toNat - (w.toNat &&& m) = (w &&& ~~~BitVec.ofNat 32 m).toNat := by
  have hm : (w &&& BitVec.ofNat 32 m).toNat = w.toNat &&& m := by
    rw [BitVec.toNat_and, BitVec.toNat_ofNat]
    apply Nat.eq_of_testBit_eq
    intro i
    rw [Nat.testBit_and, Nat.testBit_and, Nat.testBit_mod_two_pow]
    by_cases hi : i < 32
    · simp [hi]
    · simp [Nat.testBit_lt_two_pow (Nat.lt_of_lt_of_le w.isLt (Nat.pow_le_pow_right Nat.two_pos (Nat.le_of_not_lt hi)))]
  have hd : (w &&& BitVec.ofNat 32 m) &&& (w &&& ~~~BitVec.ofNat 32 m) = 0#32 := by
    ext i hi
    simp only [BitVec.getElem_and, BitVec.getElem_not, BitVec.getElem_zero]
    cases w[i] <;> cases (BitVec.ofNat 32 m)[i] <;> rfl
  have hs : (w &&& BitVec.ofNat 32 m) ||| (w &&& ~~~BitVec.ofNat 32 m) = w := by
    ext i hi
    simp only [BitVec.getElem_or, BitVec.getElem_and, BitVec.getElem_not]
    cases w[i] <;> cases (BitVec.ofNat 32 m)[i] <;> rfl
  have h := BitVec.toNat_add_of_and_eq_zero hd
  rw [BitVec.add_eq_or_of_and_eq_zero _ _ hd, hs, hm] at h
  omega

/-- Clearing bits in the frozen copies of a page changes nothing else. -/
theorem State.thaw_frame (s : State) (a m : Nat) : s.thaw a m = { s with frozen := (s.thaw a m).frozen } := by
  unfold State.thaw
  dsimp only
  split <;> rfl

theorem State.thaw_word (s : State) (a m b : Nat) : (s.thaw a m).word b = s.word b := by
  rw [s.thaw_frame]
  rfl

/-! ## Words as bytes -/

theorem ofLeBytes_leBytes (n x : Nat) : ofLeBytes (leBytes n x) = x % 256 ^ n := by
  induction n generalizing x with
  | zero => simp [leBytes, ofLeBytes, Nat.mod_one]
  | succ n ih => rw [leBytes, ofLeBytes, ih, BitVec.toNat_ofNat, show 256 ^ (n + 1) = 256 * 256 ^ n from Nat.pow_succ', Nat.mod_mul]

theorem length_leBytes (n x : Nat) : (leBytes n x).length = n := by
  induction n generalizing x with
  | zero => rfl
  | succ n ih => simp [leBytes, ih]

theorem length_wordBytes (l : List Nat) : (wordBytes l).length = 4 * l.length := by
  induction l with
  | nil => rfl
  | cons x l ih =>
    rw [wordBytes, List.flatMap_cons, List.length_append, length_leBytes, List.length_cons, ← wordBytes, ih]
    omega

/-- The words that bytes of words spell are those words, cut to 32 bits. -/
theorem leWords_wordBytes (l : List Nat) : leWords (wordBytes l) = l.map (· % 2 ^ 32) := by
  induction l with
  | nil => rfl
  | cons x l ih =>
    have h : ofLeBytes (leBytes 4 x) = x % 2 ^ 32 := ofLeBytes_leBytes 4 x
    rw [wordBytes, List.flatMap_cons, ← wordBytes]
    simp only [leBytes, List.cons_append, List.nil_append, leWords, List.map_cons, ih] at h ⊢
    rw [h]

/-! ## Counters and interrupt bits -/

theorem satInc_lt (w x n : Nat) : satInc w x n < 2 ^ w := by
  unfold satInc
  split
  · assumption
  · exact Nat.sub_lt (by positivity) Nat.one_pos

theorem State.get_count_same (s : State) (f : Fld) (i n : Nat) (h : f.hi < 32 := by decide) :
    (s.count f i n).get f i = satInc (fldWidth f) (s.get f i) n := by
  rw [State.count, s.get_put_same _ _ _ h, Nat.mod_eq_of_lt (satInc_lt _ _ _)]

/-! ## The effect of a write -/

/-- An access that breaks R531 counts in GLOBAL_BAD_ACCESS and sets its interrupt bit, and changes no other register word. -/
theorem State.badAccess_write (s : State) (p : Plane) :
    (s.badAccess p false).get Reg.GLOBAL_BAD_ACCESS = satInc 32 (s.get Reg.GLOBAL_BAD_ACCESS) 1 ∧
      (s.badAccess p false).get Reg.GLOBAL_IRQ_BAD_ACCESS = 1 ∧
      OnlyWords [fldAt Reg.GLOBAL_BAD_ACCESS 0, fldAt Reg.GLOBAL_IRQ_BAD_ACCESS 0] s (s.badAccess p false) := by
  have e : s.badAccess p false = (s.count Reg.GLOBAL_BAD_ACCESS).irq Reg.GLOBAL_IRQ_BAD_ACCESS := rfl
  rw [e]
  refine ⟨?_, State.get_put_same _ _ _ _, .cons (.put _ _ _ _) (.put _ _ _ _)⟩
  rw [State.irq, State.get_put_word _ _ _ _ _ _ (by decide), State.get_count_same s _ _ _]
  rfl

/-- A write of one whole word at an aligned address. -/
theorem regWrite_word (p : Plane) {off : Nat} (h : off % 4 = 0) (v : Word) (s : State) :
    State.regWrite p off (leBytes 4 v.toNat) s = State.writeWord p off v s := by
  have hw : leWords (leBytes 4 v.toNat) = [v.toNat] := by
    have h := leWords_wordBytes [v.toNat]
    rwa [List.map_singleton, Nat.mod_eq_of_lt v.isLt] at h
  unfold State.regWrite
  rw [if_neg (by simp [h, leBytes]), hw, State.writeWords, BitVec.ofNat_toNat, BitVec.setWidth_eq]
  rfl

/-- A word with no W1C field keeps its bits before the write takes effect. -/
theorem State.writeW1c_of_none (s : State) (p : Plane) {a : Nat} (v : Nat) (h10 : a % 4096 ≠ 0x10) (h : accMask a [.w1c] = 0) :
    s.writeW1c p a v = s := by
  unfold State.writeW1c
  simp [h10, h]

/-! ## Pages 0 to 3 -/

theorem low_page : ∀ page, page < 4 →
    (blockOf page).isSome = true ∧ gated page = false ∧ pageDomain page = 0 ∧ noFreeze page = false := by
  decide

theorem State.pageDark_of_domain (s : State) {page : Nat} (h : pageDomain page = 0) : s.pageDark page = false := by
  simp [State.pageDark, h]

theorem State.wakeFor_of_domain (s : State) {page : Nat} (h : pageDomain page = 0) : s.wakeFor page = s := by
  simp [State.wakeFor, h]

/-- A write of a word of pages 0 to 3, which have no power domain and whose writes do not pass the gate. -/
theorem writeWord_low (p : Plane) {page off : Nat} (hp : page < 4) (ho : off < 4096) (v : Word) (s : State) :
    State.writeWord p (4096 * page + off) v s =
      if off = 0x008 then (s.writeW1c p (4096 * page + off) v.toNat).writeCtrl p page v.toNat
      else if off = 0x014 then (s.writeW1c p (4096 * page + off) v.toNat).put Hdr.IRQ_EN page v.toNat
      else if off < 0x040 then s.writeW1c p (4096 * page + off) v.toNat
      else (s.writeW1c p (4096 * page + off) v.toNat).writePlain p (4096 * page + off) v := by
  obtain ⟨hb, hg, hd, -⟩ := low_page page hp
  have hpage : (4096 * page + off) / 4096 = page := by omega
  have hoff : (4096 * page + off) % 4096 = off := by omega
  have hhost : hostBarred (4096 * page + off) = false := by
    simp only [hostBarred, hpage]
    simp [show page ≠ 0x81 by omega, show page ≠ 0x89 by omega]
  have hdark : ¬((blockOf page).isNone || (decide (0xF00 ≤ page) && p == .host) || s.pageDark page) = true := by
    obtain ⟨b, hb⟩ := Option.isSome_iff_exists.1 hb
    simp [hb, s.pageDark_of_domain hd, show ¬0xF00 ≤ page by omega]
  unfold State.writeWord
  simp only [hpage, hoff, hhost, hg, s.wakeFor_of_domain hd]
  rw [if_neg (by omega), if_neg hdark, if_neg (show ¬page = 0xB9 by omega)]
  simp only [Bool.false_and, Bool.or_false, decide_eq_true_eq, Bool.false_eq_true, ↓reduceIte]
  split_ifs with h8 h14 h20 h40
  · rfl
  · rfl
  · rfl
  · omega
  · rfl
  · rfl

/-- A word written to PG_IRQ_STAT of a page below 4 clears the bits written as 1. -/
theorem write_irqStat (s : State) (p : Plane) {page : Nat} (hp : page < 4) (v : Word) :
    ∃ t : State, exec (.registerWrite p (4096 * page + 0x10) (leBytes 4 v.toNat)) s = .next t ∧
      t.word (4096 * page + 0x10) = s.word (4096 * page + 0x10) &&& ~~~v ∧
      OnlyWords [4096 * page + 0x10] { s with frozen := t.frozen } t := by
  refine ⟨s.writeW1c p (4096 * page + 0x10) v.toNat, ?_, ?_⟩
  · refine congrArg Host.Outcome.next ?_
    rw [regWrite_word p (by omega), writeWord_low p hp (by decide)]
    rfl
  · unfold State.writeW1c
    have ho : (4096 * page + 0x10) % 4096 = 0x10 := by omega
    have hpage : (4096 * page + 0x10) / 4096 = page := by omega
    simp only [ho, hpage, ↓reduceIte]
    split
    next h =>
      obtain h | h := h
      · have hv : v = 0#32 := BitVec.eq_of_toNat_eq h
        subst hv
        exact ⟨by rw [BitVec.not_zero, BitVec.and_allOnes], rfl, fun _ _ => rfl⟩
      · omega
    · rw [toNat_sub_and, BitVec.ofNat_toNat, BitVec.setWidth_eq, BitVec.ofNat_toNat, BitVec.setWidth_eq]
      refine ⟨by rw [State.thaw_word, State.word_setWord_same], ?_, fun b hb => ?_⟩
      · rw [State.thaw_frame]
        rfl
      · rw [State.thaw_word]
        exact State.word_setWord_other _ _ _ _ (List.ne_of_not_mem_cons hb)

/-- PG_IRQ_EN has no field that a write clears. -/
theorem accMask_irqEn : ∀ page, page < 4 → accMask (4096 * page + 0x14) [.w1c] = 0 := by decide

theorem State.word_put_whole (s : State) (f : Fld) (i : Nat) (v : Word) (hlo : f.lo = 0) (hhi : f.hi = 31) :
    (s.put f i v.toNat).word (fldAt f i) = v := by
  have h := s.get_put_same f i v.toNat (by omega)
  rw [State.get, hlo, hhi, fldWidth, hlo, hhi, bits] at h
  apply BitVec.eq_of_toNat_eq
  omega

theorem write_irqEn (s : State) (p : Plane) {page : Nat} (hp : page < 4) (v : Word) :
    ∃ t : State, exec (.registerWrite p (4096 * page + 0x14) (leBytes 4 v.toNat)) s = .next t ∧
      t.word (4096 * page + 0x14) = v ∧ OnlyWords [4096 * page + 0x14] s t := by
  have ha : fldAt Hdr.IRQ_EN page = 4096 * page + 0x14 := by simp [fldAt, Hdr.IRQ_EN]; omega
  refine ⟨s.put Hdr.IRQ_EN page v.toNat, ?_, ?_, ?_⟩
  · refine congrArg Host.Outcome.next ?_
    rw [regWrite_word p (by omega), writeWord_low p hp (by decide), s.writeW1c_of_none p _ (by omega) (accMask_irqEn page hp)]
    rfl
  · rw [← ha]
    exact s.word_put_whole _ _ _ rfl rfl
  · rw [← ha]
    exact .put _ _ _ _

/-- A write of a word whose 32 bits all take ordinary writes. -/
theorem State.writeRw_whole (s : State) (p : Plane) {a : Nat} (v : Word) (hm : accMask a [.rw, .rws] = 0xFFFFFFFF)
    (hset : accMask a [.w1s] = 0) (hk : viewKey p a = a) : s.writeRw p a v.toNat = s.setWord a v := by
  unfold State.writeRw
  rw [hm, hset, hk, if_neg (by decide)]
  dsimp only
  rw [toNat_and_mask, toNat_and_mask, Nat.sub_self, Nat.zero_or, Nat.and_zero, Nat.or_zero, BitVec.ofNat_toNat, BitVec.setWidth_eq]

/-! ## The global page, the mode page and the ring page -/

theorem write_scratch0 (s : State) (p : Plane) (v : Word) :
    ∃ t : State, exec (.registerWrite p (fldAt Reg.GLOBAL_SCRATCH0 0) (leBytes 4 v.toNat)) s = .next t ∧
      t.word (fldAt Reg.GLOBAL_SCRATCH0 0) = v ∧ OnlyWords [fldAt Reg.GLOBAL_SCRATCH0 0] s t := by
  have hk : viewKey p 0x5C = 0x5C := by cases p <;> decide
  refine ⟨s.setWord 0x5C v, ?_, s.word_setWord_same _ _, .setWord _ _ _⟩
  refine congrArg Host.Outcome.next ?_
  rw [show fldAt Reg.GLOBAL_SCRATCH0 0 = 4096 * 0 + 0x5C from rfl, regWrite_word p (by decide), writeWord_low p (by decide) (by decide),
    s.writeW1c_of_none p _ (by decide) (by decide)]
  exact s.writeRw_whole p v (by decide) (by decide) hk

theorem write_part (s : State) (p : Plane) (v : Word) :
    exec (.registerWrite p (fldAt Reg.GLOBAL_PART 0) (leBytes 4 v.toNat)) s = .next s := by
  refine congrArg Host.Outcome.next ?_
  rw [show fldAt Reg.GLOBAL_PART 0 = 4096 * 0 + 0x40 from rfl, regWrite_word p (by decide), writeWord_low p (by decide) (by decide),
    s.writeW1c_of_none p _ (by decide) (by decide)]
  show s.writeRw p 0x40 v.toNat = s
  unfold State.writeRw
  rw [show accMask 0x40 [.rw, .rws] = 0 by decide, show accMask 0x40 [.w1s] = 0 by decide]
  exact if_pos ⟨rfl, rfl⟩

/-- A write of HOLD to MODE_REQ. -/
theorem write_modeReq_hold (s : State) (p : Plane) :
    exec (.registerWrite p (fldAt Reg.MODE_SET_MODE 0) (leBytes 4 0x0D)) s = exec (.reqHold p) s := by
  have h := regWrite_word p (show fldAt Reg.MODE_SET_MODE 0 % 4 = 0 by decide) 0x0D#32 s
  refine congrArg Host.Outcome.next ?_
  rw [show 0x0D = (0x0D#32).toNat from rfl, h, show fldAt Reg.MODE_SET_MODE 0 = 4096 * 1 + 0x44 from rfl,
    writeWord_low p (by decide) (by decide), s.writeW1c_of_none p _ (by decide) (by decide)]
  rfl

/-- The registers of a ring that take writes while the ring is disabled (R552, R555). -/
def ringSized (a : Nat) : Bool :=
  [Reg.HOSTQ_RING_BASE_LO, Reg.HOSTQ_RING_BASE_HI, Reg.HOSTQ_RING_SLOTS, Reg.HOSTQ_CPL_BASE_LO, Reg.HOSTQ_CPL_BASE_HI,
    Reg.HOSTQ_CPL_SLOTS].any fun f => (fldIdx? f a).isSome

/-- A write of a register of the ring page that has no W1C bits. -/
theorem regWrite_ring (p : Plane) {off : Nat} (hal : off % 4 = 0) (ho : 0x40 ≤ off) (ho' : off < 4096)
    (h : accMask (4096 * 3 + off) [.w1c] = 0) (v : Word) (s : State) :
    State.regWrite p (4096 * 3 + off) (leBytes 4 v.toNat) s = s.writeHostq p (4096 * 3 + off) v := by
  have hpage : (4096 * 3 + off) / 4096 = 3 := by omega
  rw [regWrite_word p (by omega), writeWord_low p (by decide) ho', s.writeW1c_of_none p _ (by omega) h, if_neg (by omega),
    if_neg (by omega), if_neg (by omega), State.writePlain, hpage]
  rfl

/-- What the tables say of a ring's doorbell: it is no base or size, no enable, and the doorbell of that ring. -/
theorem ringDb_fields : ∀ q, q < 4 →
    accMask (4096 * 3 + (0x50 + 64 * q)) [.w1c] = 0 ∧ ringSized (4096 * 3 + (0x50 + 64 * q)) = false ∧
      fldIdx? Reg.HOSTQ_EN (4096 * 3 + (0x50 + 64 * q)) = none ∧ fldIdx? Reg.HOSTQ_RING_DB (4096 * 3 + (0x50 + 64 * q)) = some q := by
  decide

theorem fldAt_ringDb (q : Nat) (hq : q < 4) : fldAt Reg.HOSTQ_RING_DB q = 4096 * 3 + (0x50 + 64 * q) := by
  simp only [fldAt, Reg.HOSTQ_RING_DB]
  omega

theorem write_ringDb (s : State) (p : Plane) {q : Nat} (hq : q < 4) (v : Word) :
    exec (.registerWrite p (fldAt Reg.HOSTQ_RING_DB q) (leBytes 4 v.toNat)) s = exec (.hostqRingDb q v) s := by
  obtain ⟨hw1c, hsized, hen, hdb⟩ := ringDb_fields q hq
  have hgo : exec (.hostqRingDb q v) s = .next (s.goOn (execHostqRingDb q v s)) := by
    show execHostqRingDb q v s = _
    unfold execHostqRingDb
    split <;> rfl
  rw [hgo]
  refine congrArg Host.Outcome.next ?_
  rw [fldAt_ringDb q hq, regWrite_ring p (by omega) (by omega) (by omega) hw1c]
  unfold State.writeHostq
  rw [← ringSized, hsized]
  simp [onFld, hen, hdb, firstOf]

/-- What the tables say of the upper half of a ring's base: it belongs to the ring, and all its bits take ordinary writes. -/
theorem ringBaseHi_fields : ∀ q, q < 4 →
    accMask (4096 * 3 + (0x48 + 64 * q)) [.w1c] = 0 ∧ ringSized (4096 * 3 + (0x48 + 64 * q)) = true ∧
      accMask (4096 * 3 + (0x48 + 64 * q)) [.rw, .rws] = 0xFFFFFFFF ∧ accMask (4096 * 3 + (0x48 + 64 * q)) [.w1s] = 0 ∧
      viewKey .host (4096 * 3 + (0x48 + 64 * q)) = 4096 * 3 + (0x48 + 64 * q) ∧
      viewKey .mgmt (4096 * 3 + (0x48 + 64 * q)) = 4096 * 3 + (0x48 + 64 * q) := by
  decide

theorem fldAt_ringBaseHi (q : Nat) (hq : q < 4) : fldAt Reg.HOSTQ_RING_BASE_HI q = 4096 * 3 + (0x48 + 64 * q) := by
  simp only [fldAt, Reg.HOSTQ_RING_BASE_HI]
  omega

/-- A write of a ring's base while the ring is disabled, and while it is enabled. -/
theorem regWrite_ringBaseHi (s : State) (p : Plane) {q : Nat} (hq : q < 4) (v : Word) :
    State.regWrite p (fldAt Reg.HOSTQ_RING_BASE_HI q) (leBytes 4 v.toNat) s =
      if s.getB Reg.HOSTQ_EN q then s.pageErr hostqPage else s.setWord (fldAt Reg.HOSTQ_RING_BASE_HI q) v := by
  obtain ⟨hw1c, hsized, hrw, hset, hhost, hmgmt⟩ := ringBaseHi_fields q hq
  have hk : viewKey p (4096 * 3 + (0x48 + 64 * q)) = 4096 * 3 + (0x48 + 64 * q) := by
    cases p
    · exact hhost
    · exact hmgmt
  have hi : ((4096 * 3 + (0x48 + 64 * q)) % 4096 - 0x40) / 64 = q := by omega
  rw [fldAt_ringBaseHi q hq, regWrite_ring p (by omega) (by omega) (by omega) hw1c, ← s.writeRw_whole p v hrw hset hk]
  unfold State.writeHostq
  rw [← ringSized, hsized, hi]
  rfl

theorem write_ringBaseHi_disabled (s : State) (p : Plane) {q : Nat} (hq : q < 4) (v : Word) (h : s.getB Reg.HOSTQ_EN q = false) :
    ∃ t : State, exec (.registerWrite p (fldAt Reg.HOSTQ_RING_BASE_HI q) (leBytes 4 v.toNat)) s = .next t ∧
      t.word (fldAt Reg.HOSTQ_RING_BASE_HI q) = v ∧ OnlyWords [fldAt Reg.HOSTQ_RING_BASE_HI q] s t := by
  refine ⟨s.setWord (fldAt Reg.HOSTQ_RING_BASE_HI q) v, congrArg Host.Outcome.next ?_, s.word_setWord_same _ _, .setWord _ _ _⟩
  rw [regWrite_ringBaseHi s p hq, h]
  rfl

theorem write_ringBaseHi_enabled (s : State) (p : Plane) {q : Nat} (hq : q < 4) (v : Word) (h : s.getB Reg.HOSTQ_EN q = true) :
    ∃ t : State, exec (.registerWrite p (fldAt Reg.HOSTQ_RING_BASE_HI q) (leBytes 4 v.toNat)) s = .next t ∧
      t.get Hdr.ERR_CNT 3 = satInc 32 (s.get Hdr.ERR_CNT 3) 1 ∧ OnlyWords [fldAt Hdr.ERR_CNT 3] s t := by
  refine ⟨s.pageErr hostqPage, congrArg Host.Outcome.next ?_, s.get_count_same _ _ _, .put _ _ _ _⟩
  rw [regWrite_ringBaseHi s p hq, h]
  rfl

/-! ## A ring's REG_WRITE -/

theorem State.ringCmd_eq {q : Nat} {c : RingCmd} (hc : (s.hostRing q).cmd = some c) (hb : c.began = false) :
    s.ringCmd q c.op = some c := by
  unfold State.ringCmd
  rw [hc]
  simp [hb]

theorem RingCmd.a_lt (c : RingCmd) (i : Nat) : c.a i < 2 ^ 32 := BitVec.isLt _

/-- The arguments of a REG_WRITE within R548: an aligned offset and at least one word. -/
theorem RingCmd.argsOk_regWrite {c : RingCmd} (h : c.argsOk = true) (hop : c.op = 1) : c.a 0 % 4 = 0 ∧ 1 ≤ c.a 1 := by
  simp only [RingCmd.argsOk, hop, Nat.one_ne_zero, ↓reduceIte, Bool.and_eq_true, beq_iff_eq, decide_eq_true_eq] at h
  obtain ⟨-, ⟨⟨⟨⟨⟨-, hal⟩, hpos⟩, -⟩, -⟩, -⟩⟩ := h
  exact ⟨hal, hpos⟩

/-- A write of the bytes of words. -/
theorem regWrite_words (p : Plane) {off : Nat} {l : List Nat} (hoff : off % 4 = 0) (hl : l ≠ []) (hlt : ∀ x ∈ l, x < 2 ^ 32)
    (s : State) :
    State.regWrite p off (wordBytes l) s = State.writeWords p off l s := by
  have hm : l.map (· % 2 ^ 32) = l := by
    conv_rhs => rw [← List.map_id l]
    exact List.map_congr_left fun x hx => Nat.mod_eq_of_lt (hlt x hx)
  have hb : ¬(off % 4 ≠ 0 ∨ (wordBytes l).length % 4 ≠ 0 ∨ wordBytes l = []) := by
    rw [← List.length_eq_zero_iff, length_wordBytes]
    have := List.length_pos_of_ne_nil hl
    omega
  rw [State.regWrite, if_neg hb, leWords_wordBytes, hm]

theorem ringWrite_eq_registerWrite (s : State) {q : Nat} {c : RingCmd} (hc : (s.hostRing q).cmd = some c) (hop : c.op = 1)
    (hb : c.began = false) (ha : c.argsOk = true) :
    ∃ u : State, exec (.registerWrite .host (c.a 0) (wordBytes ((List.range (c.a 1)).map fun i => c.a (2 + i)))) (s.ringBegan q) =
        .next u ∧
      exec (.regWrite q) s = .next (u.ringEnd q 0 0 0) := by
  obtain ⟨hal, hpos⟩ := c.argsOk_regWrite ha hop
  have hcmd : s.ringCmd q 1 = some c := hop ▸ State.ringCmd_eq hc hb
  have hlt : ∀ x ∈ (List.range (c.a 1)).map fun i => c.a (2 + i), x < 2 ^ 32 := fun x hx => by
    obtain ⟨i, -, rfl⟩ := List.mem_map.1 hx
    exact c.a_lt _
  refine ⟨_, rfl, ?_⟩
  rw [regWrite_words .host hal (by simpa using by omega) hlt]
  show execRegWrite q s = _
  rw [execRegWrite, hcmd]
  rfl

/-- Settles O59: each write runs through the page's gate to the register it names. -/
theorem registerWrites : Obligations.RegisterWrites := by
  refine ⟨fun s p off data h => ?_, fun s p page v hp => ⟨write_irqStat s p hp v, write_irqEn s p hp v⟩,
    fun s p v => ⟨write_scratch0 s p v, write_part s p v, write_modeReq_hold s p⟩,
    fun s p q v hq => ⟨write_ringDb s p hq v, write_ringBaseHi_disabled s p hq v, write_ringBaseHi_enabled s p hq v⟩,
    fun s q c hc hop hb ha => ringWrite_eq_registerWrite s hc hop hb ha⟩
  exact ⟨s.badAccess p false, congrArg Host.Outcome.next (if_pos h), s.badAccess_write p⟩

end Sys2Proof.Machine
end

section
/-! SUPPORT. Soft resets, frozen pages and reads of the register pages. Statement O60. -/

namespace Sys2Proof.Machine

variable {s t u : State}

/-! ## Rounds that each leave something behind -/

/-- Each round of a range leaves `P` of its index, and no round undoes it. -/
theorem forRange_each {σ : Type} {P : Nat → σ → Prop} {f : Nat → σ → σ} (hf : ∀ i x, P i (f i x))
    (hk : ∀ i j x, P j x → P j (f i x)) (n lo : Nat) (x : σ) (j : Nat) (hj : lo ≤ j) (hj' : j < lo + n) :
    P j (forRange f lo n x) := by
  induction n generalizing lo x with
  | zero => omega
  | succ n ih =>
    obtain rfl | h := Nat.eq_or_lt_of_le hj
    · exact @forRange_keeps _ (P lo) _ (fun i x => hk i lo x) n (lo + 1) _ (hf lo x)
    · exact ih (lo + 1) _ h (by omega)

/-! ## Fields that stay 0 -/

theorem bits_and_of_zero {x hi lo : Nat} (h : bits x hi lo = 0) (y : Nat) : bits (x &&& y) hi lo = 0 := by
  apply Nat.eq_of_testBit_eq
  intro i
  have hi' : (bits x hi lo).testBit i = false := by rw [h, Nat.zero_testBit]
  rw [testBit_bits] at hi'
  rw [testBit_bits, Nat.testBit_and, ← Bool.and_assoc, hi', Bool.false_and, Nat.zero_testBit]

theorem bits_withBits_zero {x hi' lo' : Nat} (h : bits x hi' lo' = 0) (hi lo : Nat) : bits (withBits x hi lo 0) hi' lo' = 0 := by
  apply Nat.eq_of_testBit_eq
  intro i
  have hi' : (bits x hi' lo').testBit i = false := by rw [h, Nat.zero_testBit]
  rw [testBit_bits] at hi'
  rw [testBit_bits, testBit_withBits, Nat.zero_testBit, Nat.zero_testBit]
  split
  · exact Bool.and_false _
  · exact hi'

/-- Storing 0 in a field leaves a field that reads 0 at 0, wherever it stands. -/
theorem State.get_put_zero {g : Fld} {j : Nat} (h : s.get g j = 0) (f : Fld) (i : Nat) (hg : g.hi < 32 := by decide) :
    (s.put f i 0).get g j = 0 := by
  by_cases ha : fldAt g j = fldAt f i
  · rw [State.get, ha] at h
    simp only [State.get, State.put, ha, State.word_setWord_same, BitVec.toNat_ofNat, bits_mod_word _ _ _ hg]
    exact bits_withBits_zero h _ _
  · rw [s.get_put_word f g i j 0 ha, h]

/-! ## Clearing a page -/

/-- One round of the clearing of a page: the bits of a mask clear in a word and in its frozen copies. -/
def State.clearWord (s : State) (a m : Nat) : State :=
  (s.setWord a (BitVec.ofNat 32 ((s.word a).toNat - ((s.word a).toNat &&& m)))).thaw a m

theorem State.clearWord_frame (s : State) (a m : Nat) :
    s.clearWord a m = { s with regs := (s.clearWord a m).regs, frozen := (s.clearWord a m).frozen } := by
  unfold State.clearWord
  rw [State.thaw_frame]
  rfl

theorem State.clearWord_word (s : State) (a m b : Nat) :
    (s.clearWord a m).word b = if b = a then s.word a &&& ~~~BitVec.ofNat 32 m else s.word b := by
  unfold State.clearWord
  rw [State.thaw_word, toNat_sub_and, BitVec.ofNat_toNat, BitVec.setWidth_eq]
  split
  next h => rw [h, State.word_setWord_same]
  next h => exact s.word_setWord_other _ _ _ h

theorem State.clearPage_eq (s : State) (page : Nat) (w1c cnt : Bool) :
    s.clearPage page w1c cnt =
      forEach (fun a s => s.clearWord a (clearMask w1c cnt a)) (s.keysIn (4096 * page) (4096 * page + 4096)) s := rfl

theorem State.clearPage_frame (s : State) (page : Nat) (w1c cnt : Bool) :
    s.clearPage page w1c cnt =
      { s with regs := (s.clearPage page w1c cnt).regs, frozen := (s.clearPage page w1c cnt).frozen } := by
  have h : { s.clearPage page w1c cnt with regs := s.regs, frozen := s.frozen } = s := by
    rw [s.clearPage_eq]
    refine @forEach_keeps State Nat (fun x => { x with regs := s.regs, frozen := s.frozen } = s) _ (fun a x h => ?_) _ _ rfl
    rw [x.clearWord_frame]
    exact h
  exact congrArg (fun x => { x with regs := (s.clearPage page w1c cnt).regs, frozen := (s.clearPage page w1c cnt).frozen }) h

theorem State.clearPage_host (s : State) (page : Nat) (w1c cnt : Bool) : (s.clearPage page w1c cnt).host = s.host := by
  rw [s.clearPage_frame]

/-- A word of a list of words, after the bits of each word's mask have cleared. -/
theorem forEach_clearWord_word (m : Nat → Nat) (l : List Nat) (s : State) (b : Nat) :
    (forEach (fun a s => s.clearWord a (m a)) l s).word b =
      if b ∈ l then s.word b &&& ~~~BitVec.ofNat 32 (m b) else s.word b := by
  induction l generalizing s with
  | nil => rfl
  | cons a l ih =>
    rw [forEach, ih, s.clearWord_word]
    by_cases hba : b = a
    · subst hba
      simp only [↓reduceIte, List.mem_cons, true_or]
      split
      · rw [BitVec.and_assoc, BitVec.and_self]
      · rfl
    · simp [hba]

/-- A word of the page holds its bits outside the mask; one that was never written keeps its reset value. -/
theorem State.clearPage_word (s : State) (page : Nat) (w1c cnt : Bool) (b : Nat) :
    (s.clearPage page w1c cnt).word b =
      if b ∈ s.keysIn (4096 * page) (4096 * page + 4096) then s.word b &&& ~~~BitVec.ofNat 32 (clearMask w1c cnt b) else s.word b := by
  rw [s.clearPage_eq]
  exact forEach_clearWord_word _ _ _ _

theorem tget_of_not_mem {α : Type} (d : α) (l : Tbl α) (a : Nat) (h : a ∉ l.map (·.1)) : tget d l a = d := by
  induction l with
  | nil => rfl
  | cons p l ih =>
    exact (if_neg (List.ne_of_not_mem_cons h)).trans (ih (List.not_mem_of_not_mem_cons h))

/-- A word that the page does not list reads as its reset word. -/
theorem State.word_of_not_listed {lo hi b : Nat} (hb : lo ≤ b) (hb' : b < hi) (h : b ∉ s.keysIn lo hi) : s.word b = resetWord b := by
  refine tget_of_not_mem _ _ _ fun hm => h ?_
  obtain ⟨p, hp, rfl⟩ := List.mem_map.1 hm
  exact List.mem_map_of_mem (List.mem_filter.2 ⟨hp, by simp [hb, hb']⟩)

/-- A word of which no bit is masked keeps its value. -/
theorem State.clearPage_word_kept (s : State) (page : Nat) {w1c cnt : Bool} {b : Nat} (h : clearMask w1c cnt b = 0) :
    (s.clearPage page w1c cnt).word b = s.word b := by
  rw [s.clearPage_word, h, BitVec.not_zero, BitVec.and_allOnes, ite_self]

/-- A word of the page of which every bit is masked, and whose reset word is 0, is 0 afterwards. -/
theorem State.clearPage_word_zero (s : State) (page : Nat) {w1c cnt : Bool} {b : Nat} (hb : b / 4096 = page)
    (hm : clearMask w1c cnt b = 0xFFFFFFFF) (hr : resetWord b = 0) : (s.clearPage page w1c cnt).word b = 0 := by
  rw [s.clearPage_word, hm]
  split
  · exact BitVec.and_zero
  next h => rw [State.word_of_not_listed (by omega) (by omega) h, hr]

/-- A field that reads 0 still does. -/
theorem State.clearPage_get_zero {f : Fld} {i : Nat} (h : s.get f i = 0) (page : Nat) (w1c cnt : Bool) :
    (s.clearPage page w1c cnt).get f i = 0 := by
  rw [State.get, s.clearPage_word]
  split
  · rw [BitVec.toNat_and]
    exact bits_and_of_zero h _
  · exact h

/-! ## Soft resets -/

theorem softReset_low (s : State) (p : Plane) {page : Nat} (hp : page < 4) :
    exec (.softReset p page) s = .next (s.softReset page) := by
  obtain ⟨-, hg, hd, -⟩ := low_page page hp
  show execSoftReset p page s = _
  rw [execSoftReset, hg, State.softResetNow, hg, s.pageDark_of_domain hd, s.wakeFor_of_domain hd]
  simp [show ¬0xF00 ≤ page by omega]
  rfl

/-- What a soft reset of the ring page leaves in one ring. -/
def State.RingForgotten (q : Nat) (s : State) : Prop :=
  s.get Reg.HOSTQ_RING_EXPECT q = 0 ∧ s.get Reg.HOSTQ_CPL_WR q = 0 ∧ s.get Reg.HOSTQ_CPL_RD q = 0 ∧ (s.hostRing q).records = []

/-- One round of the soft reset of the ring page. -/
def State.ringForget (q : Nat) (s : State) : State :=
  (((s.put Reg.HOSTQ_RING_EXPECT q 0).put Reg.HOSTQ_CPL_WR q 0).put Reg.HOSTQ_CPL_RD q 0).setHostRing q fun r => { r with records := [] }

theorem State.hostqReset_of_idle (h : ∀ q, q < 4 → s.getB Reg.HOSTQ_EN q = false) :
    s.hostqReset = ((forRange State.ringForget 0 4 s).clearPage hostqPage true true).bumpEpoch hostqPage := by
  unfold State.hostqReset
  rw [if_neg (by simpa using h)]
  rfl

theorem State.hostqReset_of_enabled {q : Nat} (hq : q < 4) (h : s.getB Reg.HOSTQ_EN q = true) : s.hostqReset = s :=
  if_pos (List.any_eq_true.2 ⟨q, List.mem_range.2 hq, h⟩)

theorem State.hostRing_setHostRing (s : State) (q q' : Nat) (f : HostRing → HostRing) :
    (s.setHostRing q f).hostRing q' = if q' = q then f (s.hostRing q) else s.hostRing q' :=
  tget_tput _ _ _ _ _

theorem State.ringForget_self (q : Nat) (s : State) : State.RingForgotten q (s.ringForget q) := by
  have hexpect : (s.put Reg.HOSTQ_RING_EXPECT q 0).get Reg.HOSTQ_RING_EXPECT q = 0 := s.get_put_same _ _ _
  have hwr : ∀ s : State, (s.put Reg.HOSTQ_CPL_WR q 0).get Reg.HOSTQ_CPL_WR q = 0 := fun s => s.get_put_same _ _ _
  refine ⟨?_, State.get_put_zero (hwr _) _ _, State.get_put_same _ _ _ _, ?_⟩
  · exact State.get_put_zero (State.get_put_zero hexpect _ _) _ _
  · rw [State.ringForget, State.hostRing_setHostRing, if_pos rfl]

theorem State.ringForget_keeps (q q' : Nat) (s : State) (h : State.RingForgotten q' s) : State.RingForgotten q' (s.ringForget q) := by
  obtain ⟨hexpect, hwr, hrd, hrec⟩ := h
  have hput : ∀ g j, g.hi < 32 → s.get g j = 0 → (s.ringForget q).get g j = 0 := fun g j hg h =>
    State.get_put_zero (State.get_put_zero (State.get_put_zero h _ _ hg) _ _ hg) _ _ hg
  refine ⟨hput _ _ (by decide) hexpect, hput _ _ (by decide) hwr, hput _ _ (by decide) hrd, ?_⟩
  rw [State.ringForget, State.hostRing_setHostRing]
  split
  · rfl
  · exact hrec

/-- A round touches no word below the rings' indices. -/
theorem State.ringForget_word (q : Nat) (s : State) {b : Nat} (hb : b < 0x3054) : (s.ringForget q).word b = s.word b := by
  have hexpect : b ≠ fldAt Reg.HOSTQ_RING_EXPECT q := by simp only [fldAt, Reg.HOSTQ_RING_EXPECT]; omega
  have hwr : b ≠ fldAt Reg.HOSTQ_CPL_WR q := by simp only [fldAt, Reg.HOSTQ_CPL_WR]; omega
  have hrd : b ≠ fldAt Reg.HOSTQ_CPL_RD q := by simp only [fldAt, Reg.HOSTQ_CPL_RD]; omega
  show (((s.put Reg.HOSTQ_RING_EXPECT q 0).put Reg.HOSTQ_CPL_WR q 0).put Reg.HOSTQ_CPL_RD q 0).word b = s.word b
  rw [State.word_put_other _ _ _ _ _ hrd, State.word_put_other _ _ _ _ _ hwr, State.word_put_other _ _ _ _ _ hexpect]

theorem State.ringForget_frame (q : Nat) (s : State) :
    s.ringForget q = { s with regs := (s.ringForget q).regs, host := (s.ringForget q).host } := rfl

theorem forRange_ringForget_frame (n lo : Nat) (s : State) :
    forRange State.ringForget lo n s =
      { s with regs := (forRange State.ringForget lo n s).regs, host := (forRange State.ringForget lo n s).host } := by
  have h : { forRange State.ringForget lo n s with regs := s.regs, host := s.host } = s := by
    refine @forRange_keeps State (fun x => { x with regs := s.regs, host := s.host } = s) _ (fun q x h => ?_) _ _ _ rfl
    rw [x.ringForget_frame]
    exact h
  exact congrArg (fun x => { x with regs := (forRange State.ringForget lo n s).regs, host := (forRange State.ringForget lo n s).host }) h

/-- An epoch moves on by one, and from its last value to 1. -/
theorem State.epoch_bumpEpoch (s : State) (page : Nat) :
    (s.bumpEpoch page).epoch page = if s.epoch page + 1 < 2 ^ 32 then s.epoch page + 1 else 1 := by
  rw [State.epoch, State.bumpEpoch, State.get_put_same _ _ _ _]
  refine Nat.mod_eq_of_lt ?_
  show (if s.epoch page + 1 < 2 ^ 32 then s.epoch page + 1 else 1) < 2 ^ 32
  split
  · assumption
  · decide

theorem State.get_bumpEpoch (s : State) {page : Nat} {f : Fld} {i : Nat} (h : fldAt f i ≠ fldAt Hdr.EPOCH (unitPage page)) :
    (s.bumpEpoch page).get f i = s.get f i :=
  s.get_put_word _ _ _ _ _ h

/-- What the soft reset of the ring page masks: all of a ring's count of commands, and nothing of the epoch. -/
theorem clearMask_hostq :
    clearMask true true 0x3024 = 0 ∧ ∀ q, q < 4 →
      clearMask true true (fldAt Reg.HOSTQ_RING_DONE_CNT q) = 0xFFFFFFFF ∧ resetWord (fldAt Reg.HOSTQ_RING_DONE_CNT q) = 0 := by
  decide

theorem softReset_hostq (s : State) (p : Plane) (h : ∀ q, q < 4 → s.getB Reg.HOSTQ_EN q = false) :
    ∃ t : State, exec (.softReset p 3) s = .next t ∧
      (∀ q, q < 4 → t.get Reg.HOSTQ_RING_EXPECT q = 0 ∧ t.get Reg.HOSTQ_CPL_WR q = 0 ∧ t.get Reg.HOSTQ_CPL_RD q = 0 ∧
        (t.hostRing q).records = [] ∧ t.get Reg.HOSTQ_RING_DONE_CNT q = 0) ∧
      t.epoch 3 = (if s.epoch 3 + 1 < 2 ^ 32 then s.epoch 3 + 1 else 1) ∧
      t = { s with regs := t.regs, host := t.host, frozen := t.frozen } := by
  have he : exec (.softReset p 3) s = .next s.hostqReset := by rw [softReset_low s p (by decide)]; rfl
  rw [State.hostqReset_of_idle h] at he
  obtain ⟨hepoch, hcnt⟩ := clearMask_hostq
  have hfld : fldAt Hdr.EPOCH (unitPage hostqPage) = 0x3024 := rfl
  refine ⟨_, he, fun q hq => ?_, ?_, ?_⟩
  · obtain ⟨hexpect, hwr, hrd, hrec⟩ := forRange_each State.ringForget_self State.ringForget_keeps 4 0 s q (Nat.zero_le q) (by omega)
    obtain ⟨hmask, hreset⟩ := hcnt q hq
    have hne : ∀ f : Fld, 0x3054 ≤ f.addr → fldAt f q ≠ fldAt Hdr.EPOCH (unitPage hostqPage) := fun f hf => by
      rw [hfld, fldAt]
      omega
    refine ⟨?_, ?_, ?_, ?_, ?_⟩
    · rw [State.get_bumpEpoch _ (hne _ (by decide)), State.clearPage_get_zero hexpect]
    · rw [State.get_bumpEpoch _ (hne _ (by decide)), State.clearPage_get_zero hwr]
    · rw [State.get_bumpEpoch _ (hne _ (by decide)), State.clearPage_get_zero hrd]
    · rw [State.hostRing, State.bumpEpoch, State.put_host, State.clearPage_host]
      exact hrec
    · rw [State.get_bumpEpoch _ (hne _ (by decide)), State.get,
        State.clearPage_word_zero _ hostqPage (by simp [fldAt, Reg.HOSTQ_RING_DONE_CNT, hostqPage]; omega) hmask hreset]
      rfl
  · have hw : ((forRange State.ringForget 0 4 s).clearPage hostqPage true true).epoch hostqPage = s.epoch hostqPage := by
      have h0 : (forRange State.ringForget 0 4 s).word 0x3024 = s.word 0x3024 :=
        @forRange_keeps State (fun x => x.word 0x3024 = s.word 0x3024) _
          (fun q x hx => (x.ringForget_word q (by decide)).trans hx) _ _ _ rfl
      rw [State.epoch, State.get, hfld, State.clearPage_word_kept _ _ hepoch, h0, ← hfld]
      rfl
    refine (State.epoch_bumpEpoch _ hostqPage).trans ?_
    rw [hw]
    rfl
  · rw [State.bumpEpoch_frame, State.clearPage_frame, forRange_ringForget_frame]

theorem softReset_hostq_enabled (s : State) (p : Plane) {q : Nat} (hq : q < 4) (h : s.getB Reg.HOSTQ_EN q = true) :
    exec (.softReset p 3) s = .next s := by
  have he : exec (.softReset p 3) s = .next s.hostqReset := by rw [softReset_low s p (by decide)]; rfl
  rw [he, State.hostqReset_of_enabled hq h]

theorem softReset_mode (s : State) (p : Plane) : exec (.softReset p 1) s = .next s := by
  rw [softReset_low s p (by decide)]
  rfl

/-- What the soft reset of the global page masks: its counter and its interrupt bits, and neither the scratch registers nor the epoch. -/
theorem clearMask_global :
    (clearMask true true (fldAt Reg.GLOBAL_BAD_ACCESS 0) = 0xFFFFFFFF ∧ resetWord (fldAt Reg.GLOBAL_BAD_ACCESS 0) = 0) ∧
    (clearMask true true (fldAt Reg.GLOBAL_IRQ_BAD_ACCESS 0) = 0xFFFFFFFF ∧ resetWord (fldAt Reg.GLOBAL_IRQ_BAD_ACCESS 0) = 0) ∧
    clearMask true true (fldAt Hdr.EPOCH 0) = 0 ∧ clearMask true true (fldAt Reg.GLOBAL_SCRATCH0 0) = 0 ∧
    clearMask true true (fldAt Reg.GLOBAL_SCRATCH1 0) = 0 := by
  decide

theorem softReset_global (s : State) (p : Plane) :
    ∃ t : State, exec (.softReset p 0) s = .next t ∧ t.get Reg.GLOBAL_BAD_ACCESS = 0 ∧
      t.get Reg.GLOBAL_IRQ_BAD_ACCESS = 0 ∧ t.get Reg.GLOBAL_SCRATCH0 = s.get Reg.GLOBAL_SCRATCH0 ∧
      t.get Reg.GLOBAL_SCRATCH1 = s.get Reg.GLOBAL_SCRATCH1 ∧ t.epoch 0 = (if s.epoch 0 + 1 < 2 ^ 32 then s.epoch 0 + 1 else 1) ∧
      t = { s with regs := t.regs, frozen := t.frozen } := by
  have he : exec (.softReset p 0) s = .next ((s.bumpEpoch 0).clearPage 0 true true) := by rw [softReset_low s p (by decide)]; rfl
  obtain ⟨⟨hbad, hbad0⟩, ⟨hirq, hirq0⟩, hepoch, hscr0, hscr1⟩ := clearMask_global
  have hkept : ∀ f : Fld, clearMask true true (fldAt f 0) = 0 →
      ((s.bumpEpoch 0).clearPage 0 true true).get f 0 = (s.bumpEpoch 0).get f 0 := fun f hm => by
    rw [State.get, State.clearPage_word_kept _ 0 hm, ← State.get]
  refine ⟨_, he, ?_, ?_, ?_, ?_, ?_, ?_⟩
  · rw [State.get, State.clearPage_word_zero _ 0 rfl hbad hbad0]
    rfl
  · rw [State.get, State.clearPage_word_zero _ 0 rfl hirq hirq0]
    rfl
  · rw [hkept _ hscr0, State.get_bumpEpoch _ (by decide)]
  · rw [hkept _ hscr1, State.get_bumpEpoch _ (by decide)]
  · exact (hkept Hdr.EPOCH hepoch).trans (s.epoch_bumpEpoch 0)
  · rw [State.clearPage_frame, State.bumpEpoch_frame]

/-! ## Frozen pages -/

theorem tget_append_left {α : Type} (d : α) (l l' : Tbl α) (k : Nat) (h : k ∉ l'.map (·.1)) : tget d (l ++ l') k = tget d l k := by
  induction l with
  | nil => exact tget_of_not_mem d l' k h
  | cons p l ih =>
    show (if k = p.1 then p.2 else tget d (l ++ l') k) = if k = p.1 then p.2 else tget d l k
    rw [ih]

theorem tget_append_right {α : Type} (d : α) (l l' : Tbl α) (k : Nat) (h : k ∉ l.map (·.1)) : tget d (l ++ l') k = tget d l' k := by
  induction l with
  | nil => rfl
  | cons p l ih => exact (if_neg (List.ne_of_not_mem_cons h)).trans (ih (List.not_mem_of_not_mem_cons h))

/-- The entry that a page keeps of one word as it freezes: none where the word's shown bits are 0. -/
def State.frozenEntry (s : State) (p : Plane) (a : Nat) : Tbl Word :=
  if s.nowWord p a &&& frozenMask a = 0 then [] else [(planeKey p a, BitVec.ofNat 32 (s.nowWord p a &&& frozenMask a))]

/-- The words of a page as one plane sees them, as they are kept while the page is frozen. -/
def State.frozenPart (s : State) (page : Nat) (p : Plane) : Tbl Word :=
  ((List.range 1024).map fun k => 4096 * page + 4 * k).flatMap (s.frozenEntry p)

theorem State.tget_frozenEntry (s : State) (p : Plane) (a : Nat) :
    tget 0 (s.frozenEntry p a) (planeKey p a) = BitVec.ofNat 32 (s.nowWord p a &&& frozenMask a) := by
  unfold State.frozenEntry
  split
  next h => rw [h]; rfl
  · exact if_pos rfl

theorem State.mem_frozenEntry {p : Plane} {a k : Nat} (h : k ∈ (s.frozenEntry p a).map (·.1)) : k = planeKey p a := by
  unfold State.frozenEntry at h
  split at h
  · cases h
  · simpa using h

theorem planeKey_inj {p p' : Plane} {a b : Nat} (ha : a < 0x1000000) (hb : b < 0x1000000) (h : planeKey p a = planeKey p' b) :
    p = p' ∧ a = b := by
  cases p <;> cases p' <;> simp only [planeKey] at h
  · exact ⟨rfl, by omega⟩
  · omega
  · omega
  · exact ⟨rfl, by omega⟩

/-- Of a page that freezes, the kept part of one plane holds each of its words' shown bits. -/
theorem State.tget_frozenPart (s : State) (p : Plane) {page k : Nat} (hp : page < 0x1000) (hk : k < 1024) :
    tget 0 (s.frozenPart page p) (planeKey p (4096 * page + 4 * k)) =
      BitVec.ofNat 32 (s.nowWord p (4096 * page + 4 * k) &&& frozenMask (4096 * page + 4 * k)) := by
  have key : ∀ n, n ≤ 1024 → k < n →
      tget 0 (((List.range n).map fun k => 4096 * page + 4 * k).flatMap (s.frozenEntry p)) (planeKey p (4096 * page + 4 * k)) =
        BitVec.ofNat 32 (s.nowWord p (4096 * page + 4 * k) &&& frozenMask (4096 * page + 4 * k)) := by
    intro n hn hkn
    induction n with
    | zero => omega
    | succ n ih =>
      rw [List.range_succ, List.map_append, List.flatMap_append, List.map_singleton, List.flatMap_singleton]
      obtain hlt | rfl := Nat.lt_succ_iff_lt_or_eq.1 hkn
      · rw [tget_append_left _ _ _ _ fun h => ?_]
        · exact ih (by omega) hlt
        · have := (planeKey_inj (by omega) (by omega) (State.mem_frozenEntry h)).2
          omega
      · rw [tget_append_right _ _ _ _ fun h => ?_]
        · exact s.tget_frozenEntry p _
        · obtain ⟨e, he, hke⟩ := List.mem_map.1 h
          obtain ⟨a, ha, hea⟩ := List.mem_flatMap.1 he
          obtain ⟨j, hj, rfl⟩ := List.mem_map.1 ha
          have hj := List.mem_range.1 hj
          have := (planeKey_inj (by omega) (by omega) (hke ▸ State.mem_frozenEntry (List.mem_map_of_mem hea))).2
          omega
  exact key 1024 (Nat.le_refl _) hk

/-- The state of a page's frozen copies after FREEZE takes a value: kept where the page is frozen already. -/
def State.freezeCopies (s : State) (page : Nat) (on : Bool) : State :=
  if on && s.getB Hdr.FREEZE page then s
  else { s with frozen := tput [] s.frozen page (if on then s.frozenPart page .host ++ s.frozenPart page .mgmt else []) }

theorem State.freezePage_low (s : State) {page : Nat} (hp : page < 4) (on : Bool) :
    s.freezePage page on = (s.freezeCopies page on).putB Hdr.FREEZE page on := by
  obtain ⟨hb, -, -, hn⟩ := low_page page hp
  rw [State.freezePage, hn, Option.isNone_eq_false_iff.2 hb]
  cases on
  · simp only [State.freezeCopies, Bool.false_and, Bool.false_eq_true, ↓reduceIte]
  · simp only [Bool.false_eq_true, ↓reduceIte, List.flatMap_cons, List.flatMap_nil, List.append_nil]
    rfl

theorem accMask_ctrl : ∀ page, page < 4 → accMask (4096 * page + 8) [.w1c] = 0 := by decide

theorem freeze_low (s : State) (p : Plane) {page : Nat} (hp : page < 4) (on : Bool) :
    exec (.freeze p page on) s = .next ((s.freezeCopies page on).putB Hdr.FREEZE page on) := by
  obtain ⟨-, hg, -, -⟩ := low_page page hp
  have hctrl : bit (BitVec.ofNat 32 (4 * on.toNat)).toNat 2 = on ∧ bit (BitVec.ofNat 32 (4 * on.toNat)).toNat 1 = false := by
    cases on <;> decide
  refine congrArg Host.Outcome.next ?_
  rw [writeWord_low p hp (by decide), s.writeW1c_of_none p _ (by omega) (accMask_ctrl page hp), if_pos rfl, State.writeCtrl, hg,
    hctrl.1, hctrl.2, s.freezePage_low hp]
  rfl

/-- What the tables say of PG_ERR_CNT: no plane has a copy of it, nothing in it is hidden, and freezing shows it as it stood. -/
theorem errCnt_fields : ∀ page, page < 4 →
    viewKey .host (4096 * page + 0x18) = 4096 * page + 0x18 ∧ viewKey .mgmt (4096 * page + 0x18) = 4096 * page + 0x18 ∧
      hiddenMask (4096 * page + 0x18) = 0 ∧ frozenMask (4096 * page + 0x18) = 0xFFFFFFFF ∧
      atWordOf Reg.GLOBAL_UPTIME 0 (4096 * page + 0x18) = false ∧ fldIdx? Reg.INTC_PEND (4096 * page + 0x18) = none := by
  decide

theorem State.nowWord_errCnt (s : State) (p : Plane) {page : Nat} (hp : page < 4) :
    s.nowWord p (4096 * page + 0x18) = (s.word (4096 * page + 0x18)).toNat := by
  obtain ⟨hhost, hmgmt, hhide, -, hup, hpend⟩ := errCnt_fields page hp
  have hk : viewKey p (4096 * page + 0x18) = 4096 * page + 0x18 := by
    cases p
    · exact hhost
    · exact hmgmt
  have hl : s.liveWord (4096 * page + 0x18) = none := by
    unfold State.liveWord
    simp [show (4096 * page + 0x18) % 4096 = 0x18 by omega, show (4096 * page + 0x18) / 4096 = page by omega, hup, hpend,
      show page < 16 by omega]
  rw [State.nowWord, hl, hk, hhide, Nat.and_zero, Nat.sub_zero]

/-- A page's error count as a plane reads it: its word, or while the page is frozen the copy kept. -/
theorem State.readWord_errCnt (s : State) (p : Plane) {page : Nat} (hp : page < 4) :
    s.readWord p (4096 * page + 0x18) =
      (if s.getB Hdr.FREEZE page then tget 0 (tget [] s.frozen page) (planeKey p (4096 * page + 0x18))
        else s.word (4096 * page + 0x18)).toNat := by
  obtain ⟨hb, -, hd, hn⟩ := low_page page hp
  obtain ⟨-, -, -, hmask, -⟩ := errCnt_fields page hp
  unfold State.readWord
  simp only [show (4096 * page + 0x18) / 4096 = page by omega, s.pageDark_of_domain hd, s.nowWord_errCnt p hp, State.isFrozen, hb, hn,
    hmask, toNat_and_mask, Bool.true_and, Bool.not_false, Bool.and_true, Nat.sub_self, Nat.zero_or]
  rw [if_neg (by omega)]
  cases s.getB Hdr.FREEZE page <;> rfl

theorem State.planeKey_of_mem_frozenPart {p : Plane} {page k : Nat} (h : k ∈ (s.frozenPart page p).map (·.1)) :
    ∃ j < 1024, k = planeKey p (4096 * page + 4 * j) := by
  obtain ⟨e, he, rfl⟩ := List.mem_map.1 h
  obtain ⟨a, ha, hea⟩ := List.mem_flatMap.1 he
  obtain ⟨j, hj, rfl⟩ := List.mem_map.1 ha
  exact ⟨j, List.mem_range.1 hj, State.mem_frozenEntry (List.mem_map_of_mem hea)⟩

/-- The kept part of the other plane has no entry for a plane's word. -/
theorem State.not_mem_frozenPart {p p' : Plane} {page k : Nat} (hp : page < 4) (hk : k < 1024) (hne : p ≠ p') :
    planeKey p (4096 * page + 4 * k) ∉ (s.frozenPart page p').map (·.1) := fun h => by
  obtain ⟨j, hj, e⟩ := State.planeKey_of_mem_frozenPart h
  exact hne (planeKey_inj (by omega) (by omega) e).1

/-- The copies of a page that has taken FREEZE show the error count as it was shown before. -/
theorem State.frozen_errCnt (s : State) (p : Plane) {page : Nat} (hp : page < 4) :
    (tget 0 (tget [] (s.freezeCopies page true).frozen page) (planeKey p (4096 * page + 0x18))).toNat =
      s.readWord p (4096 * page + 0x18) := by
  rw [s.readWord_errCnt p hp, State.freezeCopies, Bool.true_and]
  split
  · rfl
  · obtain ⟨-, -, -, hmask, -⟩ := errCnt_fields page hp
    have hpart := s.tget_frozenPart p (show page < 0x1000 by omega) (show 6 < 1024 by decide)
    rw [show 4096 * page + 4 * 6 = 4096 * page + 0x18 from rfl, s.nowWord_errCnt p hp, hmask, toNat_and_mask, BitVec.ofNat_toNat,
      BitVec.setWidth_eq] at hpart
    simp only [↓reduceIte, tget_tput_same]
    refine congrArg BitVec.toNat (Eq.trans ?_ hpart)
    cases p
    · exact tget_append_left _ _ _ _ (State.not_mem_frozenPart hp (by decide : 6 < 1024) (by decide))
    · exact tget_append_right _ _ _ _ (State.not_mem_frozenPart hp (by decide : 6 < 1024) (by decide))

/-- A frozen page shows its error count as it stood when it froze, whatever is counted. -/
theorem freeze_errCnt (s : State) (p : Plane) {page : Nat} (hp : page < 4) (n : Nat) :
    (((s.freezeCopies page true).putB Hdr.FREEZE page true).pageErr page n).readWord p (4096 * page + 0x18) =
      s.readWord p (4096 * page + 0x18) := by
  have hF : (((s.freezeCopies page true).putB Hdr.FREEZE page true).pageErr page n).getB Hdr.FREEZE page = true := by
    rw [State.getB, State.pageErr, State.count, State.get_put_word, State.putB, State.get_put_same _ _ _ _]
    · rfl
    · simp only [fldAt, Hdr.FREEZE, Hdr.ERR_CNT]
      omega
  rw [State.readWord_errCnt _ p hp, hF, ← s.frozen_errCnt p hp]
  rfl

theorem freeze_shows (s : State) (p : Plane) {page : Nat} (hp : page < 4) (on : Bool) :
    ∃ t : State, exec (.freeze p page on) s = .next t ∧ t.getB Hdr.FREEZE page = on ∧
      OnlyWords [fldAt Hdr.FREEZE page] { s with frozen := t.frozen } t ∧
      (on = true → ∀ n, (t.pageErr page n).readWord p (fldAt Hdr.ERR_CNT page) = s.readWord p (fldAt Hdr.ERR_CNT page)) := by
  refine ⟨_, freeze_low s p hp on, ?_, ?_, ?_⟩
  · rw [State.getB, State.putB, State.get_put_same _ _ _ _]
    cases on <;> rfl
  · have h : s.freezeCopies page on = { s with frozen := (s.freezeCopies page on).frozen } := by
      unfold State.freezeCopies
      split <;> rfl
    rw [State.putB, State.put_frozen, ← h]
    exact .put _ _ _ _
  · rintro rfl n
    rw [show fldAt Hdr.ERR_CNT page = 4096 * page + 0x18 by simp only [fldAt, Hdr.ERR_CNT]; omega]
    exact freeze_errCnt s p hp n

/-! ## Reads -/

theorem rcRead_unaligned (s : State) (p : Plane) {off n : Nat} (h : off % 4 ≠ 0 ∨ n % 4 ≠ 0 ∨ n = 0) :
    ∃ t : State, exec (.rcRead p off n) s = .next t ∧
      (p = .host → t.host.readHost = [] ∧ t.host.abortHost = true) ∧
      (p = .mgmt → t.host.readMgmt = [] ∧ t.host.abortMgmt = true) ∧
      t.get Reg.GLOBAL_BAD_ACCESS = satInc 32 (s.get Reg.GLOBAL_BAD_ACCESS) 1 ∧
      OnlyWords [fldAt Reg.GLOBAL_BAD_ACCESS 0, fldAt Reg.GLOBAL_IRQ_BAD_ACCESS 0] { s with host := t.host } t := by
  obtain ⟨hcnt, -, hwords⟩ := s.badAccess_write p
  obtain ⟨hframe, hword⟩ := hwords
  refine ⟨s.badAccess p true, congrArg Host.Outcome.next (if_pos h), ?_, ?_, hcnt, rfl, hword⟩
  · rintro rfl
    exact ⟨rfl, rfl⟩
  · rintro rfl
    exact ⟨rfl, rfl⟩

/-- A word whose read latches nothing and shows nothing from outside the machine. -/
def plainRead (a : Nat) : Prop :=
  fldIdx? Reg.TIME_SEC_LO a = none ∧ fldIdx? Reg.CAL_YEAR a = none ∧ fldIdx? Reg.EPH_NEXT_SEC_LO a = none ∧
    fldIdx? Reg.CVU_RESULT_LO a = none ∧ fldIdx? Reg.LANE_ERR_LO a = none ∧ fldIdx? Reg.MARCH_FIFO_VALID a = none ∧
    a ≠ fldAt Reg.DRAM_UTIL 0

theorem State.readOne_plain (s : State) (p : Plane) {a : Nat} (h : plainRead a) (hd : pageDomain (a / 4096) = 0) :
    s.readOne p a = (s.readWord p a, if 0xF00 ≤ a / 4096 ∧ p = .host then s else s.clearRc a) := by
  obtain ⟨htime, hcal, heph, hcvu, hlane, hmarch, hutil⟩ := h
  have hu : s.utilShown a = s := if_neg fun h => hutil h.1
  unfold State.readOne
  simp [s.pageDark_of_domain hd, s.wakeFor_of_domain hd, onFld, htime, hcal, heph, hcvu, hlane, hmarch, hu]

/-- A read of one whole word. -/
theorem rcRead_word (s : State) (p : Plane) {a : Nat} (h : a % 4 = 0) :
    exec (.rcRead p a 4) s = .next ((s.readOne p a).2.setReads p [(s.readOne p a).1]) := by
  show execRcRead p a 4 s = _
  rw [execRcRead, State.regRead, if_neg (by omega)]
  rfl

/-- A word of the register tables that holds one RC field of 16 bits, which clears to 0, and nothing that only controls. -/
structure RcWord (f : Fld) : Prop where
  bits : f.hi = 15 ∧ f.lo = 0 ∧ f.rst = 0
  rc : (fieldsAt (fldAt f 0)).filter (·.acc == .rc) = [f]
  hidden : hiddenMask (fldAt f 0) = 0
  shared : viewKey .host (fldAt f 0) = fldAt f 0 ∧ viewKey .mgmt (fldAt f 0) = fldAt f 0
  live : ∀ s : State, s.liveWord (fldAt f 0) = none
  plain : plainRead (fldAt f 0)
  home : pageDomain (fldAt f 0 / 4096) = 0 ∧ fldAt f 0 / 4096 < 0xF00 ∧ fldAt f 0 % 4 = 0 ∧
    fldAt Hdr.FREEZE (fldAt f 0 / 4096) ≠ fldAt f 0

theorem rcWord_wakeMax : RcWord Reg.PWR_WAKE_MAX where
  bits := by decide
  rc := by decide
  hidden := by decide
  shared := by decide
  live := fun _ => rfl
  plain := by unfold plainRead; decide
  home := by decide

theorem rcWord_tjMax : RcWord Reg.THERM_TJ_MAX where
  bits := by decide
  rc := by decide
  hidden := by decide
  shared := by decide
  live := fun _ => rfl
  plain := by unfold plainRead; decide
  home := by decide

section
variable {f : Fld} (hf : RcWord f) (hs : s.getB Hdr.FREEZE (fldAt f 0 / 4096) = false)
include hf hs

theorem RcWord.readWord (p : Plane) : s.readWord p (fldAt f 0) = (s.word (fldAt f 0)).toNat := by
  obtain ⟨hd, hlow, -, -⟩ := hf.home
  have hk : viewKey p (fldAt f 0) = fldAt f 0 := by
    cases p
    · exact hf.shared.1
    · exact hf.shared.2
  have hnow : s.nowWord p (fldAt f 0) = (s.word (fldAt f 0)).toNat := by
    rw [State.nowWord, hf.live s, hk, hf.hidden, Nat.and_zero, Nat.sub_zero]
  unfold State.readWord
  simp only [s.pageDark_of_domain hd, hnow, State.isFrozen, hs]
  rw [if_neg (by omega)]
  simp

/-- Reading the word clears its RC field and touches no other word. -/
theorem RcWord.clearRc : (s.clearRc (fldAt f 0)).get f = 0 ∧ OnlyWords [fldAt f 0] s (s.clearRc (fldAt f 0)) := by
  obtain ⟨hhi, hlo, hrst⟩ := hf.bits
  obtain ⟨-, -, -, hctrl⟩ := hf.home
  have hmask : fldMask f = 2 ^ 16 - 1 := by
    rw [fldMask, fldWidth, hhi, hlo]
    rfl
  have hthaw : ∀ v m, (s.setWord (fldAt f 0) v).thaw (fldAt f 0) m = s.setWord (fldAt f 0) v := fun v m => by
    have hF : (s.setWord (fldAt f 0) v).getB Hdr.FREEZE (fldAt f 0 / 4096) = false := by
      rw [State.getB, State.get, State.word_setWord_other _ _ _ _ hctrl]
      exact hs
    rw [State.thaw, State.isFrozen, hF]
    simp
  have he : s.clearRc (fldAt f 0) =
      s.setWord (fldAt f 0) (BitVec.ofNat 32 ((s.word (fldAt f 0)).toNat - (s.word (fldAt f 0)).toNat % 2 ^ 16)) := by
    rw [State.clearRc, hf.rc, ← Nat.and_two_pow_sub_one_eq_mod]
    simp only [List.isEmpty_cons, Bool.false_eq_true, ↓reduceIte, List.foldl_cons, List.foldl_nil, Nat.zero_or, hmask, hrst, Nat.zero_mul,
      Nat.add_zero]
    exact hthaw _ _
  rw [he]
  refine ⟨?_, .setWord _ _ _⟩
  rw [State.get, State.word_setWord_same, hhi, hlo, BitVec.toNat_ofNat, Machine.bits]
  omega

end

/-! ## Answers to a read -/

theorem OnlyWords.setReads {ks : List Nat} (h : OnlyWords ks s t) (p : Plane) (l : List Nat) :
    OnlyWords ks { s with host := (t.setReads p l).host } (t.setReads p l) := by
  obtain ⟨ht, hw⟩ := h
  refine ⟨?_, hw⟩
  rw [State.setReads, State.modHost, ht]

theorem rcRead_rcWord (s : State) (p : Plane) {f : Fld} (hf : RcWord f) (hs : s.getB Hdr.FREEZE (fldAt f 0 / 4096) = false) :
    ∃ t : State, exec (.rcRead p (fldAt f 0) 4) s = .next t ∧
      (p = .host → t.host.readHost = [s.word (fldAt f 0)] ∧ t.host.abortHost = false) ∧
      (p = .mgmt → t.host.readMgmt = [s.word (fldAt f 0)] ∧ t.host.abortMgmt = false) ∧
      t.get f = 0 ∧ OnlyWords [fldAt f 0] { s with host := t.host } t := by
  obtain ⟨hd, hlow, hal, -⟩ := hf.home
  obtain ⟨hzero, hwords⟩ := hf.clearRc hs
  have hread : exec (.rcRead p (fldAt f 0) 4) s = .next ((s.clearRc (fldAt f 0)).setReads p [(s.word (fldAt f 0)).toNat]) := by
    rw [rcRead_word s p hal, s.readOne_plain p hf.plain hd, hf.readWord hs, if_neg (by omega)]
  refine ⟨_, hread, ?_, ?_, hzero, hwords.setReads _ _⟩
  · rintro rfl
    exact ⟨by simp [State.setReads, State.modHost], rfl⟩
  · rintro rfl
    exact ⟨by simp [State.setReads, State.modHost], rfl⟩

/-- The copy of a field that an offset names stands at that offset. -/
theorem fldAt_of_fldIdx? {f : Fld} {a i : Nat} (h : fldIdx? f a = some i) : i < f.cnt ∧ fldAt f i = a := by
  simp only [fldIdx?, Option.ite_none_left_eq_some, Option.ite_none_right_eq_some, Option.some.injEq, not_le, not_not] at h
  obtain ⟨hlt, hrem, hk, ⟨hcnt, -⟩, rfl⟩ := h
  refine ⟨hcnt, ?_⟩
  have hd : f.addr + (a - f.addr) = a := by omega
  have hdiv : ∀ p k : Nat, k < f.per → (p * f.per + k) / f.per = p ∧ (p * f.per + k) % f.per = k := fun p k hk => by
    rw [Nat.mul_comm p, Nat.mul_add_div (by omega), Nat.div_eq_of_lt hk, Nat.mul_add_mod, Nat.mod_eq_of_lt hk]
    exact ⟨rfl, rfl⟩
  obtain ⟨hpg, hkk⟩ := hdiv _ _ hk
  rw [fldAt, hpg, hkk]
  generalize a - f.addr = d at *
  have hrow : f.step * (if f.step = 0 then 0 else (if f.pst = 0 then d else d % f.pst) / f.step) = if f.pst = 0 then d else d % f.pst := by
    split at hrem
    next h0 => rw [if_pos h0, hrem, Nat.mul_zero]
    next h0 => rw [if_neg h0, Nat.mul_div_cancel' (Nat.dvd_of_mod_eq_zero hrem)]
  rw [hrow, ← hd, Nat.add_assoc]
  congr 1
  split
  next h0 => rw [h0, Nat.zero_mul, Nat.zero_add]
  next h0 => exact Nat.div_add_mod _ _

/-- The key and provisioning pages hold no word whose read latches anything: each such field ends below them. -/
theorem plainRead_high {a : Nat} (h : 0xF00000 ≤ a) : plainRead a := by
  have hnone : ∀ f : Fld, (∀ i, i < f.cnt → fldAt f i < 0xF00000) → fldIdx? f a = none := fun f hf => by
    by_contra hne
    obtain ⟨i, hi⟩ := Option.ne_none_iff_exists'.1 hne
    obtain ⟨hc, rfl⟩ := fldAt_of_fldIdx? hi
    have := hf i hc
    omega
  refine ⟨hnone _ (by decide), hnone _ (by decide), hnone _ (by decide),
    hnone _ (by decide), hnone _ (by decide), hnone _ (by decide), ?_⟩
  have : fldAt Reg.DRAM_UTIL 0 < 0xF00000 := by decide
  omega

theorem rcRead_keyPages (s : State) {a : Nat} (h : 0xF00000 ≤ a) (h' : a < 0xF02000) (hal : a % 4 = 0) :
    ∃ t : State, exec (.rcRead .host a 4) s = .next t ∧ t.host.readHost = [0] ∧ t = { s with host := t.host } := by
  have hd : pageDomain (a / 4096) = 0 := by
    have hpage : a / 4096 = 0xF00 ∨ a / 4096 = 0xF01 := by omega
    obtain h | h := hpage <;> rw [h] <;> rfl
  have hlow : 0xF00 ≤ a / 4096 := by omega
  have hread : exec (.rcRead .host a 4) s = .next (s.setReads .host [0]) := by
    rw [rcRead_word s .host hal, s.readOne_plain .host (plainRead_high h) hd, if_pos ⟨hlow, rfl⟩,
      State.readWord, if_pos ⟨hlow, rfl⟩]
  exact ⟨_, hread, rfl, rfl⟩

/-! ## A ring's REG_READ -/

theorem length_readMany (p : Plane) (off n : Nat) (s : State) : (State.readMany p off n s).1.length = n := by
  induction n generalizing off s with
  | zero => rfl
  | succ n ih => exact congrArg Nat.succ (ih _ _)

/-- The arguments of a REG_READ within R548: an aligned offset and at least one word. -/
theorem RingCmd.argsOk_regRead {c : RingCmd} (h : c.argsOk = true) (hop : c.op = 2) : c.a 0 % 4 = 0 ∧ 1 ≤ c.a 1 := by
  simp only [RingCmd.argsOk, hop, Nat.reduceEqDiff, OfNat.ofNat_ne_zero, ↓reduceIte, Bool.and_eq_true, beq_iff_eq, decide_eq_true_eq] at h
  obtain ⟨-, ⟨⟨⟨⟨⟨⟨-, hal⟩, hpos⟩, -⟩, -⟩, -⟩, -⟩⟩ := h
  exact ⟨hal, hpos⟩

theorem rcRead_words (s : State) (p : Plane) {off n : Nat} (hoff : off % 4 = 0) (hn : 1 ≤ n) :
    exec (.rcRead p off (4 * n)) s = .next ((State.readMany p off n s).2.setReads p (State.readMany p off n s).1) := by
  show execRcRead p off (4 * n) s = _
  rw [execRcRead, State.regRead, if_neg (by omega), Nat.mul_div_cancel_left n (by decide)]
  rfl

theorem State.hostWrite_of_readable (h : s.hostReadable = true) (addr : Nat) (d : List Byte) : (s.hostWrite addr d).2 = true := by
  unfold State.hostWrite
  rw [State.hostReadable] at h
  rw [if_pos h]

theorem ringRead_eq_registerRead (s : State) {q : Nat} {c : RingCmd} (hc : (s.hostRing q).cmd = some c) (hop : c.op = 2)
    (hb : c.began = false) (ha : c.argsOk = true) :
    ∃ (u : State) (l : List Nat), exec (.rcRead .host (c.a 0) (4 * c.a 1)) (s.ringBegan q) = .next (u.setReads .host l) ∧
      l.length = c.a 1 ∧
      (u.hostReadable = true →
        exec (.regRead q) s = .next ((u.hostWrite (c.a 2 + 2 ^ 32 * c.a 3) (wordBytes l)).1.ringEnd q 0 0 (c.a 1))) := by
  obtain ⟨hal, hpos⟩ := c.argsOk_regRead ha hop
  have hcmd : s.ringCmd q 2 = some c := hop ▸ State.ringCmd_eq hc hb
  refine ⟨_, _, rcRead_words _ _ hal hpos, length_readMany _ _ _ _, fun hu => ?_⟩
  show execRegRead q s = _
  rw [execRegRead, hcmd]
  dsimp only
  rw [if_pos (State.hostWrite_of_readable hu _ _)]
  rfl

/-! ## The statement -/

/-- Settles O60: soft resets and FREEZE by what they leave of each word, and reads by the words that latch nothing. -/
theorem registerReadsResetsAndFreezes : Obligations.RegisterReadsResetsAndFreezes := by
  refine ⟨⟨softReset_mode, softReset_hostq, fun s p _ hq h => softReset_hostq_enabled s p hq h, softReset_global,
    fun s p _ on hp => freeze_shows s p hp on⟩, fun s p _ _ h => rcRead_unaligned s p h, fun s p f hf hs => ?_,
    fun s _ h h' hal => rcRead_keyPages s h h' hal, fun s q c hc hop hb ha => ringRead_eq_registerRead s hc hop hb ha⟩
  obtain rfl | rfl := hf
  · exact rcRead_rcWord s p rcWord_wakeMax hs
  · exact rcRead_rcWord s p rcWord_tjMax hs

end Sys2Proof.Machine
end

section
/-! SUPPORT. Device reset, the end of START and its failure. Statement O47. -/

namespace Sys2Proof.Machine

variable {s t u : State}

/-! ## Fields that an operation leaves alone -/

/-- A field outside the word of a page's progress keeps its value when progress is reported. -/
theorem State.get_progress (s : State) {page : Nat} {g : Fld} {j : Nat} (busy : Bool) (pos total : Nat)
    (h : fldAt g j ≠ fldAt Hdr.BUSY page) : (s.progress page busy pos total).get g j = s.get g j :=
  (State.get_put_word _ Hdr.POSITION g page j _ h).trans
    ((State.get_put_word _ Hdr.PERCENT g page j _ h).trans (State.get_put_word _ Hdr.BUSY g page j _ h))

theorem State.get_progressStop (s : State) {page : Nat} {g : Fld} {j : Nat} (h : fldAt g j ≠ fldAt Hdr.BUSY page) :
    (s.progressStop page).get g j = s.get g j :=
  State.get_put_word _ _ _ _ _ _ h

theorem State.get_setTrans (s : State) (tr : Trans) (left : Nat) (g : Fld) (j : Nat) : (s.setTrans tr left).get g j = s.get g j := rfl

/-- A field of BAR0 outside the interrupt word of the mode page keeps its value when a request is answered. -/
theorem State.get_modeAnswer (s : State) (p : Plane) (st : Nat) {g : Fld} {j : Nat} (hlow : fldAt g j < 0x1000000)
    (h : fldAt g j ≠ fldAt Reg.MODE_IRQ_REFUSED 0) : (s.modeAnswer p st).get g j = s.get g j := by
  have hputP : ∀ (s : State) (f : Fld) (i v : Nat), (s.putP p f i v).get g j = s.get g j := fun s f i v => by
    have hne : fldAt g j ≠ planeKey p (fldAt f i) := by
      cases p <;> simp only [planeKey] <;> omega
    simp only [State.get, State.putP, State.word_setWord_other _ _ _ _ hne]
  unfold State.modeAnswer
  dsimp only
  split
  · rw [hputP, hputP, hputP]
  · rw [State.irq, State.get_put_word _ _ _ _ _ _ h, hputP, hputP, hputP]

theorem State.get_modeAnswerOf (s : State) (p : Option Plane) (st : Nat) {g : Fld} {j : Nat} (hlow : fldAt g j < 0x1000000)
    (h : fldAt g j ≠ fldAt Reg.MODE_IRQ_REFUSED 0) : (s.modeAnswerOf p st).get g j = s.get g j := by
  unfold State.modeAnswerOf
  split
  · split
    · exact s.get_modeAnswer _ st hlow h
    · split
      · rfl
      · exact State.get_put_word _ _ _ _ _ _ h
  · rfl

theorem State.modeAnswerOf_frame (s : State) (p : Option Plane) (st : Nat) :
    s.modeAnswerOf p st = { s with regs := (s.modeAnswerOf p st).regs } := by
  unfold State.modeAnswerOf
  split
  · split
    · exact s.modeAnswer_frame _ st
    · split <;> rfl
  · rfl

/-- The fields of MODE_STATUS apart from the transition that ends keep their value. -/
theorem State.get_transIdle (s : State) {g : Fld} (hg : g.hi < 31 ∧ 10 < g.lo) : s.transIdle.get g 0 = s.get g 0 := by
  obtain ⟨hhi, hlo⟩ := hg
  unfold State.transIdle
  rw [State.get_setTrans, State.put0, State.get_put_apart _ _ _ _ _ _ (by omega) (.inr hlo), State.put0,
    State.get_put_apart _ _ _ _ _ _ (by omega) (.inl hhi)]

theorem State.get_inTransition_transIdle (s : State) : s.transIdle.get Reg.MODE_IN_TRANSITION = 0 := by
  unfold State.transIdle
  rw [State.get_setTrans, State.put0, State.get_put_apart _ _ _ _ _ _ (by decide) (by decide), State.put0, State.get_put_same _ _ _ _]
  rfl

/-! ## What changes no more than the register words and the operating mode -/

/-- Two states that agree but for the register words and the operating mode. -/
def ModeOnly (s t : State) : Prop := { t with regs := s.regs, mode := s.mode } = s

theorem ModeOnly.refl (s : State) : ModeOnly s s := rfl

theorem ModeOnly.put {f : Fld} {i v : Nat} (h : ModeOnly s t) : ModeOnly s (t.put f i v) := h

theorem ModeOnly.setTrans {tr : Trans} {left : Nat} (h : ModeOnly s t) : ModeOnly s (t.setTrans tr left) := h

theorem ModeOnly.modeAnswerOf {p : Option Plane} {st : Nat} (h : ModeOnly s t) : ModeOnly s (t.modeAnswerOf p st) := by
  rw [State.modeAnswerOf_frame]
  exact h

theorem ModeOnly.eq (h : ModeOnly s t) : t = { s with regs := t.regs, mode := t.mode } :=
  congrArg (fun x => { x with regs := t.regs, mode := t.mode }) h

/-! ## A step of START that fails -/

theorem State.startFail_frame (s : State) : s.startFail = { s with regs := s.startFail.regs, mode := s.startFail.mode } :=
  ModeOnly.eq (.modeAnswerOf (.setTrans (.put (.put (.put (.put (.put (.refl s))))))))

theorem State.trans_startFail (s : State) : s.startFail.mode.trans = .none := by
  unfold State.startFail
  rw [State.modeAnswerOf_frame]
  rfl

theorem State.get_startFail_flag (s : State) : s.startFail.get Reg.MODE_START_FAIL = 1 := by
  unfold State.startFail
  rw [State.get_modeAnswerOf _ _ _ (by decide) (by decide), State.get_transIdle _ (by decide), State.get_progressStop _ (by decide),
    State.get_progressStop _ (by decide), State.put0, State.get_put_same _ _ _ _]
  rfl

theorem State.get_startFail_inTransition (s : State) : s.startFail.get Reg.MODE_IN_TRANSITION = 0 := by
  unfold State.startFail
  rw [State.get_modeAnswerOf _ _ _ (by decide) (by decide), State.get_inTransition_transIdle]

/-- A field outside the words that a failing START shows keeps its value. -/
theorem State.get_startFail (s : State) {g : Fld} {j : Nat} (hlow : fldAt g j < 0x1000000) (hpage : fldAt g j / 4096 ≠ 1)
    (hprog : fldAt g j ≠ fldAt Hdr.BUSY 0xD4) : s.startFail.get g j = s.get g j := by
  have hne : ∀ f : Fld, fldAt f 0 / 4096 = 1 → fldAt g j ≠ fldAt f 0 := fun f hf h => hpage (h ▸ hf)
  unfold State.startFail State.transIdle
  rw [State.get_modeAnswerOf _ _ _ hlow (hne _ (by decide)), State.get_setTrans, State.put0,
    State.get_put_word _ _ _ _ _ _ (hne _ (by decide)), State.put0, State.get_put_word _ _ _ _ _ _ (hne _ (by decide)),
    State.get_progressStop _ hprog, State.get_progressStop _ (fun h => hpage (h ▸ rfl)), State.put0,
    State.get_put_word _ _ _ _ _ _ (hne _ (by decide))]

theorem startDone_fails (s : State) {k : Nat} {p : Option Plane} (htr : s.mode.trans = .start k p) (hrun : s.startRuns = true) :
    ∃ t : State, exec (.startDone false) s = .next t ∧ t.get Reg.MODE_START_FAIL = 1 ∧ t.mode.trans = .none ∧
      t.get Reg.MODE_IN_TRANSITION = 0 ∧ t = { s with regs := t.regs, mode := t.mode } := by
  refine ⟨s.startFail, ?_, s.get_startFail_flag, s.trans_startFail, s.get_startFail_inTransition, s.startFail_frame⟩
  show execStartDone false s = _
  rw [execStartDone, htr]
  dsimp only
  rw [hrun]
  rfl

/-! ## DRAM training in step 4 of START -/

theorem State.startStep_of_start {j : Nat} {p : Option Plane} (h : s.mode.trans = .start j p) (k : Nat) :
    s.startStep k = ((s.put0 Reg.MODE_STEP k).progress 0x01 (decide (k < 7)) k 7).setTrans (.start k p) 0 := by
  rw [State.startStep, h]

theorem State.get_startStep_self {j : Nat} {p : Option Plane} (h : s.mode.trans = .start j p) (k : Nat) (hk : k < 8) :
    (s.startStep k).get Reg.MODE_STEP = k := by
  rw [State.startStep_of_start h, State.get_setTrans, State.get_progress _ _ _ _ (by decide), State.put0, State.get_put_same _ _ _ _]
  exact Nat.mod_eq_of_lt hk

theorem State.trans_startStep {j : Nat} {p : Option Plane} (h : s.mode.trans = .start j p) (k : Nat) :
    (s.startStep k).mode.trans = .start k p := by
  rw [State.startStep_of_start h]
  rfl

/-- A field outside the two words that a step of START shows keeps its value. -/
theorem State.get_startStep (s : State) (k : Nat) {g : Fld} {i : Nat} (hstep : fldAt g i ≠ fldAt Reg.MODE_STEP 0)
    (hprog : fldAt g i ≠ fldAt Hdr.BUSY 0x01) : (s.startStep k).get g i = s.get g i := by
  unfold State.startStep
  split
  · rw [State.get_setTrans, State.get_progress _ _ _ _ hprog, State.put0, State.get_put_word _ _ _ _ _ _ hstep]
  · rfl

theorem State.mode_dramTrained (s : State) (good : Bool) (mr4 : Nat) : (s.dramTrained good mr4).mode = s.mode := by
  unfold State.dramTrained
  dsimp only
  split
  · simp [State.progress]
  · simp [State.progressStop]

/-- What the end of DRAM training shows. -/
theorem State.get_dramTrained (s : State) (good : Bool) (mr4 : Nat) :
    (s.dramTrained good mr4).get Reg.DRAM_READY = good.toNat ∧ (s.dramTrained good mr4).get Reg.DRAM_TRAIN_FAIL = (!good).toNat := by
  have hend : ∀ (u : State) (g : Fld), fldAt g 0 ≠ fldAt Hdr.BUSY 0xB8 →
      (if good then u.progress 0xB8 false 24 24 else u.progressStop 0xB8).get g = u.get g := fun u g h => by
    split
    · exact u.get_progress _ _ _ h
    · exact u.get_progressStop h
  have hbit : ∀ b : Bool, b.toNat % 2 ^ 1 = b.toNat := by decide
  unfold State.dramTrained
  refine ⟨(hend _ _ (by decide)).trans ?_, (hend _ _ (by decide)).trans ?_⟩
  · rw [State.putB, State.get_put_apart _ _ _ _ _ _ (by decide) (by decide), State.putB, State.get_put_same _ _ _ _]
    exact hbit _
  · rw [State.putB, State.get_put_same _ _ _ _]
    exact hbit _

theorem dramTrainingDone_succeeds (s : State) {p : Option Plane} (mr4 : Nat) (htr : s.mode.trans = .start 4 p) :
    ∃ t : State, exec (.dramTrainingDone true mr4) s = .next t ∧ t.get Reg.DRAM_READY = 1 ∧ t.get Reg.MODE_STEP = 5 ∧
      t.mode.trans = .start 5 p := by
  have h : (s.dramTrained true mr4).mode.trans = .start 4 p := by rw [State.mode_dramTrained]; exact htr
  refine ⟨(s.dramTrained true mr4).startStep 5, ?_, ?_, State.get_startStep_self h 5 (by decide), State.trans_startStep h 5⟩
  · show execDramTrainingDone true mr4 s = _
    unfold execDramTrainingDone
    extract_lets u
    rw [h]
    rfl
  · rw [State.get_startStep _ _ (by decide) (by decide), (s.get_dramTrained true mr4).1]
    rfl

theorem dramTrainingDone_fails (s : State) {p : Option Plane} (mr4 : Nat) (htr : s.mode.trans = .start 4 p) :
    ∃ t : State, exec (.dramTrainingDone false mr4) s = .next t ∧ t.get Reg.DRAM_READY = 0 ∧ t.get Reg.DRAM_TRAIN_FAIL = 1 ∧
      t.get Reg.MODE_START_FAIL = 1 ∧ t.mode.trans = .none := by
  have h : (s.dramTrained false mr4).mode.trans = .start 4 p := by rw [State.mode_dramTrained]; exact htr
  obtain ⟨hready, hfail⟩ := s.get_dramTrained false mr4
  refine ⟨(s.dramTrained false mr4).startFail, ?_, ?_, ?_, State.get_startFail_flag _, State.trans_startFail _⟩
  · show execDramTrainingDone false mr4 s = _
    unfold execDramTrainingDone
    extract_lets u
    rw [h]
    rfl
  · rw [State.get_startFail _ (by decide) (by decide) (by decide), hready]
    rfl
  · rw [State.get_startFail _ (by decide) (by decide) (by decide), hfail]
    rfl

/-! ## The end of START -/

/-- Dropping keys of a table leaves the other keys' values. -/
theorem tget_filter {α : Type} (d : α) (q : Nat → Bool) (l : Tbl α) (a : Nat) :
    tget d (l.filter fun p => q p.1) a = if q a then tget d l a else d := by
  induction l with
  | nil => exact (ite_self _).symm
  | cons p l ih =>
    rw [List.filter_cons]
    by_cases hp : q p.1 = true
    · rw [if_pos hp]
      show (if a = p.1 then p.2 else tget d (l.filter fun p => q p.1) a) = if q a then (if a = p.1 then p.2 else tget d l a) else d
      by_cases ha : a = p.1
      · rw [if_pos ha, if_pos ha, if_pos (ha ▸ hp)]
      · rw [if_neg ha, if_neg ha, ih]
    · rw [if_neg hp, ih]
      show _ = if q a then (if a = p.1 then p.2 else tget d l a) else d
      by_cases ha : a = p.1
      · rw [if_neg (ha ▸ hp), if_neg (ha ▸ hp)]
      · rw [if_neg ha]

/-- The bytes of an SRAM group are all 0. -/
def State.GroupZero (g : Nat) (s : State) : Prop := ∀ b, b / 0x800000 = g → tget 0 s.mem.sram b = 0

theorem State.tget_dropSram (s : State) (g b : Nat) :
    tget 0 (s.dropSram g).mem.sram b = if b / 0x800000 != g then tget 0 s.mem.sram b else 0 :=
  tget_filter 0 (fun a => a / 0x800000 != g) s.mem.sram b

theorem State.groupZero_dropSram (g : Nat) (s : State) : State.GroupZero g (s.dropSram g) := fun b hb => by
  rw [State.tget_dropSram, hb]
  simp

theorem State.GroupZero.dropSram {g : Nat} (h : State.GroupZero g s) (g' : Nat) : State.GroupZero g (s.dropSram g') := fun b hb => by
  rw [State.tget_dropSram, h b hb, ite_self]

/-- Groups 1 to 7, dropped one after another. -/
theorem forRange_dropSram_zero (s : State) {b : Nat} (hb : 0x800000 ≤ b) (hb' : b < 0x4000000) :
    tget 0 (forRange (fun g s => s.dropSram g) 1 7 s).mem.sram b = 0 :=
  forRange_each State.groupZero_dropSram (fun g' _ _ h => h.dropSram g') 7 1 s (b / 0x800000) (by omega) (by omega) b rfl

theorem State.mode_forRange_dropSram (n lo : Nat) (s : State) : (forRange (fun g s => s.dropSram g) lo n s).mode = s.mode :=
  @forRange_keeps State (fun x => x.mode = s.mode) (fun g s => s.dropSram g) (fun _ _ h => h) n lo s rfl

/-! ## What shows the passes, the scene engine and the end of a transition -/

theorem ModeOnly.ite {c : Prop} {_ : Decidable c} (hs : ModeOnly s t) (hu : ModeOnly s u) : ModeOnly s (if c then t else u) := by
  split
  · exact hs
  · exact hu

theorem ModeOnly.showPasses (h : ModeOnly s t) : ModeOnly s t.showPasses := by
  unfold State.showPasses
  extract_lets r v
  have hv : ModeOnly s v := .put (.put h)
  split
  · exact .put (.put (.put hv))
  · exact .ite hv (.put hv)

theorem ModeOnly.startStep (h : ModeOnly s t) (k : Nat) : ModeOnly s (t.startStep k) := by
  unfold State.startStep
  split
  · exact .setTrans (.put (.put (.put (.put h))))
  · exact h

theorem ModeOnly.keepMax {f : Fld} {i v : Nat} (h : ModeOnly s t) : ModeOnly s (t.keepMax f i v) := .ite (.put h) h

theorem ModeOnly.transDone (h : ModeOnly s t) : ModeOnly s t.transDone := .modeAnswerOf (.put (.put (.setTrans (.put (.put h)))))

theorem ModeOnly.showScn (h : ModeOnly s t) : ModeOnly s t.showScn := .put (.put (.put (.put (.put (.keepMax (.put h))))))

theorem ModeOnly.mem (h : ModeOnly s t) : t.mem = s.mem := by rw [h.eq]

/-- What shows the scene engine's load stores no word of the mode page. -/
theorem State.get_showScn (s : State) {g : Fld} {j : Nat} (h : fldAt g j / 4096 = 1) : s.showScn.get g j = s.get g j := by
  have hput : ∀ (s : State) (f : Fld) (v : Nat), fldAt f 0 / 4096 ≠ 1 → (s.put f 0 v).get g j = s.get g j := fun s f v hf =>
    s.get_put_word _ _ _ _ _ fun e => hf (e ▸ h)
  unfold State.showScn
  simp only [State.putB, State.put0]
  rw [hput _ _ _ (by decide), hput _ _ _ (by decide), hput _ _ _ (by decide), hput _ _ _ (by decide), hput _ _ _ (by decide),
    State.keepMax]
  split
  · rw [hput _ _ _ (by decide), hput _ _ _ (by decide)]
  · rw [hput _ _ _ (by decide)]

theorem State.trans_transDone (s : State) : s.transDone.mode.trans = .none := by
  unfold State.transDone
  rw [State.modeAnswerOf_frame]
  rfl

/-- A field of the mode page that the end of a transition shows no change of. -/
theorem State.get_transDone (s : State) {g : Fld} (hidle : s.transIdle.get g 0 = s.get g 0) (hlow : fldAt g 0 < 0x1000000)
    (hirq : fldAt g 0 ≠ fldAt Reg.MODE_IRQ_DONE 0) (hcnt : fldAt g 0 ≠ fldAt Reg.MODE_TRANS_CNT 0) :
    s.transDone.get g 0 = s.get g 0 := by
  unfold State.transDone
  rw [State.get_modeAnswerOf _ _ _ hlow hirq, State.irq, State.get_put_word _ _ _ _ _ _ hirq, State.count,
    State.get_put_word _ _ _ _ _ _ hcnt, hidle]

/-! ## The end of START -/

theorem State.mode_showPasses (s : State) : s.showPasses.mode = s.mode := by
  unfold State.showPasses
  extract_lets r v
  split
  · rfl
  · split <;> rfl

/-- Groups 1 to 7 after step 6 of START: zero, and held by no buffer. -/
def State.freed (s : State) : State :=
  (forRange (fun g s => s.dropSram g) 1 7 s).modMem fun m => { m with bufs := [], passes := [] }

/-- The state as step 7 of START completes. -/
def State.started (s : State) : State :=
  ((((s.freed.showPasses.startStep 6).startStep 7).put0 Reg.MODE_START_DONE 1).irq Reg.MODE_IRQ_START_DONE)

theorem State.startEnd_eq (s : State) : s.startEnd = s.started.transDone.showScn := rfl

theorem State.mem_startEnd (s : State) : s.startEnd.mem = s.freed.mem :=
  ModeOnly.mem (.showScn (.transDone (.put (.put (.startStep (.startStep (.showPasses (.refl s.freed)) 6) 7)))))

theorem State.get_startEnd_done (s : State) : s.startEnd.get Reg.MODE_START_DONE = 1 := by
  rw [State.startEnd_eq, State.get_showScn _ (by decide),
    State.get_transDone _ (State.get_transIdle _ (by decide)) (by decide) (by decide) (by decide), State.started, State.irq,
    State.get_put_word _ _ _ _ _ _ (by decide), State.put0, State.get_put_same _ _ _ _]
  rfl

theorem State.get_startEnd_step {j : Nat} {p : Option Plane} (htr : s.mode.trans = .start j p) : s.startEnd.get Reg.MODE_STEP = 7 := by
  have hfreed : s.freed.showPasses.mode.trans = .start j p := by
    rw [State.mode_showPasses]
    exact (congrArg ModeSt.trans (s.mode_forRange_dropSram 7 1)).trans htr
  have hidle : ∀ u : State, u.transIdle.get Reg.MODE_STEP = u.get Reg.MODE_STEP := fun u => by
    rw [State.transIdle, State.get_setTrans, State.put0, State.get_put_word _ _ _ _ _ _ (by decide), State.put0,
      State.get_put_word _ _ _ _ _ _ (by decide)]
  rw [State.startEnd_eq, State.get_showScn _ (by decide), State.get_transDone _ (hidle _) (by decide) (by decide) (by decide),
    State.started, State.irq, State.get_put_word _ _ _ _ _ _ (by decide), State.put0, State.get_put_word _ _ _ _ _ _ (by decide)]
  exact State.get_startStep_self (State.trans_startStep hfreed 6) 7 (by decide)

theorem State.trans_startEnd (s : State) : s.startEnd.mode.trans = .none := by
  have h : ∀ u : State, u.showScn.mode = u.mode := fun u => by
    unfold State.showScn
    simp only [State.putB_mode, State.put0_mode]
    rw [State.keepMax_frame]
    rfl
  rw [State.startEnd_eq, h, State.trans_transDone]

/-- The rest of START runs to its end from a transition whose self-check is past. -/
theorem startDone_completes (s : State) {k : Nat} {p : Option Plane} (htr : s.mode.trans = .start k p) (hk : 2 ≤ k)
    (hrun : s.startRuns = true) :
    ∃ t : State, exec (.startDone true) s = .next t ∧ t.get Reg.MODE_START_DONE = 1 ∧ t.get Reg.MODE_STEP = 7 ∧
      t.mode.trans = .none ∧ t.mem.bufs = [] ∧ ∀ b, 0x800000 ≤ b → b < 0x4000000 → tget 0 t.mem.sram b = 0 := by
  have hup : s.startUpTo4 0 [] false = s := by
    rw [State.startUpTo4, htr]
    dsimp only
    rw [if_neg (by omega), if_neg (by omega)]
  have hexec : ∃ u : State, exec (.startDone true) s = .next u.startEnd ∧ ∃ j, u.mode.trans = .start j p := by
    have htrained : ∀ mr4, (s.dramTrained true mr4).mode.trans = .start k p := fun mr4 => by
      rw [State.mode_dramTrained]
      exact htr
    by_cases h4 : k = 4
    · subst h4
      refine ⟨(s.dramTrained true (s.get Reg.DRAM_MR4)).startStep 5, ?_, 5, State.trans_startStep (htrained _) 5⟩
      show execStartDone true s = _
      simp only [execStartDone, htr, hrun, hup, Bool.not_true, Bool.false_eq_true, ↓reduceIte]
      rfl
    · refine ⟨s, ?_, k, htr⟩
      show execStartDone true s = _
      simp only [execStartDone, htr, hrun, hup, Bool.not_true, Bool.false_eq_true, ↓reduceIte]
      split
      next h =>
        cases h
        exact absurd rfl h4
      · rfl
  obtain ⟨u, hu, j, hj⟩ := hexec
  refine ⟨u.startEnd, hu, u.get_startEnd_done, State.get_startEnd_step hj, u.trans_startEnd, ?_, fun b hb hb' => ?_⟩
  · rw [State.mem_startEnd]
    rfl
  · rw [State.mem_startEnd]
    exact forRange_dropSram_zero u hb hb'

/-! ## A firmware image over SMBus that does not verify -/

theorem State.tget_flashErase (s : State) (off n a : Nat) :
    tget 0xFF (s.flashErase off n).mgmt.flash a = if off ≤ a ∧ a < off + n then 0xFF else tget 0xFF s.mgmt.flash a := by
  have h := tget_filter 0xFF (fun a => decide (a < off) || decide (off + n ≤ a)) s.mgmt.flash a
  refine h.trans ?_
  simp only [Bool.or_eq_true, decide_eq_true_eq]
  split_ifs with h1 h2 h2
  · omega
  · rfl
  · rfl
  · omega

/-- Programming flash touches no byte outside the range that the data covers. -/
theorem tget_program (l : List (Byte × Nat)) (off : Nat) (f : Tbl Byte) (a : Nat) (h : ∀ p ∈ l, a ≠ off + p.2) :
    tget 0xFF (l.foldl (fun f p => tmod 0xFF f (off + p.2) (· &&& p.1)) f) a = tget 0xFF f a := by
  induction l generalizing f with
  | nil => rfl
  | cons p l ih =>
    rw [List.foldl_cons, ih _ fun q hq => h q (List.mem_cons_of_mem _ hq)]
    exact tget_tput_other _ _ _ _ _ _ (h p List.mem_cons_self)

theorem State.tget_flashProgram (s : State) (off : Nat) (d : List Byte) (a : Nat) (h : ¬(off ≤ a ∧ a < off + d.length)) :
    tget 0xFF (s.flashProgram off d).mgmt.flash a = tget 0xFF s.mgmt.flash a := by
  refine tget_program _ _ _ _ fun p hp => ?_
  have := List.snd_lt_of_mem_zipIdx hp
  omega

theorem smbusFwImage_discarded (s : State) (image : List Byte) (hrom : s.mgmt.inRom = true) :
    ∃ t : State, exec (.smbusFwImage image false) s = .next t ∧ t = { s with mgmt := { s.mgmt with flash := t.mgmt.flash } } ∧
      ∀ a, tget 0xFF t.mgmt.flash a = if 0x100000 ≤ a ∧ a < 0x500000 then 0xFF else tget 0xFF s.mgmt.flash a := by
  refine ⟨((s.flashErase 0x100000 0x400000).flashProgram 0x100000 (image.take 0x400000)).flashErase 0x100000 0x400000, ?_, rfl,
    fun a => ?_⟩
  · show execSmbusFwImage image false s = _
    rw [execSmbusFwImage, hrom]
    rfl
  · have hlen : (image.take 0x400000).length ≤ 0x400000 := List.length_take_le _ _
    rw [State.tget_flashErase]
    split
    · rfl
    next h => rw [State.tget_flashProgram _ _ _ _ (by omega), State.tget_flashErase, if_neg h]

/-! ## Device reset -/

theorem ModeOnly.showRepairs (h : ModeOnly s t) : ModeOnly s t.showRepairs :=
  .put (.put (@forRange_keeps State (ModeOnly s) _ (fun _ _ h => .put (.put h)) 64 0 t h))

/-- What shows the repairs stores no word outside its own page. -/
theorem State.get_showRepairs (s : State) {g : Fld} {j : Nat} (h : fldAt g j / 4096 ≠ 0xD6) : s.showRepairs.get g j = s.get g j := by
  have hput : ∀ (s : State) (f : Fld) (i v : Nat), fldAt f i / 4096 = 0xD6 → (s.put f i v).get g j = s.get g j := fun s f i v hf =>
    s.get_put_word _ _ _ _ _ fun e => h (e ▸ hf)
  have hfused : ∀ b, fldAt Reg.REP_FUSED b / 4096 = 0xD6 := fun b => by
    simp only [fldAt, Reg.REP_FUSED]
    omega
  have hsoft : ∀ b, fldAt Reg.REP_SOFT b / 4096 = 0xD6 := hfused
  unfold State.showRepairs
  rw [State.put0, hput _ _ _ _ (by decide), State.put0, hput _ _ _ _ (by decide)]
  refine @forRange_keeps State (fun x => x.get g j = s.get g j) _ (fun b x hx => ?_) 64 0 s rfl
  rw [hput _ _ _ _ (hsoft b), hput _ _ _ _ (hfused b), hx]

theorem ModeOnly.pending (h : ModeOnly s t) : t.pending = s.pending := by rw [h.eq]

theorem State.pending_flashCut (s : State) : s.flashCut.pending = s.pending := by
  unfold State.flashCut
  dsimp only
  split <;> rfl

theorem State.pending_fuseEnd (s : State) (done spent status : Nat) : (s.fuseEnd done spent status).pending = s.pending := by
  unfold State.fuseEnd
  split
  · rfl
  next b _ =>
    exact @ModeOnly.pending
      ((s.fuseDone (b.left.take done)).modMgmt fun m => { m with burn := none, fuseUsed := min 256 (m.fuseUsed + spent) }) _
      (.put (.put (.put (.put (.showRepairs (.put (.put (.put (.put (.refl _))))))))))

theorem State.pending_fuseStop (s : State) : s.fuseStop.pending = s.pending := by
  unfold State.fuseStop
  split
  · rfl
  · exact State.pending_fuseEnd _ _ _ _

/-- What a device reset keeps: the commands that wait, the free values, host memory, the flash with the fuses, and THERMTRIP. -/
def State.kept (s : State) (rail : Option Nat) : State :=
  { State.reset with
    pending := s.pending, free := s.free, host := { mem := s.host.mem },
    mgmt := { flash := s.mgmt.flash, fuseUsed := s.mgmt.fuseUsed, repairs := s.mgmt.repairs.filter (·.fused) },
    pwr := { tripped := s.pwr.tripped && rail.isSome } }

/-- After a device reset only register words, and of the mode nothing, differ from what it keeps. -/
theorem State.afterReset_modeOnly (s : State) (straps : Nat) : ModeOnly (s.flashCut.fuseStop.kept none) (s.afterReset none straps) :=
  .put (.put (.put (.showRepairs (.put (.put (.put (.put (.put (.put (.refl _))))))))))

/-- Before boot, UNIT_B shows strap 0 and the mode is START, as at reset. -/
theorem State.get_afterReset_unitB (s : State) (straps : Nat) : (s.afterReset none straps).get Reg.GLOBAL_UNIT_B = straps % 2 := by
  unfold State.afterReset
  rw [State.get_progress _ _ _ _ (by decide), State.get_showRepairs _ (by decide), State.put0,
    State.get_put_word _ _ _ _ _ _ (by decide), State.put0, State.get_put_apart _ _ _ _ _ _ (by decide) (by decide), State.putB,
    State.get_put_apart _ _ _ _ _ _ (by decide) (by decide), State.putB, State.get_put_word _ _ _ _ _ _ (by decide), State.putB,
    State.get_put_same _ _ _ _]
  show (straps / 2 ^ 0 % 2 == 1).toNat % 2 = straps % 2
  obtain h | h := Nat.mod_two_eq_zero_or_one straps <;> rw [Nat.pow_zero, Nat.div_one, h] <;> rfl

theorem State.opMode_afterReset (s : State) (straps : Nat) : (s.afterReset none straps).opMode = 1 := by
  unfold State.opMode State.afterReset
  rw [State.get_progress _ _ _ _ (by decide), State.get_showRepairs _ (by decide), State.put0,
    State.get_put_word _ _ _ _ _ _ (by decide), State.put0, State.get_put_word _ _ _ _ _ _ (by decide), State.putB,
    State.get_put_word _ _ _ _ _ _ (by decide), State.putB, State.get_put_word _ _ _ _ _ _ (by decide), State.putB,
    State.get_put_word _ _ _ _ _ _ (by decide), State.put0,
    State.get_put_word _ _ _ _ _ _ (by decide)]
  exact (rfl : State.reset.opMode = 1)

/-- With no slot verified the controller stays in the boot ROM. -/
theorem State.boot_unverified (s : State) :
    s.boot false false = ((((s.put0 Reg.MODE_START_FAIL 1).put0 Reg.MODE_IN_TRANSITION 0).setTrans .none 0).modMgmt
      fun m => { m with inRom := true }).progressStop 0x01 := rfl

theorem deviceReset_unverified (s : State) (straps : Nat) :
    ∃ t : State, exec (.deviceReset none straps false false) s = .next t ∧
      t.mgmt.inRom = true ∧ t.get Reg.MODE_START_FAIL = 1 ∧ t.opMode = 1 ∧ t.mode.trans = .none ∧ t.mem = {} ∧ t.se = [] ∧
      t.clk = {} ∧ t.pending = s.pending ∧ t.get Reg.GLOBAL_UNIT_B = straps % 2 := by
  have hkept := s.afterReset_modeOnly straps
  have hunit := s.get_afterReset_unitB straps
  have hmode := s.opMode_afterReset straps
  obtain ⟨r, hr⟩ : ∃ r, r = s.afterReset none straps := ⟨_, rfl⟩
  refine ⟨r.boot false false, hr ▸ rfl, ?_⟩
  rw [← hr] at hkept hunit hmode
  rw [State.boot_unverified]
  refine ⟨rfl, ?_, ?_, rfl, ?_, ?_, ?_, ?_, ?_⟩
  · rw [State.get_progressStop _ (by decide), State.get_modMgmt, State.get_setTrans, State.put0,
      State.get_put_apart _ _ _ _ _ _ (by decide) (by decide), State.put0, State.get_put_same _ _ _ _]
    rfl
  · rw [State.opMode, State.get_progressStop _ (by decide), State.get_modMgmt, State.get_setTrans, State.put0,
      State.get_put_apart _ _ _ _ _ _ (by decide) (by decide), State.put0, State.get_put_apart _ _ _ _ _ _ (by decide) (by decide)]
    exact hmode
  · show r.mem = _
    rw [hkept.eq]
    rfl
  · show r.se = _
    rw [hkept.eq]
    rfl
  · show r.clk = _
    rw [hkept.eq]
    rfl
  · show r.pending = _
    rw [hkept.eq]
    exact (State.pending_fuseStop _).trans (State.pending_flashCut _)
  · rw [State.get_progressStop _ (by decide), State.get_modMgmt, State.get_setTrans, State.put0,
      State.get_put_word _ _ _ _ _ _ (by decide), State.put0, State.get_put_word _ _ _ _ _ _ (by decide)]
    exact hunit

/-- Settles O47: each way into or out of START is a chain of stores, and each field is read back through the chain. -/
theorem resetAndStart : Obligations.ResetAndStart :=
  ⟨deviceReset_unverified, fun s _ _ => startDone_fails s, fun s _ _ => startDone_completes s,
    fun s _ mr4 h => ⟨dramTrainingDone_succeeds s mr4 h, dramTrainingDone_fails s mr4 h⟩, smbusFwImage_discarded⟩

end Sys2Proof.Machine
end

section
/-! SUPPORT. Every command answers a next state. Statements O1 and O2. -/

namespace Sys2Proof.Machine

variable {s : State}

/-! ## How the meaning of a command ends

A meaning is a tree of conditions and of cases whose leaves are `ok`; the lemmas follow that tree. -/

/-- The outcome is a next state: no fault, no refusal. -/
def Out.Completes (o : Out) : Prop := ∃ t, o = .next t

protected theorem Out.Completes.ok : Out.Completes (ok s) := ⟨s, rfl⟩

protected theorem Out.Completes.ite {c : Prop} {_ : Decidable c} {a b : Out} (ha : Out.Completes a) (hb : Out.Completes b) :
    Out.Completes (if c then a else b) := by
  split
  · exact ha
  · exact hb

/-- A command that is done under a condition, and goes on otherwise. -/
theorem Out.Completes.okElse {c : Prop} {_ : Decidable c} {b : Out} (hb : Out.Completes b) : Out.Completes (if c then ok s else b) :=
  .ite .ok hb

/-- An access to a page whose domain may be off. -/
protected theorem Out.Completes.atPage {page : Nat} {f : State → Out} (hf : ∀ t, Out.Completes (f t)) :
    Out.Completes (s.atPage page f) :=
  .okElse (hf _)

protected theorem Out.Completes.readAt {p : Plane} {page : Nat} {f : State → Out} (hf : ∀ t, Out.Completes (f t)) :
    Out.Completes (s.readAt p page f) :=
  .okElse (hf _)

/-- A scene command that the engine serves. -/
protected theorem Out.Completes.scnServe {who : Origin} {op slot : Nat} {f : ScnCmd → State → Out}
    (hf : ∀ c t, Out.Completes (f c t)) : Out.Completes (s.scnServe who op slot f) := by
  unfold State.scnServe
  split
  · exact .ok
  · exact .okElse (hf _ _)

/-! ## Commands that find out something on the way -/

theorem execSampleLanding_completes {src : Nat} {x : Word} : Out.Completes (execSampleLanding src x s) := by
  unfold execSampleLanding
  refine .ite ?_ ?_
  · split
    · exact .ok
    · exact .ok
  · split
    · exact .ok
    · exact .ok

theorem execStripEnd_completes {e : Nat} {res dout : Word} {send : Nat} : Out.Completes (execStripEnd e res dout send s) := by
  dsimp only [execStripEnd]
  refine .okElse ?_
  split
  · exact .okElse .ok
  · exact .okElse .ok

theorem execStripMigration_completes {e : Nat} : Out.Completes (execStripMigration e s) := by
  dsimp only [execStripMigration]
  refine .okElse ?_
  split
  · exact .ok
  · exact .okElse .ok

theorem execBrc_completes {e cond target : Nat} : Out.Completes (execBrc e cond target s) := by
  unfold execBrc
  refine .okElse ?_
  split
  · exact .ok
  · exact .okElse (.okElse .ok)

theorem execLoadStripProgram_completes {q : Nat} {image : Option (List Byte)} :
    Out.Completes (execLoadStripProgram q image s) := by
  unfold execLoadStripProgram
  -- a variable in the place of the check keeps the kernel from running the CRC when it reduces the match
  obtain ⟨check, hc⟩ : ∃ f, f = progStatus := ⟨_, rfl⟩
  rw [← hc]
  split
  · exact .ok
  · refine .okElse (.okElse ?_)
    split
    · exact .ok
    · exact .okElse .ok

theorem execLoadBridge_completes {q : Nat} {image : Option (List Byte)} : Out.Completes (execLoadBridge q image s) := by
  dsimp only [execLoadBridge]
  split
  · exact .ok
  · refine .okElse (.okElse (.okElse ?_))
    split
    · exact .ok
    · exact .okElse (.okElse .ok)

theorem execOpenSlot_completes {who : Origin} : Out.Completes (execOpenSlot who s) :=
  .scnServe fun _ _ => by
    split
    · exact .ok
    · exact .ok

theorem execImageLoadEnd_completes {image : List Byte} {err : Bool} : Out.Completes (execImageLoadEnd image err s) := by
  dsimp only [execImageLoadEnd]
  split
  · exact .ok
  · exact .okElse (.okElse (.okElse (.okElse (.okElse (.okElse (.okElse (.okElse .ok)))))))

theorem execMoves_completes {who : Origin} {slot : Nat} {data : Option (List Word)} :
    Out.Completes (execMoves who slot data s) := by
  dsimp only [execMoves]
  refine .scnServe fun _ _ => .okElse (.okElse ?_)
  split
  · exact .ok
  · exact .okElse .ok

theorem execTimeSecLoRead_completes {p : Plane} : Out.Completes (execTimeSecLoRead p s) := .readAt fun _ => .ok

theorem execEphNextSecLoRead_completes {p : Plane} : Out.Completes (execEphNextSecLoRead p s) :=
  .readAt fun _ => by
    split
    · exact .ok
    · exact .ok

theorem execSvxPush_completes {p : Plane} {x : Nat} {v : Word} : Out.Completes (execSvxPush p x v s) :=
  .atPage fun _ => by
    refine .okElse (.okElse (.ite (.okElse .ok) ?_))
    split
    · exact .ok
    · exact .ok

theorem execVcxoLoopUpdate_completes {v : Nat} {off : Int} : Out.Completes (execVcxoLoopUpdate v off s) := by
  unfold execVcxoLoopUpdate
  refine .okElse (.okElse ?_)
  cases s.boundPort v with
  | none => exact .ok
  | some p => exact .okElse (.okElse .ok)

theorem execInterconnectRequest_completes {master : Nat} {host : Bool} {addr : Nat} {acc : MemAcc} :
    Out.Completes (execInterconnectRequest master host addr acc s) := by
  unfold execInterconnectRequest
  refine .okElse ?_
  cases s.target master host addr acc with
  | sram | dram | regs | rom | hostMem | none => exact .ok

theorem execHostqFetch_completes {q : Nat} {desc : Option (List Word)} : Out.Completes (execHostqFetch q desc s) := by
  dsimp only [execHostqFetch]
  refine .okElse ?_
  split
  · exact .ok
  · refine .ite (.okElse (.okElse (.okElse (.okElse .ok)))) (.ite (.okElse ?_) .ok)
    split
    · exact .ok
    · exact .ok

theorem execDvfsReq_completes {p : Plane} {v : Word} : Out.Completes (execDvfsReq p v s) := by
  dsimp only [execDvfsReq]
  refine .okElse ?_
  split
  · exact .okElse (.okElse .ok)
  · exact .ok

theorem execProvCommitEnd_completes {good : Bool} : Out.Completes (execProvCommitEnd good s) := by
  dsimp only [execProvCommitEnd]
  split
  · refine .okElse ?_
    split
    · exact .ok
    · exact .ok
  · exact .ok

theorem execWtrExpire_completes : Out.Completes (execWtrExpire s) := by
  unfold execWtrExpire
  refine .okElse ?_
  split
  · exact .ok
  · exact .ok

theorem execSecondsCarry_completes : Out.Completes (execSecondsCarry s) := by
  dsimp only [execSecondsCarry]
  refine .okElse (.okElse ?_)
  split
  · exact .ok
  · exact .ok

theorem execPacketLaunch_completes : Out.Completes (execPacketLaunch s) := by
  dsimp only [execPacketLaunch]
  split
  · exact .ok
  · split
    · exact .ok
    · exact .okElse .ok

theorem execCheckWindowEnd_completes : Out.Completes (execCheckWindowEnd s) := by
  dsimp only [execCheckWindowEnd]
  split
  · exact .ok
  · exact .okElse (.ite (.okElse .ok) .ok)

/-! ## Every command, by the shape of its meaning -/

theorem exec_completes (i : Instr) (s : State) : Out.Completes (exec i s) := by
  cases i with
  -- one effect on the state
  | hostIfReset | laneUnlock | rangeEnter | rangeExit | setRate | lgNotchRelax | macNop | mpy | mac | msu | clr | lda | adda
  | suba | add | sub | adds | subs | neg | absD | andD | orD | xorD | cmp | div | divComplete | asr | lsr | lsl | lsls | asri
  | lsri | lsli | lslsi | asra | lsra | lsla | lslsa | store | auAddOffset | auLoadBase | nop | ldi | eventAccept | waits
  | enter | leave | park3 | unpark | trapx | testAndSet | bridgeInstruction | eyeBlockEnd | netLinkDown | signalReturn
  | pmuxRelease | pmuxTake | prbsChkLock | prbsClr | laneErrLoRead | kzlFrameRx | kzlFrameTx | kzlLinkFail | arbGrant
  | arbWindowEnd | fence | registerWrite | rcRead | freeze | reqShow | reqHold | reqFollow | reqStart | reqMaint | reqPark
  | dataPlaneStop | flashErase | keyDone | supplySample | sensorRead | faultEvent | marchFifoRead | activityEvent
  | scanChainEnable | rateRampIn | rateChangeDone | shedStop | meterFrameBoundary | deferredXfadeStart | readbackFault
  | holdRampEnd | faultNPulseEnd =>
    exact .ok
  -- one condition, and an effect on either side
  | laneUnlockRampEnd | lgFrameEnd | dmaErr | liveWrite | measurementInstant | mpdTimeout | rxStreamWait | netRingDb | netLinkUp
  | aes3LockLoss | lossOfSignal | mediaSet | aes3TxFrame | tdmTxFrame | laneCdrLost | laneAdaptDone | prbsChkRelock
  | kzlAlignDone | kzlStateTimeout | bcCatchupDone | measRecord | cascRecord | timeRecord | scrubStep | softReset | intcEoi
  | hostqRingDb | keyData | keyCheck | keyWrap | domainWake | fanFail | fanRecover | fltWdtKick | marchDone | pcieLinkUp
  | automixUpdate | acqTimeout | acqHoldoffExpire | hbToggle | hbInEdge | confirmTimeout | thermalStateChange =>
    exact .okElse .ok
  -- conditions one after another, each with an effect of its own
  | smbusFwImage | sampleBoundary | stripBegin | derivationDone | stripShed | load | loadAddressFile | br | bri | brk | rep
  | repd | gath16 | rte | activityLoss | tdmRxFrame | restart | activeNConfirm | moveRecord | checkRecord | modeRecord
  | pageRecord | seedRecord | bcseedRecord | lockRead | ringReplay | hostqRingEn | provCommit | marchGo | sceneCutoff | hbLost
  | wdtExpire =>
    exact .okElse (.okElse .ok)
  | cueEdgeConfirm | netRxFrame | tdmFsEdge | laneCdrLock | statusRecord | msixMessage | domainIdleOff | domainReady | repFuseGo =>
    exact .okElse (.okElse (.okElse .ok))
  | fltFenceGo | bistGo =>
    exact .okElse (.okElse (.okElse (.okElse .ok)))
  -- accesses to a page that may be dark
  | rconvQsel | patchQsel | bcQsel | fabXpQsel | fabSrcQsel | scnQw0 | arbQsel | ownQaddr | mtrRdSet | eyeRdSet | ephCancel
  | calTaiUtcArm | timeTxtsPop | remap | cvuEnable | arbCommit =>
    dsimp only [exec]
    exact .atPage fun _ => .ok
  | seQsel =>
    dsimp only [exec]
    exact .atPage fun _ => .okElse .ok
  | calSetGo =>
    dsimp only [exec]
    exact .atPage fun _ => .okElse (.okElse .ok)
  | scnPortPush | ephPush =>
    dsimp only [exec]
    exact .atPage fun _ => .okElse (.okElse (.okElse (.okElse .ok)))
  | stbyForce =>
    dsimp only [exec]
    exact .atPage fun _ => .okElse (.okElse (.okElse (.okElse (.okElse (.okElse .ok)))))
  | calDateRead | cvuResultLoRead =>
    dsimp only [exec]
    exact .readAt fun _ => .ok
  -- scene commands
  | abort =>
    dsimp only [exec]
    exact .scnServe fun _ _ => .okElse (.okElse .ok)
  | loadImage =>
    dsimp only [exec]
    exact .scnServe fun _ _ => .okElse (.okElse (.okElse .ok))
  | close | arm =>
    dsimp only [exec]
    exact .scnServe fun _ _ => .okElse (.okElse (.okElse (.okElse .ok)))
  -- conditions under a condition
  | aes3RxFrame =>
    exact .okElse (.ite (.okElse .ok) .ok)
  | madiRxFrame =>
    exact .okElse (.ite (.okElse .ok) (.okElse .ok))
  | laneLock =>
    exact .okElse (.ite (.okElse .ok) (.ite (.okElse (.okElse .ok)) .ok))
  | slotRecord =>
    exact .okElse (.okElse (.okElse (.ite (.okElse .ok) (.okElse (.ite (.okElse .ok) .ok)))))
  -- what is there decides, and each case has one effect
  | snapshotDone | mvtc | mvfc | cueOutPulseEnd | rxLegDown | losRampEnd | pmuxFirstFrame | kzlRto | lockBreak
  | darkFrameComplete | dramTrainingDone | cmdNop | regWrite | regRead | flashProgram | flashRead | targetedTestEnd | rateSwitch
  | ptpStep | dataPlaneStart | dvfsVoltTimeout =>
    dsimp only [exec, execSnapshotDone, execMvtc, execMvfc, execCueOutPulseEnd, execRxLegDown, execLosRampEnd, execPmuxFirstFrame,
      execKzlRto, execLockBreak, execDarkFrameComplete, execDramTrainingDone, execCmdNop, execRegWrite, execRegRead, execFlashProgram,
      execFlashRead, execTargetedTestEnd, execRateSwitch, execPtpStep, execDataPlaneStart, execDvfsVoltTimeout]
    split
    · exact .ok
    · exact .ok
  -- where there is something to act on, a condition follows
  | gatherComplete | eventLatency | bridgeCoreStart | ephCommitFire | cueOutFire | hostFrameTx | mgmtFrameTx | madiTxFrame
  | holdCut | darkFramePassStart | bistDone | progWriteStart | progWriteEnd | giveupRelease | stuckLow =>
    dsimp only [exec, execGatherComplete, execEventLatency, execBridgeCoreStart, execEphCommitFire, execCueOutFire, execHostFrameTx,
      execMgmtFrameTx, execMadiTxFrame, execHoldCut, execDarkFramePassStart, execBistDone, execProgWriteStart,
      execProgWriteEnd, execGiveupRelease, execStuckLow]
    split
    · exact .ok
    · exact .okElse .ok
  | gatherFault | bridgeLoadWrite | releaseDecisionTimeout | giveupReclaim | fuseBurnDone =>
    dsimp only [exec, execGatherFault, execBridgeLoadWrite, execReleaseDecisionTimeout, execGiveupReclaim, execFuseBurnDone]
    split
    · exact .ok
    · exact .okElse (.okElse .ok)
  -- only the first case goes on
  | deviceReset | dvfsRailConfirm | supplyHoldEnd =>
    dsimp only [exec, execDeviceReset, execDvfsRailConfirm, execSupplyHoldEnd]
    split
    · exact .okElse .ok
    · exact .ok
  | startDone | dvfsDividerChange =>
    dsimp only [exec, execStartDone, execDvfsDividerChange]
    split
    · exact .okElse (.okElse .ok)
    · exact .ok
  | flashCommandEnd =>
    dsimp only [exec, execFlashCommandEnd]
    split
    · exact .ok
    · exact .ok
    · exact .ok
    · exact .ok
  -- the commands above
  | sampleLanding => exact execSampleLanding_completes
  | stripEnd => exact execStripEnd_completes
  | stripMigration => exact execStripMigration_completes
  | brc => exact execBrc_completes
  | loadStripProgram => exact execLoadStripProgram_completes
  | loadBridge => exact execLoadBridge_completes
  | openSlot => exact execOpenSlot_completes
  | imageLoadEnd => exact execImageLoadEnd_completes
  | moves => exact execMoves_completes
  | timeSecLoRead => exact execTimeSecLoRead_completes
  | ephNextSecLoRead => exact execEphNextSecLoRead_completes
  | svxPush => exact execSvxPush_completes
  | vcxoLoopUpdate => exact execVcxoLoopUpdate_completes
  | interconnectRequest => exact execInterconnectRequest_completes
  | hostqFetch => exact execHostqFetch_completes
  | dvfsReq => exact execDvfsReq_completes
  | provCommitEnd => exact execProvCommitEnd_completes
  | wtrExpire => exact execWtrExpire_completes
  | secondsCarry => exact execSecondsCarry_completes
  | packetLaunch => exact execPacketLaunch_completes
  | checkWindowEnd => exact execCheckWindowEnd_completes
theorem step_completes (s : State) : Out.Completes (step s) := by
  unfold Machine.step
  split
  · exact .ok
  · exact exec_completes _ _

/-- A run whose first step answers a next state goes on from there. -/
theorem run_succ_of_step (M : Host.Core) {s u : M.State} (k : Nat) (h : M.step s = .next u) : M.run (k + 1) s = M.run k u := by
  simp only [Host.Core.run, h]

theorem run_completes (k : Nat) (s : State) : ∃ t, Host.Core.run core k s = .next t := by
  induction k generalizing s with
  | zero => exact ⟨s, rfl⟩
  | succ k ih =>
    obtain ⟨u, hu⟩ := step_completes s
    obtain ⟨t, ht⟩ := ih u
    exact ⟨t, (run_succ_of_step core k hu).trans ht⟩

/-! ## The statements -/

/-- Settles O2: every leaf of every meaning is `ok`, and a run takes one step after another. -/
theorem everyCommandCompletes : Obligations.EveryCommandCompletes :=
  ⟨exec_completes, fun s k => run_completes k s⟩

/-- Settles O1: a step looks at the queue and at nothing else. -/
theorem stepRunsTheFrontCommand : Obligations.StepRunsTheFrontCommand := by
  refine ⟨fun _ _ _ => rfl, fun s h => ?_⟩
  unfold Machine.step
  split
  · rfl
  · next hc => exact absurd (hc.symm.trans h) (List.cons_ne_nil _ _)

end Sys2Proof.Machine
end

section
/-! SUPPORT. The first boundary, a boundary with nothing overdue, and a landing. Statement O17. -/

namespace Sys2Proof.Machine

variable {s : State}

/-- Rounds that each leave a state as it is leave it so together. -/
theorem forRange_of_fixed {σ : Type} {f : Nat → σ → σ} {x : σ} (n lo : Nat) (h : ∀ i, lo ≤ i → i < lo + n → f i x = x) :
    forRange f lo n x = x := by
  induction n generalizing lo with
  | zero => rfl
  | succ n ih =>
    rw [forRange, h lo le_rfl (by omega)]
    exact ih (lo + 1) fun i hi hn => h i (by omega) (by omega)

/-! ## The reference boundary (R30, R347) -/

theorem State.ref_placeRef (s : State) :
    s.placeRef.clk.ref = (s.clk.now + 15) / 16 * 16 + 16 * Config.freeValue s.free := rfl

/-- The reference lies on an MCLK edge: every sixteenth edge of the root. -/
theorem State.ref_placeRef_mclk (s : State) : s.placeRef.clk.ref % 16 = 0 := by
  rw [s.ref_placeRef]
  omega

theorem State.now_le_ref_placeRef (s : State) : s.clk.now ≤ s.placeRef.clk.ref := by
  rw [s.ref_placeRef]
  omega

/-- Time has moved on to the reference. -/
theorem State.now_placeRef (s : State) : s.placeRef.clk.now = s.placeRef.clk.ref :=
  max_eq_right s.now_le_ref_placeRef

/-- The PTP clock counts from its start at the reference, where it reads zero. -/
theorem State.thirds_placeRef (s : State) : s.placeRef.thirds = 0 := by
  have hthirds : s.placeRef.thirds = (0 + 2 * ((s.placeRef.clk.now - s.placeRef.clk.ref) / 2)) % ptpModulus := rfl
  rw [hthirds, s.now_placeRef, Nat.sub_self]
  rfl

theorem sampleBoundary_park (w : SampleIn) (h : s.opMode = 0) : exec (.sampleBoundary w) s = .next s := if_pos h

theorem sampleBoundary_first (w : SampleIn) (hm : s.opMode ≠ 0) (hp : s.clk.placed = false) :
    exec (.sampleBoundary w) s = .next (s.placeRef.boundaryAt s.placeRef.clk.ref false) := by
  rw [← s.now_placeRef]
  exact (if_neg hm).trans (if_pos (by rw [hp]; rfl))

/-! ## Boundaries with nothing overdue -/

/-- With no transition under way, no step of one is due. -/
theorem State.transOverdue_idle (h : s.mode.trans = .none) : s.transOverdue = s := by
  simp only [State.transOverdue, State.rampDone, State.holdDone, State.rampIn, State.stopNow, State.planeDue, State.rateDue, h]

/-- With no frame complete and no tap running, no frame and no block ends. -/
theorem State.meterOverdue_quiet (hf : s.meterDue = false) (he : ∀ t, t < 8 → (s.eye t).running = false) : s.meterOverdue = s := by
  have hs : (if s.meterDue then s.meterEnd false else s) = s := if_neg (by rw [hf]; exact Bool.false_ne_true)
  unfold State.meterOverdue
  rw [hs]
  refine forRange_of_fixed 8 0 fun t _ ht => if_neg ?_
  rw [he t (by omega)]
  exact Bool.false_ne_true

theorem sampleBoundary_next (w : SampleIn) (hm : s.opMode ≠ 0) (hp : s.clk.placed = true) (ht : s.mode.trans = .none)
    (hf : s.meterDue = false) (he : ∀ t, t < 8 → (s.eye t).running = false) (hs : s.dp.shedding = []) :
    let v := if s.mode.running then s.periodWork w else s
    exec (.sampleBoundary w) s = .next (((v.advanceTo v.nextBoundary).modClk fun c =>
      { c with pos := v.clk.pos + periodEdges v.rate, idx := c.idx + 1 }).boundaryAt v.nextBoundary s.mode.running) := by
  intro v
  have hover : s.transOverdue.meterOverdue = s := by rw [State.transOverdue_idle ht, State.meterOverdue_quiet hf he]
  have hshed : (if !s.dp.shedding.isEmpty && decide (s.dp.shedAt ≤ s.idx) then s.shedStop else s) = s := by rw [hs]; rfl
  refine (if_neg hm).trans ((if_neg (by rw [hp]; exact Bool.false_ne_true)).trans ?_)
  dsimp only
  rw [hover, hshed]
  rfl

/-! ## Landings (R296, R297) -/

/-- A sample joins the ingress buffer of its source; while the data plane does not run, the buffer keeps the last four. -/
def State.inQueue (s : State) (src : Nat) (x : Word) : State :=
  s.modDp fun d =>
    { d with src := tmod {} d.src src fun i =>
      { i with queue := (i.queue ++ [(s.clk.now, x)]).drop (if s.mode.running then 0 else i.queue.length - 3) } }

theorem State.express_unrouted (src : Nat) (x : Word) (h : s.routes = []) : s.express src x = s := by
  unfold State.express
  rw [h]
  exact ite_self s

/-- With no express route and no lane listed a sample that lands waits in its buffer alone. -/
theorem State.land_alone (src : Nat) (x : Word) (hr : s.routes = []) (hl : s.listedLanes = []) : s.land src x = s.inQueue src x := by
  have hlanes : (s.inQueue src x).listedLanes = [] := hl
  unfold State.inQueue at hlanes
  simp only [State.land, State.express_unrouted src x hr, hlanes, List.filter_nil, forEach, ite_self]
  rfl

theorem sampleLanding_received (x : Word) {src p ch : Nat} (hsrc : rxPortOf src = some (p, ch)) (hport : 0x800 ≤ src)
    (hen : s.rxEn p = true) (hlock : s.rxLock p = true) (hch : ch < s.rxChannels p) (hup : s.portsUp = true) :
    exec (.sampleLanding src x) s = .next (s.land src x) := by
  have hon : (s.rxEn p && s.rxLock p && decide (ch < s.rxChannels p) && s.portsUp) = true := by
    rw [hen, hlock, hup, decide_eq_true hch]
    rfl
  refine (if_neg (Nat.not_lt.2 hport)).trans ?_
  rw [hsrc]
  exact congrArg Host.Outcome.next (if_pos hon)

/-! ## The statement -/

/-- Settles O17: each command is followed along the branch that its hypotheses leave open. -/
theorem boundariesAndLandings : Obligations.BoundariesAndLandings := by
  refine ⟨fun _ w h => sampleBoundary_park w h, fun s w hm hp => ?_, fun s w hm hp ht hf he hs => ?_,
    fun s src p ch x hsrc hport hen hlock hch hup hr hl => ?_⟩
  · exact ⟨s.placeRef, sampleBoundary_first w hm hp, rfl, s.ref_placeRef_mclk, s.now_le_ref_placeRef, s.now_placeRef, rfl, rfl,
      s.thirds_placeRef, rfl, rfl, rfl⟩
  · exact sampleBoundary_next w hm hp ht hf he hs
  · refine ⟨s.inQueue src x, ?_, ?_, fun k hk => tget_tput_other _ _ _ _ _ _ hk, rfl⟩
    · rw [sampleLanding_received x hsrc hport hen hlock hch hup, State.land_alone src x hr hl]
    · exact congrArg Ingress.queue (tget_tput_same _ _ _ _)

end Sys2Proof.Machine
end

section
/-! SUPPORT. Fences, retirement and the end of a targeted test. Statement O51. -/

namespace Sys2Proof.Machine

variable {s t : State} {u : UnitId}

/-! ## The words of the units that a fence takes -/

/-- A register word of a page that describes a unit: not of the mode page, of the standby's, of the memory's or of the fault pages. -/
def onUnitPage (a : Nat) : Bool :=
  decide (0x10 ≤ a / 4096 ∧ a / 4096 < 0xA8) || decide (a / 4096 = 0xC0 ∨ a / 4096 = 0xC1)

/-- The register words of the units stay as they are. -/
def UnitsKept (s t : State) : Prop := ∀ a, onUnitPage a = true → t.word a = s.word a

theorem UnitsKept.refl (s : State) : UnitsKept s s := fun _ _ => rfl

theorem UnitsKept.put {f : Fld} {i v : Nat} (h : UnitsKept s t) (hf : onUnitPage (fldAt f i) = false := by decide) :
    UnitsKept s (t.put f i v) := fun a ha =>
  (t.word_put_other f i v a fun e => by simp [e, hf] at ha).trans (h a ha)

theorem UnitsKept.modFlt {f : Flt → Flt} (h : UnitsKept s t) : UnitsKept s (t.modFlt f) := h

theorem UnitsKept.ite {c : Prop} {_ : Decidable c} {v : State} (ht : UnitsKept s t) (hv : UnitsKept s v) :
    UnitsKept s (if c then t else v) := by
  split
  · exact ht
  · exact hv

theorem UnitsKept.sendStatus (h : UnitsKept s t) : UnitsKept s t.sendStatus := by
  rw [State.sendStatus_frame]
  exact h

theorem UnitsKept.get {f : Fld} {i : Nat} (h : UnitsKept s t) (ha : onUnitPage (fldAt f i) = true) : t.get f i = s.get f i := by
  unfold State.get
  rw [h _ ha]

/-! ## Header words -/

theorem fldAt_fenced (page : Nat) : fldAt Hdr.FENCED page = 4096 * page + 0x0C := by
  simp [fldAt, Hdr.FENCED]
  omega

theorem fldAt_retired (page : Nat) : fldAt Hdr.RETIRED page = 4096 * page + 0x0C := fldAt_fenced page

theorem fldAt_epoch (page : Nat) : fldAt Hdr.EPOCH page = 4096 * page + 0x24 := by
  simp [fldAt, Hdr.EPOCH]
  omega

theorem onUnitPage_of_page {p k : Nat} (hp : onUnitPage (4096 * p) = true) (hk : k < 4096) : onUnitPage (4096 * p + k) = true := by
  have hd : (4096 * p + k) / 4096 = 4096 * p / 4096 := by omega
  unfold onUnitPage at hp ⊢
  rwa [hd]

/-- A unit that a fence can take has its header on a page of a unit. -/
theorem onUnitPage_of_fenceable (h : fenceable u = true) : onUnitPage (4096 * unitPage u.page) = true := by
  have hpage : (0x10 ≤ u.page ∧ u.page < 0xA8) ∨ u.page = 0xC0 ∨ u.page = 0xC1 := by
    simp only [fenceable, Bool.or_eq_true, Bool.and_eq_true, decide_eq_true_eq, beq_iff_eq] at h
    omega
  have hunit : (0x10 ≤ unitPage u.page ∧ unitPage u.page < 0xA8) ∨ unitPage u.page = 0xC0 ∨ unitPage u.page = 0xC1 := by
    unfold unitPage
    (repeat' split) <;> omega
  simpa [onUnitPage] using hunit

/-- Where the words of the units stay, so do the header fields of a unit that a fence can take. -/
theorem UnitsKept.get_fenced (h : UnitsKept s t) (hu : fenceable u = true) :
    t.get Hdr.FENCED (unitPage u.page) = s.get Hdr.FENCED (unitPage u.page) :=
  h.get (by rw [fldAt_fenced]; exact onUnitPage_of_page (onUnitPage_of_fenceable hu) (by decide))

theorem UnitsKept.get_retired (h : UnitsKept s t) (hu : fenceable u = true) :
    t.get Hdr.RETIRED (unitPage u.page) = s.get Hdr.RETIRED (unitPage u.page) :=
  h.get (by rw [fldAt_retired]; exact onUnitPage_of_page (onUnitPage_of_fenceable hu) (by decide))

theorem UnitsKept.epoch (h : UnitsKept s t) (hu : fenceable u = true) : t.epoch u.page = s.epoch u.page :=
  h.get (by rw [fldAt_epoch]; exact onUnitPage_of_page (onUnitPage_of_fenceable hu) (by decide))

theorem UnitsKept.unitDown (h : UnitsKept s t) (hu : fenceable u = true) (hs : isSubUnit u = false) :
    t.unitDown u = s.unitDown u := by
  simp only [State.unitDown, hs, State.getB, h.get_fenced hu, h.get_retired hu, Bool.false_eq_true, ↓reduceIte]

theorem State.unitDown_of_fenced (hs : isSubUnit u = false) (h : t.get Hdr.FENCED (unitPage u.page) = 1) : t.unitDown u = true := by
  simp [State.unitDown, hs, State.getB, h]

/-! ## What a fence does beside the unit's own words -/

theorem UnitsKept.showSpares (h : UnitsKept s t) : UnitsKept s t.showSpares := .ite h h.put

theorem UnitsKept.giveUpStart {k : Nat} (h : UnitsKept s t) : UnitsKept s (t.giveUpStart k) := by
  refine .sendStatus ?_
  exact h.put (f := Reg.STBY_GIVEUP_CAUSE) (i := 0) (v := k)

theorem UnitsKept.giveUpFor {k : Nat} (h : UnitsKept s t) : UnitsKept s (t.giveUpFor k) :=
  .ite h (.ite h.giveUpStart (.put (.put (.put (.put (.put h))))))

theorem UnitsKept.giveUpOn (h : UnitsKept s t) : UnitsKept s (t.giveUpOn u) :=
  .ite (.ite h.giveUpFor h) (.ite h.giveUpFor (.ite h.giveUpFor (.ite h.giveUpFor (.ite h.giveUpFor h))))

theorem UnitsKept.showPasses (h : UnitsKept s t) : UnitsKept s t.showPasses := by
  have hcount : ∀ r q, UnitsKept s ((t.put0 Reg.OWN_RUNNING r).put0 Reg.OWN_QUEUED q) := fun _ _ => .put (.put h)
  dsimp only [State.showPasses]
  split
  · exact .put (.put (.put (hcount _ _)))
  · exact .ite (hcount _ _) (.put (hcount _ _))

theorem UnitsKept.retag {base size cls owner : Nat} (h : UnitsKept s t) : UnitsKept s (t.retag base size cls owner) :=
  .showPasses h

theorem UnitsKept.fenceBufs (h : UnitsKept s t) : UnitsKept s (t.fenceBufs u) := by
  have hall : ∀ (l : List Buf) (cls owner : Nat), UnitsKept s (forEach (fun b s => s.retag b.base b.size cls owner) l t) :=
    fun l cls owner => forEach_keeps (P := UnitsKept s) (fun _ _ h => h.retag) l t h
  unfold State.fenceBufs
  refine .ite ?_ (.ite (hall _ _ _) ?_)
  · split
    · exact hall _ _ _
    · exact hall _ _ _
  · split
    · exact hall _ _ _
    · exact h

/-- A unit of its own is no SERDES lane, and its fence takes no link down. -/
theorem UnitsKept.subUnitOut (hs : isSubUnit u = false) (h : UnitsKept s t) : UnitsKept s (t.subUnitOut u) := by
  have hpage : u.page ≠ 0xA0 := by
    intro hp
    simp [isSubUnit, hp] at hs
  unfold State.subUnitOut
  rw [if_neg hpage]
  split
  · exact h
  · exact h

/-! ## A fence (R38, R39) -/

/-- A strip engine or a Bridge core that is fenced stops running, and the core is halted. -/
def State.stopUnit (s : State) (u : UnitId) : State :=
  if 0x10 ≤ u.page ∧ u.page ≤ 0x31 then s.put Hdr.RUNNING u.page 0
  else if u.page = 0xC0 ∨ u.page = 0xC1 then (s.put Hdr.RUNNING u.page 0).put Hdr.SPARE u.page 1 else s

/-- PG_STAT as the fence of a unit leaves it. -/
def State.fenceStat (s : State) (u : UnitId) (retire : Bool) : State :=
  let s := s.put Hdr.FENCED (unitPage u.page) 1
  (if retire then s.put Hdr.RETIRED (unitPage u.page) 1 else s).stopUnit u

/-- A fence of a unit of its own: requests masked and locks broken, PG_STAT, the epoch, the buffers. -/
theorem State.fence_eq (s : State) (retire : Bool) (hs : isSubUnit u = false) :
    ∃ f : Mem → Mem, s.fence u retire =
      (((((s.advanceTo (s.clk.now + 4)).modMem f).fenceStat u retire).bumpEpoch u.page).fenceBufs u).modFlt
        fun f => { f with resched := f.resched ++ [u] } := by
  unfold State.fence
  rw [hs]
  exact ⟨_, rfl⟩

/-- RUNNING and HALTED share the word of PG_STAT with FENCED and RETIRED, and none of their bits. -/
theorem State.get_stopUnit (s : State) {f : Fld} (i : Nat) (hf : f.hi < 4) : (s.stopUnit u).get f i = s.get f i := by
  have hrun : (s.put Hdr.RUNNING u.page 0).get f i = s.get f i := State.get_put_apart _ _ _ _ _ _ (by omega) (.inl hf)
  unfold State.stopUnit
  split
  · exact hrun
  · split
    · rw [State.get_put_apart _ Hdr.SPARE _ _ _ _ (by omega) (.inl (Nat.lt_succ_of_lt hf)), hrun]
    · rfl

theorem State.get_fenceStat_fenced (s : State) (retire : Bool) : (s.fenceStat u retire).get Hdr.FENCED (unitPage u.page) = 1 := by
  have hput : (s.put Hdr.FENCED (unitPage u.page) 1).get Hdr.FENCED (unitPage u.page) = 1 := State.get_put_same _ _ _ _
  refine (State.get_stopUnit _ _ (by decide)).trans ?_
  split
  · rw [State.get_put_apart _ _ _ _ _ _ (by decide) (by decide), hput]
  · exact hput

theorem State.get_fenceStat_retired (s : State) : (s.fenceStat u true).get Hdr.RETIRED (unitPage u.page) = 1 :=
  (State.get_stopUnit _ _ (by decide)).trans (State.get_put_same _ _ _ _)

/-- A store in PG_STAT leaves every epoch alone. -/
theorem State.epoch_put_stat (s : State) {f : Fld} (hf : ∀ i, fldAt f i = 4096 * i + 0x0C) (i v p : Nat) :
    (s.put f i v).epoch p = s.epoch p :=
  State.get_put_word _ _ _ _ _ _ (by rw [fldAt_epoch, hf]; omega)

theorem State.epoch_stopUnit (s : State) (p : Nat) : (s.stopUnit u).epoch p = s.epoch p := by
  have hrun := s.epoch_put_stat (f := Hdr.RUNNING) fldAt_fenced u.page 0 p
  unfold State.stopUnit
  split
  · exact hrun
  · split
    · exact (State.epoch_put_stat _ (f := Hdr.SPARE) fldAt_fenced _ _ _).trans hrun
    · rfl

theorem State.epoch_fenceStat (s : State) (retire : Bool) (p : Nat) : (s.fenceStat u retire).epoch p = s.epoch p := by
  have hfenced := s.epoch_put_stat fldAt_fenced (unitPage u.page) 1 p
  refine (State.epoch_stopUnit _ p).trans ?_
  split
  · exact (State.epoch_put_stat _ fldAt_retired _ _ _).trans hfenced
  · exact hfenced

/-- After its epoch has moved on, a fenced unit's words stay. -/
theorem State.fence_kept (s : State) (retire : Bool) (hs : isSubUnit u = false) :
    ∃ v : State, v.regs = s.regs ∧ UnitsKept ((v.fenceStat u retire).bumpEpoch u.page) (s.fenceUnit u retire) := by
  obtain ⟨f, e⟩ := s.fence_eq retire hs
  refine ⟨(s.advanceTo (s.clk.now + 4)).modMem f, rfl, .subUnitOut hs (.giveUpOn (.showSpares ?_))⟩
  rw [e]
  exact .fenceBufs (.refl _)

theorem State.get_fenceUnit_fenced (s : State) (retire : Bool) (hu : fenceable u = true) (hs : isSubUnit u = false) :
    (s.fenceUnit u retire).get Hdr.FENCED (unitPage u.page) = 1 := by
  obtain ⟨v, -, hk⟩ := s.fence_kept retire hs
  rw [hk.get_fenced hu, State.get_bumpEpoch _ (by rw [fldAt_fenced, fldAt_epoch]; omega), State.get_fenceStat_fenced]

theorem State.get_fenceUnit_retired (s : State) (hu : fenceable u = true) (hs : isSubUnit u = false) :
    (s.fenceUnit u true).get Hdr.RETIRED (unitPage u.page) = 1 := by
  obtain ⟨v, -, hk⟩ := s.fence_kept true hs
  rw [hk.get_retired hu, State.get_bumpEpoch _ (by rw [fldAt_retired, fldAt_epoch]; omega), State.get_fenceStat_retired]

/-- A fence increments the epoch of its unit once. -/
theorem State.epoch_fenceUnit (s : State) (retire : Bool) (hu : fenceable u = true) (hs : isSubUnit u = false)
    (he : s.epoch u.page + 1 < 2 ^ 32) : (s.fenceUnit u retire).epoch u.page = s.epoch u.page + 1 := by
  obtain ⟨v, hv, hk⟩ := s.fence_kept retire hs
  have hepoch : v.epoch u.page = s.epoch u.page := by simp only [State.epoch, State.get, State.word, hv]
  rw [hk.epoch hu, State.epoch_bumpEpoch, State.epoch_fenceStat, hepoch, if_pos he]

theorem fence_inService (hu : fenceable u = true) (hd : s.unitDown u = false) :
    exec (.fence u) s = .next (s.fenceUnit u false) := by
  refine congrArg Host.Outcome.next (if_pos ?_)
  rw [hu, hd]
  rfl

/-! ## FLT_FENCE_GO (R630) -/

theorem State.get_fenceAnswer_status (s : State) {st : Nat} (h : st < 4) : (s.fenceAnswer st).get Reg.FLT_STATUS = st := by
  unfold State.fenceAnswer
  rw [State.irq, State.get_put_word _ _ _ _ _ _ (by decide), State.put0, State.get_put_apart _ _ _ _ _ _ (by decide) (by decide),
    State.put0, State.get_put_same _ _ _ _]
  exact Nat.mod_eq_of_lt h

theorem State.get_fenceAnswer_done (s : State) (st : Nat) : (s.fenceAnswer st).get Reg.FLT_DONE = 1 := by
  unfold State.fenceAnswer
  rw [State.irq, State.get_put_word _ _ _ _ _ _ (by decide), State.put0, State.get_put_same _ _ _ _]
  rfl

/-- An answer without a fence changes the word of STATUS and DONE and the interrupt word alone. -/
theorem State.fenceAnswer_only (s : State) (st : Nat) :
    OnlyWords [fldAt Reg.FLT_STATUS 0, fldAt Reg.FLT_IRQ_FENCE_DONE 0] s ((s.put0 Reg.FLT_DONE 0).fenceAnswer st) := by
  refine ⟨rfl, fun a ha => ?_⟩
  have hstatus : a ≠ fldAt Reg.FLT_STATUS 0 := List.ne_of_not_mem_cons ha
  have hdone : a ≠ fldAt Reg.FLT_DONE 0 := hstatus
  have hirq : a ≠ fldAt Reg.FLT_IRQ_FENCE_DONE 0 := List.ne_of_not_mem_cons (List.not_mem_of_not_mem_cons ha)
  exact (State.word_put_other _ _ _ _ _ hirq).trans ((State.word_put_other _ _ _ _ _ hdone).trans
    ((State.word_put_other _ _ _ _ _ hstatus).trans (State.word_put_other _ _ _ _ _ hdone)))

theorem UnitsKept.fenceAnswer {st : Nat} (h : UnitsKept s t) : UnitsKept s (t.fenceAnswer st) := .put (.put (.put h))

/-- A request of the manager clears DONE, and then answers as its words and its unit stand. -/
theorem fltFenceGo_eq {v : Word} {u : UnitId} (hv : v.toNat % 2 = 1) (hu : unitOfWord (s.get Reg.FLT_FENCE_UNIT) = u) :
    exec (.fltFenceGo .mgmt v) s =
      .next (if s.get Reg.FLT_FENCE_UNIT ≠ unitWord u || !fenceable u then (s.put0 Reg.FLT_DONE 0).fenceAnswer 2
        else if s.get Reg.FLT_FENCE_EPOCH ≠ s.epoch u.page then
          ((s.put0 Reg.FLT_DONE 0).raise Src.VIEW_MISMATCH u).fenceAnswer 1
        else if s.unitDown u then (s.put0 Reg.FLT_DONE 0).fenceAnswer 3
        else ((s.put0 Reg.FLT_DONE 0).fenceUnit u false).fenceAnswer 0) := by
  subst hu
  have hw : (s.put0 Reg.FLT_DONE 0).get Reg.FLT_FENCE_UNIT = s.get Reg.FLT_FENCE_UNIT := State.get_put_word _ _ _ _ _ _ (by decide)
  have hreq : (s.put0 Reg.FLT_DONE 0).get Reg.FLT_FENCE_EPOCH = s.get Reg.FLT_FENCE_EPOCH := State.get_put_word _ _ _ _ _ _ (by decide)
  have hepoch : ∀ p, (s.put0 Reg.FLT_DONE 0).epoch p = s.epoch p := fun p =>
    State.get_put_word _ _ _ _ _ _ (by rw [fldAt_epoch, show fldAt Reg.FLT_DONE 0 = 4096 * 0xD0 + 0x6C from rfl]; omega)
  have hstat : ∀ p, (s.put0 Reg.FLT_DONE 0).word (fldAt Hdr.FENCED p) = s.word (fldAt Hdr.FENCED p) := fun p =>
    State.word_put_other _ _ _ _ _ (by rw [fldAt_fenced, show fldAt Reg.FLT_DONE 0 = 4096 * 0xD0 + 0x6C from rfl]; omega)
  have hdown : ∀ u, (s.put0 Reg.FLT_DONE 0).unitDown u = s.unitDown u := fun u => by
    simp only [State.unitDown, State.getB, State.get, fldAt_retired, ← fldAt_fenced, hstat, State.put0_flt]
  have hgo : ¬(Plane.mgmt ≠ .mgmt ∨ v.toNat % 2 = 0) := by simp [hv]
  refine (if_neg hgo).trans ?_
  rw [hw, hreq, hepoch, hdown]
  (repeat' split) <;> rfl

/-! ## The log and the queue of tests (R621, R642) -/

theorem fldAt_log (k : Nat) : ∃ j, j < 512 ∧ fldAt Reg.FLTL_LOG k = 0xD3800 + 4 * j :=
  ⟨k % 512, Nat.mod_lt _ (by decide), by simp [fldAt, Reg.FLTL_LOG]⟩

theorem onUnitPage_log (k : Nat) : onUnitPage (fldAt Reg.FLTL_LOG k) = false := by
  obtain ⟨j, hj, e⟩ := fldAt_log k
  have hd : (0xD3800 + 4 * j) / 4096 = 0xD3 := by omega
  rw [e, onUnitPage, hd]
  decide

/-- The log takes an entry of a test: its words, and no other word. -/
theorem State.get_logEvent (s : State) (stamp ts32 src outcome : Nat) (retry retired severe : Bool) (u : UnitId) (addr : Word) (n : Nat)
    {g : Fld} {j : Nat} (h : fldAt g j < 0xD3000) :
    (s.logEvent stamp ts32 src outcome retry retired severe u addr n).get g j = s.get g j := by
  have hlog : ∀ (s : State) (k v : Nat), (s.put Reg.FLTL_LOG k v).get g j = s.get g j := fun s k v =>
    State.get_put_word _ _ _ _ _ _ (by obtain ⟨i, -, e⟩ := fldAt_log k; rw [e]; omega)
  have hwr : ∀ (s : State) (v : Nat), (s.put0 Reg.FLTL_LOG_WR v).get g j = s.get g j := fun s v =>
    State.get_put_word _ _ _ _ _ _ (by rw [show fldAt Reg.FLTL_LOG_WR 0 = 0xD3040 from rfl]; omega)
  unfold State.logEvent
  dsimp only
  rw [State.get_modFlt, hwr]
  iterate 8 rw [hlog]

theorem UnitsKept.logEvent {stamp ts32 src outcome : Nat} {retry retired severe : Bool} {u : UnitId} {addr : Word} {n : Nat}
    (h : UnitsKept s t) : UnitsKept s (t.logEvent stamp ts32 src outcome retry retired severe u addr n) := by
  have hlog : ∀ {t : State} {k v : Nat}, UnitsKept s t → UnitsKept s (t.put Reg.FLTL_LOG k v) := fun h => h.put (onUnitPage_log _)
  unfold State.logEvent
  exact .modFlt (.put (hlog (hlog (hlog (hlog (hlog (hlog (hlog (hlog h)))))))))

/-- Starting queued tests suspends no unit and frees none. -/
theorem State.suspended_startTests (s : State) (u : UnitId) : s.startTests.suspended u = s.suspended u := by
  simp only [State.startTests, State.suspended, State.showTests, State.put0_flt, State.modFlt_flt, List.any_map]
  congr 1
  funext x
  simp only [Function.comp]
  split <;> rfl

theorem State.get_startTests (s : State) {g : Fld} {j : Nat} (h : fldAt g j ≠ fldAt Reg.FLT_RUNNING 0) :
    s.startTests.get g j = s.get g j :=
  (State.get_put_word _ Reg.FLT_QUEUED _ _ _ _ h).trans (State.get_put_word _ Reg.FLT_RUNNING _ _ _ _ h)

theorem UnitsKept.startTests (h : UnitsKept s t) : UnitsKept s t.startTests :=
  .put (f := Reg.FLT_QUEUED) (.put (f := Reg.FLT_RUNNING) h)

/-! ## The end of a targeted test (R622 to R626) -/

/-- The end of a test has come: time has passed, and the unit is no longer suspended. -/
def State.testClosed (s : State) (x : FltTest) : State :=
  (s.advanceTo (x.begun + s.testEdges x)).modFlt fun f => { f with tests := f.tests.filter (·.unit != x.unit) }

/-- The entry of a test in the log. -/
def State.logTest (s : State) (x : FltTest) (outcome : Nat) (retry retired : Bool) (ticks : Nat) : State :=
  s.logEvent x.stamp x.ts32 x.src outcome retry retired x.severe x.unit x.addr ticks

theorem targetedTestEnd_pass {x : FltTest} (hx : s.flt.tests.find? (fun t => t.unit == x.unit && t.running) = some x)
    (he : x.esc = false) :
    let r := ((s.testClosed x).restored x).testResume x
    exec (.targetedTestEnd x.unit true) s =
      .next (((r.2.count Reg.FLT_PASS).logTest x logPass r.1 false (s.testTicks x)).irq Reg.FLT_IRQ_TEST).startTests := by
  dsimp only [exec, execTargetedTestEnd]
  rw [hx]
  dsimp only
  rw [he]
  rfl

theorem targetedTestEnd_fail {x : FltTest} (hx : s.flt.tests.find? (fun t => t.unit == x.unit && t.running) = some x) :
    let r := (((s.testClosed x).restored x).count Reg.FLT_FAIL).retireUnit x.unit x.addr
    exec (.targetedTestEnd x.unit false) s =
      .next ((r.2.logTest x logFail false r.1 (s.testTicks x)).irq Reg.FLT_IRQ_TEST).startTests := by
  dsimp only [exec, execTargetedTestEnd]
  rw [hx]
  rfl

theorem State.suspended_testClosed (s : State) (x : FltTest) : (s.testClosed x).suspended x.unit = false := by
  simp [State.suspended, State.testClosed]

/-- A test of a Bridge core or of a summing lane leaves nothing to restore and nothing to run again. -/
theorem State.restored_bcOrLane (s : State) {x : FltTest} (h : x.kind = .bc ∨ x.kind = .lane) : s.restored x = s := by
  unfold State.restored
  obtain h | h := h <;> rw [h]

theorem State.testResume_bcOrLane (s : State) {x : FltTest} (h : x.kind = .bc ∨ x.kind = .lane) : s.testResume x = (false, s) := by
  unfold State.testResume
  obtain h | h := h <;> rw [h]

theorem targetedTestEnd_passes {x : FltTest} (hx : s.flt.tests.find? (fun t => t.unit == x.unit && t.running) = some x)
    (he : x.esc = false) (hkind : x.kind = .bc ∨ x.kind = .lane) :
    ∃ t : State, exec (.targetedTestEnd x.unit true) s = .next t ∧ t.suspended x.unit = false ∧
      t.get Reg.FLT_PASS = satInc 32 (s.get Reg.FLT_PASS) 1 ∧ t.flt.logSeq = s.flt.logSeq + 1 ∧
      x.begun + s.testEdges x ≤ t.clk.now := by
  refine ⟨_, targetedTestEnd_pass hx he, ?_⟩
  rw [State.restored_bcOrLane _ hkind, State.testResume_bcOrLane _ hkind]
  refine ⟨?_, ?_, rfl, le_max_right _ _⟩
  · rw [State.suspended_startTests]
    exact s.suspended_testClosed x
  · rw [State.get_startTests _ (by decide), State.irq, State.get_put_word _ _ _ _ _ _ (by decide), State.logTest,
      State.get_logEvent _ _ _ _ _ _ _ _ _ _ _ (by decide), State.get_count_same _ _ _ _]
    rfl

/-! ## Retirement (R625) -/

theorem UnitsKept.showRetired (h : UnitsKept s t) : UnitsKept s (t.showRetired u) := by
  have hport : ∀ n, UnitsKept s (t.setMapBit Reg.FLTS_PORT_RETIRED n true) := fun n => h.put (by
    have hd : fldAt Reg.FLTS_PORT_RETIRED (n / 32) / 4096 = 0xD2 := by
      simp [fldAt, Reg.FLTS_PORT_RETIRED]
      omega
    rw [onUnitPage, hd]
    decide)
  unfold State.showRetired
  refine .ite h.put (.ite h.put (.ite h.put (.ite h.put (.ite ?_ ?_))))
  · dsimp only
    (repeat' split) <;> exact h.put
  · split
    · exact hport _
    · exact h

/-- A unit in service that a fence can take is retired by a fence with retirement. -/
theorem State.retireUnit_inService (s : State) (addr : Word) (hu : fenceable u = true) (hd : s.unitDown u = false) :
    s.retireUnit u addr = (true, ((s.fenceUnit u true).showRetired u).irq Reg.FLT_IRQ_RETIRE) := by
  unfold State.retireUnit
  rw [hu, hd]
  rfl

/-- What a test of a strip engine or of a Bridge core restores stands in no register. -/
theorem State.regs_restored (s : State) {x : FltTest} (h : x.kind = .se ∨ x.kind = .bc) : (s.restored x).regs = s.regs := by
  unfold State.restored
  obtain h | h := h <;> rw [h]
  dsimp only [State.seWord]
  (repeat' split) <;> rfl

theorem targetedTestEnd_retires {x : FltTest} (hx : s.flt.tests.find? (fun t => t.unit == x.unit && t.running) = some x)
    (hkind : x.kind = .se ∨ x.kind = .bc) (hu : fenceable x.unit = true) (hs : isSubUnit x.unit = false)
    (hd : s.unitDown x.unit = false) :
    ∃ t : State, exec (.targetedTestEnd x.unit false) s = .next t ∧ t.unitDown x.unit = true ∧
      t.get Hdr.RETIRED (unitPage x.unit.page) = 1 := by
  obtain ⟨v, hv⟩ : ∃ v, v = ((s.testClosed x).restored x).count Reg.FLT_FAIL := ⟨_, rfl⟩
  have hsv : UnitsKept s v := by
    have hregs : ((s.testClosed x).restored x).regs = s.regs := State.regs_restored _ hkind
    rw [hv]
    exact .put fun a _ => by simp only [State.word, hregs]
  have hdv : v.unitDown x.unit = false := (hsv.unitDown hu hs).trans hd
  refine ⟨_, targetedTestEnd_fail hx, ?_⟩
  rw [← hv, State.retireUnit_inService v x.addr hu hdv]
  have hk : UnitsKept (v.fenceUnit x.unit true) (((((v.fenceUnit x.unit true).showRetired x.unit).irq Reg.FLT_IRQ_RETIRE).logTest x
      logFail false true (s.testTicks x)).irq Reg.FLT_IRQ_TEST).startTests :=
    .startTests (.put (.logEvent (.put (.showRetired (.refl _)))))
  exact ⟨State.unitDown_of_fenced hs ((hk.get_fenced hu).trans (v.get_fenceUnit_fenced true hu hs)),
    (hk.get_retired hu).trans (v.get_fenceUnit_retired hu hs)⟩

/-! ## The statement -/

/-- Settles O51: a fence writes PG_STAT and the epoch of its unit, and what follows on a fence, an answer or a log entry keeps off the
words of the units. -/
theorem fencesAndTestEnds : Obligations.FencesAndTestEnds := by
  refine ⟨⟨fun s x hx he hkind => targetedTestEnd_passes hx he hkind,
    fun s x hx hkind hu hs hd => targetedTestEnd_retires hx hkind hu hs hd⟩, fun s u hu hs hd he => ?_, fun s v hv => ?_⟩
  · have hfenced := s.get_fenceUnit_fenced false hu hs
    exact ⟨_, fence_inService hu hd, State.unitDown_of_fenced hs hfenced, hfenced, s.epoch_fenceUnit false hu hs he⟩
  · have hgo := fltFenceGo_eq (s := s) hv rfl
    refine ⟨fun hbad => ?_, fun hw hu he => ?_, fun hw hu he hd => ?_, fun hw hu he hd hs => ?_⟩
    · rw [if_pos (by simpa using hbad)] at hgo
      exact ⟨_, ⟨hgo, State.get_fenceAnswer_status _ (by decide), State.get_fenceAnswer_done _ _⟩, s.fenceAnswer_only 2⟩
    all_goals rw [if_neg (by simpa [hu] using hw)] at hgo
    · rw [if_pos he] at hgo
      exact ⟨_, hgo, State.get_fenceAnswer_status _ (by decide), State.get_fenceAnswer_done _ _⟩
    all_goals rw [if_neg (by simpa using he)] at hgo
    · rw [if_pos hd] at hgo
      exact ⟨_, ⟨hgo, State.get_fenceAnswer_status _ (by decide), State.get_fenceAnswer_done _ _⟩, s.fenceAnswer_only 3⟩
    · rw [if_neg (by rw [hd]; exact Bool.false_ne_true)] at hgo
      exact ⟨_, ⟨hgo, State.get_fenceAnswer_status _ (by decide), State.get_fenceAnswer_done _ _⟩,
        State.unitDown_of_fenced hs (((UnitsKept.fenceAnswer (.refl _)).get_fenced hu).trans
          (State.get_fenceUnit_fenced _ false hu hs))⟩

end Sys2Proof.Machine
end

section
/-! SUPPORT. The steps of a transition of mode or rate, up to the answer of the request it serves. Statement O46. -/

namespace Sys2Proof.Machine

variable {s : State} {p : Plane}

/-! ## A plane's own copy of a word -/

/-- A field of a plane's copy reads back as the value stored, cut to its width. -/
theorem State.getP_putP_same (s : State) (p : Plane) (f : Fld) (i v : Nat) (h : f.hi < 32 := by decide) :
    (s.putP p f i v).getP p f i = v % 2 ^ fldWidth f := by
  simp only [State.getP, State.putP, State.word_setWord_same, BitVec.toNat_ofNat, bits_mod_word _ _ _ h, bits_withBits_same, fldWidth]

/-- A field of a plane's copy keeps its value where a field of the same word that shares no bit with it is stored. -/
theorem State.getP_putP_apart (s : State) (p : Plane) {f g : Fld} {i j : Nat} (v : Nat) (ha : fldAt g j = fldAt f i) (hg : g.hi < 32)
    (h : g.hi < f.lo ∨ f.hi < g.lo) : (s.putP p f i v).getP p g j = s.getP p g j := by
  simp only [State.getP, State.putP, ha, State.word_setWord_same, BitVec.toNat_ofNat, bits_mod_word _ _ _ hg,
    bits_withBits_apart _ _ _ _ _ _ h]

/-- The planes' copies lie outside BAR0: a store of a register word leaves them alone. -/
theorem State.getP_put (s : State) (p : Plane) (g : Fld) (j : Nat) {f : Fld} {i : Nat} (v : Nat) (hlow : fldAt f i < 0x1000000) :
    (s.put f i v).getP p g j = s.getP p g j := by
  have hne : planeKey p (fldAt g j) ≠ fldAt f i := by
    cases p <;> simp only [planeKey] <;> omega
  simp only [State.getP, State.word_put_other _ _ _ _ _ hne]

theorem State.getP_setTrans (s : State) (p : Plane) (tr : Trans) (left : Nat) (g : Fld) (j : Nat) :
    (s.setTrans tr left).getP p g j = s.getP p g j := rfl

/-! ## The answer of a request -/

theorem State.getP_modeAnswer_done (s : State) (p : Plane) : (s.modeAnswer p 0).getP p Reg.MODE_DONE = 1 := by
  show (((s.putP p Reg.MODE_DONE 0 1).putP p Reg.MODE_BUSY 0 0).putP p Reg.MODE_STATUS 0 0).getP p Reg.MODE_DONE = 1
  rw [State.getP_putP_apart _ _ _ (by decide) (by decide) (by decide), State.getP_putP_apart _ _ _ (by decide) (by decide) (by decide),
    State.getP_putP_same _ _ _ _ _]
  rfl

theorem State.getP_modeAnswer_status (s : State) (p : Plane) : (s.modeAnswer p 0).getP p Reg.MODE_STATUS = 0 :=
  State.getP_putP_same _ _ _ _ _

/-! ## The end of a transition -/

/-- The end of a transition as it stands before the request is answered. -/
def State.transEnded (s : State) : State := (s.transIdle.count Reg.MODE_TRANS_CNT).irq Reg.MODE_IRQ_DONE

theorem State.transDone_eq (s : State) : s.transDone = s.transEnded.modeAnswerOf (transPlane s.mode.trans) 0 := rfl

/-- Beside the count and the interrupt, the end of a transition shows what an idle mode page shows. -/
theorem State.get_transDone_of_idle (s : State) {g : Fld} (hlow : fldAt g 0 < 0x1000000) (hirq : fldAt g 0 ≠ fldAt Reg.MODE_IRQ_DONE 0)
    (hcnt : fldAt g 0 ≠ fldAt Reg.MODE_TRANS_CNT 0) : s.transDone.get g 0 = s.transIdle.get g 0 := by
  rw [State.transDone_eq, State.get_modeAnswerOf _ _ _ hlow hirq, State.transEnded, State.irq, State.get_put_word _ _ _ _ _ _ hirq,
    State.count, State.get_put_word _ _ _ _ _ _ hcnt]

theorem State.opMode_transIdle (s : State) : s.transIdle.opMode = s.opMode := by
  rw [State.opMode, State.transIdle, State.get_setTrans, State.put0, State.get_put_apart _ _ _ _ _ _ (by decide) (by decide),
    State.put0, State.get_put_apart _ _ _ _ _ _ (by decide) (by decide)]
  rfl

theorem State.opMode_transDone (s : State) : s.transDone.opMode = s.opMode :=
  s.get_transDone s.opMode_transIdle (by decide) (by decide) (by decide)

theorem State.opMode_lt (s : State) : s.opMode < 8 := Nat.mod_lt _ (by decide)

theorem State.get_target_transDone (s : State) : s.transDone.get Reg.MODE_TARGET = s.transDone.opMode := by
  rw [State.opMode_transDone, State.get_transDone_of_idle _ (by decide) (by decide) (by decide), State.transIdle, State.get_setTrans,
    State.put0, State.get_put_same _ _ _ _]
  exact Nat.mod_eq_of_lt s.opMode_lt

/-- At the end of a transition none runs, and the mode page says so. -/
theorem State.transDone_complete (s : State) : s.transDone.mode.trans = .none ∧ s.transDone.get Reg.MODE_IN_TRANSITION = 0 ∧
    s.transDone.get Reg.MODE_TARGET = s.transDone.opMode :=
  ⟨s.trans_transDone, (s.get_transDone_of_idle (by decide) (by decide) (by decide)).trans s.get_inTransition_transIdle,
    s.get_target_transDone⟩

theorem State.get_transCnt_transDone (s : State) :
    s.transDone.get Reg.MODE_TRANS_CNT = satInc 32 (s.get Reg.MODE_TRANS_CNT) 1 := by
  rw [State.transDone_eq, State.get_modeAnswerOf _ _ _ (by decide) (by decide), State.transEnded, State.irq,
    State.get_put_word _ _ _ _ _ _ (by decide), State.get_count_same _ _ _ _, State.transIdle, State.get_setTrans, State.put0,
    State.get_put_word _ _ _ _ _ _ (by decide), State.put0, State.get_put_word _ _ _ _ _ _ (by decide)]
  rfl

/-- The end of a transition leaves the planes' requests to their answer. -/
theorem State.getP_transEnded (s : State) (p : Plane) (g : Fld) (j : Nat) : s.transEnded.getP p g j = s.getP p g j := by
  rw [State.transEnded, State.irq, State.getP_put _ _ _ _ _ (by decide), State.count, State.getP_put _ _ _ _ _ (by decide),
    State.transIdle, State.getP_setTrans, State.put0, State.getP_put _ _ _ _ _ (by decide), State.put0,
    State.getP_put _ _ _ _ _ (by decide)]

/-- The request that the transition serves, still its plane's last one, is answered with status 0. -/
theorem State.transDone_answers (htr : transPlane s.mode.trans = some p) (hb : s.getP p Reg.MODE_BUSY = 1) :
    s.transDone.getP p Reg.MODE_DONE = 1 ∧ s.transDone.getP p Reg.MODE_STATUS = 0 := by
  have h : s.transDone = s.transEnded.modeAnswer p 0 := by
    rw [State.transDone_eq, htr]
    exact if_pos ((s.getP_transEnded p _ _).trans hb)
  rw [h]
  exact ⟨State.getP_modeAnswer_done _ _, State.getP_modeAnswer_status _ _⟩

theorem State.transDone_frame (s : State) : s.transDone = { s with regs := s.transDone.regs, mode := s.transDone.mode } :=
  ModeOnly.eq (.transDone (.refl s))

/-! ## The start of the data plane, the rate switch and the ramp-in -/

theorem dataPlaneStart_due {m : Nat} {q : Option Plane} (h : s.planeDue = some (m, q)) :
    exec .dataPlaneStart s = .next (s.planeOn m q) := by
  show execDataPlaneStart s = _
  rw [execDataPlaneStart, h]
  rfl

theorem rateSwitch_due {r : Nat} {q : Option Plane} (h : s.rateDue = some (r, q)) : exec .rateSwitch s = .next (s.rateSwitch r q) := by
  show execRateSwitch s = _
  rw [execRateSwitch, h]
  rfl

theorem State.rampIn_of_fill {m : Nat} {q : Option Plane} (h : s.mode.trans = .fill m q) (hl : s.mode.left = 0) :
    s.rampIn = s.setTrans (.rampIn m q) 64 := by
  rw [State.rampIn, h]
  exact if_pos hl

theorem State.rampIn_of_rate {r : Nat} {q : Option Plane} (h : s.mode.trans = .rate 4 r q) (hl : s.mode.left = 0) :
    s.rampIn = s.setTrans (.rate 5 r q) 64 := by
  rw [State.rampIn, h]
  exact if_pos ⟨rfl, hl⟩

/-! ## The ramps at their end -/

theorem State.rampDone_of_rampIn {m : Nat} {q : Option Plane} (h : s.mode.trans = .rampIn m q) (hl : s.mode.left = 0) :
    s.rampDone = s.transDone := by
  rw [State.rampDone, h]
  exact if_pos hl

theorem State.rampDone_of_rate {r : Nat} {q : Option Plane} (h : s.mode.trans = .rate 5 r q) (hl : s.mode.left = 0) :
    s.rampDone = s.transDone := by
  rw [State.rampDone, h]
  exact if_pos ⟨rfl, hl⟩

theorem State.holdDone_of_hold {m : Nat} {q : Option Plane} (h : s.mode.trans = .hold m q) (hl : s.mode.left = 0)
    (hg : s.mode.holdGain = (if m = 5 then 0 else 64)) : s.holdDone = s.transDone := by
  rw [State.holdDone, h]
  exact if_pos ⟨hl, hg⟩

/-! ## The stop of the data plane and shutdown -/

theorem State.shutdownEnd_of_start {k : Nat} {q : Option Plane} (h : s.mode.trans = .start k q) (fm : Nat) (rows : List (Nat × Nat))
    (mf : Bool) : s.shutdownEnd fm rows mf = s := by
  rw [State.shutdownEnd, h]

/-- The stop of a data plane on the way to START is the begin of START. -/
theorem dataPlaneStop_toStart {q : Option Plane} (h : s.mode.trans = .stop 1 q) (hl : s.mode.left = 0) (fm : Nat)
    (rows : List (Nat × Nat)) (mf : Bool) :
    exec (.dataPlaneStop fm rows mf) s = .next ((s.planeStop.progress 0x01 true 2 4).enterStart q) := by
  have hstop : s.stopNow = (s.planeStop.progress 0x01 true 2 4).enterStart q := by
    rw [State.stopNow, h]
    exact if_neg (not_not_intro hl)
  show ok (s.stopNow.shutdownEnd fm rows mf) = _
  rw [hstop, State.shutdownEnd_of_start (k := 0) (q := q) rfl]
  rfl

/-- START begins with no step done. -/
theorem State.startBegin_shows (s : State) (q : Option Plane) (full : Bool) : (s.startBegin q full).mode.trans = .start 0 q ∧
    (s.startBegin q full).get Reg.MODE_START_DONE = 0 ∧ (s.startBegin q full).get Reg.MODE_STEP = 0 := by
  have hshown : ∀ {g : Fld}, fldAt g 0 ≠ fldAt Hdr.BUSY 0x01 → g.hi < 31 → fldAt g 0 ≠ fldAt Reg.MODE_TARGET 0 ∨ 10 < g.lo →
      (s.startBegin q full).get g =
        (((s.put0 Reg.MODE_START_DONE 0).put0 Reg.MODE_START_FAIL 0).put0 Reg.MODE_STEP 0).get g := fun {g} hp hhi hlo => by
    have htarget : ∀ (u : State) (v : Nat), (u.put0 Reg.MODE_TARGET v).get g = u.get g := fun u v =>
      hlo.elim (State.get_put_word _ _ _ _ _ _) fun h => State.get_put_apart _ _ _ _ _ _ (by omega) (.inr h)
    rw [State.startBegin, State.get_modMode, State.transBegin, State.get_setTrans, htarget, State.put0,
      State.get_put_apart _ _ _ _ _ _ (by omega) (.inl hhi), State.get_progress _ _ _ _ hp]
  refine ⟨rfl, ?_, ?_⟩
  · rw [hshown (by decide) (by decide) (by decide), State.put0, State.get_put_word _ _ _ _ _ _ (by decide), State.put0,
      State.get_put_apart _ _ _ _ _ _ (by decide) (by decide), State.put0, State.get_put_same _ _ _ _]
    rfl
  · rw [hshown (by decide) (by decide) (by decide), State.put0, State.get_put_same _ _ _ _]
    rfl

theorem State.enterStart_shows (s : State) (q : Option Plane) : (s.enterStart q).mode.trans = .start 0 q ∧
    (s.enterStart q).get Reg.MODE_START_DONE = 0 ∧ (s.enterStart q).get Reg.MODE_STEP = 0 :=
  State.startBegin_shows _ _ _

/-- A shutdown that no supply warning holds up ends the transition. -/
theorem dataPlaneStop_shutdown {q : Option Plane} (h : s.mode.trans = .shutdown q) (hw : s.get Reg.SUP_WARN_NOW = 0) (fm : Nat)
    (rows : List (Nat × Nat)) (mf : Bool) : ∃ u : State, exec (.dataPlaneStop fm rows mf) s = .next u.transDone := by
  have hstop : s.stopNow = s := by rw [State.stopNow, h]
  show ∃ u : State, ok (s.stopNow.shutdownEnd fm rows mf) = _
  rw [hstop, State.shutdownEnd, h]
  dsimp only
  rw [if_neg (not_not_intro hw)]
  exact ⟨_, rfl⟩

/-! ## The statement -/

/-- Settles O46: each step sets the next one or is the end of the transition, of which everything is said once. -/
theorem transitionSteps : Obligations.TransitionSteps := by
  intro s
  refine ⟨fun m q h => ⟨_, dataPlaneStart_due h, rfl, rfl⟩, fun m q h hl => congrArg Host.Outcome.next (State.rampIn_of_fill h hl),
    fun r q h hl => congrArg Host.Outcome.next (State.rampIn_of_rate h hl), fun m p h hl hb => ?_, fun r p h hl hb => ?_,
    fun r q h => ⟨_, rateSwitch_due h, rfl, rfl⟩, fun m p h hl hb hg => ?_, fun q fm rows mf h hl => ?_, fun q fm rows mf h hw => ?_⟩
  · obtain ⟨hdone, hstatus⟩ := State.transDone_answers (p := p) (congrArg transPlane h) hb
    exact ⟨_, congrArg Host.Outcome.next (State.rampDone_of_rampIn h hl), s.transDone_complete, hdone, hstatus,
      s.get_transCnt_transDone, s.transDone_frame⟩
  · obtain ⟨hdone, hstatus⟩ := State.transDone_answers (p := p) (congrArg transPlane h) hb
    exact ⟨_, congrArg Host.Outcome.next (State.rampDone_of_rate h hl), s.transDone_complete, hdone, hstatus, s.transDone_frame⟩
  · obtain ⟨hdone, hstatus⟩ := State.transDone_answers (p := p) (congrArg transPlane h) hb
    exact ⟨_, congrArg Host.Outcome.next (State.holdDone_of_hold h hl hg), s.transDone_complete, s.opMode_transDone, hdone, hstatus,
      s.transDone_frame⟩
  · exact ⟨_, dataPlaneStop_toStart h hl fm rows mf, State.enterStart_shows _ q⟩
  · obtain ⟨u, hu⟩ := dataPlaneStop_shutdown h hw fm rows mf
    exact ⟨_, hu, u.transDone_complete⟩

end Sys2Proof.Machine
end

section
/-! SUPPORT. Query words and the snapshots they ask for. Statement O43. -/

namespace Sys2Proof.Machine

variable {s : State}

/-! ## Pages whose domain is on -/

/-- An access to a page whose domain is ON takes effect at once. -/
theorem State.atPage_on {page : Nat} (h : s.domState (pageDomain page) = 3) (f : State → Out) : s.atPage page f = f s := by
  have hdark : s.pageDark page = false := by simp [State.pageDark, h]
  have hwake : s.wakeFor page = s := if_pos (.inr h)
  rw [State.atPage, hdark, hwake]
  rfl

/-- A query word of a page whose domain is ON selects its item. -/
theorem State.atPage_select {page : Nat} (h : s.domState (pageDomain page) = 3) (q item : Nat) (valid : Fld) :
    s.atPage page (fun s => ok (s.select q item valid)) =
      .next { (s.put0 valid 0) with sel := tput 0 s.sel q (item + 1) } :=
  State.atPage_on h _

theorem bcQsel_on {c : Nat} (hc : c < 2) (v : Word) (h : s.domState 16 = 3) :
    exec (.bcQsel c v) s = .next ((s.put Reg.BC_VALID c 0).setBc c fun b => { b with qsel := bits v.toNat 7 0 + 1 }) := by
  have hpage : pageDomain (0xC0 + c) = 16 := by
    obtain rfl | rfl : c = 0 ∨ c = 1 := by omega
    all_goals rfl
  show execBcQsel c v s = _
  rw [execBcQsel, State.atPage_on (hpage.symm ▸ h), if_neg (Nat.not_le.2 hc)]
  rfl

/-! ## Snapshots -/

theorem State.selected_of_tget {q item : Nat} (h : tget 0 s.sel q = item + 1) : s.selected q = some item := by
  rw [State.selected, h]

theorem snapshotDone_arb {item : Nat} (h : tget 0 s.sel qArb = item + 1) :
    exec (.snapshotDone .arb) s = .next (((s.snapArb item).selDone qArb).put0 Reg.ARB_VALID 1) := by
  show execSnapshotDone .arb s = _
  simp only [execSnapshotDone, State.selected_of_tget h]
  rfl

theorem snapshotDone_own {item : Nat} (h : tget 0 s.sel qOwn = item + 1) :
    exec (.snapshotDone .own) s = .next (((s.snapOwn item).selDone qOwn).put0 Reg.OWN_VALID 1) := by
  show execSnapshotDone .own s = _
  simp only [execSnapshotDone, State.selected_of_tget h]
  rfl

/-- The snapshot of a master at an arbiter stores register words alone. -/
theorem State.mem_snapArb (s : State) (item : Nat) : (s.snapArb item).mem = s.mem := by
  simp only [State.snapArb, State.put0_mem, State.putB_mem]

/-- The snapshot of an address reads the buffers and the passes and stores register words alone. -/
theorem State.mem_snapOwn (s : State) (a : Nat) : (s.snapOwn a).mem = s.mem := by
  unfold State.snapOwn
  extract_lets untagged v w
  have hv : v.mem = s.mem := by
    simp only [v]
    split <;> simp only [untagged, State.put0_mem]
  have hw : w.mem = v.mem := by
    simp only [w]
    split <;> simp only [State.put0_mem, State.putB_mem]
  rw [State.put0_mem, hw, hv]

/-- A snapshot that completes shows VALID and takes the selection away. -/
theorem State.selDone_valid (s : State) (q : Nat) {valid : Fld} (hbit : fldWidth valid = 1) (hw : valid.hi < 32) :
    ((s.selDone q).put0 valid 1).get valid = 1 ∧ tget 0 ((s.selDone q).put0 valid 1).sel q = 0 ∧
      ((s.selDone q).put0 valid 1).mem = s.mem := by
  refine ⟨?_, tget_tput_same _ _ _ _, rfl⟩
  rw [State.put0, State.get_put_same _ _ _ _ hw, hbit]
  rfl

/-! ## The statement -/

/-- Settles O43: a query word acts on its page at once, and the snapshots of arbiters and buffers store register words alone. -/
theorem queriesSelectAndComplete : Obligations.QueriesSelectAndComplete := by
  refine ⟨fun s v h => ⟨State.atPage_select h .., State.atPage_select h .., State.atPage_select h .., State.atPage_select h ..,
    State.atPage_select h .., State.atPage_select h .., State.atPage_select h ..⟩, fun s c v hc h => bcQsel_on hc v h,
    fun s item h => ?_, fun s item h => ?_⟩
  · obtain ⟨hvalid, hsel, hmem⟩ := (s.snapArb item).selDone_valid qArb (valid := Reg.ARB_VALID) rfl (by decide)
    exact ⟨_, snapshotDone_arb h, hvalid, hsel, hmem.trans (s.mem_snapArb item)⟩
  · obtain ⟨hvalid, hsel, hmem⟩ := (s.snapOwn item).selDone_valid qOwn (valid := Reg.OWN_VALID) rfl (by decide)
    exact ⟨_, snapshotDone_own h, hvalid, hsel, hmem.trans (s.mem_snapOwn item)⟩

end Sys2Proof.Machine
end

section
/-! SUPPORT. Lanes of the Rate Converter: what a change of a lane's state shows and leaves alone. Statement O16. -/

namespace Sys2Proof.Machine

variable {s t : State} {m : Nat}

/-! ## Maps of 32-bit words -/

theorem bit_eq_bits (x b : Nat) : bit x b = (bits x b b == 1) := by
  rw [bit, bits, Nat.add_sub_cancel_left, Nat.pow_one]

/-- A map shows the bit that was set in it. -/
theorem State.mapBit_setMapBit_same (s : State) (f : Fld) (n : Nat) (v : Bool) (hw : fldWidth f = 32) (hf : f.hi < 32) :
    (s.setMapBit f n v).mapBit f n = v := by
  rw [State.mapBit, State.setMapBit, State.setBitOf, State.get_put_same _ _ _ _ hf, hw, bit_eq_bits,
    bits_mod_word _ _ _ (Nat.mod_lt _ (by decide)), withBit, bits_withBits_same, Nat.add_sub_cancel_left]
  cases v <;> rfl

/-- A map keeps its bits where another word is stored. -/
theorem State.mapBit_put_word (s : State) {f g : Fld} {i n : Nat} (v : Nat) (h : fldAt g (n / 32) ≠ fldAt f i) :
    (s.put f i v).mapBit g n = s.mapBit g n := by
  rw [State.mapBit, State.mapBit, State.get_put_word _ _ _ _ _ _ h]

/-! ## One lane -/

theorem State.lane_setLane_same (s : State) (m : Nat) (f : Lane → Lane) : (s.setLane m f).lane m = f (s.lane m) :=
  tget_tput_same _ _ _ _

theorem State.lane_setLane_other (s : State) (f : Lane → Lane) {k : Nat} (h : k ≠ m) : (s.setLane m f).lane k = s.lane k :=
  tget_tput_other _ _ _ _ _ _ h

/-- Two states that agree but for register words and one lane. -/
def OnlyLane (m : Nat) (s t : State) : Prop :=
  { t with regs := s.regs, dp := { t.dp with lanes := s.dp.lanes } } = s ∧ ∀ k, k ≠ m → t.lane k = s.lane k

theorem OnlyLane.refl (m : Nat) (s : State) : OnlyLane m s s := ⟨rfl, fun _ _ => rfl⟩

theorem OnlyLane.put {f : Fld} {i v : Nat} (h : OnlyLane m s t) : OnlyLane m s (t.put f i v) := h

theorem OnlyLane.setLane {f : Lane → Lane} (h : OnlyLane m s t) : OnlyLane m s (t.setLane m f) :=
  ⟨h.1, fun k hk => (t.lane_setLane_other f hk).trans (h.2 k hk)⟩

theorem OnlyLane.ite {c : Prop} {_ : Decidable c} {u : State} (ht : OnlyLane m s t) (hu : OnlyLane m s u) :
    OnlyLane m s (if c then t else u) := by
  split
  · exact ht
  · exact hu

theorem OnlyLane.eq (h : OnlyLane m s t) : t = { s with regs := t.regs, dp := { s.dp with lanes := t.dp.lanes } } :=
  congrArg (fun x => { x with regs := t.regs, dp := { x.dp with lanes := t.dp.lanes } }) h.1

/-! ## A lane changes state -/

/-- The lane takes its state, LOCKED follows, and the count of the state left goes down. -/
def State.laneLeaves (s : State) (m st : Nat) : State :=
  let was := (s.lane m).state
  let s := (s.setLane m fun l => { l with state := st, ramp := 0, acqAt := s.clk.now }).setMapBit Reg.RCONV_LOCKED m (st == 2)
  let s := if was = 2 then s.put0 Reg.RCONV_LOCKED_CNT (s.get Reg.RCONV_LOCKED_CNT - 1) else s
  if was = 1 then s.put0 Reg.RCONV_ACQ_CNT (s.get Reg.RCONV_ACQ_CNT - 1) else s

/-- The count, the map and the interrupt of the state entered. -/
def State.laneEnters (s : State) (m st : Nat) : State :=
  if st = 2 then (s.put0 Reg.RCONV_LOCKED_CNT (s.get Reg.RCONV_LOCKED_CNT + 1)).irq Reg.RCONV_IRQ_LOCK
  else if st = 1 then s.put0 Reg.RCONV_ACQ_CNT (s.get Reg.RCONV_ACQ_CNT + 1)
  else if st = 3 then (s.setMapBit Reg.RCONV_UNLOCK m true).irq Reg.RCONV_IRQ_UNLOCK
  else if st = 4 then (s.setMapBit Reg.RCONV_RANGE m true).irq Reg.RCONV_IRQ_RANGE
  else s

theorem State.laneTo_eq (s : State) (m st : Nat) : s.laneTo m st = (s.laneLeaves m st).laneEnters m st := rfl

theorem OnlyLane.laneTo (h : OnlyLane m s t) (st : Nat) : OnlyLane m s (t.laneTo m st) := by
  have hleft : OnlyLane m s (t.laneLeaves m st) := .ite (.put (.ite (.put (.put (.setLane h))) (.put (.setLane h))))
    (.ite (.put (.put (.setLane h))) (.put (.setLane h)))
  exact .ite (.put (.put hleft)) (.ite (.put hleft) (.ite (.put (.put hleft)) (.ite (.put (.put hleft)) hleft)))

/-- Of the lane itself, its state, its ramp and the time of the change are new. -/
theorem State.lane_laneTo_same (s : State) (m st : Nat) :
    (s.laneTo m st).lane m = { s.lane m with state := st, ramp := 0, acqAt := s.clk.now } := by
  have hleft : (s.laneLeaves m st).lane m = { s.lane m with state := st, ramp := 0, acqAt := s.clk.now } := by
    refine Eq.trans ?_ (s.lane_setLane_same m fun l => { l with state := st, ramp := 0, acqAt := s.clk.now })
    unfold State.laneLeaves
    dsimp only
    split <;> split <;> rfl
  rw [State.laneTo_eq, ← hleft, State.laneEnters]
  split_ifs <;> rfl

/-! ## What a lane's state shows -/

/-! Each map lies on a page of its own. -/

theorem fldAt_locked (n : Nat) : fldAt Reg.RCONV_LOCKED n / 4096 = 0x63 := by
  simp only [fldAt, Reg.RCONV_LOCKED]
  omega

theorem fldAt_unlock (n : Nat) : fldAt Reg.RCONV_UNLOCK n / 4096 = 0x61 := by
  simp only [fldAt, Reg.RCONV_UNLOCK]
  omega

theorem fldAt_range (n : Nat) : fldAt Reg.RCONV_RANGE n / 4096 = 0x62 := by
  simp only [fldAt, Reg.RCONV_RANGE]
  omega

/-- The map of a page keeps its bits where a word of another page is stored. -/
theorem State.mapBit_put_page (s : State) {f g : Fld} {i n : Nat} (v : Nat)
    (h : fldAt g (n / 32) / 4096 ≠ fldAt f i / 4096) : (s.put f i v).mapBit g n = s.mapBit g n :=
  s.mapBit_put_word v fun e => h (congrArg (· / 4096) e)

theorem State.mapBit_locked_laneLeaves (s : State) (m st : Nat) : (s.laneLeaves m st).mapBit Reg.RCONV_LOCKED m = (st == 2) := by
  have hput : ∀ (u : State) (f : Fld) (v : Nat), fldAt f 0 / 4096 = 0x60 →
      (u.put0 f v).mapBit Reg.RCONV_LOCKED m = u.mapBit Reg.RCONV_LOCKED m := fun u f v hf =>
    u.mapBit_put_page v (by rw [fldAt_locked, hf]; decide)
  unfold State.laneLeaves
  extract_lets was u v
  have hu : u.mapBit Reg.RCONV_LOCKED m = (st == 2) := State.mapBit_setMapBit_same _ _ _ _ rfl (by decide)
  have hv : v.mapBit Reg.RCONV_LOCKED m = (st == 2) := by
    simp only [v]
    split
    · rw [hput _ _ _ (by decide), hu]
    · exact hu
  split
  · rw [hput _ _ _ (by decide), hv]
  · exact hv

theorem State.mapBit_locked_laneEnters (s : State) (m st : Nat) :
    (s.laneEnters m st).mapBit Reg.RCONV_LOCKED m = s.mapBit Reg.RCONV_LOCKED m := by
  have hput : ∀ (u : State) (f : Fld) (i v : Nat), fldAt f i / 4096 ≠ 0x63 →
      (u.put f i v).mapBit Reg.RCONV_LOCKED m = u.mapBit Reg.RCONV_LOCKED m := fun u f i v hf =>
    u.mapBit_put_page v (by rw [fldAt_locked]; exact hf.symm)
  unfold State.laneEnters
  simp only [State.put0, State.irq, State.setMapBit, State.setBitOf]
  split_ifs
  · rw [hput _ _ _ _ (by decide), hput _ _ _ _ (by decide)]
  · rw [hput _ _ _ _ (by decide)]
  · rw [hput _ _ _ _ (by decide), hput _ _ _ _ (by rw [fldAt_unlock]; decide)]
  · rw [hput _ _ _ _ (by decide), hput _ _ _ _ (by rw [fldAt_range]; decide)]
  · rfl

/-- The maps and the interrupts that tell of a lane's new state (R75, R77). -/
def LaneShown (t : State) (m st : Nat) : Prop :=
  t.mapBit Reg.RCONV_LOCKED m = (st == 2) ∧
    (st = 2 → t.get Reg.RCONV_IRQ_LOCK = 1) ∧ (st = 3 → t.get Reg.RCONV_IRQ_UNLOCK = 1 ∧ t.mapBit Reg.RCONV_UNLOCK m = true) ∧
    (st = 4 → t.get Reg.RCONV_IRQ_RANGE = 1 ∧ t.mapBit Reg.RCONV_RANGE m = true)

theorem State.get_irq_same (s : State) (f : Fld) (i : Nat) (hw : fldWidth f = 1) (hf : f.hi < 32) : (s.irq f i).get f i = 1 := by
  rw [State.irq, State.get_put_same _ _ _ _ hf, hw]
  rfl

theorem State.laneTo_shown (s : State) (m st : Nat) : LaneShown (s.laneTo m st) m st := by
  rw [State.laneTo_eq]
  refine ⟨(State.mapBit_locked_laneEnters _ _ _).trans (s.mapBit_locked_laneLeaves m st), ?_, ?_, ?_⟩
  · rintro rfl
    exact State.get_irq_same _ _ _ rfl (by decide)
  · rintro rfl
    refine ⟨State.get_irq_same _ _ _ rfl (by decide), ?_⟩
    refine (State.mapBit_put_page _ _ (by rw [fldAt_unlock]; decide)).trans ?_
    exact State.mapBit_setMapBit_same _ _ _ _ rfl (by decide)
  · rintro rfl
    refine ⟨State.get_irq_same _ _ _ rfl (by decide), ?_⟩
    refine (State.mapBit_put_page _ _ (by rw [fldAt_range]; decide)).trans ?_
    exact State.mapBit_setMapBit_same _ _ _ _ rfl (by decide)

/-! ## A lane goes to a state -/

/-- From `s` to `t`, lane `m` alone goes to the state `st`, with a measured ratio and rate, and the pages tell of it. -/
def LaneGoes (s t : State) (m st ratio rate : Nat) : Prop :=
  (t.lane m).state = st ∧ (t.lane m).ramp = 0 ∧ (t.lane m).acqAt = s.clk.now ∧ (t.lane m).ratio = ratio ∧ (t.lane m).rate = rate ∧
    (t.lane m).entry = (s.lane m).entry ∧ t.mapBit Reg.RCONV_LOCKED m = (st == 2) ∧ (∀ k, k ≠ m → t.lane k = s.lane k) ∧
    (st = 2 → t.get Reg.RCONV_IRQ_LOCK = 1) ∧ (st = 3 → t.get Reg.RCONV_IRQ_UNLOCK = 1 ∧ t.mapBit Reg.RCONV_UNLOCK m = true) ∧
    (st = 4 → t.get Reg.RCONV_IRQ_RANGE = 1 ∧ t.mapBit Reg.RCONV_RANGE m = true) ∧
    t = { s with regs := t.regs, dp := { s.dp with lanes := t.dp.lanes } }

/-- A lane that changes state: `x` is the lane after what is measured before the change, `y` after what is set behind it. -/
theorem laneGoes_laneTo {u : State} {x y : Lane} {g : Lane → Lane} {st ratio rate : Nat} (hu : OnlyLane m s u) (hx : u.lane m = x)
    (hy : g { x with state := st, ramp := 0, acqAt := u.clk.now } = y)
    (hfix : y.state = st ∧ y.ramp = 0 ∧ y.acqAt = s.clk.now ∧ y.entry = (s.lane m).entry) (hmeas : y.ratio = ratio ∧ y.rate = rate) :
    LaneGoes s ((u.laneTo m st).setLane m g) m st ratio rate := by
  obtain ⟨hst, hramp, hacq, hentry⟩ := hfix
  obtain ⟨hratio, hrate⟩ := hmeas
  have hlane : ((u.laneTo m st).setLane m g).lane m = y := by
    rw [State.lane_setLane_same, State.lane_laneTo_same, hx, hy]
  obtain ⟨hmap, hlock, hunlock, hrange⟩ := u.laneTo_shown m st
  have honly : OnlyLane m s ((u.laneTo m st).setLane m g) := .setLane (hu.laneTo st)
  rw [LaneGoes, hlane]
  exact ⟨hst, hramp, hacq, hratio, hrate, hentry, hmap, honly.2, hlock, hunlock, hrange, honly.eq⟩

/-! ## Decisions of an engine whose partner does not follow -/

section
variable (hmode : s.opMode ≠ 3) (hpartner : s.partnerFollows = false)
include hmode hpartner

/-- A measured decision is taken at once. -/
theorem State.measured_alone (kind index v0 v1 : Nat) (now : State → State) : s.measured kind index v0 v1 now = now s := by
  rw [State.measured, if_neg hmode, hpartner]
  rfl

theorem laneGoes_laneLock (ratio rate : Nat) : LaneGoes s (s.laneLock m ratio rate) m 2 ratio rate := by
  have hlock : s.laneLock m ratio rate = (s.laneRatio m ratio rate).laneSt m 2 0 := by
    rw [State.laneLock, State.measured_alone hmode hpartner]
    exact State.measured_alone (s := s.laneRatio m ratio rate) hmode hpartner _ _ _ _ _
  rw [hlock]
  exact laneGoes_laneTo (.setLane (.refl m s)) (s.lane_setLane_same m _) rfl ⟨rfl, rfl, rfl, rfl⟩ ⟨rfl, rfl⟩

theorem laneGoes_laneUnlock (input : Bool) (hst : (s.lane m).state = 2) :
    ∃ t, exec (.laneUnlock m input) s = .next t ∧ LaneGoes s t m 3 (s.lane m).ratio (s.lane m).rate := by
  refine ⟨s.laneSt m 3 input.toNat, congrArg Host.Outcome.next ?_,
    laneGoes_laneTo (.refl m s) rfl rfl ⟨rfl, rfl, rfl, rfl⟩ ⟨rfl, rfl⟩⟩
  rw [if_pos hst]
  exact State.measured_alone hmode hpartner _ _ _ _ _

theorem laneGoes_rangeEnter {rate : Nat} (hen : laneEn (s.lane m).entry = true) (h0 : (s.lane m).state ≠ 0)
    (h4 : (s.lane m).state ≠ 4) (hrate : rate < 31500 ∨ 194000 < rate) :
    ∃ t, exec (.rangeEnter m rate) s = .next t ∧ LaneGoes s t m 4 (s.lane m).ratio rate := by
  refine ⟨s.laneSt m 4 rate, congrArg Host.Outcome.next ?_,
    laneGoes_laneTo (.refl m s) rfl rfl ⟨rfl, rfl, rfl, rfl⟩ ⟨rfl, rfl⟩⟩
  rw [if_pos ⟨hen, h0, h4, hrate⟩]
  exact State.measured_alone hmode hpartner _ _ _ _ _

theorem laneGoes_rangeExit {rate : Nat} (hst : (s.lane m).state = 4) (hlo : 31500 ≤ rate) (hhi : rate ≤ 194000) :
    ∃ t, exec (.rangeExit m rate) s = .next t ∧ LaneGoes s t m 1 (s.lane m).ratio rate := by
  refine ⟨s.laneSt m 1 rate, congrArg Host.Outcome.next ?_,
    laneGoes_laneTo (.refl m s) rfl rfl ⟨rfl, rfl, rfl, rfl⟩ ⟨rfl, rfl⟩⟩
  rw [if_pos ⟨hst, hlo, hhi⟩]
  exact State.measured_alone hmode hpartner _ _ _ _ _

end

/-! ## Decisions that no partner has a part in -/

theorem laneGoes_laneUnlockRampEnd (hst : (s.lane m).state = 3) (hramp : 64 ≤ (s.lane m).ramp) (hinput : (s.lane m).input = true) :
    ∃ t, exec (.laneUnlockRampEnd m) s = .next t ∧ LaneGoes s t m 1 (s.lane m).ratio (s.lane m).rate :=
  ⟨_, if_pos ⟨hst, hramp, hinput⟩, laneGoes_laneTo (.refl m s) rfl rfl ⟨rfl, rfl, rfl, rfl⟩ ⟨rfl, rfl⟩⟩

/-- A lane of a synchronous source with its history full locks on the exact ratio, whatever was measured (R76). -/
theorem laneLock_synchronous (hst : (s.lane m).state = 1)
    (hcls : s.srcClass (laneSrc (s.lane m).entry) = 1 ∨ s.srcClass (laneSrc (s.lane m).entry) = 2)
    (hfull : filtDelay (laneFilt (s.lane m).entry) ≤ (s.lane m).fill) (ratio rate : Nat) :
    exec (.laneLock m ratio rate) s = .next (s.laneLock m (exactRatio (s.srcRate (laneSrc (s.lane m).entry)) s.hz)
      (s.srcRate (laneSrc (s.lane m).entry))) := by
  show execLaneLock m ratio rate s = _
  rw [execLaneLock, if_neg (not_not_intro hst), if_pos hcls, if_pos hfull]
  rfl

/-- A lane of an asynchronous source that kept no ratio locks on the measured one, once it has acquired for 20 ms (R76). -/
theorem laneLock_asynchronous (hst : (s.lane m).state = 1) (hcls : s.srcClass (laneSrc (s.lane m).entry) = 3)
    (hkeep : (s.lane m).keep = false) (hlong : (s.lane m).acqAt + 60000000 ≤ s.clk.now) (ratio rate : Nat) :
    exec (.laneLock m ratio rate) s = .next (s.laneLock m ratio rate) := by
  have htime : ¬s.clk.now - (s.lane m).acqAt < 20 * msEdges := by
    rw [msEdges]
    omega
  show execLaneLock m ratio rate s = _
  rw [execLaneLock, if_neg (not_not_intro hst), if_neg (by omega), if_pos hcls, if_neg (by simp [hkeep]), if_neg htime]
  rfl

/-! ## The statement -/

/-- Settles O16: every decision is one change of a lane's state, with a ratio and a rate set around it. -/
theorem rateConverterLanes : Obligations.RateConverterLanes := by
  intro s m _ hmode hpartner
  exact ⟨fun hst hcls hfull ratio rate =>
      ⟨_, laneLock_synchronous hst hcls hfull ratio rate, laneGoes_laneLock hmode hpartner _ _⟩,
    fun hst hcls hkeep hlong ratio rate =>
      ⟨_, laneLock_asynchronous hst hcls hkeep hlong ratio rate, laneGoes_laneLock hmode hpartner _ _⟩,
    fun hst input => laneGoes_laneUnlock hmode hpartner input hst,
    fun hst hramp hinput => laneGoes_laneUnlockRampEnd hst hramp hinput,
    fun hen h0 h4 _ hrate => laneGoes_rangeEnter hmode hpartner hen h0 h4 hrate,
    fun hst _ hlo hhi => laneGoes_rangeExit hmode hpartner hst hlo hhi⟩

end Sys2Proof.Machine
end

section
/-! SUPPORT. Strips that move to a spare engine, or ramp down and are shed. Statement O19. -/

namespace Sys2Proof.Machine

-- one proof after another, so that waiting proofs do not use up the threads
set_option Elab.async false

variable {s t : State}

/-! ## Rounds over a list -/

/-- Each round over a list leaves `P` of its element, and no round undoes it. -/
theorem forEach_each {σ α : Type} {P : α → σ → Prop} {f : α → σ → σ} (hf : ∀ a x, P a (f a x))
    (hk : ∀ a b x, P b x → P b (f a x)) : ∀ (l : List α) (x : σ), ∀ b ∈ l, P b (forEach f l x)
  | a :: r, x, b, hb => by
    obtain rfl | hr := List.mem_cons.1 hb
    · exact forEach_keeps (P := P b) (fun a x => hk a b x) r (f b x) (hf b x)
    · exact forEach_each hf hk r (f a x) b hr

/-! ## What changes no more than register words, strips and slots of R86 -/

/-- Two states that agree but for the register words, the states of the strips and the engines that serve the slots. -/
def StripsOnly (s t : State) : Prop :=
  { t with regs := s.regs, dp := { t.dp with ins := s.dp.ins, outs := s.dp.outs, slotEng := s.dp.slotEng } } = s

theorem StripsOnly.refl (s : State) : StripsOnly s s := rfl

theorem StripsOnly.eq (h : StripsOnly s t) :
    t = { s with regs := t.regs, dp := { s.dp with ins := t.dp.ins, outs := t.dp.outs, slotEng := t.dp.slotEng } } :=
  congrArg (fun x => { x with regs := t.regs, dp := { x.dp with ins := t.dp.ins, outs := t.dp.outs, slotEng := t.dp.slotEng } }) h

theorem StripsOnly.put {f : Fld} {i v : Nat} (h : StripsOnly s t) : StripsOnly s (t.put f i v) := h

theorem StripsOnly.setStrip {out : Bool} {n : Nat} {f : Strip → Strip} (h : StripsOnly s t) : StripsOnly s (t.setStrip out n f) := by
  cases out <;> exact h

theorem StripsOnly.setStripEngine {out : Bool} {n e : Nat} (h : StripsOnly s t) : StripsOnly s (t.setStripEngine out n e) := by
  unfold State.setStripEngine
  split
  · exact h
  · split <;> exact h

theorem StripsOnly.restartStrip {out : Bool} {n : Nat} (h : StripsOnly s t) : StripsOnly s (t.restartStrip out n) := h.setStrip

theorem StripsOnly.forEach {α : Type} {f : α → State → State} (hf : ∀ a x, StripsOnly s x → StripsOnly s (f a x)) {l : List α}
    (h : StripsOnly s t) : StripsOnly s (Machine.forEach f l t) := forEach_keeps hf l t h

theorem StripsOnly.takeSlots {out : Bool} {shed displaced : List Nat} (h : StripsOnly s t) :
    StripsOnly s (t.takeSlots out shed displaced) := h.forEach fun _ _ h => h.setStripEngine

theorem StripsOnly.showSpares (h : StripsOnly s t) : StripsOnly s t.showSpares := by
  unfold State.showSpares
  split <;> exact h

/-! ## The word that names a strip's engine -/

/-- The field that names the engine of a strip. -/
def engineFld (out : Bool) : Fld := if out then Reg.OUTR_SE else Reg.INR_SE

theorem State.stripEngine_eq (s : State) (out : Bool) (n : Nat) : s.stripEngine out n = s.get (engineFld out) n := by
  cases out <;> rfl

theorem State.setStripEngine_eq (s : State) (out : Bool) (n e : Nat) :
    s.setStripEngine out n e = if s.stripEngine out n = e then s else s.put (engineFld out) n e := by
  cases out <;> rfl

theorem fldAt_engine (out : Bool) (n : Nat) :
    fldAt (engineFld out) n = if out then 0x510008 + 64 * (n % 1024) else 0x500010 + 32 * (n % 2048) := by
  cases out <;> simp [engineFld, fldAt, Reg.INR_SE, Reg.OUTR_SE]

/-- A strip's engine is stored for that strip, and no store of the same engine takes it away from another. -/
theorem State.stripEngine_setStripEngine (s : State) (out : Bool) (n : Nat) {e : Nat} (he : e < 64) :
    (s.setStripEngine out n e).stripEngine out n = e := by
  have hput : (s.put (engineFld out) n e).get (engineFld out) n = e % 2 ^ 6 := by
    cases out <;> exact State.get_put_same _ _ _ _
  rw [State.setStripEngine_eq]
  split
  · assumption
  · rw [State.stripEngine_eq, hput]
    exact Nat.mod_eq_of_lt he

theorem State.stripEngine_keeps {out out' : Bool} {n n' e : Nat} (he : e < 64) (h : s.stripEngine out n = e) :
    (s.setStripEngine out' n' e).stripEngine out n = e := by
  by_cases hw : fldAt (engineFld out) n = fldAt (engineFld out') n'
  · obtain rfl : out = out' := by
      rw [fldAt_engine, fldAt_engine] at hw
      cases out <;> cases out' <;> simp at hw ⊢ <;> omega
    have hsame : ∀ x : State, x.stripEngine out n = x.stripEngine out n' := fun x => by
      simp only [State.stripEngine_eq, State.get, hw]
    rw [hsame]
    exact s.stripEngine_setStripEngine out n' he
  · rw [State.setStripEngine_eq]
    split
    · exact h
    · rw [State.stripEngine_eq, State.get_put_word _ _ _ _ _ _ hw, ← State.stripEngine_eq, h]

/-! ## Strips that restart on an engine (R139) -/

/-- A strip moves to an engine and restarts there. -/
def State.moveStrip (out : Bool) (e n : Nat) (s : State) : State := (s.setStripEngine out n e).restartStrip out n

/-- Strips of a kind move to an engine. -/
def State.moveStrips (s : State) (out : Bool) (e : Nat) (l : List Nat) : State :=
  forEach (fun n s => (s.setStripEngine out n e).restartStrip out n) l s

theorem State.moveStrips_eq (s : State) (out : Bool) (e : Nat) (l : List Nat) :
    s.moveStrips out e l = forEach (State.moveStrip out e) l s := rfl

theorem StripsOnly.moveStrips {out : Bool} {e : Nat} {l : List Nat} (h : StripsOnly s t) : StripsOnly s (t.moveStrips out e l) :=
  h.forEach fun _ _ h => h.setStripEngine.restartStrip

theorem State.word_moveStrip (out : Bool) (e n : Nat) (s : State) (a : Nat) :
    (s.moveStrip out e n).word a = (s.setStripEngine out n e).word a := by
  cases out <;> rfl

theorem State.stripEngine_moveStrip (out out' : Bool) (e n n' : Nat) (s : State) :
    (s.moveStrip out' e n').stripEngine out n = (s.setStripEngine out' n' e).stripEngine out n := by
  simp only [State.stripEngine_eq, State.get, State.word_moveStrip]

theorem State.stripEngine_moveStrips (s : State) (out : Bool) {e : Nat} (he : e < 64) (l : List Nat) :
    ∀ n ∈ l, (s.moveStrips out e l).stripEngine out n = e := by
  rw [State.moveStrips_eq]
  refine forEach_each (P := fun n x => x.stripEngine out n = e) (f := State.moveStrip out e) (fun n x => ?_) (fun n m x h => ?_) l s
  · rw [State.stripEngine_moveStrip]
    exact x.stripEngine_setStripEngine out n he
  · rw [State.stripEngine_moveStrip]
    exact State.stripEngine_keeps he h

theorem State.stripEngine_moveStrips_keeps {out out' : Bool} {n e : Nat} (he : e < 64) {l : List Nat} (h : s.stripEngine out n = e) :
    (s.moveStrips out' e l).stripEngine out n = e := by
  rw [State.moveStrips_eq]
  refine forEach_keeps (P := fun x => x.stripEngine out n = e) (f := State.moveStrip out' e) (fun n x h => ?_) l s h
  rw [State.stripEngine_moveStrip]
  exact State.stripEngine_keeps he h

theorem State.slotEng_moveStrips (s : State) (out : Bool) (e : Nat) (l : List Nat) :
    (s.moveStrips out e l).dp.slotEng = s.dp.slotEng := by
  rw [State.moveStrips_eq]
  refine forEach_keeps (P := fun x => x.dp.slotEng = s.dp.slotEng) (f := State.moveStrip out e) (fun n x h => ?_) l s rfl
  rw [State.moveStrip, State.setStripEngine_eq]
  cases out <;> split <;> exact h

theorem onUnitPage_engine (out : Bool) (n : Nat) : onUnitPage (fldAt (engineFld out) n) = false := by
  rw [fldAt_engine]
  cases out <;> simp [onUnitPage] <;> omega

theorem UnitsKept.moveStrips {out : Bool} {e : Nat} {l : List Nat} (h : UnitsKept s t) : UnitsKept s (t.moveStrips out e l) := by
  rw [State.moveStrips_eq]
  refine forEach_keeps (P := UnitsKept s) (f := State.moveStrip out e) (fun n x hx a ha => ?_) l t h
  have hput : UnitsKept s (x.setStripEngine out n e) := by
    rw [State.setStripEngine_eq]
    exact hx.ite (hx.put (onUnitPage_engine out n))
  rw [State.word_moveStrip]
  exact hput a ha

/-! ## The slots of R86 and the counts of the engine that is left -/

/-- One slot passes to its heir where the engine serves it. -/
def State.passSlot (e heir w : Nat) (s : State) : State :=
  if s.slotServer w = e then s.modDp fun d => { d with slotEng := tput w d.slotEng w heir } else s

theorem State.slotServer_passSlot (e heir w w' : Nat) (s : State) :
    (s.passSlot e heir w).slotServer w' = if w' = w ∧ s.slotServer w' = e then heir else s.slotServer w' := by
  by_cases hw : w' = w
  · subst hw
    by_cases hs : s.slotServer w' = e
    · simp only [State.passSlot, hs, and_self, if_true]
      exact tget_tput_same _ _ _ _
    · simp only [State.passSlot, hs, and_false, if_false]
  · rw [if_neg fun h => hw h.1, State.passSlot]
    split
    · exact tget_tput_other _ _ _ _ _ _ hw
    · rfl

theorem State.slotServer_congr (h : t.dp.slotEng = s.dp.slotEng) (w : Nat) : t.slotServer w = s.slotServer w := by
  rw [State.slotServer, State.slotServer, h]

theorem slotServer_forRange (e heir w : Nat) (n lo : Nat) (s : State) :
    (forRange (State.passSlot e heir) lo n s).slotServer w =
      if (lo ≤ w ∧ w < lo + n) ∧ s.slotServer w = e then heir else s.slotServer w := by
  induction n generalizing lo s with
  | zero => rw [forRange, if_neg fun h => by omega]
  | succ n ih =>
    rw [forRange, ih, State.slotServer_passSlot]
    by_cases hlo : w = lo
    · rw [if_neg fun h => by omega]
      simp [hlo]
    · rw [if_neg (c := w = lo ∧ _) fun h => hlo h.1]
      refine if_congr (and_congr_left' ?_) rfl rfl
      omega

theorem State.passSlots_eq (s : State) (e heir : Nat) : s.passSlots e heir = forRange (State.passSlot e heir) 0 32 s := by
  unfold State.passSlots State.passSlot
  rfl

theorem StripsOnly.passSlot {e heir w : Nat} (h : StripsOnly s t) : StripsOnly s (t.passSlot e heir w) := by
  unfold State.passSlot
  split <;> exact h

theorem StripsOnly.passSlots {e heir : Nat} (h : StripsOnly s t) : StripsOnly s (t.passSlots e heir) := by
  rw [State.passSlots_eq]
  exact forRange_keeps (fun _ _ h => h.passSlot) 32 0 t h

theorem State.regs_passSlots (s : State) (e heir : Nat) : (s.passSlots e heir).regs = s.regs := by
  rw [State.passSlots_eq]
  refine forRange_keeps (P := fun x => x.regs = s.regs) (fun w x h => ?_) 32 0 s rfl
  unfold State.passSlot
  split <;> exact h

theorem State.get_passSlots (s : State) (e heir : Nat) (f : Fld) (i : Nat) : (s.passSlots e heir).get f i = s.get f i := by
  simp only [State.get, State.word, State.regs_passSlots]

theorem State.slotServer_passSlots (s : State) (e heir : Nat) {w : Nat} (hw : w < 32) :
    (s.passSlots e heir).slotServer w = if s.slotServer w = e then heir else s.slotServer w := by
  rw [State.passSlots_eq, slotServer_forRange]
  refine if_congr ?_ rfl rfl
  exact and_iff_right ⟨Nat.zero_le w, by omega⟩

theorem fldAt_inStrips (e : Nat) : fldAt Reg.SE_IN_STRIPS e = 0x10044 + 4096 * e := by
  simp [fldAt, Reg.SE_IN_STRIPS]

theorem fldAt_outStrips (e : Nat) : fldAt Reg.SE_OUT_STRIPS e = 0x10044 + 4096 * e := fldAt_inStrips e

theorem State.get_emptyEngine_ins (s : State) (e : Nat) : (s.emptyEngine e).get Reg.SE_IN_STRIPS e = 0 :=
  (State.get_put_apart _ Reg.SE_OUT_STRIPS Reg.SE_IN_STRIPS e e 0 (by decide) (by decide)).trans (State.get_put_same _ _ _ _)

theorem State.get_emptyEngine_outs (s : State) (e : Nat) : (s.emptyEngine e).get Reg.SE_OUT_STRIPS e = 0 :=
  State.get_put_same _ _ _ _

/-- No strips of the engine wait for an engine any more. -/
def State.unscheduled (s : State) (e : Nat) : State := s.modFlt fun f => { f with resched := f.resched.filter (· != seUnit e) }

theorem StripsOnly.emptyEngine (h : StripsOnly s t) (e : Nat) : StripsOnly (s.unscheduled e) (t.emptyEngine e) := by
  exact congrArg (State.unscheduled · e) h

/-! ## A spare engine takes over (R206) -/

/-- A spare is one no more, and runs. -/
def State.spareRuns (s : State) (sp : Nat) : State :=
  (((s.putB Hdr.SPARE (0x10 + sp) false).putB Hdr.RUNNING (0x10 + sp) true).bumpEpoch (0x10 + sp)).showSpares

/-- The spare `sp` takes the counts and the slots of the engine `e`, and runs. -/
def State.spareTakes (s : State) (e sp : Nat) : State :=
  ((((s.put Reg.SE_IN_STRIPS sp (s.stripsOf false e).length).put Reg.SE_OUT_STRIPS sp
    (s.stripsOf true e).length).emptyEngine e).passSlots e sp).spareRuns sp

theorem StripsOnly.spareTakes (s : State) (e sp : Nat) : StripsOnly (s.unscheduled e) (s.spareTakes e sp) :=
  ((StripsOnly.refl s).put.put.emptyEngine e).passSlots.put.put.put.showSpares

theorem State.slotEng_spareRuns (s : State) (sp : Nat) : (s.spareRuns sp).dp.slotEng = s.dp.slotEng := by
  unfold State.spareRuns State.showSpares
  split <;> rfl

theorem State.slotServer_spareTakes (s : State) (e sp : Nat) {w : Nat} (hw : w < 32) :
    (s.spareTakes e sp).slotServer w = if s.slotServer w = e then sp else s.slotServer w := by
  rw [State.spareTakes, State.slotServer_congr (State.slotEng_spareRuns _ sp), State.slotServer_passSlots _ _ _ hw]
  rfl

theorem stripMigration_eq {e sp : Nat} (he : e < 34) (hr : s.flt.resched.contains (seUnit e) = true) (hsp : s.idleSpare = some sp)
    (hn : ((s.stripsOf false e).isEmpty && (s.stripsOf true e).isEmpty) = false) :
    exec (.stripMigration e) s =
      .next (((s.spareTakes e sp).moveStrips false sp (s.stripsOf false e)).moveStrips true sp (s.stripsOf true e)) := by
  show execStripMigration e s = _
  have hgo : (decide (34 ≤ e) || !s.flt.resched.contains (seUnit e)) = false := by
    rw [hr, decide_eq_false (by omega)]
    rfl
  simp only [execStripMigration, hgo, hsp, hn, Bool.false_eq_true, ↓reduceIte, State.moveStrips, State.spareTakes, State.spareRuns, ok]

theorem State.idleSpare_page (h : s.idleSpare = some sp) : sp = 32 ∨ sp = 33 := by
  simpa using List.mem_of_find?_eq_some h

theorem fldAt_running (page : Nat) : fldAt Hdr.RUNNING page = 4096 * page + 0x0C := fldAt_fenced page

theorem fldAt_spare (page : Nat) : fldAt Hdr.SPARE page = 4096 * page + 0x0C := fldAt_fenced page

theorem onUnitPage_se {e k : Nat} (he : e < 34) (hk : k < 4096) : onUnitPage (4096 * (0x10 + e) + k) = true :=
  onUnitPage_of_page (by simp [onUnitPage]; omega) hk

/-- The words of the engines, before the spares that are left are counted. -/
theorem State.get_spareTakes {f : Fld} {i : Nat} (s : State) (e sp : Nat) (hu : onUnitPage (fldAt f i) = true)
    (hp : fldAt f i % 4096 ≠ 0x24) :
    (s.spareTakes e sp).get f i =
      (((((s.put Reg.SE_IN_STRIPS sp (s.stripsOf false e).length).put Reg.SE_OUT_STRIPS sp
        (s.stripsOf true e).length).emptyEngine e).putB Hdr.SPARE (0x10 + sp) false).putB Hdr.RUNNING (0x10 + sp) true).get f i := by
  refine ((UnitsKept.refl _).showSpares.get hu).trans ((State.get_bumpEpoch _ ?_).trans ?_)
  · rw [fldAt_epoch]
    omega
  · simp only [State.get, State.word, State.putB, State.put, State.setWord, State.regs_passSlots]

theorem State.spareTakes_runs (s : State) (e : Nat) {sp : Nat} (hsp : sp < 34) :
    (s.spareTakes e sp).get Hdr.RUNNING (0x10 + sp) = 1 ∧ (s.spareTakes e sp).get Hdr.SPARE (0x10 + sp) = 0 := by
  have hu := onUnitPage_se hsp (show 0x0C < 4096 by decide)
  have hp : (4096 * (0x10 + sp) + 0x0C) % 4096 ≠ 0x24 := by omega
  constructor
  · rw [State.get_spareTakes _ _ _ ((fldAt_running _).symm ▸ hu) ((fldAt_running _).symm ▸ hp)]
    exact State.get_put_same _ _ _ _
  · rw [State.get_spareTakes _ _ _ ((fldAt_spare _).symm ▸ hu) ((fldAt_spare _).symm ▸ hp)]
    exact (State.get_put_apart _ _ _ _ _ _ (by decide) (by decide)).trans (State.get_put_same _ _ _ _)

theorem State.get_put_stat (s : State) {f g : Fld} {e i v : Nat} (hg : fldAt g e = 0x10044 + 4096 * e)
    (hf : fldAt f i = 4096 * i + 0x0C) : (s.put f i v).get g e = s.get g e :=
  State.get_put_word _ _ _ _ _ _ (by omega)

theorem State.spareTakes_empties (s : State) {e : Nat} (sp : Nat) (he : e < 34) :
    (s.spareTakes e sp).get Reg.SE_IN_STRIPS e = 0 ∧ (s.spareTakes e sp).get Reg.SE_OUT_STRIPS e = 0 := by
  have hu : onUnitPage (0x10044 + 4096 * e) = true := by
    rw [show 0x10044 + 4096 * e = 4096 * (0x10 + e) + 0x44 by omega]
    exact onUnitPage_se he (by decide)
  have hp : (0x10044 + 4096 * e) % 4096 ≠ 0x24 := by omega
  constructor
  · rw [State.get_spareTakes _ _ _ ((fldAt_inStrips e).symm ▸ hu) ((fldAt_inStrips e).symm ▸ hp)]
    exact (State.get_put_stat _ (fldAt_inStrips e) (fldAt_running _)).trans
      ((State.get_put_stat _ (fldAt_inStrips e) (fldAt_spare _)).trans (State.get_emptyEngine_ins _ e))
  · rw [State.get_spareTakes _ _ _ ((fldAt_outStrips e).symm ▸ hu) ((fldAt_outStrips e).symm ▸ hp)]
    exact (State.get_put_stat _ (fldAt_outStrips e) (fldAt_running _)).trans
      ((State.get_put_stat _ (fldAt_outStrips e) (fldAt_spare _)).trans (State.get_emptyEngine_outs _ e))

/-- A fenced engine's strips and slots pass to the spare, which runs; nothing else moves but register words (R139, R206). -/
theorem stripMigration_moves {e sp : Nat} (he : e < 34) (hr : s.flt.resched.contains (seUnit e) = true) (hsp : s.idleSpare = some sp)
    (hn : ((s.stripsOf false e).isEmpty && (s.stripsOf true e).isEmpty) = false) :
    ∃ t : State, exec (.stripMigration e) s = .next t ∧ (∀ n ∈ s.stripsOf false e, t.stripEngine false n = sp) ∧
      (∀ n ∈ s.stripsOf true e, t.stripEngine true n = sp) ∧ t.get Reg.SE_IN_STRIPS e = 0 ∧ t.get Reg.SE_OUT_STRIPS e = 0 ∧
      t.get Hdr.RUNNING (0x10 + sp) = 1 ∧ t.get Hdr.SPARE (0x10 + sp) = 0 ∧
      (∀ w, w < 32 → t.slotServer w = if s.slotServer w = e then sp else s.slotServer w) ∧
      t.flt.resched = s.flt.resched.filter (· != seUnit e) ∧ t.mem = s.mem ∧ t.scn = s.scn ∧ t.prog = s.prog ∧ t.se = s.se := by
  have hlt : sp < 34 := by have := State.idleSpare_page hsp; omega
  have hlt' : sp < 64 := by omega
  refine ⟨_, stripMigration_eq he hr hsp hn, ?_⟩
  generalize hm : ((s.spareTakes e sp).moveStrips false sp (s.stripsOf false e)).moveStrips true sp (s.stripsOf true e) = t
  have hunits : UnitsKept (s.spareTakes e sp) t := hm ▸ (UnitsKept.refl _).moveStrips.moveStrips
  have honly : StripsOnly (s.unscheduled e) t := hm ▸ (StripsOnly.spareTakes s e sp).moveStrips.moveStrips
  have hse : ∀ {f : Fld} {i k p : Nat}, p < 34 → k < 4096 → fldAt f i = 4096 * (0x10 + p) + k →
      t.get f i = (s.spareTakes e sp).get f i := fun hp hk hf => hunits.get (hf ▸ onUnitPage_se hp hk)
  obtain ⟨hrun, hspare⟩ := s.spareTakes_runs e hlt
  obtain ⟨hins, houts⟩ := s.spareTakes_empties sp he
  refine ⟨fun n hin => ?_, fun n hout => ?_, ?_, ?_, ?_, ?_, fun w hw => ?_, ?_⟩
  · rw [← hm]
    exact State.stripEngine_moveStrips_keeps hlt' (State.stripEngine_moveStrips _ _ hlt' _ n hin)
  · rw [← hm]
    exact State.stripEngine_moveStrips _ _ hlt' _ n hout
  · exact (hse he (k := 0x44) (by decide) (by rw [fldAt_inStrips]; omega)).trans hins
  · exact (hse he (k := 0x44) (by decide) (by rw [fldAt_outStrips]; omega)).trans houts
  · exact (hse hlt (k := 0x0C) (by decide) (fldAt_running _)).trans hrun
  · exact (hse hlt (k := 0x0C) (by decide) (fldAt_spare _)).trans hspare
  · rw [← s.slotServer_spareTakes e sp hw, ← hm]
    exact State.slotServer_congr ((State.slotEng_moveStrips _ _ _ _).trans (State.slotEng_moveStrips _ _ _ _)) w
  · rw [honly.eq]
    exact ⟨rfl, rfl, rfl, rfl, rfl⟩

/-! ## Strips that ramp down (R628) -/

/-- The state of a strip of a kind. -/
def State.stripAt (s : State) (out : Bool) (n : Nat) : Strip := if out then s.outStrip n else s.inStrip n

theorem State.stripAt_setStrip_same (s : State) (out : Bool) (n : Nat) (f : Strip → Strip) :
    (s.setStrip out n f).stripAt out n = { f (s.stripAt out n) with live := true } := by
  cases out <;> exact tget_tput_same _ _ _ _

theorem State.stripAt_setStrip_other (s : State) {out out' : Bool} {n n' : Nat} (f : Strip → Strip) (h : out ≠ out' ∨ n ≠ n') :
    (s.setStrip out' n' f).stripAt out n = s.stripAt out n := by
  by_cases ho : out = out'
  · subst ho
    have hn : n ≠ n' := h.resolve_left (absurd rfl)
    cases out <;> exact tget_tput_other _ _ _ _ _ _ hn
  · obtain rfl := Bool.eq_not.2 ho
    cases out' <;> rfl

/-- A strip begins its ramp to silence. -/
def State.rampStrip (out : Bool) (n : Nat) (s : State) : State := s.setStrip out n fun t => { t with fall := 32 }

/-- Strips of a kind begin their ramps. -/
def State.rampStrips (s : State) (out : Bool) (l : List Nat) : State :=
  forEach (fun n s => s.setStrip out n fun t => { t with fall := 32 }) l s

theorem State.rampStrips_eq (s : State) (out : Bool) (l : List Nat) : s.rampStrips out l = forEach (State.rampStrip out) l s := rfl

theorem StripsOnly.rampStrips {out : Bool} {l : List Nat} (h : StripsOnly s t) : StripsOnly s (t.rampStrips out l) :=
  h.forEach fun _ _ h => h.setStrip

theorem State.slotEng_rampStrips (s : State) (out : Bool) (l : List Nat) : (s.rampStrips out l).dp.slotEng = s.dp.slotEng := by
  rw [State.rampStrips_eq]
  refine forEach_keeps (P := fun x => x.dp.slotEng = s.dp.slotEng) (f := State.rampStrip out) (fun n x h => ?_) l s rfl
  cases out <;> exact h

theorem State.fall_rampStrip (out : Bool) (n : Nat) (s : State) : ((s.rampStrip out n).stripAt out n).fall = 32 := by
  rw [State.rampStrip, State.stripAt_setStrip_same]

theorem State.fall_rampStrip_keeps {out out' : Bool} {n n' : Nat} (h : (s.stripAt out n).fall = 32) :
    ((s.rampStrip out' n').stripAt out n).fall = 32 := by
  by_cases hsame : out = out' ∧ n = n'
  · obtain ⟨rfl, rfl⟩ := hsame
    exact State.fall_rampStrip out n s
  · rw [State.rampStrip, State.stripAt_setStrip_other _ _ (not_and_or.1 hsame), h]

theorem State.fall_rampStrips (s : State) (out : Bool) (l : List Nat) : ∀ n ∈ l, ((s.rampStrips out l).stripAt out n).fall = 32 :=
  forEach_each (P := fun n x => (x.stripAt out n).fall = 32) (f := State.rampStrip out) (fun n x => State.fall_rampStrip out n x)
    (fun _ _ _ h => State.fall_rampStrip_keeps h) l s

theorem State.fall_rampStrips_keeps {out out' : Bool} {n : Nat} {l : List Nat} (h : (s.stripAt out n).fall = 32) :
    ((s.rampStrips out' l).stripAt out n).fall = 32 :=
  forEach_keeps (P := fun x => (x.stripAt out n).fall = 32) (f := State.rampStrip out') (fun _ _ h => State.fall_rampStrip_keeps h) l s h

/-- The strips that are shed begin their ramps, the engine left without strips and slots. -/
def State.shedRamps (s : State) (e : Nat) (ins outs : List Nat) : State :=
  (((s.emptyEngine e).passSlots e 34).rampStrips false ins).rampStrips true outs

theorem StripsOnly.shedRamps (s : State) (e : Nat) (ins outs : List Nat) : StripsOnly (s.unscheduled e) (s.shedRamps e ins outs) :=
  ((StripsOnly.refl s).emptyEngine e).passSlots.rampStrips.rampStrips

/-- The strips that ramp down and those that wait for their slots are noted, and DEGRADED and the number of strips shed are shown. -/
def State.shedNoted (s : State) (ins outs left : List Nat) : State :=
  let at' := s.idx + 32
  let s := s.modDp fun d =>
    { d with shedding := d.shedding ++ ins ++ outs.map (shedKey true), displaced := d.displaced ++ left, shedAt := at' }
  let s := (s.put0 Reg.MODE_DEGRADED 1).irq Reg.MODE_IRQ_DEGRADED
  s.put0 Reg.MODE_SHED (s.dp.shed.length + s.dp.shedding.length)

/-- The strips of an engine that are not themselves shed wait for the slots of those that are. -/
def State.shedLeft (s : State) (e : Nat) (ins outs : List Nat) : List Nat :=
  (s.stripsOf false e).filter (!ins.contains ·) ++ ((s.stripsOf true e).filter (!outs.contains ·)).map (shedKey true)

theorem stripShed_eq {e : Nat} (he : e < 34) (hr : s.flt.resched.contains (seUnit e) = true) (hsp : s.idleSpare = none)
    (hn : ((s.stripsOf false e).isEmpty && (s.stripsOf true e).isEmpty) = false) {ins outs : List Nat}
    (hins : s.shedChoice false (s.stripsOf false e).length = ins) (houts : s.shedChoice true (s.stripsOf true e).length = outs) :
    exec (.stripShed e) s = .next ((s.shedRamps e ins outs).shedNoted ins outs (s.shedLeft e ins outs)) := by
  show execStripShed e s = _
  have hgo : (decide (34 ≤ e) || !s.flt.resched.contains (seUnit e) || s.idleSpare.isSome) = false := by
    rw [hr, hsp, decide_eq_false (by omega)]
    rfl
  simp only [execStripShed, hgo, hn, Bool.false_eq_true, ↓reduceIte, State.shedRamps, State.rampStrips, State.shedNoted,
    State.shedLeft, ok, hins, houts]

theorem State.shedNoted_degraded (s : State) (ins outs left : List Nat) :
    (s.shedNoted ins outs left).get Reg.MODE_DEGRADED = 1 ∧ (s.shedNoted ins outs left).get Reg.MODE_IRQ_DEGRADED = 1 :=
  ⟨(State.get_put_word _ _ _ _ _ _ (by decide)).trans ((State.get_put_word _ _ _ _ _ _ (by decide)).trans (State.get_put_same _ _ _ _)),
    (State.get_put_word _ _ _ _ _ _ (by decide)).trans (State.get_put_same _ _ _ _)⟩

/-- With no spare left the strips of R628 ramp down over 32 samples and the engine's slots are served by none. -/
theorem stripShed_ramps {e : Nat} (he : e < 34) (hr : s.flt.resched.contains (seUnit e) = true) (hsp : s.idleSpare = none)
    (hn : ((s.stripsOf false e).isEmpty && (s.stripsOf true e).isEmpty) = false) {ins outs : List Nat}
    (hins : s.shedChoice false (s.stripsOf false e).length = ins) (houts : s.shedChoice true (s.stripsOf true e).length = outs) :
    ∃ t : State, exec (.stripShed e) s = .next t ∧ (∀ n ∈ ins, (t.inStrip n).fall = 32) ∧
      (∀ n ∈ outs, (t.outStrip n).fall = 32) ∧
      t.dp.shedding = s.dp.shedding ++ ins ++ outs.map (2048 + ·) ∧ t.dp.shedAt = s.idx + 32 ∧
      t.get Reg.MODE_DEGRADED = 1 ∧ t.get Reg.MODE_IRQ_DEGRADED = 1 ∧ t.dp.shed = s.dp.shed ∧
      (∀ w, w < 32 → t.slotServer w = if s.slotServer w = e then 34 else s.slotServer w) ∧ t.mem = s.mem ∧ t.scn = s.scn := by
  refine ⟨_, stripShed_eq he hr hsp hn hins houts, ?_⟩
  have honly := StripsOnly.shedRamps s e ins outs
  have hin : ∀ n ∈ ins, ((s.shedRamps e ins outs).stripAt false n).fall = 32 := fun n hn => by
    rw [State.shedRamps]
    exact State.fall_rampStrips_keeps (State.fall_rampStrips _ false _ n hn)
  have hout : ∀ n ∈ outs, ((s.shedRamps e ins outs).stripAt true n).fall = 32 := by
    rw [State.shedRamps]
    exact State.fall_rampStrips _ true _
  have hslot : ∀ w, w < 32 → (s.shedRamps e ins outs).slotServer w = if s.slotServer w = e then 34 else s.slotServer w := fun w hw => by
    rw [State.shedRamps, State.slotServer_congr ((State.slotEng_rampStrips _ _ _).trans (State.slotEng_rampStrips _ _ _)),
      State.slotServer_passSlots _ _ _ hw]
    rfl
  generalize s.shedRamps e ins outs = u at honly hin hout hslot ⊢
  obtain ⟨hdeg, hirq⟩ := u.shedNoted_degraded ins outs (s.shedLeft e ins outs)
  have hu := honly.eq
  have hdp : u.dp.shedding = s.dp.shedding ∧ u.dp.shed = s.dp.shed := by
    rw [hu]
    exact ⟨rfl, rfl⟩
  have hrest : u.idx = s.idx ∧ u.mem = s.mem ∧ u.scn = s.scn := by
    rw [hu]
    exact ⟨rfl, rfl, rfl⟩
  obtain ⟨hshedding, hshed⟩ := hdp
  obtain ⟨hidx, hmem, hscn⟩ := hrest
  exact ⟨hin, hout, congrArg (· ++ ins ++ outs.map (2048 + ·)) hshedding, congrArg (· + 32) hidx,
    hdeg, hirq, hshed, hslot, hmem, hscn⟩

/-! ## The end of the ramps -/

theorem shedStop_eq (hs : s.dp.shedding ≠ []) (hat : s.dp.shedAt ≤ s.idx) : exec .shedStop s = .next s.shedStop := by
  show execShedStop s = _
  have hgo : (s.dp.shedding.isEmpty || decide (s.idx < s.dp.shedAt)) = false := by
    rw [List.isEmpty_eq_false_iff.2 hs, decide_eq_false (by omega)]
    rfl
  rw [execShedStop, hgo]
  rfl

/-- The strips that ramped down are shed, and no strip is left to move. -/
theorem shedStop_sheds (hs : s.dp.shedding ≠ []) (hat : s.dp.shedAt ≤ s.idx) :
    ∃ t : State, exec .shedStop s = .next t ∧ t.dp.shed = s.dp.shed ++ s.dp.shedding ∧ t.dp.shedding = [] ∧ t.dp.displaced = [] ∧
      t.mem = s.mem ∧ t.scn = s.scn ∧ t.se = s.se := by
  refine ⟨_, shedStop_eq hs hat, ?_⟩
  simp only [State.shedStop]
  generalize hu : forEach _ _ (forEach _ _ (State.takeSlots _ true _ _)) = u
  have honly : StripsOnly s u := hu ▸ ((StripsOnly.refl s).takeSlots.takeSlots.forEach fun _ _ h => h.restartStrip).forEach
    fun _ _ h => h.restartStrip
  rw [honly.eq]
  exact ⟨rfl, rfl, rfl, rfl, rfl, rfl⟩

/-! ## The statement -/

/-- Settles O19: a spare takes the engine's words and slots before its strips move, one strip at a time; without a spare, and when the
ramps end, no more than strips and register words change beside the lists of R628. -/
theorem migrationAndShedding : Obligations.MigrationAndShedding :=
  ⟨fun _ _ _ he hr hsp _ hn => stripMigration_moves he hr hsp hn, fun _ _ he hr hsp hn => stripShed_ramps he hr hsp hn rfl rfl,
    fun _ hs hat => shedStop_sheds hs hat⟩

end Sys2Proof.Machine
end

section
/-! SUPPORT. Records and live writes on their way to a Meridian, and the marks of the cutoff. Statement O27. -/

namespace Sys2Proof.Machine

-- one proof after another, so that waiting proofs do not use up the threads
set_option Elab.async false

variable {s t : State}

/-! ## The words in which the scene engine shows what it holds -/

theorem OnlyWords.refl (ks : List Nat) (s : State) : OnlyWords ks s s := ⟨rfl, fun _ _ => rfl⟩

theorem OnlyWords.putIn {ks : List Nat} (h : OnlyWords ks s t) {f : Fld} {i : Nat} (v : Nat) (hf : fldAt f i ∈ ks) :
    OnlyWords ks s (t.put f i v) := by
  obtain ⟨hframe, hword⟩ := h
  refine ⟨?_, fun a ha => (t.word_put_other f i v a fun e => ha (e ▸ hf)).trans (hword a ha)⟩
  rw [State.put_eq, hframe]

theorem OnlyWords.ite {ks : List Nat} {c : Prop} {_ : Decidable c} {u : State} (ht : OnlyWords ks s t) (hu : OnlyWords ks s u) :
    OnlyWords ks s (if c then t else u) := by
  split
  · exact ht
  · exact hu

theorem OnlyWords.get {ks : List Nat} (h : OnlyWords ks s t) {f : Fld} {i : Nat} (hf : fldAt f i ∉ ks) : t.get f i = s.get f i := by
  rw [State.get, State.get, h.2 _ hf]

/-- The words of the totals (R292, R224). -/
def totalWords : List Nat := [0x50040, 0x50044, 0x50048, 0x5004C, 0x4104C]

theorem State.showScn_only (s : State) : OnlyWords totalWords s s.showScn := by
  have hput : ∀ {t : State} (f : Fld) (v : Nat), OnlyWords totalWords s t → fldAt f 0 ∈ totalWords →
      OnlyWords totalWords s (t.put f 0 v) := fun _ v h hf => h.putIn v hf
  refine hput _ _ (hput _ _ (hput _ _ (hput _ _ (hput _ _ (.ite (hput _ _ (hput _ _ (.refl _ s) ?_) ?_) (hput _ _ (.refl _ s) ?_)) ?_) ?_)
    ?_) ?_) ?_ <;> decide

/-- The words in which a slot shows its moves. -/
def movesWords (i : Nat) : List Nat := [fldAt Reg.SLOT_MOVES i, fldAt Reg.SLOT_STAGED i, fldAt Reg.SLOT_DERIVE_LEFT i]

theorem State.showSlot_only (s : State) (i : Nat) : OnlyWords (movesWords i) s (s.showSlot i) :=
  (((OnlyWords.refl _ s).putIn _ (by simp [movesWords])).putIn _ (by simp [movesWords])).putIn _ (by simp [movesWords])

theorem fldAt_slotState (i : Nat) : fldAt Reg.SLOT_STATE i = 0x52040 + 32 * (i % 16) := by
  simp [fldAt, Reg.SLOT_STATE]

theorem slotState_notMoves (i j : Nat) : fldAt Reg.SLOT_STATE i ∉ movesWords j := by
  simp [movesWords, fldAt, Reg.SLOT_STATE, Reg.SLOT_MOVES, Reg.SLOT_STAGED, Reg.SLOT_DERIVE_LEFT]
  omega

theorem slotState_notTotals (i : Nat) : fldAt Reg.SLOT_STATE i ∉ totalWords := by
  simp [totalWords, fldAt_slotState]
  omega

theorem notMoves_of_page {a : Nat} (h : a / 4096 ≠ 0x52) (i : Nat) : a ∉ movesWords i := by
  simp [movesWords, fldAt, Reg.SLOT_MOVES, Reg.SLOT_STAGED, Reg.SLOT_DERIVE_LEFT]
  omega

/-! ## One slot -/

theorem State.slot_setSlot_same (s : State) (i : Nat) (f : Slot → Slot) : (s.setSlot i f).slot i = f (s.slot i) :=
  tget_tput_same _ _ _ _

theorem State.slot_setSlot_other (s : State) (f : Slot → Slot) {i j : Nat} (h : i ≠ j) : (s.setSlot j f).slot i = s.slot i :=
  tget_tput_other _ _ _ _ _ _ h

/-! ## Staging buffers (R514, R515) -/

/-- The words of the dark frame's page that show its passes. -/
def passWords : List Nat := [0xBA01C, 0xBA040, 0xBA044]

theorem State.showPasses_only (s : State) : OnlyWords passWords s s.showPasses := by
  have hput : ∀ {t : State} (f : Fld) (i v : Nat), OnlyWords passWords s t → fldAt f i ∈ passWords →
      OnlyWords passWords s (t.put f i v) := fun _ _ v h hf => h.putIn v hf
  unfold State.showPasses
  extract_lets r u
  have hu : OnlyWords passWords s u := hput _ _ _ (hput _ _ _ (.refl _ s) (by decide)) (by decide)
  split
  · exact hput _ _ _ (hput _ _ _ (hput _ _ _ hu (by decide)) (by decide)) (by decide)
  · exact .ite hu (hput _ _ _ hu (by decide))

/-- Two states that agree but for the memory, the free values drawn and the words of `ks`. -/
def BufsOnly (ks : List Nat) (s t : State) : Prop :=
  { t with regs := s.regs, mem := s.mem, free := s.free } = s ∧ ∀ a, a ∉ ks → t.word a = s.word a

theorem BufsOnly.eq {ks : List Nat} (h : BufsOnly ks s t) : t = { s with regs := t.regs, mem := t.mem, free := t.free } :=
  congrArg (fun x => { x with regs := t.regs, mem := t.mem, free := t.free }) h.1

theorem State.retag_bufs (s : State) (base size cls owner : Nat) : BufsOnly passWords s (s.retag base size cls owner) := by
  have h := State.showPasses_only (s.modMem fun m =>
    { m with bufs := m.bufs.filter (·.base != base) ++ [{ base := base, size := size, cls := cls, owner := owner }],
             passes := m.passes.filter (·.base != base) ++ [{ base := base, size := size, cls := cls, owner := owner }] })
  refine ⟨?_, h.2⟩
  rw [State.retag, h.1]
  rfl

theorem State.allocBuf_bufs (s : State) (size cls owner : Nat) : BufsOnly passWords s (s.allocBuf size cls owner) := by
  unfold State.allocBuf
  extract_lets want u cands
  split
  · next base _ =>
    obtain ⟨hframe, hword⟩ := u.retag_bufs base size cls owner
    exact ⟨congrArg (fun x => { x with free := s.free }) hframe, hword⟩
  · exact ⟨rfl, fun _ _ => rfl⟩

/-! ## An engine whose partner does not follow -/

/-- The words from which an engine knows whether its partner follows (R467). -/
def partnerWords : List Nat := [fldAt Reg.STBY_PAIR 0, fldAt Reg.STBY_ACTIVE 0, fldAt Reg.KZL_UP 1]

theorem State.partnerFollows_congr (hw : ∀ a ∈ partnerWords, t.word a = s.word a) (hs : t.stby = s.stby) :
    t.partnerFollows = s.partnerFollows := by
  have hpair := hw (fldAt Reg.STBY_PAIR 0) (by simp [partnerWords])
  have hactive := hw (fldAt Reg.STBY_ACTIVE 0) (by simp [partnerWords])
  have hup := hw (fldAt Reg.KZL_UP 1) (by simp [partnerWords])
  simp only [State.partnerFollows, State.getB, State.get, hpair, hactive, hup, hs]

section Alone

variable (h : s.partnerFollows = false)

include h

theorem State.lockstep_alone : s.lockstep = false := by rw [State.lockstep, h, Bool.false_and]

theorem State.mirrorSlot_alone (op lane sample : Nat) : s.mirrorSlot op lane sample = s := by
  rw [State.mirrorSlot, h]
  rfl

theorem State.mirrorMove_alone (lane meridian : Nat) (m : SMove) : s.mirrorMove lane meridian m = s := by
  rw [State.mirrorMove, h]
  rfl

theorem State.cutSample_alone : s.cutSample = s.clk.idx + 1 := by
  rw [State.cutSample, State.lockstep_alone h]
  rfl

theorem State.partnerStaged_alone (lane : Nat) : s.partnerStaged lane = true := by
  rw [State.partnerStaged, State.lockstep_alone h]
  rfl

end Alone

/-! ## What a slot's cutoff leaves alone (R266) -/

/-- The words that a slot's end stores: its own, the totals, and those of the Ephemeris and of the dark frame. -/
def cutWords (j : Nat) : List Nat :=
  [fldAt Reg.SLOT_STATE j, 0x50010, fldAt Reg.EPH_USED 0, fldAt Reg.EPH_NET_USED 0, fldAt Reg.EPH_EMPTY 0] ++ movesWords j ++
    totalWords ++ passWords

/-- Two states that agree but for the slot `j`, the words of `cutWords`, the memory, the free values drawn, the Ephemeris and the links. -/
def CutOnly (j : Nat) (s t : State) : Prop :=
  { t with regs := s.regs, mem := s.mem, free := s.free, eph := s.eph, kzl := s.kzl, scn := { t.scn with slots := s.scn.slots } } = s ∧
    (∀ a, a ∉ cutWords j → t.word a = s.word a) ∧ ∀ i, i ≠ j → t.slot i = s.slot i

theorem CutOnly.eq {j : Nat} (h : CutOnly j s t) : t = { s with
    regs := t.regs, mem := t.mem, free := t.free, eph := t.eph, kzl := t.kzl, scn := { s.scn with slots := t.scn.slots } } :=
  congrArg (fun x => { x with
    regs := t.regs, mem := t.mem, free := t.free, eph := t.eph, kzl := t.kzl, scn := { x.scn with slots := t.scn.slots } }) h.1

section CutOnly

variable {j : Nat} (h : CutOnly j s t)

theorem CutOnly.refl (j : Nat) (s : State) : CutOnly j s s := ⟨rfl, fun _ _ => rfl, fun _ _ => rfl⟩

include h

theorem CutOnly.only {ks : List Nat} {u : State} (hu : OnlyWords ks t u) (hk : ks ⊆ cutWords j) : CutOnly j s u := by
  obtain ⟨hrest, hword, hslot⟩ := h
  obtain ⟨hframe, hword'⟩ := hu
  refine ⟨?_, fun a ha => (hword' a fun hm => ha (hk hm)).trans (hword a ha), ?_⟩
  · rw [hframe]
    exact hrest
  · rw [hframe]
    exact hslot

theorem CutOnly.put {f : Fld} {i v : Nat} (hf : fldAt f i ∈ cutWords j) : CutOnly j s (t.put f i v) :=
  h.only (.put t f i v) (by simpa using hf)

theorem CutOnly.setSlot {f : Slot → Slot} : CutOnly j s (t.setSlot j f) := by
  obtain ⟨hrest, hword, hslot⟩ := h
  exact ⟨hrest, hword, fun i hi => (t.slot_setSlot_other f hi).trans (hslot i hi)⟩

theorem CutOnly.mirrorSlot (op lane sample : Nat) : CutOnly j s (t.mirrorSlot op lane sample) := by
  unfold State.mirrorSlot
  split
  · rw [State.sendRecord_frame]
    exact h
  · exact h

theorem CutOnly.showSlot : CutOnly j s (t.showSlot j) := h.only (t.showSlot_only j) fun a ha => by simp [cutWords, ha]

theorem CutOnly.showScn : CutOnly j s t.showScn := h.only t.showScn_only fun a ha => by simp [cutWords, ha]

theorem CutOnly.ephDrop {p : EphEntry → Bool} : CutOnly j s (t.ephDrop p) :=
  have hdrop : CutOnly j s (t.modEph fun e => { e with entries := e.entries.filter (fun x => !p x) }) := h
  ((hdrop.put (by simp [cutWords])).put (by simp [cutWords])).put (by simp [cutWords])

theorem CutOnly.retag (base size cls owner : Nat) : CutOnly j s (t.retag base size cls owner) := by
  obtain ⟨hrest, hword, hslot⟩ := h
  have hbufs := t.retag_bufs base size cls owner
  refine ⟨?_, fun a ha => (hbufs.2 a fun hm => ha (by simp [cutWords, hm])).trans (hword a ha), ?_⟩
  · rw [hbufs.eq]
    exact hrest
  · rw [hbufs.eq]
    exact hslot

theorem CutOnly.freeBufs (cls owner : Nat) : CutOnly j s (t.freeBufs cls owner) :=
  forEach_keeps (P := CutOnly j s) (fun _ _ h => h.retag _ _ _ _) _ t h

theorem CutOnly.irqIf {c : Prop} {_ : Decidable c} {f : Fld} (hf : fldAt f 0 ∈ cutWords j) : CutOnly j s (if c then t.irq f else t) := by
  split
  · exact h.put hf
  · exact h

theorem CutOnly.endSlot (status : Nat) : CutOnly j s (t.endSlot j status) := by
  unfold State.endSlot
  extract_lets sent ended emptied dropped freed refused
  have hsent : CutOnly j s sent := by
    unfold sent
    split
    · exact h.mirrorSlot _ _ _
    · exact h
  have hended : CutOnly j s ended := (hsent.put (by simp [cutWords, fldAt, Reg.SLOT_STATUS, Reg.SLOT_STATE])).put (by simp [cutWords])
  have hemptied : CutOnly j s emptied := hended.setSlot
  have hdropped : CutOnly j s dropped := hemptied.ephDrop
  have hfreed : CutOnly j s freed := hdropped.freeBufs _ _
  have hrefused : CutOnly j s refused := hfreed.irqIf (by simp [cutWords, fldAt, Reg.SCN_IRQ_REFUSED])
  exact hrefused.showSlot.showScn

end CutOnly

theorem cutSlot_only (j : Nat) (s : State) : CutOnly j s (s.cutSlot j) := by
  unfold State.cutSlot
  extract_lets
  split
  · exact .refl j s
  · split
    · exact (CutOnly.refl j s).setSlot.mirrorSlot _ _ _
    · split
      · split
        · exact (CutOnly.refl j s).endSlot _
        · exact (CutOnly.refl j s).setSlot
      · exact .refl j s

/-! ## The cutoff of all slots -/

/-- What each round of a range relates, the range relates. -/
theorem forRange_relates {σ : Type} {R : σ → σ → Prop} (hrefl : ∀ x, R x x) (htrans : ∀ {x y z}, R x y → R y z → R x z)
    {f : Nat → σ → σ} (n lo : Nat) (hf : ∀ k x, lo ≤ k → k < lo + n → R x (f k x)) (x : σ) : R x (forRange f lo n x) := by
  induction n generalizing lo x with
  | zero => exact hrefl x
  | succ n ih => exact htrans (hf lo x (by omega) (by omega)) (ih (lo + 1) (fun k y hk hk' => hf k y (by omega) (by omega)) _)

/-- Where every other round keeps `R`, so does what comes before one round of a range, and what comes after it. -/
theorem forRange_around {σ : Type} {R : σ → σ → Prop} (hrefl : ∀ x, R x x) (htrans : ∀ {x y z}, R x y → R y z → R x z)
    {f : Nat → σ → σ} {i : Nat} (n lo : Nat) (hi : lo ≤ i) (hi' : i < lo + n)
    (hf : ∀ k x, k < lo + n → k ≠ i → R x (f k x)) (x : σ) :
    ∃ y, R x y ∧ R (f i y) (forRange f lo n x) := by
  induction n generalizing lo x with
  | zero => omega
  | succ n ih =>
    obtain rfl | hlt := Nat.eq_or_lt_of_le hi
    · exact ⟨x, hrefl x, forRange_relates hrefl htrans n (lo + 1) (fun k y hk hk' => hf k y (by omega) (by omega)) _⟩
    · obtain ⟨y, hbefore, hafter⟩ := ih (lo + 1) hlt (by omega) (fun k y hk hne => hf k y (by omega) hne) (f lo x)
      exact ⟨y, htrans (hf lo x (by omega) (by omega)) hbefore, hafter⟩

/-- What the cutoff of any slot leaves: the clock, the moves that run, the live lane, and what is known of the partner. -/
def CutKeeps (s t : State) : Prop :=
  t.clk = s.clk ∧ t.scn.runs = s.scn.runs ∧ t.scn.live = s.scn.live ∧ t.partnerFollows = s.partnerFollows

theorem CutKeeps.trans {u : State} (h : CutKeeps s t) (h' : CutKeeps t u) : CutKeeps s u := by
  obtain ⟨hclk, hruns, hlive, hpartner⟩ := h
  obtain ⟨hclk', hruns', hlive', hpartner'⟩ := h'
  exact ⟨hclk'.trans hclk, hruns'.trans hruns, hlive'.trans hlive, hpartner'.trans hpartner⟩

theorem partnerWords_notCut {a : Nat} (ha : a ∈ partnerWords) (j : Nat) : a ∉ cutWords j := by
  simp only [partnerWords, List.mem_cons, List.not_mem_nil, or_false] at ha
  obtain rfl | rfl | rfl := ha <;>
    simp [cutWords, movesWords, totalWords, passWords, fldAt, Reg.STBY_PAIR, Reg.STBY_ACTIVE, Reg.KZL_UP, Reg.SLOT_STATE, Reg.SLOT_MOVES,
      Reg.SLOT_STAGED, Reg.SLOT_DERIVE_LEFT, Reg.EPH_USED, Reg.EPH_NET_USED, Reg.EPH_EMPTY] <;> omega

theorem CutOnly.keeps {j : Nat} (h : CutOnly j s t) : CutKeeps s t := by
  have hrest : t.clk = s.clk ∧ t.scn.runs = s.scn.runs ∧ t.scn.live = s.scn.live ∧ t.stby = s.stby := by
    rw [h.eq]
    exact ⟨rfl, rfl, rfl, rfl⟩
  obtain ⟨hclk, hruns, hlive, hstby⟩ := hrest
  exact ⟨hclk, hruns, hlive, State.partnerFollows_congr (fun a ha => h.2.1 a (partnerWords_notCut ha j)) hstby⟩

theorem slotState_notCut {i j : Nat} (hi : i < 16) (hj : j < 16) (hne : j ≠ i) : fldAt Reg.SLOT_STATE i ∉ cutWords j := by
  have hs : fldAt Reg.SLOT_STATE i ≠ fldAt Reg.SLOT_STATE j := by
    rw [fldAt_slotState, fldAt_slotState]
    omega
  simp only [cutWords, List.mem_append, List.mem_cons, not_or, List.not_mem_nil, not_false_eq_true, and_true]
  refine ⟨⟨⟨⟨hs, ?_⟩, slotState_notMoves i j⟩, slotState_notTotals i⟩, ?_⟩ <;>
    simp [passWords, fldAt, Reg.SLOT_STATE, Reg.EPH_USED, Reg.EPH_NET_USED, Reg.EPH_EMPTY] <;> omega

/-- What the cutoff of another slot leaves of a slot: also its moves and its state. -/
def SlotKept (i : Nat) (s t : State) : Prop := CutKeeps s t ∧ t.slot i = s.slot i ∧ t.slotState i = s.slotState i

theorem SlotKept.refl (i : Nat) (s : State) : SlotKept i s s := ⟨⟨rfl, rfl, rfl, rfl⟩, rfl, rfl⟩

theorem SlotKept.trans {i : Nat} {u : State} (h : SlotKept i s t) (h' : SlotKept i t u) : SlotKept i s u := by
  obtain ⟨hkeeps, hslot, hstate⟩ := h
  obtain ⟨hkeeps', hslot', hstate'⟩ := h'
  exact ⟨hkeeps.trans hkeeps', hslot'.trans hslot, hstate'.trans hstate⟩

theorem CutOnly.slotKept {i j : Nat} (h : CutOnly j s t) (hi : i < 16) (hj : j < 16) (hne : j ≠ i) : SlotKept i s t :=
  ⟨h.keeps, h.2.2 i hne.symm, by
    rw [State.slotState, State.slotState, State.get, State.get, h.2.1 _ (slotState_notCut hi hj hne)]⟩

/-- The cutoff of every slot. -/
def State.cutSlots (s : State) : State := forRange State.cutSlot 0 16 s

theorem State.cutSlots_keeps (s : State) : CutKeeps s s.cutSlots :=
  forRange_keeps (P := CutKeeps s) (fun k x h => h.trans (cutSlot_only k x).keeps) 16 0 s ⟨rfl, rfl, rfl, rfl⟩

/-- Of all the rounds of the cutoff one alone is of a slot's concern: its own. -/
theorem State.cutSlots_around (s : State) {i : Nat} (hi : i < 16) :
    ∃ y, SlotKept i s y ∧ SlotKept i (y.cutSlot i) s.cutSlots :=
  forRange_around (SlotKept.refl i) SlotKept.trans 16 0 (Nat.zero_le i) (by omega)
    (fun k x hk hne => (cutSlot_only k x).slotKept hi (by omega) hne) s

theorem State.cutSlot_unfired {i : Nat} (h : (s.slot i).fired = false) : s.cutSlot i = s := by
  unfold State.cutSlot
  exact if_pos (by rw [h]; rfl)

theorem State.cutSlot_fired {i : Nat} (hp : s.partnerFollows = false) (hst : s.slotState i = 4) (hf : (s.slot i).fired = true)
    (hc : (s.slot i).commit = none) : s.cutSlot i = s.setSlot i fun t => { t with commit := some (s.clk.idx + 1) } := by
  have hgo : (!(s.slot i).fired || (s.slot i).commit.isSome) = false := by rw [hf, hc]; rfl
  unfold State.cutSlot
  simp only [hgo, Bool.false_eq_true, ↓reduceIte, hst, State.partnerStaged_alone hp, and_self, State.cutSample_alone hp]
  exact State.mirrorSlot_alone (s := s.setSlot i _) hp _ _ _

/-- An ARMED slot whose trigger has fired is marked for the coming boundary (R266). -/
theorem State.cutSlots_fired {i : Nat} (hi : i < 16) (hp : s.partnerFollows = false) (hst : s.slotState i = 4)
    (hf : (s.slot i).fired = true) (hc : (s.slot i).commit = none) :
    s.cutSlots.slot i = { s.slot i with commit := some (s.clk.idx + 1) } ∧ s.cutSlots.slotState i = 4 := by
  obtain ⟨y, ⟨hkeeps, hslot, hstate⟩, hafter⟩ := s.cutSlots_around hi
  obtain ⟨hclk, _, _, hpartner⟩ := hkeeps
  rw [State.cutSlot_fired (hpartner.trans hp) (hstate.trans hst) (hslot ▸ hf) (hslot ▸ hc)] at hafter
  obtain ⟨_, hslot', hstate'⟩ := hafter
  refine ⟨?_, hstate'.trans (hstate.trans hst)⟩
  rw [hslot', State.slot_setSlot_same, hslot, hclk]

theorem State.cutSlots_unfired {i : Nat} (hi : i < 16) (hf : (s.slot i).fired = false) : s.cutSlots.slot i = s.slot i := by
  obtain ⟨y, ⟨_, hslot, _⟩, hafter⟩ := s.cutSlots_around hi
  rw [State.cutSlot_unfired (hslot ▸ hf)] at hafter
  exact hafter.2.1.trans hslot

/-! ## The cutoff of the live lane -/

/-- A derived live move is marked for a boundary, once. -/
def cutLive (n : Nat) (x : SMove × Option Nat) : SMove × Option Nat := if x.2.isNone && x.1.derive == 0 then (x.1, some n) else x

/-- The cutoff of the live lane. -/
def State.cutLane (s : State) (n : Nat) : State := s.modScn fun x => { x with live := x.live.map (cutLive n) }

theorem State.cutLane_none {n : Nat} (h : (s.scn.live.any fun x => x.2.isNone && x.1.derive == 0) = false) : s.cutLane n = s := by
  have hkeep : ∀ x ∈ s.scn.live, cutLive n x = id x := fun x hx => if_neg (List.any_eq_false.1 h x hx)
  rw [State.cutLane, State.modScn, List.map_congr_left hkeep, List.map_id]

theorem sceneCutoff_eq (hm : s.opMode ≠ 3) (hp : s.partnerFollows = false) :
    exec .sceneCutoff s = .next ((s.advanceTo (s.cutoff s.nextBoundary)).cutSlots.cutLane (s.clk.idx + 1)) := by
  have hkeeps := (s.advanceTo (s.cutoff s.nextBoundary)).cutSlots_keeps
  show execSceneCutoff s = _
  simp only [execSceneCutoff, State.lockstep_alone hp, Bool.false_eq_true, ↓reduceIte]
  rw [if_neg (show (s.advanceTo _).opMode ≠ 3 from hm), ← State.cutSlots]
  generalize (s.advanceTo (s.cutoff s.nextBoundary)).cutSlots = u at hkeeps ⊢
  obtain ⟨hclk, _, _, hpartner⟩ := hkeeps
  have hu : u.partnerFollows = false := hpartner.trans hp
  have hidx : u.clk.idx = s.clk.idx := by rw [hclk]; rfl
  simp only [State.partnerStaged_alone hu, Bool.and_true, State.cutSample_alone hu, hidx]
  split
  · exact congrArg ok (State.mirrorSlot_alone (s := u.modScn _) hu _ _ _)
  · next hnone =>
    rw [State.cutLane_none (Bool.eq_false_of_not_eq_true hnone)]
    rfl

/-- The cutoff of an engine whose partner does not follow marks what commits at the coming boundary, and no more (R266). -/
theorem sceneCutoff_marks (hm : s.opMode ≠ 3) (hp : s.partnerFollows = false) :
    ∃ t : State, exec .sceneCutoff s = .next t ∧ s.cutoff s.nextBoundary ≤ t.clk.now ∧ t.clk.idx = s.clk.idx ∧
      t.scn.runs = s.scn.runs ∧
      (∀ i, i < 16 → s.slotState i = 4 → (s.slot i).fired = true → (s.slot i).commit = none →
        t.slot i = { s.slot i with commit := some (s.clk.idx + 1) } ∧ t.slotState i = 4) ∧
      (∀ i, i < 16 → (s.slot i).fired = false → t.slot i = s.slot i) ∧
      t.scn.live = s.scn.live.map fun x => if x.2.isNone && x.1.derive == 0 then (x.1, some (s.clk.idx + 1)) else x := by
  have hmarks := sceneCutoff_eq hm hp
  obtain ⟨hclk, hruns, hlive, _⟩ := (s.advanceTo (s.cutoff s.nextBoundary)).cutSlots_keeps
  have hfired := fun i hi => State.cutSlots_fired (s := s.advanceTo (s.cutoff s.nextBoundary)) (i := i) hi hp
  have hunfired := fun i hi => State.cutSlots_unfired (s := s.advanceTo (s.cutoff s.nextBoundary)) (i := i) hi
  generalize (s.advanceTo (s.cutoff s.nextBoundary)).cutSlots = u at hmarks hclk hruns hlive hfired hunfired
  refine ⟨_, hmarks, ?_, (congrArg Clk.idx hclk :), hruns, hfired, hunfired, congrArg (List.map (cutLive (s.clk.idx + 1))) hlive⟩
  show _ ≤ u.clk.now
  rw [hclk]
  exact Nat.le_max_right _ _

/-- In FOLLOW the cutoff marks nothing. -/
theorem sceneCutoff_follow (hm : s.opMode = 3) :
    ∃ t : State, exec .sceneCutoff s = .next t ∧ t = { s with clk := { s.clk with now := t.clk.now } } := by
  have hframe : ∀ edge, s.advanceTo edge = { s with clk := { s.clk with now := (s.advanceTo edge).clk.now } } := fun _ => rfl
  refine ⟨if s.lockstep then s else s.advanceTo (s.cutoff s.nextBoundary), ?_, ?_⟩
  · show execSceneCutoff s = _
    unfold execSceneCutoff
    split <;> exact if_pos hm
  · split
    · rfl
    · exact hframe _

/-- A pair that waited begins at its first sample (R274). -/
theorem deferredXfadeStart_begins (s : State) :
    ∃ t : State, exec .deferredXfadeStart s = .next t ∧ t = { s with scn := { s.scn with runs := t.scn.runs } } ∧
      t.scn.runs = s.scn.runs.map fun r => { r with defer := r.defer && !decide (r.first ≤ s.clk.idx) } := by
  refine ⟨_, rfl, rfl, List.map_congr_left fun r _ => ?_⟩
  have hdefer : (r.defer && !decide (r.first ≤ s.clk.idx)) = if r.defer && decide (r.first ≤ s.clk.idx) then false else r.defer := by
    cases r.defer <;> cases decide (r.first ≤ s.clk.idx) <;> rfl
  show (if (r.defer && decide (r.first ≤ s.clk.idx)) = true then { r with defer := false } else r) = _
  rw [hdefer]
  split <;> rfl

/-! ## Records at a port (R291) -/

theorem State.word_putP_low (s : State) (p : Plane) (f : Fld) (i v : Nat) {a : Nat} (h : a < 0x1000000) :
    (s.putP p f i v).word a = s.word a :=
  s.word_setWord_other _ _ _ (by cases p <;> simp only [planeKey] <;> omega)

/-- The answer at a port. -/
def State.portDone (s : State) (p : Plane) (st : Nat) : State := (s.putP p Reg.SCNC_PORT_DONE 0 1).putP p Reg.SCNC_PORT_STATUS 0 st

theorem State.portDone_answers (s : State) (p : Plane) {st : Nat} (h : st < 256) :
    (s.portDone p st).getP p Reg.SCNC_PORT_DONE = 1 ∧ (s.portDone p st).getP p Reg.SCNC_PORT_STATUS = st := by
  have hdone := s.getP_putP_same p Reg.SCNC_PORT_DONE 0 1
  have hapart := (s.putP p Reg.SCNC_PORT_DONE 0 1).getP_putP_apart p (f := Reg.SCNC_PORT_STATUS) (g := Reg.SCNC_PORT_DONE) (i := 0) (j := 0)
    st (by decide) (by decide) (by decide)
  have hstatus := (s.putP p Reg.SCNC_PORT_DONE 0 1).getP_putP_same p Reg.SCNC_PORT_STATUS 0 st
  exact ⟨hapart.trans hdone, hstatus.trans (Nat.mod_eq_of_lt h)⟩

theorem State.get_portDone (s : State) (p : Plane) (st : Nat) {f : Fld} {i : Nat} (h : fldAt f i < 0x1000000) :
    (s.portDone p st).get f i = s.get f i := by
  rw [State.get, State.get, State.portDone, State.word_putP_low _ _ _ _ _ h, State.word_putP_low _ _ _ _ _ h]

/-- The record that stands in a plane's port words. -/
def State.portRec (s : State) (p : Plane) : Rec := recOf ((List.range 4).map fun i => s.getP p Reg.SCNC_PORT_W i)

theorem scnPortPush_slot (p : Plane) {lane : Nat} (hl : lane < 16) (hdom : s.domState 3 = 3) (hoff : s.stagingOff = false)
    {u : State} {st : Nat} (hrec : s.slotReceive lane (s.portRec p) = (st, u)) :
    exec (.scnPortPush p lane) s = .next (if s.slotState lane ≠ 1 then s.portDone p Scs.SLOT_STATE else u.portDone p st) := by
  have hpage : s.domState (pageDomain 0x51) = 3 := hdom
  show execScnPortPush p lane s = _
  unfold State.portRec at hrec
  rw [execScnPortPush, State.atPage_on hpage]
  simp only [hoff, Bool.false_eq_true, ↓reduceIte, hrec]
  rw [if_neg (by omega), if_neg (by omega)]
  split <;> rfl

theorem State.get_slotState_shown (s : State) (i j : Nat) : ((s.showSlot j).showScn).slotState i = s.slotState i :=
  ((s.showSlot j).showScn_only.get (slotState_notTotals i)).trans ((s.showSlot_only j).get (slotState_notMoves i j))

theorem State.shown_frame (s : State) (j : Nat) :
    (s.showSlot j).showScn = { s with regs := ((s.showSlot j).showScn).regs } := by
  rw [(s.showSlot j).showScn_only.1, (s.showSlot_only j).1]

/-- A record that passes its checks is kept in its slot (R259). -/
theorem State.slotReceive_kept {i : Nat} {r : Rec} {m : SMove} (h : s.checkReceipt i r = (0, some m)) :
    ∃ u, s.slotReceive i r = (0, u) ∧ (u.slot i).moves = (s.slot i).moves ++ [m] ∧ u.slotState i = s.slotState i ∧
      u.scn.live = s.scn.live ∧ u.scn.runs = s.scn.runs := by
  have hslot := s.slot_setSlot_same i fun t => { t with moves := t.moves ++ [m], seen := t.seen + 1 }
  have hstate : (s.setSlot i fun t => { t with moves := t.moves ++ [m], seen := t.seen + 1 }).slotState i = s.slotState i :=
    State.get_modScn _ _ _ _
  have hrec : s.slotReceive i r =
      (0, ((s.setSlot i fun t => { t with moves := t.moves ++ [m], seen := t.seen + 1 }).showSlot i).showScn) := by
    rw [State.slotReceive, h]
  refine ⟨_, hrec, ?_, (State.get_slotState_shown _ i i).trans hstate, ?_⟩
  · rw [State.shown_frame]
    exact congrArg Slot.moves hslot
  · rw [State.shown_frame]
    exact ⟨rfl, rfl⟩

theorem scnPortPush_keeps (p : Plane) {lane : Nat} (hl : lane < 16) (hdom : s.domState 3 = 3) (hoff : s.stagingOff = false) {m : SMove}
    (hst : s.slotState lane = 1) (hm : s.checkReceipt lane (s.portRec p) = (0, some m)) :
    ∃ t : State, exec (.scnPortPush p lane) s = .next t ∧ t.getP p Reg.SCNC_PORT_DONE = 1 ∧ t.getP p Reg.SCNC_PORT_STATUS = 0 ∧
      (t.slot lane).moves = (s.slot lane).moves ++ [m] ∧ t.get Reg.SLOT_STATE lane = 1 ∧ t.scn.live = s.scn.live ∧
      t.scn.runs = s.scn.runs := by
  obtain ⟨u, hrec, hmoves, hstate, hlive, hruns⟩ := State.slotReceive_kept hm
  have hexec := scnPortPush_slot p hl hdom hoff hrec
  rw [if_neg (not_not_intro hst)] at hexec
  obtain ⟨hdone, hstatus⟩ := u.portDone_answers p (st := 0) (by decide)
  have hlow : fldAt Reg.SLOT_STATE lane < 0x1000000 := by
    rw [fldAt_slotState]
    omega
  exact ⟨_, hexec, hdone, hstatus, hmoves, (u.get_portDone p 0 hlow).trans (hstate.trans hst), hlive, hruns⟩

theorem scnPortPush_refuses (p : Plane) {lane : Nat} (hl : lane < 16) (hdom : s.domState 3 = 3) (hoff : s.stagingOff = false)
    (hst : s.slotState lane ≠ 1) : ∃ t : State, exec (.scnPortPush p lane) s = .next t ∧ t.getP p Reg.SCNC_PORT_DONE = 1 ∧
      t.getP p Reg.SCNC_PORT_STATUS = 0x41 ∧ t = { s with regs := t.regs } := by
  obtain ⟨hdone, hstatus⟩ := s.portDone_answers p (st := Scs.SLOT_STATE) (by decide)
  exact ⟨_, (scnPortPush_slot p hl hdom hoff rfl).trans (congrArg _ (if_pos hst)), hdone, hstatus, rfl⟩

/-! ## Live writes (R275, R276) -/

theorem liveWrite_eq {off : Nat} (v : Word) (hal : off % 4 = 0) (hmask : regWriteMask off ≠ 0)
    (hdom : s.domState (pageDomain (off / 4096)) = 3) {u : State} {st : Nat} {done : List SMove}
    (hmove : s.liveMove (liveRec off v.toNat) = (st, u, done)) : exec (.liveWrite off v) s = .next (u.moveEffects s done) := by
  have hgo : (decide (off % 4 ≠ 0) || regWriteMask off == 0 || s.pageDark (off / 4096)) = false := by
    simp [hal, hmask, State.pageDark, hdom]
  have hwake : s.wakeFor (off / 4096) = s := if_pos (.inr hdom)
  show execLiveWrite off v s = _
  simp only [execLiveWrite, hgo, hwake, hmove, Bool.false_eq_true, ↓reduceIte]
  rfl

theorem State.moveEffects_nil (s before : State) : s.moveEffects before [] = s := rfl

/-- A live move that fails at receipt is reported and nothing more (R276). -/
theorem State.liveMove_refused {r : Rec} {st : Nat} (h : s.checkReceipt 16 r = (st, none)) :
    s.liveMove r = (st, s.liveRefused st r, []) := by
  rw [State.liveMove, h]

theorem State.liveRefused_only (s : State) (st : Nat) (r : Rec) :
    OnlyWords [0x50010, 0x50018, 0x50058, 0x5005C, 0x50060] s (s.liveRefused st r) :=
  (((((OnlyWords.refl _ s).putIn _ (by decide)).putIn _ (by decide)).putIn _ (by decide)).putIn _ (by decide)).putIn _ (by decide)
    |>.putIn _ (by decide)

theorem State.get_refused_liveRefused (s : State) (st : Nat) (r : Rec) :
    (s.liveRefused st r).get Reg.SCN_LIVE_REFUSED = satInc 32 (s.get Reg.SCN_LIVE_REFUSED) 1 := by
  unfold State.liveRefused
  simp only [State.irq, State.put0, State.pageErr, State.count]
  rw [State.get_put_word _ _ _ _ _ _ (by decide), State.get_put_word _ _ _ _ _ _ (by decide), State.get_put_word _ _ _ _ _ _ (by decide),
    State.get_put_word _ _ _ _ _ _ (by decide), State.get_put_word _ _ _ _ _ _ (by decide)]
  exact s.get_count_same Reg.SCN_LIVE_REFUSED 0 1

theorem State.get_status_liveRefused (s : State) {st : Nat} (h : st < 256) (r : Rec) : (s.liveRefused st r).get Reg.SCN_STATUS = st := by
  unfold State.liveRefused
  simp only [State.irq, State.put0]
  rw [State.get_put_word _ _ _ _ _ _ (by decide), State.get_put_word _ _ _ _ _ _ (by decide),
    State.get_put_apart _ _ _ _ _ _ (by decide) (by decide)]
  exact (State.get_put_same _ Reg.SCN_STATUS 0 st).trans (Nat.mod_eq_of_lt h)

theorem State.get_target_liveRefused (s : State) (st : Nat) (r : Rec) :
    (s.liveRefused st r).get Reg.SCN_TARGET = bits r.w0 23 0 := by
  unfold State.liveRefused
  simp only [State.irq, State.put0]
  rw [State.get_put_word _ _ _ _ _ _ (by decide), State.get_put_word _ _ _ _ _ _ (by decide)]
  exact (State.get_put_same _ Reg.SCN_TARGET 0 _).trans (Nat.mod_eq_of_lt (Nat.mod_lt _ (by decide)))

/-- Where staging is off, a live write is counted and reported as refused with SCN_MODE (R270, R276). -/
theorem liveWrite_refused {off : Nat} (v : Word) (hal : off % 4 = 0) (hmask : regWriteMask off ≠ 0)
    (hdom : s.domState (pageDomain (off / 4096)) = 3) (hlow : off < 2 ^ 24) (hoff : s.stagingOff = true) :
    ∃ t : State, exec (.liveWrite off v) s = .next t ∧ t.get Reg.SCN_LIVE_REFUSED = satInc 32 (s.get Reg.SCN_LIVE_REFUSED) 1 ∧
      t.get Reg.SCN_STATUS = 0x49 ∧ t.get Reg.SCN_TARGET = off ∧ t.get Reg.SCN_IRQ_LIVE_REFUSED = 1 ∧
      t = { s with regs := t.regs } := by
  have hrec : s.checkReceipt 16 (liveRec off v.toNat) = (Scs.SCN_MODE, none) := by
    rw [State.checkReceipt, if_pos hoff]
  have htarget : bits (liveRec off v.toNat).w0 23 0 = off := by
    show (0x20000000 + off) / 2 ^ 0 % 2 ^ 24 = off
    omega
  refine ⟨_, liveWrite_eq v hal hmask hdom (State.liveMove_refused hrec), s.get_refused_liveRefused _ _,
    s.get_status_liveRefused (by decide) _, (s.get_target_liveRefused _ _).trans htarget, State.get_put_same _ _ _ _,
    (s.liveRefused_only _ _).1⟩

/-! ## A live write that waits for its Meridian (R275) -/

theorem State.modScn_live_keep {p : SMove × Option Nat → Bool} (h : ∀ x ∈ s.scn.live, p x = true) :
    (s.modScn fun x => { x with live := x.live.filter p }) = s := by
  rw [State.modScn, List.filter_eq_self.2 h]

/-- A live move on a word of its own, received and admitted in SHOW or HOLD. -/
theorem State.liveMove_staged {r : Rec} {m : SMove} (hm : s.checkReceipt 16 r = (0, some m)) (hadm : s.admission s.stagedMoves [m] = 0)
    (hnew : ∀ x ∈ s.scn.live, x.1.target ≠ m.target) (hmode : s.opMode = 4 ∨ s.opMode = 5) {u : State}
    (hu : (if s.scn.live.isEmpty then s.allocBuf (openSize 0x410) clsStage 0x410 else s) = u) :
    s.liveMove r = (0, ((u.modScn fun x => { x with live := x.live ++ [(m, none)] }).mirrorMove 16 0 m).showScn, []) := by
  have hbare : (s.modScn fun x => { x with live := x.live.filter (fun p => p.1.target != m.target) }) = s :=
    State.modScn_live_keep fun x hx => bne_iff_ne.2 (hnew x hx)
  have hrepl : s.scn.live.filter (fun p => p.1.target == m.target) = [] :=
    List.filter_eq_nil_iff.2 fun x hx => by simpa using hnew x hx
  have hrun : ¬(s.opMode = 1 ∨ s.opMode = 2) := by omega
  rw [State.liveMove, hm]
  simp only [hbare, hrepl, hadm, hrun, hu, List.isEmpty_nil, ne_eq, not_true_eq_false, ↓reduceIte]

theorem gated_of_mask {off : Nat} (h : regWriteMask off ≠ 0) : gated (off / 4096) = true := by
  by_contra hg
  exact h (by rw [regWriteMask, if_pos (by simpa using hg)])

/-- No word that a move may write is one of the totals or of the dark frame's page. -/
theorem notShown_of_mask {off : Nat} (h : regWriteMask off ≠ 0) : off ∉ totalWords ∧ off ∉ passWords := by
  have hg := gated_of_mask h
  constructor
  · intro hm
    simp only [totalWords, List.mem_cons, List.not_mem_nil, or_false] at hm
    obtain rfl | rfl | rfl | rfl | rfl := hm
    · exact absurd hg (by decide)
    · exact absurd hg (by decide)
    · exact absurd hg (by decide)
    · exact absurd hg (by decide)
    · exact h (by decide)
  · intro hm
    simp only [passWords, List.mem_cons, List.not_mem_nil, or_false] at hm
    obtain rfl | rfl | rfl := hm <;> exact absurd hg (by decide)

theorem partnerWords_notPasses {a : Nat} (ha : a ∈ partnerWords) : a ∉ passWords := fun h =>
  partnerWords_notCut ha 0 (by simp [cutWords, h])

/-- The buffer that the live lane takes for its first move. -/
theorem State.liveBuf_bufs (s : State) :
    BufsOnly passWords s (if s.scn.live.isEmpty then s.allocBuf (openSize 0x410) clsStage 0x410 else s) := by
  split
  · exact s.allocBuf_bufs _ _ _
  · exact ⟨rfl, fun _ _ => rfl⟩

theorem liveWrite_waits {off : Nat} {v : Word} {m : SMove} (hal : off % 4 = 0) (hmask : regWriteMask off ≠ 0)
    (hdom : s.domState (pageDomain (off / 4096)) = 3) (hp : s.partnerFollows = false)
    (hm : s.checkReceipt 16 (liveRec off v.toNat) = (0, some m)) (hadm : s.admission s.stagedMoves [m] = 0)
    (hnew : ∀ x ∈ s.scn.live, x.1.target ≠ m.target) (hmode : s.opMode = 4 ∨ s.opMode = 5) :
    ∃ t : State, exec (.liveWrite off v) s = .next t ∧ t.scn.live = s.scn.live ++ [(m, none)] ∧ t.word off = s.word off ∧
      t.scn.slots = s.scn.slots ∧ t.scn.runs = s.scn.runs ∧ t.dp = s.dp := by
  have hbufs := s.liveBuf_bufs
  have hmove := State.liveMove_staged hm hadm hnew hmode rfl
  generalize (if s.scn.live.isEmpty then s.allocBuf (openSize 0x410) clsStage 0x410 else s) = u at hbufs hmove
  have hrest : u.scn = s.scn ∧ u.dp = s.dp ∧ u.stby = s.stby := by
    rw [hbufs.eq]
    exact ⟨rfl, rfl, rfl⟩
  obtain ⟨hscn, hdp, hstby⟩ := hrest
  have hpu : u.partnerFollows = false :=
    (State.partnerFollows_congr (fun a ha => hbufs.2 a (partnerWords_notPasses ha)) hstby).trans hp
  rw [State.mirrorMove_alone (s := u.modScn _) hpu] at hmove
  have hshown := (u.modScn fun x => { x with live := x.live ++ [(m, none)] }).showScn_only
  refine ⟨_, liveWrite_eq v hal hmask hdom hmove, ?_⟩
  obtain ⟨hframe, hword⟩ := hshown
  obtain ⟨htotals, hpasses⟩ := notShown_of_mask hmask
  rw [State.moveEffects_nil]
  refine ⟨?_, (hword off htotals).trans (hbufs.2 off hpasses), ?_, ?_, ?_⟩
  · rw [hframe, ← hscn]
    rfl
  · rw [hframe, ← hscn]
    rfl
  · rw [hframe, ← hscn]
    rfl
  · rw [hframe, ← hdp]
    rfl

/-! ## A live write in MAINT (R270) -/

/-- What the checks of a record let through on a register is the record's word and value. -/
theorem State.parseMove_register {look : Nat → Nat} {r : Rec} {m : SMove} (hk : bits r.w0 31 28 = 2) (h : s.parseMove look r = some m) :
    m.target = { kind := 2, addr := bits r.w0 23 0 } ∧ m.value = r.w1 &&& regWriteMask (bits r.w0 23 0) := by
  unfold State.parseMove at h
  simp only [hk, OfNat.ofNat_ne_zero, OfNat.ofNat_ne_one, ↓reduceIte] at h
  split at h
  · cases h
  · split at h
    · cases h
    · cases h
      exact ⟨rfl, rfl⟩

theorem State.checkReceipt_register {lane st : Nat} {r : Rec} {m : SMove} (hk : bits r.w0 31 28 = 2)
    (h : s.checkReceipt lane r = (st, some m)) :
    m.target = { kind := 2, addr := bits r.w0 23 0 } ∧ m.value = r.w1 &&& regWriteMask (bits r.w0 23 0) := by
  unfold State.checkReceipt at h
  extract_lets mine look at h
  split at h
  · cases h
  split at h
  · cases h
  generalize hparse : s.parseMove look r = o at h
  cases o with
  | none => cases h
  | some x =>
    have hx := State.parseMove_register hk hparse
    have hy : (if s.derives x then x else { x with derive := 0 }).target = { kind := 2, addr := bits r.w0 23 0 } ∧
        (if s.derives x then x else { x with derive := 0 }).value = r.w1 &&& regWriteMask (bits r.w0 23 0) := by
      split <;> exact hx
    simp only at h
    generalize (if s.derives x = true then x else { x with derive := 0 }) = y at h hy
    split at h
    · cases h
    split at h
    · cases h
    split at h
    · cases h
    · cases h
      exact hy

/-- A register move on every bit of a word stores its value. -/
theorem State.storeMove_whole {m : SMove} {a : Nat} (ht : m.target = { kind := 2, addr := a }) (hctrl : a % 4096 ≠ 8)
    (hmask : regWriteMask a = 0xFFFFFFFF) (hw1s : (fieldsAt a).filter (·.acc == .w1s) = []) :
    s.storeMove m = s.setWord a (BitVec.ofNat 32 m.value) := by
  have hkey : targetKey m.target = a := by rw [ht]; rfl
  have hkind : m.target.kind = 2 := by rw [ht]
  simp only [State.storeMove, hkey, hkind, ↓reduceIte, hctrl, hmask, hw1s, List.map_nil, List.sum_nil, Nat.and_zero, Nat.or_zero,
    toNat_and_mask, Nat.sub_self, Nat.zero_add]
  have hmod : m.value &&& 0xFFFFFFFF = m.value % 2 ^ 32 := Nat.and_two_pow_sub_one_eq_mod m.value 32
  rw [hmod]
  congr 1
  exact BitVec.eq_of_toNat_eq (by simp)

/-- In START and MAINT the one move of a live write commits at once, as STEP (R270). -/
theorem State.liveMove_now {r : Rec} {m : SMove} (hm : s.checkReceipt 16 r = (0, some m)) (hadm : s.admission s.stagedMoves [m] = 0)
    (hlive : s.scn.live = []) (hmode : s.opMode = 2) :
    s.liveMove r = (0, ((((s.modScn fun x => { x with runs := x.runs.filter (fun r => targetKey r.target != targetKey m.target) }).storeMove
      m).count Reg.SCN_LIVE_CNT).showScn), [m]) := by
  have hbare : (s.modScn fun x => { x with live := x.live.filter (fun p => p.1.target != m.target) }) = s :=
    State.modScn_live_keep (by simp [hlive])
  rw [State.liveMove, hm]
  simp only [hbare, hadm, hlive, hmode, List.filter_nil, List.isEmpty_nil, ne_eq, not_true_eq_false, or_true, ↓reduceIte]
  rfl

/-- A move on a register that enables nothing and has no effect of its own leaves no trace beside its word. -/
theorem State.moveEffects_plain {m : SMove} {a : Nat} {before : State} (ht : m.target = { kind := 2, addr := a }) (hen : enableMask a = 0)
    (hplain : ∀ (s : State) (old new : Nat), s.regEffect m old new = s) : s.moveEffects before [m] = s := by
  have hpages : ([m].filterMap fun m =>
      if m.target.kind = 2 ∧ ((before.word m.target.addr).toNat ^^^ (s.word m.target.addr).toNat) &&& enableMask m.target.addr ≠ 0 then
        some (unitPage (m.target.addr / 4096)) else none) = [] := by
    simp [ht, hen]
  rw [State.moveEffects]
  simp only [hpages]
  show State.moveEffect before m s = s
  rw [State.moveEffect, if_pos (by rw [ht]), hplain]

theorem State.regEffect_base (s : State) {m : SMove} (ht : m.target = { kind := 2, addr := fldAt Reg.MTR_BASE_HI 0 }) (old new : Nat) :
    s.regEffect m old new = s := by
  have haddr : m.target.addr = 0x46048 := by rw [ht]; rfl
  unfold State.regEffect
  simp only [haddr]
  rw [if_neg (by decide), if_neg (by decide), if_neg (by decide), if_neg (by decide), if_neg (by decide), if_neg (by decide),
    if_neg (by decide)]

theorem liveWrite_now {v : Word} {m : SMove} (hdom : s.domState 3 = 3) (hmode : s.opMode = 2) (hlive : s.scn.live = [])
    (hm : s.checkReceipt 16 (liveRec (fldAt Reg.MTR_BASE_HI 0) v.toNat) = (0, some m)) (hadm : s.admission s.stagedMoves [m] = 0) :
    ∃ t : State, exec (.liveWrite (fldAt Reg.MTR_BASE_HI 0) v) s = .next t ∧ t.get Reg.MTR_BASE_HI = v.toNat ∧ t.scn.live = [] ∧
      t.get Reg.SCN_LIVE_CNT = satInc 32 (s.get Reg.SCN_LIVE_CNT) 1 ∧ t.dp = s.dp := by
  have hmask : regWriteMask (fldAt Reg.MTR_BASE_HI 0) = 0xFFFFFFFF := by decide
  obtain ⟨ht, hv⟩ := State.checkReceipt_register (show bits (0x20000000 + fldAt Reg.MTR_BASE_HI 0) 31 28 = 2 by decide) hm
  have haddr : bits (liveRec (fldAt Reg.MTR_BASE_HI 0) v.toNat).w0 23 0 = fldAt Reg.MTR_BASE_HI 0 :=
    show bits (0x20000000 + fldAt Reg.MTR_BASE_HI 0) 23 0 = fldAt Reg.MTR_BASE_HI 0 by decide
  rw [haddr] at ht hv
  have hval : BitVec.ofNat 32 m.value = v := by
    rw [hv, hmask, show (liveRec (fldAt Reg.MTR_BASE_HI 0) v.toNat).w1 = v.toNat from rfl, toNat_and_mask, BitVec.ofNat_toNat,
      BitVec.setWidth_eq]
  have hmove := State.liveMove_now hm hadm hlive hmode
  rw [State.storeMove_whole ht (by decide) hmask (by decide), hval] at hmove
  have hexec := liveWrite_eq v (by decide) (by rw [hmask]; decide) hdom hmove
  rw [State.moveEffects_plain ht (by decide) fun s => s.regEffect_base ht] at hexec
  refine ⟨_, hexec, ?_⟩
  set u := s.modScn fun x => { x with runs := x.runs.filter (fun r => targetKey r.target != targetKey m.target) }
  have hshown := ((u.setWord (fldAt Reg.MTR_BASE_HI 0) v).count Reg.SCN_LIVE_CNT).showScn_only
  have hbase : (u.setWord (fldAt Reg.MTR_BASE_HI 0) v).get Reg.MTR_BASE_HI = v.toNat := by
    rw [State.get, State.word_setWord_same, bits]
    exact (Nat.mod_eq_of_lt (by simpa [Reg.MTR_BASE_HI] using v.isLt)).trans (Nat.div_one _)
  have hcnt : (u.setWord (fldAt Reg.MTR_BASE_HI 0) v).get Reg.SCN_LIVE_CNT = s.get Reg.SCN_LIVE_CNT := by
    rw [State.get, State.word_setWord_other _ _ _ _ (by decide)]
    exact State.get_modScn _ _ _ _
  refine ⟨(hshown.get (by decide)).trans ((State.get_put_word _ _ _ _ _ _ (by decide)).trans hbase), ?_,
    (hshown.get (by decide)).trans ((State.get_count_same _ Reg.SCN_LIVE_CNT 0 1).trans (congrArg (satInc 32 · 1) hcnt)), ?_⟩
  · rw [hshown.1]
    exact hlive
  · rw [hshown.1]
    rfl

/-! ## The last derivation of a slot (R263) -/

/-- A move of a slot once the derivation on a word is complete. -/
def derivedOn (word : Nat) (m : SMove) : SMove := if m.target.kind == 0 && m.target.addr == word then { m with derive := 0 } else m

/-- A slot whose derivation on a word is complete. -/
def State.slotDerived (s : State) (i word : Nat) : State := s.setSlot i fun t => { t with moves := t.moves.map (derivedOn word) }

theorem State.moves_slotDerived (s : State) (i word : Nat) :
    ((s.slotDerived i word).slot i).moves = (s.slot i).moves.map (derivedOn word) :=
  congrArg Slot.moves (s.slot_setSlot_same i _)

theorem State.derive_slotDerived {i word : Nat}
    (hlast : ∀ m ∈ (s.slot i).moves, m.derive = 0 ∨ (m.target.kind = 0 ∧ m.target.addr = word)) :
    ∀ m ∈ ((s.slotDerived i word).slot i).moves, m.derive = 0 := by
  rw [State.moves_slotDerived]
  intro m hm
  obtain ⟨x, hx, rfl⟩ := List.mem_map.1 hm
  unfold derivedOn
  split
  · rfl
  · next hother =>
    refine (hlast x hx).resolve_right fun hmine => hother ?_
    simp [hmine]

/-- A slot becomes READY, and shows its moves. -/
def State.readied (s : State) (i : Nat) : State := ((s.put Reg.SLOT_STATE i 3).irq Reg.SCN_IRQ_READY).showSlot i

theorem State.readied_only (s : State) (i : Nat) :
    OnlyWords (movesWords i) ((s.put Reg.SLOT_STATE i 3).irq Reg.SCN_IRQ_READY) (s.readied i) := State.showSlot_only _ i

theorem State.readied_frame (s : State) (i : Nat) : s.readied i = { s with regs := (s.readied i).regs } := by
  rw [(s.readied_only i).1]
  rfl

theorem slotState_ne {i : Nat} {f : Fld} (h : fldAt f 0 / 4096 ≠ 0x52) : fldAt Reg.SLOT_STATE i ≠ fldAt f 0 := by
  rw [fldAt_slotState]
  omega

theorem State.slotState_readied (s : State) (i : Nat) : (s.readied i).slotState i = 3 :=
  ((s.readied_only i).get (slotState_notMoves i i)).trans
    ((State.get_put_word _ _ _ _ _ _ (slotState_ne (by decide))).trans (State.get_put_same _ Reg.SLOT_STATE i 3))

theorem State.get_irqReady_readied (s : State) (i : Nat) : (s.readied i).get Reg.SCN_IRQ_READY = 1 :=
  ((s.readied_only i).get (notMoves_of_page (by decide) i)).trans (State.get_put_same _ Reg.SCN_IRQ_READY 0 1)

theorem State.opMode_readied (s : State) (i : Nat) : (s.readied i).opMode = s.opMode :=
  ((s.readied_only i).get (notMoves_of_page (by decide) i)).trans ((State.get_put_word _ _ _ _ _ _ (by decide)).trans
    (State.get_put_word _ _ _ _ _ _ (slotState_ne (by decide)).symm))

/-- A slot under HOLD whose moves are all staged becomes READY (R258). -/
theorem State.settled_hold {i : Nat} (hst : s.slotState i = 2) (hload : s.scn.load = none) (htrig : s.get Reg.SLOT_TRIG i = 3)
    (hall : ∀ m ∈ (s.slot i).moves, m.derive = 0) : s.settled i = s.readied i := by
  have hdone : (s.slot i).moves.all (·.derive == 0) = true := List.all_eq_true.2 fun m hm => beq_iff_eq.2 (hall m hm)
  have hsettle : s.settleSlot i = (s.put Reg.SLOT_STATE i 3).irq Reg.SCN_IRQ_READY := by
    rw [State.settleSlot, if_pos ⟨hst, hdone⟩, if_pos htrig]
  have hnone : (s.readied i).scn.load = none := by
    rw [s.readied_frame]
    exact hload
  rw [State.settled, hsettle, ← State.readied]
  simp only [hnone, Option.any_none, Bool.false_eq_true, ↓reduceIte]

theorem derivationDone_eq (s : State) {i : Nat} (word : Nat) (hi : i < 16) (hmode : ((s.slotDerived i word).settled i).opMode ≠ 3) :
    exec (.derivationDone i word) s = .next ((s.slotDerived i word).settled i) := by
  have hexec : exec (.derivationDone i word) s =
      .next (if s.slotState i = 2 ∧ ((s.slotDerived i word).settled i).slotState i ≠ 2
        then ((s.slotDerived i word).settled i).reportStaged i else (s.slotDerived i word).settled i) := by
    show execDerivationDone i word s = _
    rw [execDerivationDone, if_neg (by omega), if_neg (by omega)]
    rfl
  rw [hexec, State.reportStaged, if_neg hmode, ite_self]

/-- The last derivation of a slot under HOLD makes it READY, its moves all staged. -/
theorem derivationDone_ready {i word : Nat} (hi : i < 16) (hst : s.slotState i = 2) (hload : s.scn.load = none)
    (htrig : s.get Reg.SLOT_TRIG i = 3) (hmode : s.opMode = 4 ∨ s.opMode = 5)
    (hlast : ∀ m ∈ (s.slot i).moves, m.derive = 0 ∨ (m.target.kind = 0 ∧ m.target.addr = word)) :
    ∃ t : State, exec (.derivationDone i word) s = .next t ∧ t.slotState i = 3 ∧ (t.slot i).moves.length = (s.slot i).moves.length ∧
      (∀ m ∈ (t.slot i).moves, m.derive = 0) ∧ t.get Reg.SCN_IRQ_READY = 1 ∧ t.dp = s.dp := by
  have hall := State.derive_slotDerived hlast
  have hmoves := s.moves_slotDerived i word
  have hget : ∀ (f : Fld) (j : Nat), (s.slotDerived i word).get f j = s.get f j := fun f j => State.get_modScn _ _ f j
  have hset := State.settled_hold ((hget Reg.SLOT_STATE i).trans hst) hload ((hget Reg.SLOT_TRIG i).trans htrig) hall
  have hop : (s.slotDerived i word).opMode = s.opMode := hget Reg.MODE_MODE 0
  have hexec := derivationDone_eq s word hi (by rw [hset, State.opMode_readied]; omega)
  rw [hset] at hexec
  have hslot : ((s.slotDerived i word).readied i).slot i = (s.slotDerived i word).slot i := by
    rw [State.readied_frame]
    rfl
  refine ⟨_, hexec, State.slotState_readied _ i, ?_, hslot ▸ hall, State.get_irqReady_readied _ i, ?_⟩
  · rw [hslot, hmoves, List.length_map]
  · rw [State.readied_frame]
    rfl

/-! ## The statement -/

/-- Settles O27: a slot is touched by its own round of the cutoff alone, a record by its slot's words alone, and a live write by the
live lane or, in MAINT, by its register. -/
theorem portsLiveLaneAndCutoff : Obligations.PortsLiveLaneAndCutoff :=
  ⟨⟨fun _ hm hp => sceneCutoff_marks hm hp, fun _ hm => sceneCutoff_follow hm, deferredXfadeStart_begins⟩,
    fun _ p _ hl hdom hoff => ⟨fun _ hst hm => scnPortPush_keeps p hl hdom hoff hst hm,
      fun hst => scnPortPush_refuses p hl hdom hoff hst⟩,
    fun _ _ _ _ hal hmask hdom hp hm hadm hnew hmode => liveWrite_waits hal hmask hdom hp hm hadm hnew hmode,
    fun _ _ _ hdom hmode hlive hm hadm => liveWrite_now hdom hmode hlive hm hadm,
    fun _ _ v hal hmask hdom hlow hoff => liveWrite_refused v hal hmask hdom hlow hoff,
    fun _ _ _ hi hst hload htrig hmode hlast => derivationDone_ready hi hst hload htrig hmode hlast⟩

end Sys2Proof.Machine
end

section
/-! SUPPORT. Registers of a strip engine after a store, and the arithmetic of the MAC slot in words. Statements O5 to O8. -/

namespace Sys2Proof.Machine

variable {s : State} {e : Nat}

/-! ## Registers -/

/-- Two registers of R175 are kept in two places, in either bank. -/
theorem Se.key_inj (t : Se) {c c' : Nat} (hc : c < 64) (hc' : c' < 64) : t.key c = t.key c' ↔ c = c' := by
  refine ⟨fun h => ?_, fun h => h ▸ rfl⟩
  unfold Se.key at h
  split at h <;> split at h <;> omega

@[simp] theorem Se.reg_setReg_same (t : Se) (c v : Nat) : (t.setReg c v).reg c = v := tget_tput_same _ _ _ _

theorem Se.reg_setReg_other (t : Se) {c c' : Nat} (v : Nat) (hc : c < 64) (hc' : c' < 64) (h : c' ≠ c) :
    (t.setReg c v).reg c' = t.reg c' :=
  tget_tput_other _ _ _ _ _ _ (mt (t.key_inj hc' hc).1 h)

theorem cD_lt (i : Nat) : cD i < 16 := Nat.mod_lt _ (by decide)

/-! ## Accumulator operations (R149, R154, R155) -/

theorem State.onEngine_lanes (h : s.seUp e = true) (mask : Nat) (f : Se → Nat → Int → Int) :
    s.onEngine e (fun t => t.lanes mask (f t)) =
      .next (s.setEng e ((s.eng e).accResults mask fun i => f (s.eng e) i ((s.eng e).acc i))) := by
  rw [s.onEngine_up e _ h, Se.lanes_eq_accResults]

/-- Settles O5: each operation works on its lanes alone, with the operands as words. -/
theorem seAccumulatorOperations : Obligations.SeAccumulatorOperations := by
  intro s e src q mask h t x a c
  have hx : x = t.d src := (t.d_eq src).symm
  have ha : a = t.acc := funext fun i => (t.acc_eq i).symm
  have hc : c = t.coef q := funext fun i => (t.d_eq (4 * q + i)).symm
  rw [hx, ha, hc]
  show execMacNop e s = _ ∧ execMpy e src q mask s = _ ∧ execMac e src q mask s = _ ∧ execMsu e src q mask s = _ ∧
    execClr e mask s = _ ∧ execLda e src mask s = _ ∧ execAdda e src mask s = _ ∧ execSuba e src mask s = _
  exact ⟨s.onEngine_up e _ h, State.onEngine_lanes h mask _, State.onEngine_lanes h mask _, State.onEngine_lanes h mask _,
    State.onEngine_lanes h mask _, State.onEngine_lanes h mask _, State.onEngine_lanes h mask _, State.onEngine_lanes h mask _⟩

/-! ## Saturation and flags, at every width -/

theorem overflows_eq (w : Nat) (x : Int) : overflows w x = decide (x < -2 ^ (w - 1) ∨ 2 ^ (w - 1) ≤ x) := by
  have hpos : (0 : Int) < 2 ^ (w - 1) := by positivity
  unfold overflows satTo
  rw [Bool.eq_iff_iff, bne_iff_ne, decide_eq_true_eq]
  split_ifs <;> omega

/-- A value that does not overflow stands as it is. -/
theorem satTo_of_fits {w : Nat} {x : Int} (h : overflows w x = false) : satTo w x = x := by simpa [overflows] using h

/-- The word of a saturated value that overflows: full scale of its sign. -/
theorem ofInt_satTo_of_overflow {w : Nat} {x : Int} (h : overflows w x = true) :
    BitVec.ofInt w (satTo w x) = if x < 0 then BitVec.intMin w else BitVec.intMax w := by
  have hpos : (0 : Int) < 2 ^ (w - 1) := by positivity
  rw [overflows_eq, decide_eq_true_eq] at h
  by_cases hneg : x < 0
  · rw [satTo, if_pos (by omega), if_pos hneg, BitVec.intMin_eq_neg_two_pow]
  · rw [satTo, if_neg (by omega), if_pos (by omega), if_neg hneg, ← BitVec.toInt_intMax, BitVec.ofInt_toInt]

/-- Z and N of a word's signed value. -/
theorem znOf_toInt {w : Nat} (v : BitVec w) : znOf v.toInt = znWord v := by
  have hzero : decide (v.toInt = 0) = decide (v = 0) := by
    rw [← BitVec.toInt_zero (w := w), decide_eq_decide]
    exact BitVec.toInt_inj
  rw [znOf, znWord, hzero, BitVec.msb_eq_toInt]

/-! ## Sums, differences and bitwise operations (R161, R163) -/

theorem overflows_add (a b : Word) : overflows 32 (a.toInt + b.toInt) = a.saddOverflow b := by
  rw [overflows_32, BitVec.saddOverflow, Bool.decide_or, Bool.or_comm]

theorem overflows_sub (a b : Word) : overflows 32 (a.toInt - b.toInt) = a.ssubOverflow b := by
  rw [overflows_32, BitVec.ssubOverflow, Bool.decide_or, Bool.or_comm]

theorem ofInt_add_toInt (a b : Word) : BitVec.ofInt 32 (a.toInt + b.toInt) = a + b := by
  rw [BitVec.ofInt_add, BitVec.ofInt_toInt, BitVec.ofInt_toInt]

theorem ofInt_sub_toInt (a b : Word) : BitVec.ofInt 32 (a.toInt - b.toInt) = a - b := by
  rw [Int.sub_eq_add_neg, BitVec.ofInt_add, BitVec.ofInt_neg, BitVec.ofInt_toInt, BitVec.ofInt_toInt, BitVec.sub_eq_add_neg]

/-- Where a sum or a difference overflows, the exact result has the sign of the first operand. -/
theorem sign_of_overflow {a b : Word} {x : Int} (hx : x = a.toInt + b.toInt ∨ x = a.toInt - b.toInt) (h : overflows 32 x = true) :
    x < 0 ↔ a.msb = true := by
  have hb := b.le_toInt
  have hb' := b.toInt_lt
  rw [overflows_32, decide_eq_true_eq] at h
  rw [BitVec.msb_eq_toInt, decide_eq_true_eq]
  omega

/-- ADD and SUB: the word of the exact result, V where it overflows. -/
theorem Se.wrapSum_eq (t : Se) (dd : Nat) {x : Int} {v : Word} {o : Bool} (hv : BitVec.ofInt 32 x = v) (ho : overflows 32 x = o) :
    t.wrapSum dd x = t.aluResult (cD dd) v (if o then 8 else 0) := by
  rw [Se.wrapSum, Se.alu_eq_aluResult, hv, ho]
  rfl

/-- ADDS and SUBS: full scale of the first operand's sign where the exact result overflows. -/
theorem Se.satSum_eq (t : Se) (dd : Nat) {a b : Word} {x : Int} {v : Word} {o : Bool}
    (hx : x = a.toInt + b.toInt ∨ x = a.toInt - b.toInt) (hv : BitVec.ofInt 32 x = v) (ho : overflows 32 x = o) :
    t.satSum dd x = if o then t.aluResult (cD dd) (if a.msb then (0x80000000 : Word) else 0x7FFFFFFF) 4 else t.aluResult (cD dd) v 0 := by
  subst ho
  rw [Se.satSum, Se.alu_eq_aluResult]
  split
  · next h =>
    rw [ofInt_satTo_of_overflow h]
    simp only [sign_of_overflow hx h]
    rfl
  · next h => rw [satTo_of_fits (Bool.not_eq_true _ ▸ h), hv]

theorem toInt_eq_intMin_iff (a : Word) : a.toInt = -0x80000000 ↔ a = 0x80000000 := by
  rw [← BitVec.toInt_inj]
  rfl

/-- NEG and ABS: the edge of R163 is the one value whose negation has no word. -/
theorem Se.negTo_eq (t : Se) (dd : Nat) {a v : Word} {x : Int} (hv : BitVec.ofInt 32 x = v) (hx : x = 0x80000000 ↔ a.toInt = -0x80000000) :
    t.negTo dd x = if a = 0x80000000 then t.aluResult (cD dd) (0x7FFFFFFF : Word) 8 else t.aluResult (cD dd) v 0 := by
  simp only [Se.negTo, Se.alu_eq_aluResult, hx, toInt_eq_intMin_iff, hv]
  rfl

theorem ofInt_natAbs_toInt (a : Word) : BitVec.ofInt 32 a.toInt.natAbs = if a.msb then -a else a := by
  rw [BitVec.msb_eq_toInt]
  split
  · next h => rw [Int.ofNat_natAbs_of_nonpos (by simpa using Int.le_of_lt (of_decide_eq_true h)), BitVec.ofInt_neg, BitVec.ofInt_toInt]
  · next h => rw [Int.natAbs_of_nonneg (by simpa using h), BitVec.ofInt_toInt]

/-- A bitwise operation of two registers, as one of their words. -/
theorem Se.alu_bitwise (t : Se) (dd : Nat) {x : Nat} {v : Word} (h : BitVec.ofNat 32 x = v) :
    t.alu (cD dd) 32 (x : Int) 0 = t.aluResult (cD dd) v 0 := by
  rw [Se.alu_eq_aluResult, BitVec.ofInt_natCast, h]

/-- Z and N from the exact difference compare the words. -/
theorem znOf_sub_toInt (a b : Word) : znOf (a.toInt - b.toInt) = (a == b).toNat + 2 * (a.slt b).toNat := by
  have heq : decide (a.toInt - b.toInt = 0) = (a == b) := by
    rw [Bool.eq_iff_iff, decide_eq_true_eq, beq_iff_eq, Int.sub_eq_zero, BitVec.toInt_inj]
  have hlt : decide (a.toInt - b.toInt < 0) = a.slt b := by
    rw [BitVec.slt, decide_eq_decide]
    omega
  rw [znOf, heq, hlt]

/-- An operation on an engine that executes, by what it makes of that engine. -/
theorem State.onEngine_eq (h : s.seUp e = true) {f : Se → Se} {u : Se} (hf : f (s.eng e) = u) :
    s.onEngine e f = .next (s.setEng e u) :=
  hf ▸ s.onEngine_up e f h

/-- Settles O6: each operation's exact result, as the word it leaves and the flag it sets. -/
theorem seSumsBitwiseAndCompare : Obligations.SeSumsBitwiseAndCompare := by
  refine ⟨fun s e dd ds dt h => ?_, fun s e dd ds dt h => ?_⟩
  · intro t a b full
    have ha : t.d ds = a.toInt := t.d_eq ds
    have hb : t.d dt = b.toInt := t.d_eq dt
    show execAdd e dd ds dt s = _ ∧ execSub e dd ds dt s = _ ∧ execAdds e dd ds dt s = _ ∧ execSubs e dd ds dt s = _ ∧
      execNeg e dd ds s = _ ∧ execAbsD e dd ds s = _
    refine ⟨State.onEngine_eq h ?_, State.onEngine_eq h ?_, State.onEngine_eq h ?_, State.onEngine_eq h ?_, State.onEngine_eq h ?_,
      State.onEngine_eq h ?_⟩
    all_goals simp only [show s.eng e = t from rfl, ha, hb]
    · exact t.wrapSum_eq dd (ofInt_add_toInt a b) (overflows_add a b)
    · exact t.wrapSum_eq dd (ofInt_sub_toInt a b) (overflows_sub a b)
    · exact t.satSum_eq dd (.inl rfl) (ofInt_add_toInt a b) (overflows_add a b)
    · exact t.satSum_eq dd (.inr rfl) (ofInt_sub_toInt a b) (overflows_sub a b)
    · exact t.negTo_eq dd (by rw [BitVec.ofInt_neg, BitVec.ofInt_toInt]) (by omega)
    · have hlt := a.toInt_lt
      exact t.negTo_eq dd (ofInt_natAbs_toInt a) (by omega)
  · intro t a b
    have ha : t.d ds = a.toInt := t.d_eq ds
    have hb : t.d dt = b.toInt := t.d_eq dt
    show execAndD e dd ds dt s = _ ∧ execOrD e dd ds dt s = _ ∧ execXorD e dd ds dt s = _ ∧ execCmp e ds dt s = _
    refine ⟨State.onEngine_eq h (t.alu_bitwise dd BitVec.ofNat_and), State.onEngine_eq h (t.alu_bitwise dd BitVec.ofNat_or),
      State.onEngine_eq h (t.alu_bitwise dd BitVec.ofNat_xor), State.onEngine_eq h ?_⟩
    show { t with zn := some (znOf (t.d ds - t.d dt)) } = _
    rw [ha, hb, znOf_sub_toInt]

/-! ## Shifts (R162, R163) -/

/-- A shift to the left is a product, of which the low bits stay. -/
theorem ofInt_mul_two_pow {w : Nat} (x : BitVec w) (k : Nat) : BitVec.ofInt w (x.toInt * 2 ^ k) = x <<< k := by
  have hpow : BitVec.ofInt w (2 ^ k) = BitVec.twoPow w k := by
    rw [← Nat.cast_ofNat, ← Nat.cast_pow, BitVec.ofInt_natCast]
    exact BitVec.eq_of_toNat_eq (BitVec.toNat_twoPow w k).symm
  rw [BitVec.ofInt_mul, BitVec.ofInt_toInt, hpow, BitVec.shiftLeft_eq_mul_twoPow]

/-- The exact value overflows where the shifted word no longer has it. -/
theorem overflows_mul_two_pow {w : Nat} (hw : 0 < w) (x : BitVec w) (k : Nat) :
    overflows w (x.toInt * 2 ^ k) = !decide ((x <<< k).toInt = x.toInt * 2 ^ k) := by
  rw [overflows_eq, ← decide_not, decide_eq_decide, ← ofInt_mul_two_pow]
  generalize x.toInt * 2 ^ k = y
  constructor
  · intro hout heq
    have hlt := (BitVec.ofInt w y).toInt_lt
    have hle := (BitVec.ofInt w y).le_toInt
    omega
  · intro hne
    by_contra hin
    exact hne (BitVec.toInt_ofInt_eq_self hw (by omega) (by omega))

theorem shiftLeft_toNat {w : Nat} (x : BitVec w) (k : Nat) : shiftLeft w x.toNat k = ((leftOf x k).1.toNat, (leftOf x k).2) := by
  have hexact : x.toNat * 2 ^ k % 2 ^ w = x.toNat * 2 ^ k ↔ ¬2 ^ w ≤ x.toNat * 2 ^ k := by
    rw [Nat.not_le, Nat.mod_eq_iff_lt (by positivity)]
  simp only [shiftLeft, leftOf, BitVec.toNat_shiftLeft, Nat.shiftLeft_eq, hexact, ite_not]
  rfl

theorem shiftLsr_toNat {w : Nat} (x : BitVec w) (k : Nat) : shiftLsr x.toNat k = ((x >>> k).toNat, 0) := by
  rw [shiftLsr, BitVec.toNat_ushiftRight, Nat.shiftRight_eq_div_pow]

theorem sx_toNat {w : Nat} (x : BitVec w) : sx w x.toNat = x.toInt := by
  rw [sx_toInt, BitVec.ofNat_toNat, BitVec.setWidth_eq]

theorem shiftAsr_toNat {w : Nat} (x : BitVec w) (k : Nat) : shiftAsr w x.toNat k = ((x.sshiftRight k).toNat, 0) := by
  have hfloor : asr x.toInt k = (x.sshiftRight k).toInt := by
    rw [asr, BitVec.toInt_sshiftRight, Int.shiftRight_eq_div_pow, Int.fdiv_eq_ediv_of_nonneg _ (by positivity)]
    rfl
  rw [shiftAsr, sx_toNat, hfloor, unsx_ofInt, BitVec.ofInt_toInt]

theorem shiftLeftSat_toNat {w : Nat} (hw : 0 < w) (x : BitVec w) (k : Nat) :
    shiftLeftSat w x.toNat k = ((satLeftOf x k).1.toNat, (satLeftOf x k).2) := by
  have hover := overflows_mul_two_pow hw x k
  simp only [shiftLeftSat, sx_toNat, unsx_ofInt]
  by_cases hfit : (x <<< k).toInt = x.toInt * 2 ^ k
  · rw [decide_eq_true hfit] at hover
    rw [hover, satTo_of_fits hover, ofInt_mul_two_pow, satLeftOf, if_pos hfit]
    rfl
  · have hsign : x.toInt * 2 ^ k < 0 ↔ x.msb = true := by
      have hpos : (0 : Int) < 2 ^ k := by positivity
      rw [BitVec.msb_eq_toInt, decide_eq_true_eq, mul_neg_iff]
      omega
    rw [decide_eq_false hfit] at hover
    rw [hover, ofInt_satTo_of_overflow hover, satLeftOf, if_neg hfit]
    simp only [hsign]
    rfl

/-- Every shift operation, with either sign of its count, in words. -/
theorem shiftOp_toNat {w : Nat} (hw : 0 < w) (kind : Nat) (x : BitVec w) (count : BitVec 8) :
    shiftOp kind w x.toNat count.toInt = ((shiftBy kind x count).1.toNat, (shiftBy kind x count).2) := by
  have hsign : 0 ≤ count.toInt ↔ ¬count.msb = true := by
    rw [BitVec.msb_eq_toInt, decide_eq_true_eq, Int.not_lt]
  simp only [shiftOp, shiftBy, hsign, ite_not, shiftLeft_toNat, shiftLsr_toNat, shiftAsr_toNat, shiftLeftSat_toNat hw]
  split_ifs <;> rfl

/-- A shift of a register at a width. -/
theorem Se.shift_eq (t : Se) {w : Nat} (hw : 0 < w) (kind dst src count : Nat) :
    t.shift kind w dst src count =
      t.aluResult dst (shiftBy kind (BitVec.ofNat w (t.reg src)) (BitVec.ofNat 8 count)).1
        (shiftBy kind (BitVec.ofNat w (t.reg src)) (BitVec.ofNat 8 count)).2 := by
  have hcount : sx 8 (count % 256) = (BitVec.ofNat 8 count).toInt := by
    rw [sx_toInt]
    exact congrArg BitVec.toInt (BitVec.eq_of_toNat_eq (Nat.mod_mod ..))
  rw [Se.shift, hcount, ← BitVec.toNat_ofNat, shiftOp_toNat hw, Se.alu_eq_aluResult, BitVec.ofInt_natCast, BitVec.ofNat_toNat,
    BitVec.setWidth_eq]

/-- Settles O7: each operation is one kind of shift, of a register or an accumulator, by a count of eight bits. -/
theorem seShifts : Obligations.SeShifts := by
  intro s e dd ds dt acc count h t reg imm wide
  have hreg : ∀ k, s.onEngine e (fun t => t.shift k 32 (cD dd) (cD ds) (t.reg (cD dt))) = reg k := fun k => by
    have hcount : BitVec.ofNat 8 (t.reg (cD dt)) = BitVec.ofNat 8 (t.dw dt).toNat := by
      refine BitVec.eq_of_toNat_eq ?_
      rw [Se.dw, BitVec.toNat_ofNat, BitVec.toNat_ofNat, BitVec.toNat_ofNat, Nat.mod_mod_of_dvd _ (by decide)]
    exact State.onEngine_eq h ((t.shift_eq (by decide) k _ _ _).trans (by rw [hcount]; rfl))
  have himm : ∀ k, s.onEngine e (fun t => t.shift k 32 (cD dd) (cD dd) count) = imm k := fun k =>
    State.onEngine_eq h (t.shift_eq (by decide) k _ _ _)
  have hwide : ∀ k, s.onEngine e (fun t => t.shift k 72 (cAcc acc) (cAcc acc) count) = wide k := fun k =>
    State.onEngine_eq h (t.shift_eq (by decide) k _ _ _)
  exact ⟨⟨hreg 0, hreg 1, hreg 2, hreg 3⟩, ⟨himm 0, himm 1, himm 2, himm 3⟩, ⟨hwide 0, hwide 1, hwide 2, hwide 3⟩⟩

/-! ## Division (R160, R163) -/

/-- The quotient and its sticky flag in words. -/
theorem divResult_toInt (a b : Word) : divResult a.toInt b.toInt = ((quotientOf a b).1.toInt, (quotientOf a b).2) := by
  have hzero : ∀ v : Word, v.toInt = 0 ↔ v = 0 := fun v => by rw [← BitVec.toInt_zero (w := 32), BitVec.toInt_inj]; rfl
  have hone : b.toInt = -1 ↔ b = -1 := by rw [← BitVec.toInt_inj]; rfl
  have hpos : ¬a.toInt = 0 → (0 < a.toInt ↔ ¬a.msb = true) := fun h => by
    rw [BitVec.msb_eq_toInt, decide_eq_true_eq]
    omega
  simp only [divResult, quotientOf, toInt_eq_intMin_iff, hone]
  by_cases hb : b.toInt = 0
  · rw [if_pos hb, if_pos ((hzero b).1 hb)]
    by_cases ha : a.toInt = 0
    · rw [if_pos ha, if_pos ((hzero a).1 ha)]
      rfl
    · simp only [if_neg ha, if_neg (mt (hzero a).2 ha), hpos ha, ite_not]
      split <;> rfl
  · rw [if_neg hb, if_neg (mt (hzero b).2 hb)]
    by_cases hedge : a = 0x80000000 ∧ b = -1
    · rw [if_pos hedge, if_pos hedge]
      rfl
    · rw [if_neg hedge, if_neg hedge, BitVec.toInt_sdiv_of_ne_or_ne a b (not_and_or.1 hedge)]

/-- The sticky flag of a division lies above Z and N. -/
theorem bits_sticky_quotientOf (a b : Word) : bits (quotientOf a b).2 1 0 = 0 := by
  unfold quotientOf
  split
  · exact (rfl : bits 16 1 0 = 0)
  · split
    · exact (rfl : bits 8 1 0 = 0)
    · exact (rfl : bits 0 1 0 = 0)

theorem bit_eq_testBit (x b : Nat) : bit x b = x.testBit b := by
  rw [bit, Nat.testBit_eq_decide_div_mod_eq]
  rfl

theorem bit_withFlags {st b : Nat} (f : Nat) (zn : Option Nat) (h : bit st b = true) : bit (withFlags f zn st) b = true := by
  rw [bit_eq_testBit] at h ⊢
  unfold withFlags
  rw [Nat.testBit_or, h, Bool.or_true]

theorem bits_withFlags_zn {v st : Nat} (f : Nat) (hv : v < 4) (hst : bits st 1 0 = 0) : bits (withFlags f (some v) st) 1 0 = v := by
  have hlow : st % 2 ^ 2 = 0 := by simpa [bits] using hst
  have hzn : (f / 4 * 4 + v) % 2 ^ 2 = v := by omega
  show (withFlags f (some v) st) / 2 ^ 0 % 2 ^ 2 = v
  rw [pow_zero, Nat.div_one, withFlags, Nat.or_mod_two_pow, hlow, hzn, Nat.or_zero]

theorem znWord_lt {w : Nat} (v : BitVec w) : znWord v < 4 := by
  have hz := Bool.toNat_lt (decide (v = 0))
  have hn := Bool.toNat_lt v.msb
  rw [znWord]
  omega

/-- The engine as the quotient of a division arrives: the division is over, and every result due by then has landed. -/
def Se.atQuotient (t : Se) (d : SeDiv) : Se :=
  Se.land { t with div := none, n := max t.n (d.issue + 8) } fun w => w.due ≤ max t.n (d.issue + 8)

/-- A division whose register no later write has taken leaves its quotient and FLAGS. -/
theorem Se.divDone_eq {t : Se} {d : SeDiv} (hd : t.div = some d) (hl : d.lost = false) {q : Word × Nat}
    (hq : quotientOf (BitVec.ofNat 32 d.ds) (BitVec.ofNat 32 d.dt) = q) :
    t.divDone = ((t.atQuotient d).setReg (cD d.dd) q.1.toNat).setReg cFlags
      (withFlags (((t.atQuotient d).setReg (cD d.dd) q.1.toNat).reg cFlags) (some (znWord q.1)) q.2) := by
  subst hq
  simp only [Se.divDone, hd, hl, sx_toInt, divResult_toInt, unsx_ofInt, BitVec.ofInt_toInt, znOf_toInt]
  rfl

/-- Settles O8: a division notes its operands, and the quotient arrives with its flags. -/
theorem seDivision : Obligations.SeDivision := by
  intro s e h t
  refine ⟨fun dd ds dt hd => ?_, fun d hd hl => ?_⟩
  · have hnone : t.divDone = t := by simp only [Se.divDone, hd]
    show execDiv e dd ds dt s = _
    refine State.onEngine_eq h ?_
    simp only [show s.eng e = t from rfl, hnone]
  · obtain ⟨q, hq⟩ : ∃ q, quotientOf (BitVec.ofNat 32 d.ds) (BitVec.ofNat 32 d.dt) = q := ⟨_, rfl⟩
    have hflags : ((t.divDone).reg cFlags) = _ := congrArg (Se.reg · cFlags) (Se.divDone_eq hd hl hq)
    rw [Se.reg_setReg_same] at hflags
    refine ⟨t.divDone, State.onEngine_eq h rfl, ?_, ?_, ?_, fun hz => ?_, fun hov => ?_, ?_⟩
    · rw [Se.divDone_eq hd hl hq]
      rfl
    · have hne : cD d.dd ≠ cFlags := Nat.ne_of_lt (Nat.lt_trans (cD_lt _) (by decide))
      rw [Se.divDone_eq hd hl hq, Se.dw, Se.reg_setReg_other _ _ (by decide) (Nat.lt_trans (cD_lt _) (by decide)) hne,
        Se.reg_setReg_same, BitVec.ofNat_toNat, BitVec.setWidth_eq, hq]
    · rw [hflags, hq, bits_withFlags_zn _ (znWord_lt _) (hq ▸ bits_sticky_quotientOf _ _)]
    · have hst : q.2 = 16 := by rw [← hq, quotientOf, if_pos hz]
      rw [hflags, hst]
      exact bit_withFlags _ _ rfl
    · have hst : q.2 = 8 := by
        rw [← hq, quotientOf, if_neg (by rw [hov.2]; decide), if_pos hov]
      rw [hflags, hst]
      exact bit_withFlags _ _ rfl
    · rw [Se.divDone_eq hd hl hq]
      exact ⟨rfl, rfl, rfl⟩

end Sys2Proof.Machine
end

section
/-! SUPPORT. What the end of a bundle does: results that land, and what is left alone. Statements O9 and O10. -/

namespace Sys2Proof.Machine

variable {s : State} {e : Nat} {t u : Se}

/-! ## Results that land in their registers (R153) -/

theorem writeInsert_perm (w : SeWrite) (l : List SeWrite) : (writeInsert w l).Perm (w :: l) := by
  induction l with
  | nil => exact .refl _
  | cons x r ih =>
    unfold writeInsert
    split
    · exact .refl _
    · exact (ih.cons x).trans (.swap w x r)

/-- The order of landing is an order of the same results. -/
theorem landOrder_perm (l acc : List SeWrite) : (l.foldl (fun l w => writeInsert w l) acc).Perm (l ++ acc) := by
  induction l generalizing acc with
  | nil => exact .refl _
  | cons w r ih => exact (ih _).trans (((writeInsert_perm w acc).append_left r).trans List.perm_middle)

/-- What the results for one register make of it. -/
def landOn (v : Nat) (l : List SeWrite) : Nat := l.foldl (fun v w => withBits v (w.lo + w.width - 1) w.lo w.val) v

/-- A register sees the results for it alone. -/
theorem tget_landWrites (l : List SeWrite) (regs : Tbl Nat) (k : Nat) :
    tget 0 (l.foldl landWrite regs) k = landOn (tget 0 regs k) (l.filter (·.reg == k)) := by
  induction l generalizing regs with
  | nil => rfl
  | cons w r ih =>
    rw [List.foldl_cons, ih, landWrite, tget_tput]
    by_cases h : w.reg = k
    · have hw : (w :: r).filter (·.reg == k) = w :: r.filter (·.reg == k) := List.filter_cons_of_pos (beq_iff_eq.2 h)
      rw [if_pos h.symm, hw, h]
      rfl
    · have hw : (w :: r).filter (·.reg == k) = r.filter (·.reg == k) := List.filter_cons_of_neg (by simpa using h)
      rw [if_neg (Ne.symm h), hw]

/-- The results that a landing takes to a register. -/
def Se.landing (t : Se) (p : SeWrite → Bool) (c : Nat) : List SeWrite := (t.queue.filter p).filter (·.reg == t.key c)

theorem Se.reg_land_of_none {p : SeWrite → Bool} {c : Nat} (h : t.landing p c = []) : (t.land p).reg c = t.reg c := by
  have hperm := (landOrder_perm (t.queue.filter p) []).filter (·.reg == t.key c)
  rw [List.append_nil, ← Se.landing, h, List.perm_nil] at hperm
  show tget 0 (List.foldl landWrite _ _) (t.key c) = _
  rw [tget_landWrites, hperm]
  rfl

theorem Se.reg_land_of_single {p : SeWrite → Bool} {c : Nat} {w : SeWrite} (h : t.landing p c = [w]) :
    (t.land p).reg c = withBits (t.reg c) (w.lo + w.width - 1) w.lo w.val := by
  have hperm := (landOrder_perm (t.queue.filter p) []).filter (·.reg == t.key c)
  rw [List.append_nil, ← Se.landing, h, List.perm_singleton] at hperm
  show tget 0 (List.foldl landWrite _ _) (t.key c) = _
  rw [tget_landWrites, hperm]
  rfl

/-- A result for all the bits of a register is what the register then holds. -/
theorem ofNat_withBits_whole {w : Nat} (hw : 0 < w) (x : Nat) (v : BitVec w) :
    BitVec.ofNat w (withBits x (0 + w - 1) 0 v.toNat) = v := by
  have hbits := bits_withBits_same x (0 + w - 1) 0 v.toNat
  rw [show 0 + w - 1 + 1 - 0 = w by omega, Nat.mod_eq_of_lt v.isLt, bits, pow_zero, Nat.div_one,
    show 0 + w - 1 + 1 - 0 = w by omega] at hbits
  exact BitVec.eq_of_toNat_eq hbits

/-! ## The stages of a bundle's end -/

/-- The address updates of a bundle are on their way (R152). -/
def Se.postModified (t : Se) : Se :=
  (List.range 8).foldl (fun t an => match t.composed an with
    | some v => t.write (cA an) 0 15 v 1 2
    | none => t) t

/-- The next bundle has begun, and the results it sees have landed. -/
def Se.bundleLanded (t : Se) : Se :=
  Se.land { t with n := t.n + 1, cc := t.cc + 1, ups := [], zn := none, sticky := 0, space := none, iterEnd := false }
    fun w => w.due ≤ t.n + 1

/-- FLAGS take Z, N and stickies of the bundle. -/
def Se.bundleFlags (t : Se) (zn : Option Nat) (sticky : Nat) : Se :=
  if zn.isSome || sticky != 0 then t.setReg cFlags (withFlags (t.reg cFlags) zn sticky) else t

/-- A division that is due arrives. -/
def Se.bundleDiv (t : Se) : Se := match t.div with
  | some d => if d.issue + 8 ≤ t.n then t.divDone else t
  | none => t

/-- The address of the next bundle, with a branch taken or opened. -/
def Se.bundleGoes (t : Se) (next : Nat) (jump go : Option Nat) : Se := match go with
  | some a => { t with pc := a % 8192 }
  | none => match t.branch with
    | some (a, 1) => { t.leaveRepeats a with branch := none, pc := a % 8192 }
    | some (a, k) => { t with branch := some (a, k - 1), pc := next }
    | none => match jump with
      | some a => { t with branch := some (a, 2), pc := next }
      | none => { t with pc := next }

/-- Repeats are counted, and the next bundle's address is chosen. -/
def Se.bundleNext (t : Se) (jump go : Option Nat) : Se :=
  (t.endRepeats 3 ((t.pc + 1) % 8192)).1.bundleGoes (t.endRepeats 3 ((t.pc + 1) % 8192)).2 jump go

theorem Se.endBundle_eq (t : Se) (jump go : Option Nat) : t.endBundle jump go =
    ((t.postModified.bundleLanded.bundleFlags t.postModified.zn t.postModified.sticky).bundleDiv).bundleNext jump go := by
  unfold Se.endBundle
  extract_lets modified zn sticky begun landed flagged divided
  have hmodified : modified = t.postModified := rfl
  have hlanded : landed = modified.bundleLanded := by
    clear_value modified
    rfl
  have hflagged : flagged = landed.bundleFlags zn sticky := by
    clear_value landed
    rfl
  have hdivided : divided = flagged.bundleDiv := by
    clear_value flagged
    rfl
  rw [← hmodified, show modified.zn = zn from rfl, show modified.sticky = sticky from rfl, ← hlanded, ← hflagged, ← hdivided]
  clear_value divided
  rfl

/-! ## What control does to an engine after the landing -/

/-- Only FLAGS, the repeat counters, the repeats, a branch and the address of the next bundle change. -/
def Se.ControlOnly (t u : Se) : Prop :=
  u = { t with regs := u.regs, pc := u.pc, branch := u.branch, reps := u.reps, iterEnd := u.iterEnd } ∧
    ∀ c, c < 64 → c ≠ cFlags → (∀ i, c ≠ cLc i) → u.reg c = t.reg c

theorem Se.ControlOnly.refl (t : Se) : t.ControlOnly t := ⟨rfl, fun _ _ _ _ => rfl⟩

theorem cLc_lt (i : Nat) : cLc i < 64 := by
  rw [cLc]
  omega

theorem Se.ControlOnly.setReg (h : t.ControlOnly u) {c' : Nat} (v : Nat) (hlt : c' < 64) (hc' : c' = cFlags ∨ ∃ i, c' = cLc i) :
    t.ControlOnly (u.setReg c' v) := by
  obtain ⟨hframe, hreg⟩ := h
  refine ⟨by rw [Se.setReg, hframe], fun c hc hflags hlc => (Se.reg_setReg_other u v hlt hc ?_).trans (hreg c hc hflags hlc)⟩
  obtain rfl | ⟨i, rfl⟩ := hc'
  · exact hflags
  · exact hlc i

theorem Se.ControlOnly.setLc (h : t.ControlOnly u) (i v : Nat) : t.ControlOnly (u.setReg (cLc i) v) :=
  h.setReg v (cLc_lt i) (.inr ⟨i, rfl⟩)

theorem Se.ControlOnly.goes (h : t.ControlOnly u) (pc : Nat) (branch : Option (Nat × Nat)) (reps : List SeRepeat) (iterEnd : Bool) :
    t.ControlOnly { u with pc := pc, branch := branch, reps := reps, iterEnd := iterEnd } := by
  obtain ⟨hframe, hreg⟩ := h
  exact ⟨by rw [hframe], hreg⟩

theorem Se.ControlOnly.endRepeats (h : t.ControlOnly u) (k next : Nat) : t.ControlOnly (u.endRepeats k next).1 := by
  induction k generalizing u with
  | zero => exact h
  | succ k ih =>
    have hend : t.ControlOnly { u with iterEnd := true } := h.goes u.pc u.branch u.reps true
    unfold Se.endRepeats
    split
    · exact h
    · next r rest hreps =>
      split
      · exact h
      · dsimp only
        split
        · exact hend.setLc _ _
        · exact ih ((hend.setLc _ _).goes u.pc u.branch rest true)

theorem Se.ControlOnly.leaveRepeats (h : t.ControlOnly u) (target : Nat) : t.ControlOnly (u.leaveRepeats target) := by
  have hcount : ∀ (l : List SeRepeat) (v : Se), t.ControlOnly v → t.ControlOnly (l.foldl (fun t r => t.setReg (cLc r.lc) 0) v) := by
    intro l
    induction l with
    | nil => exact fun _ hv => hv
    | cons r rest ih => exact fun v hv => ih _ (hv.setLc _ _)
  exact (hcount _ u h).goes _ _ _ _

theorem Se.ControlOnly.bundleNext (h : t.ControlOnly u) (jump go : Option Nat) : t.ControlOnly (u.bundleNext jump go) := by
  have hrep := h.endRepeats 3 ((u.pc + 1) % 8192)
  unfold Se.bundleNext
  generalize u.endRepeats 3 ((u.pc + 1) % 8192) = v at hrep ⊢
  unfold Se.bundleGoes
  split
  · exact hrep.goes _ _ _ _
  · split
    · exact (hrep.leaveRepeats _).goes _ _ _ _
    · exact hrep.goes _ _ _ _
    · split
      · exact hrep.goes _ _ _ _
      · exact hrep.goes _ _ _ _

theorem Se.ControlOnly.bundleFlags (h : t.ControlOnly u) (zn : Option Nat) (sticky : Nat) : t.ControlOnly (u.bundleFlags zn sticky) := by
  unfold Se.bundleFlags
  split
  · exact h.setReg _ (by decide) (.inl rfl)
  · exact h

/-! ## A bundle that ends with no division in flight -/

/-- Each address update of a bundle is a result for an address register, which the next bundle sees. -/
theorem Se.postModified_queue (hd : t.div = none) : ∃ l, t.postModified = { t with queue := t.queue ++ l } ∧
    ∀ w ∈ l, w.due = t.n + 1 ∧ ∃ an, w.reg = t.key (cA an) := by
  refine List.foldlRecOn (motive := fun u : Se => ∃ l, u = { t with queue := t.queue ++ l } ∧
    ∀ w ∈ l, w.due = t.n + 1 ∧ ∃ an, w.reg = t.key (cA an)) _ _ ⟨[], by rw [List.append_nil], by simp⟩ ?_
  rintro _ ⟨l, rfl, hl⟩ an -
  split
  · next v hv =>
    refine ⟨l ++ [_], by simp only [Se.write, hd, List.append_assoc]; rfl, fun w hw => ?_⟩
    obtain hw | hw := List.mem_append.1 hw
    · exact hl w hw
    · obtain rfl := List.mem_singleton.1 hw
      exact ⟨rfl, an, rfl⟩
  · exact ⟨l, rfl, hl⟩

/-- With no division in flight, the end of a bundle is a landing and then control. -/
theorem Se.endBundle_control (hd : t.div = none) (jump go : Option Nat) :
    t.postModified.bundleLanded.ControlOnly (t.endBundle jump go) := by
  obtain ⟨l, hpost, -⟩ := Se.postModified_queue hd
  have hflags := (Se.ControlOnly.refl t.postModified.bundleLanded).bundleFlags t.postModified.zn t.postModified.sticky
  have hnone : (t.postModified.bundleLanded.bundleFlags t.postModified.zn t.postModified.sticky).div = none := by
    rw [hflags.1, hpost]
    exact hd
  have hdiv : ∀ v : Se, v.div = none → v.bundleDiv = v := fun v hv => by rw [Se.bundleDiv, hv]
  rw [Se.endBundle_eq, hdiv _ hnone]
  exact hflags.bundleNext jump go

/-- What the end of a bundle makes of an engine without a division in flight, its registers apart. -/
theorem Se.endBundle_parts (hd : t.div = none) (jump go : Option Nat) : (t.endBundle jump go).n = t.n + 1 ∧
    (t.endBundle jump go).queue = t.queue.filter (fun w => !decide (w.due ≤ t.n + 1)) ∧ (t.endBundle jump go).ups = [] ∧
      (t.endBundle jump go).div = none ∧ (t.endBundle jump go).handler = t.handler ∧ (t.endBundle jump go).gather = t.gather := by
  obtain ⟨l, hpost, hl⟩ := Se.postModified_queue hd
  have hlanded : l.filter (fun w => !decide (w.due ≤ t.n + 1)) = [] :=
    List.filter_eq_nil_iff.2 fun w hw => by simp [(hl w hw).1]
  rw [(Se.endBundle_control hd jump go).1, hpost]
  refine ⟨rfl, ?_, rfl, hd, rfl, rfl⟩
  show (t.queue ++ l).filter (fun w => !decide (w.due ≤ t.n + 1)) = _
  rw [List.filter_append, hlanded, List.append_nil]

/-- The results that the next bundle sees in a register. -/
def Se.arriving (t : Se) (c : Nat) : List SeWrite := t.landing (fun w => w.due ≤ t.n + 1) c

/-- A register that neither control nor address updates write. -/
def plainReg (c : Nat) : Prop := c < 64 ∧ c ≠ cFlags ∧ (∀ i, c ≠ cLc i) ∧ ∀ i, c ≠ cA i

theorem plainReg_cD (i : Nat) : plainReg (cD i) := by
  have h := cD_lt i
  refine ⟨by omega, ?_, fun j => ?_, fun j => ?_⟩
  · rw [cFlags]
    omega
  · rw [cLc]
    omega
  · rw [cA]
    omega

theorem plainReg_cAcc (i : Nat) : plainReg (cAcc i) := by
  have h : cAcc i < 20 := by
    rw [cAcc]
    omega
  refine ⟨by omega, ?_, fun j => ?_, fun j => ?_⟩
  · rw [cFlags]
    omega
  · rw [cLc]
    omega
  · rw [cA]
    omega

/-- The results for a plain register are those that stood in the queue. -/
theorem Se.landing_postModified (hd : t.div = none) {c : Nat} (hc : plainReg c) :
    t.postModified.landing (fun w => w.due ≤ t.n + 1) c = t.arriving c := by
  obtain ⟨hlt, -, -, haddr⟩ := hc
  obtain ⟨l, hpost, hl⟩ := Se.postModified_queue hd
  have hnone : (l.filter fun w => decide (w.due ≤ t.n + 1)).filter (·.reg == t.key c) = [] := by
    refine List.filter_eq_nil_iff.2 fun w hw heq => ?_
    obtain ⟨-, an, han⟩ := hl w (List.mem_of_mem_filter hw)
    rw [han, beq_iff_eq, t.key_inj (by rw [cA]; omega) hlt] at heq
    exact haddr an heq.symm
  rw [hpost, Se.arriving, Se.landing, Se.landing, List.filter_append, List.filter_append]
  show _ ++ (l.filter fun w => decide (w.due ≤ t.n + 1)).filter (·.reg == t.key c) = _
  rw [hnone, List.append_nil]
  rfl

theorem Se.reg_bundleLanded {c : Nat} {w : SeWrite} (h : t.arriving c = [w]) :
    t.bundleLanded.reg c = withBits (t.reg c) (w.lo + w.width - 1) w.lo w.val :=
  Se.reg_land_of_single
    (t := { t with n := t.n + 1, cc := t.cc + 1, ups := [], zn := none, sticky := 0, space := none, iterEnd := false }) h

theorem Se.reg_endBundle (hd : t.div = none) {c : Nat} (hc : plainReg c) {w : SeWrite} (h : t.arriving c = [w]) (jump go : Option Nat) :
    (t.endBundle jump go).reg c = withBits (t.reg c) (w.lo + w.width - 1) w.lo w.val := by
  obtain ⟨l, hpost, -⟩ := Se.postModified_queue hd
  have hn : t.postModified.n = t.n := by rw [hpost]
  have hreg : t.postModified.reg c = t.reg c := by
    rw [hpost]
    rfl
  have harrive : t.postModified.arriving c = [w] := by rw [Se.arriving, hn, Se.landing_postModified hd hc, h]
  obtain ⟨hlt, hflags, hlc, -⟩ := hc
  rw [(Se.endBundle_control hd jump go).2 c hlt hflags hlc, Se.reg_bundleLanded harrive, hreg]

end Sys2Proof.Machine
end

section
/-! SUPPORT. Moves between registers and memory, and the control operations that move registers. Statement O12. -/

namespace Sys2Proof.Machine

variable {s : State} {e : Nat}

/-! ## Loads (R141, R147, R155, R157, R159) -/

/-- What a LOAD to the address file has on its way: A, N, L or B. -/
def Se.loadAddress (t : Se) (slot reg : Nat) (w : Word) : Se :=
  if reg < 8 then t.write (cA (reg % 8)) 0 15 w.toNat 2 slot
  else if reg < 16 then t.write (cN (reg % 8)) 0 16 w.toNat 2 slot
  else if reg < 24 then t.write (cL (reg % 8)) 0 16 (min (w.toNat % 65536) 32768) 2 slot
  else t.write (cB (reg % 8)) 0 15 w.toNat 2 slot

/-- A LOAD that finds no error takes the word at An. -/
theorem load_clean (h : s.seUp e = true) (slot space an mode reg : Nat) : exec (.load e slot space an mode reg .clean) s =
    .next (s.setEng e ((((s.eng e).access (space % 2)).loadTo (mvSlot slot) (reg % 32)
      ((s.eng e).mem (space % 2) ((s.eng e).reg (cA an)))).moveMode (mvSlot slot) an mode)) := by
  have hexec : exec (.load e slot space an mode reg .clean) s = s.onEngine e fun t =>
      ((t.access (space % 2)).loadTo (mvSlot slot) (reg % 32) (t.mem (space % 2) (t.reg (cA an)))).moveMode (mvSlot slot) an mode := by
    show execLoad e slot space an mode reg .clean s = _
    rw [execLoad, h]
    rfl
  rw [hexec, s.onEngine_up e _ h]

theorem loadAddressFile_clean (h : s.seUp e = true) (slot space an mode reg : Nat) :
    exec (.loadAddressFile e slot space an mode reg .clean) s =
      .next (s.setEng e ((((s.eng e).access (space % 2)).loadAddress (mvSlot slot) (reg % 32)
        ((s.eng e).mem (space % 2) ((s.eng e).reg (cA an)))).moveMode (mvSlot slot) an mode)) := by
  have hexec : exec (.loadAddressFile e slot space an mode reg .clean) s = s.onEngine e fun t =>
      ((t.access (space % 2)).loadAddress (mvSlot slot) (reg % 32) (t.mem (space % 2) (t.reg (cA an)))).moveMode
        (mvSlot slot) an mode := by
    show execLoadAddressFile e slot space an mode reg .clean s = _
    rw [execLoadAddressFile, h]
    rfl
  rw [hexec, s.onEngine_up e _ h]

theorem Se.loadTo_data (t : Se) (slot : Nat) {reg : Nat} (w : Word) (h : reg < 16) :
    t.loadTo slot reg w = t.write (cD reg) 0 32 w.toNat 2 slot := if_pos h

theorem Se.loadTo_acc (t : Se) (slot : Nat) {reg : Nat} (w : Word) (h : 16 ≤ reg) (h' : reg < 20) :
    t.loadTo slot reg w = t.write (cAcc reg) 0 72 (BitVec.ofInt 72 (w.toInt * 2 ^ 30)).toNat 2 slot := by
  rw [Se.loadTo, if_neg (by omega), if_pos h', unsx_ofInt, aligned]

/-- The codes of the raw parts L, H and G of the accumulators (R157). -/
theorem rawPart {i k : Nat} (hk : k < 3) : ¬(0x14 + k + 3 * i < 16) ∧ ¬(0x14 + k + 3 * i < 0x14) ∧
    (0x14 + k + 3 * i - 0x14) % 3 = k ∧ (0x14 + k + 3 * i - 0x14) / 3 = i := by omega

theorem Se.loadTo_raw (t : Se) (slot : Nat) (i : Nat) {k : Nat} (w : Word) (hk : k < 3) : t.loadTo slot (0x14 + k + 3 * i) w =
    if k = 0 then t.write (cAcc i) 0 32 w.toNat 2 slot else if k = 1 then t.write (cAcc i) 32 32 w.toNat 2 slot
    else t.write (cAcc i) 64 8 (w.toNat % 256) 2 slot := by
  obtain ⟨hdata, hacc, hpart, hof⟩ := rawPart (i := i) hk
  simp only [Se.loadTo, if_neg hdata, if_neg hacc, hpart, hof]

/-! ## Stores (R147, R156, R157) -/

/-- A part of an accumulator is the same bits of its register. -/
theorem Se.extractLsb'_accw (t : Se) (i : Nat) {lo w : Nat} (h : lo + w ≤ 72) :
    (t.accw i).extractLsb' lo w = BitVec.ofNat w (t.reg (cAcc i) / 2 ^ lo) := by
  refine BitVec.eq_of_getLsbD_eq fun j hj => ?_
  rw [BitVec.getLsbD_extractLsb', Se.accw, BitVec.getLsbD_ofNat, BitVec.getLsbD_ofNat, Nat.testBit_div_two_pow]
  simp only [hj, show lo + j < 72 by omega, decide_true, Bool.true_and, Nat.add_comm]

/-- A sign-extended byte. -/
theorem toWord_sx_byte (x : Nat) : toWord (sx 8 (x % 256)) = (BitVec.ofNat 8 x).signExtend 32 := by
  have hmod : BitVec.ofNat 8 (x % 256) = BitVec.ofNat 8 x := BitVec.eq_of_toNat_eq (Nat.mod_mod ..)
  rw [toWord, sx_toInt, hmod, BitVec.signExtend]

theorem Se.storeWord_raw (t : Se) (i : Nat) {k : Nat} (hk : k < 3) : t.storeWord (0x14 + k + 3 * i) =
    (if k = 0 then (t.accw i).extractLsb' 0 32 else if k = 1 then (t.accw i).extractLsb' 32 32
      else ((t.accw i).extractLsb' 64 8).signExtend 32, false) := by
  obtain ⟨hdata, hacc, hpart, hof⟩ := rawPart (i := i) hk
  rw [Se.extractLsb'_accw _ _ (by decide), Se.extractLsb'_accw _ _ (by decide), Se.extractLsb'_accw _ _ (by decide), pow_zero,
    Nat.div_one]
  simp only [Se.storeWord, if_neg hdata, if_neg hacc, hpart, hof, toWord_sx_byte]

theorem satWord_eq (y : Int) :
    satWord y = if y < -2 ^ 31 then (0x80000000 : Word) else if 2 ^ 31 ≤ y then 0x7FFFFFFF else BitVec.ofInt 32 y := by
  have hhigh : y > 2 ^ (32 - 1) - 1 ↔ 2 ^ 31 ≤ y := by omega
  simp only [satWord, toWord, satTo, hhigh]
  split_ifs <;> rfl

theorem Se.sticky_moveMode (t : Se) (slot an mode : Nat) : (t.moveMode slot an mode).sticky = t.sticky := by
  unfold Se.moveMode
  split_ifs <;> rfl

theorem Se.sticky_setMem (t : Se) (space a : Nat) (v : Word) : (t.setMem space a v).sticky = t.sticky := by
  unfold Se.setMem
  split <;> rfl

theorem Se.sticky_access (t : Se) (space : Nat) : (t.access space).sticky = t.sticky := by
  unfold Se.access
  split <;> rfl

/-- A STORE writes its word at An, and sets SAT where the sample saturated. -/
theorem store_word (h : s.seUp e = true) (slot space an mode reg : Nat) {w : Word} {sat : Bool}
    (hw : (s.eng e).storeWord (reg % 32) = (w, sat)) : exec (.store e slot space an mode reg) s =
      .next (s.setEng e { (((s.eng e).access (space % 2)).setMem (space % 2) ((s.eng e).reg (cA an)) w).moveMode (mvSlot slot) an mode
        with sticky := (s.eng e).sticky ||| (if sat then 4 else 0) }) := by
  show execStore e slot space an mode reg s = _
  refine State.onEngine_eq h ?_
  rw [hw]
  dsimp only
  rw [Se.sticky_setMem, Se.sticky_access]
  rfl

/-- A STORE that saturates nothing sets no flag. -/
theorem store_exact (h : s.seUp e = true) (slot space an mode reg : Nat) {w : Word} (hw : (s.eng e).storeWord (reg % 32) = (w, false)) :
    exec (.store e slot space an mode reg) s = .next (s.setEng e
      ((((s.eng e).access (space % 2)).setMem (space % 2) ((s.eng e).reg (cA an)) w).moveMode (mvSlot slot) an mode)) := by
  have hsticky := Se.sticky_moveMode (((s.eng e).access (space % 2)).setMem (space % 2) ((s.eng e).reg (cA an)) w) (mvSlot slot) an mode
  rw [Se.sticky_setMem, Se.sticky_access] at hsticky
  rw [store_word h slot space an mode reg hw, if_neg Bool.false_ne_true, Nat.or_zero, ← hsticky]

/-! ## Control registers (R181) -/

/-- A control operation of an engine that executes. -/
theorem State.onCtrl_eq (h : s.seUp e = true) {f : Se → Se} {u : Se} (hf : f (s.eng e) = u) :
    s.onCtrl e f = .next (s.setEng e u) := State.onEngine_eq h hf

theorem mvtc_known (h : s.seUp e = true) {cr c w : Nat} (ds : Nat) (hcr : ctrlReg cr = some (c, w)) : exec (.mvtc e cr ds) s =
    .next (s.setEng e (((s.eng e).write c 0 w ((s.eng e).reg (cD ds)) 2 1).endBundle none none)) := by
  show execMvtc e cr ds s = _
  rw [execMvtc, hcr]
  exact State.onCtrl_eq h rfl

theorem mvfc_known (h : s.seUp e = true) {cr c w v : Nat} (dd : Nat) (hcr : ctrlReg cr = some (c, w))
    (hv : (if w = 5 ∧ c ≠ cFlags then unsx 32 (sx 5 ((s.eng e).reg c)) else (s.eng e).reg c) = v) : exec (.mvfc e cr dd) s =
      .next (s.setEng e (((s.eng e).write (cD dd) 0 32 v 1 1).endBundle none none)) := by
  show execMvfc e cr dd s = _
  rw [execMvfc, hcr]
  exact State.onCtrl_eq h (by rw [hv])

theorem ctrlReg_reserved {cr : Nat} (h : 9 ≤ cr) : ctrlReg cr = none := by
  rw [ctrlReg, if_neg (by omega), if_neg (by omega), if_neg (by omega), if_neg (by omega)]

theorem ctrlReg_lc {i : Nat} (h : i < 3) : ctrlReg i = some (0x38 + i, 16) := by
  rw [ctrlReg, if_pos h, cLc, Nat.mod_eq_of_lt h]

theorem ctrlReg_scl {i : Nat} (h : i < 4) : ctrlReg (3 + i) = some (0x14 + i, 5) := by
  rw [ctrlReg, if_neg (by omega), if_pos (by omega), Nat.add_sub_cancel_left, cScl, Nat.mod_eq_of_lt h]

/-- MVTC and MVFC of a reserved code. -/
theorem mvtc_reserved (h : s.seUp e = true) {cr : Nat} (ds : Nat) (hcr : 9 ≤ cr) :
    exec (.mvtc e cr ds) s = .next (s.ctrlIllegal e) := by
  show execMvtc e cr ds s = _
  rw [execMvtc, ctrlReg_reserved hcr, h]
  rfl

theorem mvfc_reserved (h : s.seUp e = true) {cr : Nat} (dd : Nat) (hcr : 9 ≤ cr) :
    exec (.mvfc e cr dd) s = .next (s.ctrlIllegal e) := by
  show execMvfc e cr dd s = _
  rw [execMvfc, ctrlReg_reserved hcr, h]
  rfl

/-! ## The statement -/

/-- Settles O12: each move names its register and its word; each control move ends its bundle. -/
theorem seMovesOfEveryKind : Obligations.SeMovesOfEveryKind := by
  refine ⟨fun s e slot space an mode h => ?_, fun s e h => ?_⟩
  · intro t w sl moved
    have hload : ∀ {reg : Nat} {u : Se}, reg < 32 → (t.access (space % 2)).loadTo sl reg w = u →
        exec (.load e slot space an mode reg .clean) s = moved u := fun {reg u} hreg hu => by
      rw [load_clean h, Nat.mod_eq_of_lt hreg]
      exact congrArg moved hu
    have haddr : ∀ {reg : Nat} {u : Se}, reg < 32 → (t.access (space % 2)).loadAddress sl reg w = u →
        exec (.loadAddressFile e slot space an mode reg .clean) s = moved u := fun {reg u} hreg hu => by
      rw [loadAddressFile_clean h, Nat.mod_eq_of_lt hreg]
      exact congrArg moved hu
    have hstore : ∀ {reg : Nat} {v : Word}, reg < 32 → t.storeWord reg = (v, false) → exec (.store e slot space an mode reg) s =
        moved ((t.access (space % 2)).setMem (space % 2) (t.reg (cA an)) v) := fun {reg v} hreg hv =>
      store_exact h slot space an mode reg (by rwa [Nat.mod_eq_of_lt hreg])
    refine ⟨fun reg hr => hload (by omega) (Se.loadTo_data _ _ _ hr), fun reg hr hr' => hload (by omega) (Se.loadTo_acc _ _ _ hr hr'),
      fun reg hr => hstore (by omega) (if_pos hr), fun reg hr hr' => ?_, fun i hi => ?_, fun i hi => ?_, fun nm => ?_, ?_⟩
    · intro k y v u
      have hword : t.storeWord (reg % 32) = (v, decide (y < -2 ^ 31 ∨ 2 ^ 31 ≤ y)) := by
        rw [Nat.mod_eq_of_lt (by omega), Se.storeWord, if_neg (by omega), if_pos (by omega), Se.sample, satWord_eq, overflows_32,
          Se.acc_eq]
      have hsticky : (t.sticky ||| if decide (y < -2 ^ 31 ∨ 2 ^ 31 ≤ y) = true then 4 else 0) =
          if y < -2 ^ 31 ∨ 2 ^ 31 ≤ y then t.sticky ||| 4 else t.sticky := by
        rw [apply_ite (t.sticky ||| ·), Nat.or_zero]
        simp only [decide_eq_true_eq]
      rw [store_word h slot space an mode reg hword, ← hsticky]
    · exact ⟨hload (by omega) (Se.loadTo_raw _ _ i w (k := 0) (by decide)), hload (by omega) (Se.loadTo_raw _ _ i w (k := 1) (by decide)),
        hload (by omega) (Se.loadTo_raw _ _ i w (k := 2) (by decide)), hstore (by omega) (t.storeWord_raw i (k := 0) (by decide)),
        hstore (by omega) (t.storeWord_raw i (k := 1) (by decide)), hstore (by omega) (t.storeWord_raw i (k := 2) (by decide))⟩
    · have hlow : (8 + i) % 8 = i ∧ (16 + i) % 8 = i ∧ (24 + i) % 8 = i ∧ i % 8 = i := by omega
      obtain ⟨hn, hl, hb, ha⟩ := hlow
      refine ⟨haddr (by omega) ?_, haddr (by omega) ?_, haddr (by omega) ?_, haddr (by omega) ?_⟩
      · rw [Se.loadAddress, if_pos hi, ha]
      · rw [Se.loadAddress, if_neg (by omega), if_pos (by omega), hn]
      · rw [Se.loadAddress, if_neg (by omega), if_neg (by omega), if_pos (by omega), hl]
      · rw [Se.loadAddress, if_neg (by omega), if_neg (by omega), if_neg (by omega), hb]
    · show execAuAddOffset e an nm s = _
      exact State.onEngine_eq h rfl
    · show execAuLoadBase e an s = _
      exact State.onEngine_eq h rfl
  · intro t
    refine ⟨fun dd v => ?_, fun ds => ⟨fun i hi => mvtc_known h ds (ctrlReg_lc hi), fun i hi => mvtc_known h ds (ctrlReg_scl hi),
      mvtc_known h ds rfl, mvtc_known h ds rfl, fun cr hcr => mvtc_reserved h ds hcr⟩, fun dd => ⟨fun i hi => ?_, fun i hi => ?_,
      mvfc_known h dd rfl rfl, mvfc_known h dd rfl rfl, fun cr hcr => mvfc_reserved h dd hcr⟩⟩
    · show execLdi e dd v s = _
      exact State.onCtrl_eq h rfl
    · exact mvfc_known h dd (ctrlReg_lc hi) (if_neg (by omega))
    · refine mvfc_known h dd (ctrlReg_scl hi) ?_
      rw [if_pos ⟨rfl, by rw [cFlags]; omega⟩, unsx_ofInt, Se.scl, cScl, Nat.mod_eq_of_lt hi]

end Sys2Proof.Machine
end

section
/-! SUPPORT. Results read after the bundle that issued them. Statements O9 and O10. -/

namespace Sys2Proof.Machine

variable {s : State} {e : Nat} {t : Se}

/-! ## A bundle that a NOP ends -/

/-- An engine executes until a gather stalls it. -/
theorem State.seUp_setEng (h : t.gather = (s.eng e).gather) : (s.setEng e t).seUp e = s.seUp e := by
  rw [State.seUp, State.eng_setEng_same, h]
  rfl

theorem nop_setEng (h : s.seUp e = true) (ht : t.gather = (s.eng e).gather) :
    exec (.nop e) (s.setEng e t) = .next ((s.setEng e t).setEng e (t.endBundle none none)) := by
  show execNop e (s.setEng e t) = _
  exact State.onCtrl_eq ((State.seUp_setEng ht).trans h) (by rw [State.eng_setEng_same])

/-- A result that is alone in the queue arrives when it is due. -/
theorem Se.arriving_alone {c : Nat} {w : SeWrite} (hq : t.queue = [w]) (hr : w.reg = t.key c) (hdue : w.due ≤ t.n + 1) :
    t.arriving c = [w] := by
  simp [Se.arriving, Se.landing, hq, hr, hdue]

/-! ## O9 -/

/-- Settles O9: the sum is the one result in the queue, due at the next bundle. -/
theorem seResultReachesNextBundle : Obligations.SeResultReachesNextBundle := by
  intro s e dd ds dt h hq _ hd
  obtain ⟨hadd, -⟩ := seSumsBitwiseAndCompare.1 s e dd ds dt h
  generalize (if ((s.eng e).dw ds).saddOverflow ((s.eng e).dw dt) = true then 8 else 0) = sticky at hadd
  generalize (s.eng e).dw ds + (s.eng e).dw dt = v at hadd ⊢
  have hdiv : ((s.eng e).aluResult (cD dd) v sticky).div = none := by simp [Se.aluResult, Se.write, hd]
  have harrive := Se.arriving_alone (t := (s.eng e).aluResult (cD dd) v sticky) (c := cD dd)
    (by rw [Se.aluResult, Se.write, hq]; rfl) rfl (Nat.le_refl _)
  obtain ⟨hn, -⟩ := Se.endBundle_parts hdiv none none
  refine ⟨_, _, hadd, by rw [State.eng_setEng_same]; rfl, nop_setEng h rfl, ?_, ?_⟩
  · rw [State.eng_setEng_same, Se.dw, Se.reg_endBundle hdiv (plainReg_cD dd) harrive]
    rw [Nat.mod_eq_of_lt v.isLt]
    exact ofNat_withBits_whole (by decide) _ v
  · rw [State.eng_setEng_same, hn]
    rfl

/-! ## O10 -/

/-- A value that 72 bits hold is saturated to itself. -/
theorem sat72_of_aligned (x : Word) : sat72 (x.toInt * 2 ^ 30) = BitVec.ofInt 72 (x.toInt * 2 ^ 30) := by
  have hlt := x.toInt_lt
  have hle := x.le_toInt
  rw [sat72, if_neg (by omega), if_neg (by omega)]

/-- The result of a masked operation for one lane. -/
def Se.laneResult (t : Se) (f : Nat → Int) (i : Nat) : SeWrite :=
  { reg := t.key (0x10 + i), width := 72, val := (sat72 (f i)).toNat, due := t.n + 1, issue := t.n, slot := 3 }

/-- Of the results of a masked operation, its own lane's arrives at an accumulator. -/
theorem Se.arriving_accResults (hq : t.queue = []) {mask i : Nat} (hi : i < 4) (hm : bit mask i = true) (f : Nat → Int) :
    (t.accResults mask f).arriving (cAcc i) = [t.laneResult f i] := by
  have hqueue : (t.accResults mask f).queue = (below 4 (bit mask)).map (t.laneResult f) := by
    rw [Se.accResults, hq]
    rfl
  have hdue : ((below 4 (bit mask)).map (t.laneResult f)).filter (fun w => decide (w.due ≤ t.n + 1)) =
      (below 4 (bit mask)).map (t.laneResult f) := by
    refine List.filter_eq_self.2 fun w hw => ?_
    obtain ⟨j, -, rfl⟩ := List.mem_map.1 hw
    exact decide_eq_true (Nat.le_refl _)
  have hcode : ∀ j ∈ below 4 (bit mask), ((t.laneResult f j).reg == t.key (cAcc i)) = (j == i) := fun j hj => by
    have hj4 : j < 4 := List.mem_range.1 (List.mem_of_mem_filter hj)
    rw [Bool.eq_iff_iff, beq_iff_eq, beq_iff_eq, Se.laneResult, cAcc, Nat.mod_eq_of_lt hi, t.key_inj (by omega) (by omega)]
    omega
  have hlane : (below 4 (bit mask)).filter (fun j => j == i) = [i] := by
    have hcount : (below 4 (bit mask)).count i = 1 :=
      List.count_eq_one_of_mem (List.Nodup.filter _ List.nodup_range) (List.mem_filter.2 ⟨List.mem_range.2 hi, hm⟩)
    rw [List.filter_beq, hcount]
    rfl
  rw [Se.arriving, Se.landing, hqueue]
  show List.filter (fun w : SeWrite => w.reg == t.key (cAcc i)) (List.filter (fun w : SeWrite => w.due ≤ t.n + 1) _) = _
  rw [hdue, List.filter_map]
  exact congrArg (List.map _) ((List.filter_congr hcode).trans hlane)

theorem Se.access_eq (t : Se) (space : Nat) : t.access space = { t with cc := (t.access space).cc, space := (t.access space).space } := by
  unfold Se.access
  split <;> rfl

theorem Se.moveMode_eq (t : Se) (slot an mode : Nat) : t.moveMode slot an mode = { t with ups := (t.moveMode slot an mode).ups } := by
  unfold Se.moveMode
  split_ifs <;> rfl

/-- A move has its result on the way and its update of An noted, and changes nothing else that a later bundle sees. -/
theorem Se.move_parts (hd : t.div = none) (c w v space slot an mode : Nat) :
    let u := ((t.access space).write c 0 w v 2 slot).moveMode slot an mode
    u.queue = t.queue ++ [{ reg := t.key c, lo := 0, width := w, val := v % 2 ^ w, due := t.n + 2, issue := t.n, slot := slot }] ∧
      u.n = t.n ∧ u.div = none ∧ u.handler = t.handler ∧ u.gather = t.gather := by
  intro u
  have hu : u = { ((t.access space).write c 0 w v 2 slot) with ups := u.ups } := Se.moveMode_eq ..
  rw [hu, Se.access_eq t space]
  exact ⟨rfl, rfl, by simp only [Se.write, hd, Option.map_none], rfl, rfl⟩

/-- A result due at the second bundle after is in its register once two bundles have ended. -/
theorem Se.reg_after_two {c : Nat} {w : SeWrite} (hc : plainReg c) (hd : t.div = none) (hq : t.queue = [w]) (hr : w.reg = t.key c)
    (hdue : w.due = t.n + 2) : ∃ x, ((t.endBundle none none).endBundle none none).reg c = withBits x (w.lo + w.width - 1) w.lo w.val := by
  obtain ⟨hn, hqueue, -, hdiv, hhandler, -⟩ := Se.endBundle_parts hd none none
  have hkey : (t.endBundle none none).key c = t.key c := by rw [Se.key, hhandler, Se.key]
  have hwaits : (t.endBundle none none).queue = [w] := by
    rw [hqueue, hq, List.filter_cons_of_pos (by simp [hdue]), List.filter_nil]
  exact ⟨_, Se.reg_endBundle hdiv hc (Se.arriving_alone hwaits (hr.trans hkey.symm) (by omega)) none none⟩

/-- Settles O10: the result of each form is the one that arrives at its accumulator. -/
theorem wordsEnterAccumulatorsAligned : Obligations.WordsEnterAccumulatorsAligned := by
  intro s e src mask i h hi hm hq _ hd t x holds
  obtain ⟨-, -, -, -, -, hlda, hadda, hsuba⟩ := seAccumulatorOperations s e src 0 mask h
  have hlanes : ∀ (o : Out) (f : Nat → Int), o = .next (s.setEng e (t.accResults mask f)) → holds o (sat72 (f i)) := fun o f ho => by
    have hdiv : (t.accResults mask f).div = none := hd
    refine ⟨_, _, ho, nop_setEng h rfl, ?_⟩
    rw [State.eng_setEng_same, Se.accw, Se.reg_endBundle hdiv (plainReg_cAcc i) (Se.arriving_accResults hq hi hm f)]
    exact ofNat_withBits_whole (by decide) _ _
  refine ⟨sat72_of_aligned (t.dw src) ▸ hlanes _ _ hlda, hlanes _ _ hadda, hlanes _ _ hsuba, fun slot space an mode => ?_⟩
  have hload := (seMovesOfEveryKind.1 s e slot space an mode h).2.1 (0x10 + i) (by omega) (by omega)
  have hcode : cAcc (0x10 + i) = cAcc i := by
    rw [cAcc, cAcc]
    omega
  generalize hv : BitVec.ofInt 72 ((t.mem (space % 2) (t.reg (cA an))).toInt * 2 ^ 30) = v
  have hparts := Se.move_parts hd (cAcc (0x10 + i)) 72 v.toNat (space % 2) (mvSlot slot) an mode
  dsimp only at hload hparts
  rw [hv] at hload
  generalize ((t.access (space % 2)).write (cAcc (0x10 + i)) 0 72 v.toNat 2 (mvSlot slot)).moveMode (mvSlot slot) an mode = u
    at hload hparts
  rw [hcode, hq, List.nil_append, Nat.mod_eq_of_lt v.isLt] at hparts
  obtain ⟨hqueue, hn, hdiv, hhandler, hgather⟩ := hparts
  obtain ⟨-, -, -, -, -, hstays⟩ := Se.endBundle_parts hdiv none none
  have hkey : t.key (cAcc i) = u.key (cAcc i) := by rw [Se.key, Se.key, hhandler]
  obtain ⟨y, hreg⟩ := Se.reg_after_two (plainReg_cAcc i) hdiv hqueue hkey (by rw [hn])
  refine ⟨_, hload, _, _, nop_setEng h hgather, nop_setEng ((State.seUp_setEng hgather).trans h) ?_, ?_⟩
  · rw [State.eng_setEng_same, hstays]
  · rw [State.eng_setEng_same, Se.accw, hreg]
    exact ofNat_withBits_whole (by decide) _ _

end Sys2Proof.Machine
end

section
/-! SUPPORT. A gather that ends while a move to GATHER_POS is on its way. Statement O14. -/

namespace Sys2Proof.Machine

/-- A gather of 16 words of X memory to Y memory, with every offset 0. -/
def raceGather : SeGather := { src := 0, dsp := 1, dst := 0, base := 0, offs := List.replicate 16 0 }

/-- An engine that has issued MVTC of 5 to GATHER_POS in one bundle and GATH16 in the next: the move is due as the gather's bundle
ends (R178). -/
def gatherRace : State := State.reset.setEng 0
  { regs := [(0, 5)], pc := 1, n := 1, cc := 1, gather := some raceGather,
    queue := [{ reg := cGather, width := 4, val := 5, due := 2, issue := 0, slot := 1 }] }

/-- From reset with 5 in D0, MVTC and GATH16 lead there. -/
theorem gatherRace_reached : ∃ t, exec (.mvtc 0 8 0) (State.reset.setEng 0 { regs := [(0, 5)] }) = .next t ∧
    exec (.gath16 0 0 1 0 0 0 0) t = .next gatherRace := ⟨_, rfl, rfl⟩

/-- The end of the gather's bundle lands the move on the GATHER_POS that the gather has returned to 0. -/
theorem gatherRace_complete : ∃ u, exec (.gatherComplete 0) gatherRace = .next u ∧ (u.eng 0).reg cGather = 5 := ⟨_, rfl, rfl⟩

/-- Refutes O14: after a complete gather GATHER_POS holds what a move to it that was on its way has left there, and not 0. -/
theorem not_seGathersAndEvents : ¬ Obligations.SeGathersAndEvents := by
  rintro ⟨⟨-, hcomplete, -⟩, -⟩
  have hexist : ∀ i, i < 16 → raceGather.base + raceGather.offs.getD i 0 ≤ 0x7FFF := by decide
  obtain ⟨u, hu, -, hpos, -⟩ := hcomplete gatherRace 0 raceGather rfl (by decide) (by decide) (by decide) rfl hexist (by decide)
  obtain ⟨v, hv, hfive⟩ := gatherRace_complete
  obtain rfl : u = v := by rw [hu] at hv; exact Host.Outcome.next.inj hv
  rw [hpos] at hfive
  exact absurd hfive (by decide)

end Sys2Proof.Machine
end

section
/-! SUPPORT. Strip boundaries: what the end of a bundle, the folding of stickies and a register query leave alone. Statement O15. -/

namespace Sys2Proof.Machine

variable {s t : State} {e : Nat}

/-! ## What the end of a bundle leaves alone -/

/-- An engine without its registers, its bundle and its control state. -/
def Se.still (t : Se) : Se :=
  { t with regs := [], pc := 0, n := 0, cc := 0, queue := [], ups := [], sticky := 0, zn := none, space := none, branch := none,
           reps := [], iterEnd := false, div := none }

theorem Se.ControlOnly.still {t u : Se} (h : t.ControlOnly u) : u.still = t.still := by
  rw [h.1]
  rfl

theorem Se.still_postModified (t : Se) : t.postModified.still = t.still := by
  refine List.foldlRecOn (motive := fun u : Se => u.still = t.still) _ _ rfl ?_
  intro u hu an _
  split
  · exact hu
  · exact hu

theorem Se.still_divDone (t : Se) : t.divDone.still = t.still := by
  unfold Se.divDone
  split
  · rfl
  · next d _ =>
    dsimp only
    split <;> rfl

theorem Se.still_bundleDiv (t : Se) : t.bundleDiv.still = t.still := by
  unfold Se.bundleDiv
  split
  · split
    · exact t.still_divDone
    · rfl
  · rfl

theorem Se.still_bundleLanded (t : Se) : t.bundleLanded.still = t.still := rfl

/-- The end of a bundle concerns registers, results, updates and control alone. -/
theorem Se.still_endBundle (t : Se) (jump go : Option Nat) : (t.endBundle jump go).still = t.still := by
  rw [Se.endBundle_eq, ((Se.ControlOnly.refl _).bundleNext jump go).still, Se.still_bundleDiv,
    ((Se.ControlOnly.refl _).bundleFlags _ _).still, Se.still_bundleLanded, Se.still_postModified]

/-- Whatever does not speak of those parts is the same after the end of a bundle. -/
theorem Se.kept_endBundle {α : Type} (f : Se → α) (hf : ∀ t : Se, f t.still = f t) (t : Se) (jump go : Option Nat) :
    f (t.endBundle jump go) = f t := by
  rw [← hf, Se.still_endBundle, hf]

/-! ## Register words -/

/-- Only register words change. -/
def RegsOnly (s t : State) : Prop := { t with regs := s.regs } = s

theorem RegsOnly.refl (s : State) : RegsOnly s s := rfl

theorem RegsOnly.put {f : Fld} {i v : Nat} (h : RegsOnly s t) : RegsOnly s (t.put f i v) := h

theorem RegsOnly.ite {c : Prop} {_ : Decidable c} {u : State} (ht : RegsOnly s t) (hu : RegsOnly s u) :
    RegsOnly s (if c then t else u) := by
  split
  · exact ht
  · exact hu

theorem RegsOnly.stripEvent (h : RegsOnly s t) (out : Bool) (n : Nat) (f : Fld) : RegsOnly s (t.stripEvent out n f) :=
  .put (.ite (.put (.put h)) (.put (.put h)))

theorem RegsOnly.eng (h : RegsOnly s t) (e : Nat) : t.eng e = s.eng e := by
  rw [RegsOnly] at h
  rw [← h]
  rfl

/-- The stickies leave FLAGS for the registers of the engine's page (R142): no other engine changes. -/
theorem State.eng_foldStickies (s : State) (e e' : Nat) : (s.foldStickies e).eng e' =
    if e' = e then (s.eng e).setReg cFlags ((s.eng e).reg cFlags % 4) else s.eng e' := by
  unfold State.foldStickies
  extract_lets engine flags
  split
  extract_lets sat v dz noted arith
  have hsat : RegsOnly s sat := .ite (.stripEvent (.put (.refl s)) _ _ _) (.refl s)
  have hv : RegsOnly s v := .ite hsat.put hsat
  have hdz : RegsOnly s dz := .ite hv.put hv
  have hnoted : RegsOnly s noted := hdz.put.put
  have harith : RegsOnly s arith := .ite hnoted.put.put hdz
  split
  · next h => rw [h, State.eng_setEng_same]
  · next h => rw [State.eng_setEng_other _ _ _ _ h, harith.eng]

/-- A snapshot of a register takes the selection away, and no other engine changes (R175). -/
theorem State.eng_seCapture (s : State) (e : Nat) (out : Bool) (n e' : Nat) : (s.seCapture e out n).eng e' =
    if e' = e then { s.eng e with qsel := ((s.seCapture e out n).eng e).qsel } else s.eng e' := by
  unfold State.seCapture
  extract_lets engine q v words named selected
  have hnamed : RegsOnly s named := .put (.put (.put (.put (.put (.refl s)))))
  split
  · split
    · next h => rw [h]
    · rfl
  · split
    · next h => rw [h, State.eng_setEng_same, show selected = s.eng e from hnamed.eng e]
    · next h => rw [State.eng_setEng_other _ _ _ _ h, State.eng_put, hnamed.eng]

/-! ## Strip boundaries (R142, R196, R197) -/

theorem Se.key_strip {t : Se} (h : t.handler = none) (c : Nat) : t.key c = c := by
  rw [Se.key, h]
  rfl

/-- STRIP_BEGIN outside a delay slot of what is not the engine's strip. -/
theorem stripBegin_foreign (h : s.seUp e = true) {out : Bool} {n : Nat} (hne : s.stripEngine out n ≠ e) :
    exec (.stripBegin e out n) s = .next (s.ctrlIllegal e) := by
  have hmine : (s.stripEngine out n == e) = false := beq_eq_false_iff_ne.2 hne
  show execStripBegin e out n s = _
  rw [execStripBegin, h, hmine, if_neg (by decide), Bool.false_and, if_pos (.inr (.inr rfl))]
  rfl

/-- The engine as STRIP_BEGIN has it, its bundle not yet ended: the stickies folded, GATHER_POS 0 and the checkpoint taken. -/
def Se.atStrip (t : Se) (out : Bool) (n : Nat) : Se :=
  { (t.setReg cFlags (t.reg cFlags % 4)).setReg cGather 0 with
    strip := some (out, n), entry := ((t.setReg cFlags (t.reg cFlags % 4)).setReg cGather 0).regs, begun := t.begun ++ [(out, n)],
    gfault := false }

theorem stripBegin_eq (h : s.seUp e = true) {out : Bool} {n : Nat} (hb : (s.eng e).branch = none) (hh : (s.eng e).handler = none)
    (hm : s.stripEngine out n = e) (hn : n < (if out then numBuses s.rate else inStrips s.rate)) :
    exec (.stripBegin e out n) s = .next (((s.foldStickies e).put Reg.SE_GFLT_VALID e 0).setEng e
      { ((s.eng e).atStrip out n).endBundle none none with entryPc := (((s.eng e).atStrip out n).endBundle none none).pc }) := by
  have hmine : (s.stripEngine out n == e && decide (n < if out then numBuses s.rate else inStrips s.rate)) = true := by
    rw [hm, beq_self_eq_true, decide_eq_true hn, Bool.and_self]
  show execStripBegin e out n s = _
  simp only [execStripBegin, Se.atStrip, h, hmine, hb, hh, State.eng_foldStickies, Bool.not_true, Bool.false_eq_true,
    Option.isSome_none, or_self, ↓reduceIte]
  rfl

/-- The entry checkpoint of the strip bank. -/
theorem Se.entry_atStrip {t : Se} (hh : t.handler = none) (out : Bool) (n : Nat) : tget 0 (t.atStrip out n).entry cGather = 0 ∧
    ∀ r, r < 16 → tget 0 (t.atStrip out n).entry r = t.reg r := by
  have hread : ∀ c, tget 0 (t.atStrip out n).entry c = ((t.setReg cFlags (t.reg cFlags % 4)).setReg cGather 0).reg c := fun c => by
    rw [Se.reg, Se.key_strip (t := (t.setReg cFlags (t.reg cFlags % 4)).setReg cGather 0) hh]
    rfl
  refine ⟨(hread _).trans (Se.reg_setReg_same _ _ _), fun r hr => ?_⟩
  have hgather : r ≠ cGather := Nat.ne_of_lt (Nat.lt_trans hr (by decide))
  have hflags : r ≠ cFlags := Nat.ne_of_lt (Nat.lt_trans hr (by decide))
  rw [hread, Se.reg_setReg_other _ _ (by decide) (by omega) hgather, Se.reg_setReg_other _ _ (by decide) (by omega) hflags]

/-- What the strip's end leaves in the engine, its selection and its stickies apart (R197). -/
theorem stripEnd_eq (h : s.seUp e = true) {out : Bool} {n : Nat} (res dout : Word) (send : Nat) (hb : (s.eng e).branch = none)
    (hh : (s.eng e).handler = none) (hs : (s.eng e).strip = some (out, n)) :
    exec (.stripEnd e res dout send) s = .next (((s.setEng e { (s.eng e).endBundle none none with
      strip := none, ended := (out, n),
      done := ((s.eng e).endBundle none none).done ++ [(out, n, res, dout, send % 2 ^ 24)] }).seCapture e out n).foldStickies e) := by
  show execStripEnd e res dout send s = _
  simp only [execStripEnd, h, hb, hh, hs, Bool.not_true, Bool.false_eq_true, Option.isSome_none, or_self, ↓reduceIte]
  rfl

/-- SE_QSEL on a page whose domain is ON. -/
theorem seQsel_on (he : e < 34) (v : Word) (h : s.domState (pageDomain (0x10 + e)) = 3) :
    exec (.seQsel e v) s = .next ((s.put Reg.SE_QVALID e 0).setEng e { s.eng e with qsel := v.toNat % 128 + 1 }) := by
  show execSeQsel e v s = _
  rw [execSeQsel, State.atPage_on h, if_neg (Nat.not_le.2 he)]
  rfl

/-- Settles O15: the bundle of a strip boundary ends as any other, and the checkpoint, the strip and its result stay through it. -/
theorem seStripBoundaries : Obligations.SeStripBoundaries := by
  refine ⟨fun s e n out h hb hh hm hn => ?_, fun s e n out h _ hne => stripBegin_foreign h hne,
    fun s e n send res dout out h hb hh hs => ?_, fun s e v he hd => ?_⟩
  · obtain ⟨hgather, hdata⟩ := Se.entry_atStrip hh out n
    have hentry := Se.kept_endBundle Se.entry (fun _ => rfl) ((s.eng e).atStrip out n) none none
    have hstrip := Se.kept_endBundle Se.strip (fun _ => rfl) ((s.eng e).atStrip out n) none none
    have hbegin := stripBegin_eq h hb hh hm hn
    generalize ((s.eng e).atStrip out n).endBundle none none = u at hentry hstrip hbegin
    refine ⟨_, hbegin, ?_, ?_, ?_, ?_, fun e' he' => ?_⟩
    · rw [State.eng_setEng_same]
      exact hstrip
    · rw [State.eng_setEng_same, hentry]
      exact hgather
    · rw [State.eng_setEng_same, hentry]
      exact hdata
    · rw [State.get_setEng, State.get_put_same _ Reg.SE_GFLT_VALID]
      rfl
    · rw [State.eng_setEng_other _ _ _ _ he', State.eng_put, State.eng_foldStickies, if_neg he']
  · have hdone := Se.kept_endBundle Se.done (fun _ => rfl) (s.eng e) none none
    have hend := stripEnd_eq h res dout send hb hh hs
    generalize (s.eng e).endBundle none none = u at hdone hend
    refine ⟨_, hend, ?_, ?_, fun e' he' => ?_⟩
    · rw [State.eng_foldStickies, if_pos rfl, State.eng_seCapture, if_pos rfl, State.eng_setEng_same]
      rfl
    · rw [State.eng_foldStickies, if_pos rfl, State.eng_seCapture, if_pos rfl, State.eng_setEng_same, hdone]
      rfl
    · rw [State.eng_foldStickies, if_neg he', State.eng_seCapture, if_neg he', State.eng_setEng_other _ _ _ _ he']
  · exact ⟨_, seQsel_on he v hd, OnlyWords.put _ _ _ _, State.get_put_same _ _ _ _⟩

end Sys2Proof.Machine
end

section
/-! SUPPORT. Bridge cores at work: the sample event, the test-and-set and what any instruction keeps. Statement O23. -/

namespace Sys2Proof.Machine

variable {s t : State} {c : Nat}

/-! ## Cores -/

@[simp] theorem State.bcore_setBc_same (s : State) (c : Nat) (f : Bc → Bc) : (s.setBc c f).bcore c = f (s.bcore c) :=
  tget_tput_same _ _ _ _

theorem State.bcore_setBc_other (s : State) (f : Bc → Bc) {k : Nat} (h : k ≠ c) : (s.setBc c f).bcore k = s.bcore k :=
  tget_tput_other _ _ _ _ _ _ h

theorem State.onBc_runs (h : s.bcRuns c = true) (f : Bc → State → State) : s.onBc c f = .next (f (s.bcore c) s) := by
  rw [State.onBc, if_pos h]
  rfl

theorem State.lt_of_bcRuns (h : s.bcRuns c = true) : c < 2 := by
  simp only [State.bcRuns, State.bcUp, Bool.and_eq_true, decide_eq_true_eq] at h
  obtain ⟨⟨⟨⟨⟨hc, -⟩, -⟩, -⟩, -⟩, -⟩ := h
  exact hc

/-! ## WAITS (R172, R177) -/

/-- A sticky flag that is set reaches its bit of BC_ARITH and the interrupt. -/
def State.arithFlag (s : State) (c : Nat) (f : Fld) (on : Bool) : State := if on then (s.put f c 1).irq Reg.BC_IRQ_ARITH c else s

/-- The sticky flags reach BC_ARITH (R177). -/
def State.bcArith (s : State) (c flags : Nat) : State :=
  ((if bit flags 0 then s.put Reg.BC_SAT c 1 else s).arithFlag c Reg.BC_V (bit flags 1)).arithFlag c Reg.BC_DZ (bit flags 2)

/-- WAITS has reported the flags and the cycles since the event. -/
def State.bcReported (s : State) (c : Nat) : State :=
  let t := s.bcArith c (s.bcore c).core.flags
  t.keepMax Reg.BC_CC_MAX c (min 0xFFFF ((t.clk.now - (s.bcore c).at') / t.clk.div))

/-- A core that waits has its flags clear. -/
def Bc.waiting (b : Bc) : Bc := { b with core := { b.core with flags := 0 }, waits := true }

/-- The register words that WAITS of a core stores. -/
def waitsWords (c : Nat) : List Nat := [0xC004C + 0x1000 * c, 0xC0010 + 0x1000 * c, 0xC0044 + 0x1000 * c]

theorem fldAt_bcPage {f : Fld} (h : f.per = 1 ∧ f.pst = 0x1000 ∧ f.step = 0) (c : Nat) : fldAt f c = f.addr + 0x1000 * c := by
  obtain ⟨hper, hpst, hstep⟩ := h
  rw [fldAt, hper, hpst, hstep, Nat.div_one, Nat.zero_mul, Nat.add_zero]

theorem waitsWords_mem (c : Nat) : fldAt Reg.BC_SAT c ∈ waitsWords c ∧ fldAt Reg.BC_V c ∈ waitsWords c ∧
    fldAt Reg.BC_DZ c ∈ waitsWords c ∧ fldAt Reg.BC_IRQ_ARITH c ∈ waitsWords c ∧ fldAt Reg.BC_CC_MAX c ∈ waitsWords c := by
  refine ⟨?_, ?_, ?_, ?_, ?_⟩ <;> rw [fldAt_bcPage ⟨rfl, rfl, rfl⟩] <;> simp [waitsWords, Reg.BC_SAT, Reg.BC_V, Reg.BC_DZ, Reg.BC_IRQ_ARITH, Reg.BC_CC_MAX]

/-- A flag that is set stores its bit and the interrupt. -/
theorem OnlyWords.arithFlag {ks : List Nat} {f : Fld} {on : Bool} (h : OnlyWords ks s t) (hf : fldAt f c ∈ ks)
    (hirq : fldAt Reg.BC_IRQ_ARITH c ∈ ks) : OnlyWords ks s (t.arithFlag c f on) := .ite ((h.putIn 1 hf).putIn 1 hirq) h

theorem State.bcArith_only (s : State) (c flags : Nat) : OnlyWords (waitsWords c) s (s.bcArith c flags) := by
  obtain ⟨hsat, hv, hdz, hirq, -⟩ := waitsWords_mem c
  have h0 := OnlyWords.refl (waitsWords c) s
  have h1 : OnlyWords (waitsWords c) s (if bit flags 0 then s.put Reg.BC_SAT c 1 else s) := .ite (h0.putIn 1 hsat) h0
  exact (h1.arithFlag hv hirq).arithFlag hdz hirq

theorem State.bcReported_only (s : State) (c : Nat) : OnlyWords (waitsWords c) s (s.bcReported c) := by
  obtain ⟨-, -, -, -, hmax⟩ := waitsWords_mem c
  have h := s.bcArith_only c (s.bcore c).core.flags
  exact .ite (h.putIn _ hmax) h

theorem partnerWords_notWaits (hc : c < 2) {a : Nat} (h : a ∈ partnerWords) : a ∉ waitsWords c := by
  have hp : a = 0xA8040 ∨ a = 0xA8044 ∨ a = 0xA2044 := by simpa [partnerWords, fldAt, Reg.STBY_PAIR, Reg.STBY_ACTIVE, Reg.KZL_UP] using h
  simp only [waitsWords, List.mem_cons, List.not_mem_nil, or_false]
  omega

/-- Reporting touches nothing that tells whether the partner follows. -/
theorem State.partnerFollows_bcReported (s : State) (hc : c < 2) : (s.bcReported c).partnerFollows = s.partnerFollows := by
  obtain ⟨hframe, hword⟩ := s.bcReported_only c
  exact State.partnerFollows_congr (fun a ha => hword a (partnerWords_notWaits hc ha)) (by rw [hframe])

theorem State.bcore_bcReported (s : State) (c k : Nat) : (s.bcReported c).bcore k = s.bcore k := by
  rw [(s.bcReported_only c).1]
  rfl

/-- A core's next address is a free value; nothing else of the core changes. -/
theorem State.bcore_bcNext_same (s : State) (c : Nat) :
    ∃ v, (s.bcNext c).bcore c = { s.bcore c with core := { (s.bcore c).core with pc := v } } := ⟨_, tget_tput_same _ _ _ _⟩

theorem State.bcore_bcNext_other (s : State) {k : Nat} (h : k ≠ c) : (s.bcNext c).bcore k = s.bcore k := tget_tput_other _ _ _ _ _ _ h

/-- WAITS has reported, and the core waits at its next instruction. -/
def State.waited (s : State) (c : Nat) : State := ((s.bcReported c).setBc c Bc.waiting).bcNext c

/-- WAITS of a core with no reseed, no query and no partner that follows: the core waits, unless its event is taken at once. -/
theorem waits_eq (h : s.bcRuns c = true) (hreseed : (s.bcore c).reseed = false) (hq : (s.bcore c).qsel = 0)
    (hp : s.partnerFollows = false) : exec (.waits c) s = .next
      (if (s.bcore c).event && !(s.bcore c).held then (s.waited c).bcTake c (s.bcore c).at'
        else s.waited c) := by
  have hcapture : ((s.bcReported c).setBc c Bc.waiting).bcCapture c = (s.bcReported c).setBc c Bc.waiting := by
    refine if_pos ?_
    rw [State.bcore_setBc_same, State.bcore_bcReported]
    exact hq
  have hsnap : State.snapCore c (((s.bcReported c).setBc c Bc.waiting).bcNext c) = ((s.bcReported c).setBc c Bc.waiting).bcNext c := by
    have hnone : (((s.bcReported c).setBc c Bc.waiting).bcNext c).partnerFollows = false :=
      (s.partnerFollows_bcReported (State.lt_of_bcRuns h)).trans hp
    rw [State.snapCore, hnone]
    rfl
  show execWaits c s = _
  rw [execWaits, State.onBc_runs h]
  show ok (if (s.bcore c).reseed && !(s.bcore c).log.isEmpty then
      (State.snapCore c ((((s.bcReported c).setBc c Bc.waiting).bcCapture c).bcNext c)).bcReplay c
    else if (s.bcore c).event && !(s.bcore c).held then
      (State.snapCore c ((((s.bcReported c).setBc c Bc.waiting).bcCapture c).bcNext c)).bcTake c (s.bcore c).at'
    else State.snapCore c ((((s.bcReported c).setBc c Bc.waiting).bcCapture c).bcNext c)) = _
  rw [hcapture, hsnap, hreseed, Bool.false_and, if_neg Bool.false_ne_true]
  rfl

/-- A flag's interrupt is in another word than the flags. -/
theorem State.get_arithFlag_apart (s : State) {f g : Fld} (on : Bool) (hg : g.hi < 32) (happart : g.hi < f.lo ∨ f.hi < g.lo)
    (hirq : fldAt g c ≠ fldAt Reg.BC_IRQ_ARITH c) : (s.arithFlag c f on).get g c = s.get g c := by
  rw [State.arithFlag]
  split
  · rw [State.irq, State.get_put_word _ _ _ _ _ _ hirq, State.get_put_apart _ _ _ _ _ _ hg happart]
  · rfl

theorem State.get_arithFlag_same (s : State) {f : Fld} (on : Bool) (hf : f.hi < 32) (hwidth : fldWidth f = 1)
    (hirq : fldAt f c ≠ fldAt Reg.BC_IRQ_ARITH c) : (s.arithFlag c f on).get f c = if on then 1 else s.get f c := by
  cases on with
  | true =>
    show ((s.put f c 1).put Reg.BC_IRQ_ARITH c 1).get f c = 1
    rw [State.get_put_word _ _ _ _ _ _ hirq, State.get_put_same _ _ _ _ hf, hwidth]
    rfl
  | false => rfl

/-- The flags share a word of the core's page, and neither its interrupts nor its longest time are in it. -/
theorem arithWord_apart (c : Nat) {f : Fld} (hf : f.per = 1 ∧ f.pst = 0x1000 ∧ f.step = 0) (haddr : f.addr = 0xC004C) :
    fldAt f c ≠ fldAt Reg.BC_IRQ_ARITH c ∧ fldAt f c ≠ fldAt Reg.BC_CC_MAX c := by
  rw [fldAt_bcPage hf, fldAt_bcPage ⟨rfl, rfl, rfl⟩, fldAt_bcPage ⟨rfl, rfl, rfl⟩, haddr]
  simp [Reg.BC_IRQ_ARITH, Reg.BC_CC_MAX]

theorem State.get_keepMax_word (s : State) {f g : Fld} (v : Nat) (h : fldAt g c ≠ fldAt f c) : (s.keepMax f c v).get g c = s.get g c := by
  rw [State.keepMax]
  split
  · exact s.get_put_word f g c c _ h
  · rfl

/-- BC_ARITH shows each sticky flag that was set, and keeps the others (R177). -/
theorem State.bcReported_flags (s : State) (c : Nat) :
    (s.bcReported c).get Reg.BC_SAT c = (if bit (s.bcore c).core.flags 0 then 1 else s.get Reg.BC_SAT c) ∧
    (s.bcReported c).get Reg.BC_V c = (if bit (s.bcore c).core.flags 1 then 1 else s.get Reg.BC_V c) ∧
    (s.bcReported c).get Reg.BC_DZ c = (if bit (s.bcore c).core.flags 2 then 1 else s.get Reg.BC_DZ c) := by
  obtain ⟨hsatIrq, hsatMax⟩ := arithWord_apart c (f := Reg.BC_SAT) ⟨rfl, rfl, rfl⟩ rfl
  obtain ⟨hvIrq, hvMax⟩ := arithWord_apart c (f := Reg.BC_V) ⟨rfl, rfl, rfl⟩ rfl
  obtain ⟨hdzIrq, hdzMax⟩ := arithWord_apart c (f := Reg.BC_DZ) ⟨rfl, rfl, rfl⟩ rfl
  have hfirst : ∀ g : Fld, g.hi < 32 → 0 < g.lo →
      (if bit (s.bcore c).core.flags 0 then s.put Reg.BC_SAT c 1 else s).get g c = s.get g c := by
    intro g hg hlo
    split
    · exact s.get_put_apart _ _ _ _ _ hg (.inr hlo)
    · rfl
  refine ⟨?_, ?_, ?_⟩
  · rw [State.bcReported, State.get_keepMax_word _ _ hsatMax, State.bcArith,
      State.get_arithFlag_apart _ _ (by decide) (by decide) hsatIrq, State.get_arithFlag_apart _ _ (by decide) (by decide) hsatIrq]
    split
    · exact s.get_put_same Reg.BC_SAT c 1
    · rfl
  · rw [State.bcReported, State.get_keepMax_word _ _ hvMax, State.bcArith,
      State.get_arithFlag_apart _ _ (by decide) (by decide) hvIrq, State.get_arithFlag_same _ _ (by decide) rfl hvIrq,
      hfirst _ (by decide) (by decide)]
  · rw [State.bcReported, State.get_keepMax_word _ _ hdzMax, State.bcArith,
      State.get_arithFlag_same _ _ (by decide) rfl hdzIrq, State.get_arithFlag_apart _ _ (by decide) (by decide) hdzIrq,
      hfirst _ (by decide) (by decide)]

/-- WAITS changes the core, the register words it reports in and the free values drawn. -/
theorem State.waited_frame (s : State) (c : Nat) :
    s.waited c = { s with bc := (s.waited c).bc, regs := (s.waited c).regs, free := (s.waited c).free } := by
  have hreported : s.bcReported c = { s with regs := (s.bcReported c).regs } := (s.bcReported_only c).1
  rw [State.waited]
  generalize s.bcReported c = r at hreported
  rw [hreported]
  rfl

theorem State.bcore_waited_same (s : State) (c : Nat) : ((s.waited c).bcore c).waits = true ∧ ((s.waited c).bcore c).core.flags = 0 := by
  obtain ⟨v, hv⟩ := ((s.bcReported c).setBc c Bc.waiting).bcore_bcNext_same c
  rw [State.waited, hv, State.bcore_setBc_same]
  exact ⟨rfl, rfl⟩

theorem State.bcore_waited_other (s : State) {k : Nat} (h : k ≠ c) : (s.waited c).bcore k = s.bcore k := by
  rw [State.waited, State.bcore_bcNext_other _ h, State.bcore_setBc_other _ _ h, State.bcore_bcReported]

/-- An instruction has given the core what the model lets it change. -/
def Bc.kept (b : Bc) (d : BcData) (b' : Bc) : Bc := { b' with core := bcKeep b d }

/-! ## The test-and-set (R502) -/

/-- A test-and-set that may not be locked gets an error response. -/
theorem testAndSet_refused (addr : Nat) (h : s.bcRuns c = true) (hlock : s.lockAllowed (0x28 + c) addr 4 = false) :
    ∃ t : State, exec (.testAndSet c addr) s = .next t ∧ tget none t.mem.resp (0x28 + c) = some ⟨addr, true, []⟩ ∧
      t.mem.sram = s.mem.sram ∧ t.mem.dram = s.mem.dram ∧ t.mem.locks = s.mem.locks := by
  refine ⟨((s.draw.2.respond (0x28 + c) addr true []).setBc c
    ((s.bcore c).kept (Config.tasCore s.draw.1 (s.bcore c).fp (s.bcore c).core))), ?_, tget_tput_same _ _ _ _, rfl, rfl, rfl⟩
  show execTestAndSet c addr s = _
  rw [execTestAndSet, State.onBc_runs h]
  dsimp only
  rw [hlock, Bool.not_false, Bool.true_or, if_pos rfl]
  rfl

/-- The state in which the word of a test-and-set is rewritten: the grant is counted, the bytes are stored. -/
def State.tasGranted (s : State) (c addr : Nat) : State :=
  (s.countGrant ((addr - 0x10000000) / 0x800000) { master := 0x28 + c, access := .lockRead 4, addr := addr, since := s.clk.now }).sramWrite
    (addr - 0x10000000) (leBytes 4 (Config.tasWord (ofLeBytes (s.sramRead (addr - 0x10000000) 4)) % 2 ^ 32))

theorem State.tasGranted_mem (s : State) (c addr : Nat) :
    (s.tasGranted c addr).mem.dram = s.mem.dram ∧ (s.tasGranted c addr).mem.locks = s.mem.locks := ⟨rfl, rfl⟩

theorem State.tasGranted_byte (s : State) (c addr a : Nat) : tget 0 (s.tasGranted c addr).mem.sram a =
    if addr - 0x10000000 ≤ a ∧ a < addr - 0x10000000 + 4 then
      (leBytes 4 (Config.tasWord (ofLeBytes (s.sramRead (addr - 0x10000000) 4)) % 2 ^ 32)).getD (a - (addr - 0x10000000)) 0
    else tget 0 s.mem.sram a := by
  rw [State.tasGranted, State.sramWrite_byte]
  simp only [length_leBytes]
  split
  · exact (List.getD_eq_getElem _ _ _).symm
  · rfl

/-- A test-and-set of a word that no one holds up stores the word and returns to the core. -/
theorem testAndSet_granted (addr : Nat) (h : s.bcRuns c = true) (hpath : s.flt.paths.contains (0x28 + c) = false)
    (hlock : s.lockAllowed (0x28 + c) addr 4 = true)
    (hfree : s.blocked ((addr - 0x10000000) / 0x800000) { master := 0x28 + c, access := .lockRead 4, addr := addr, since := s.clk.now } = false) :
    ∃ f : Bc → Bc, exec (.testAndSet c addr) s = .next ((s.tasGranted c addr).setBc c f) := by
  refine ⟨(s.bcore c).kept (Config.tasCore (ofLeBytes (s.sramRead (addr - 0x10000000) 4)) (s.bcore c).fp (s.bcore c).core), ?_⟩
  show execTestAndSet c addr s = _
  rw [execTestAndSet, State.onBc_runs h]
  dsimp only
  rw [hlock, hpath, hfree, Bool.not_true, Bool.or_self, if_neg Bool.false_ne_true, if_neg Bool.false_ne_true]
  rfl

/-! ## What any instruction keeps (R168, R171) -/

/-- A run of stores leaves a key alone that it does not meet. -/
theorem tget_forRange_tput (v : Nat → Nat) (base n lo : Nat) (r : Tbl Nat) {k : Nat} (hk : k < base + lo ∨ base + (lo + n) ≤ k) :
    tget 0 (forRange (fun h r => tput 0 r (base + h) (v h)) lo n r) k = tget 0 r k :=
  forRange_relates (R := fun r r' : Tbl Nat => tget 0 r' k = tget 0 r k) (fun _ => rfl) (fun hxy hyz => hyz.trans hxy) n lo
    (fun i _ hlo hi => tget_tput_other _ _ _ _ _ _ (by omega)) r

/-- An instruction reaches no register outside the current window. -/
theorem bcKeep_reg (b : Bc) (d : BcData) {w h : Nat} (hw : w ≠ b.fp) (hh : h < 16) : (bcKeep b d).reg w h = b.core.reg w h := by
  have hapart : 16 * w + h < 16 * b.fp + 0 ∨ 16 * b.fp + (0 + 16) ≤ 16 * w + h := by omega
  simp only [BcData.reg, bcKeep]
  exact tget_forRange_tput _ _ _ _ _ hapart

theorem tget_tableOf_lt (n : Nat) (t : Tbl Nat) (a : Nat) : tget 0 (tableOf n t) a < 2 ^ 24 := by
  refine forEach_keeps (P := fun r : Tbl Nat => tget 0 r a < 2 ^ 24) (fun p r hr => ?_) t [] (Nat.two_pow_pos 24)
  split
  · rw [tget_tput]
    split
    · exact Nat.mod_lt _ (by decide)
    · exact hr
  · exact hr

/-- Words of a core's memory have 24 bits (R169). -/
theorem bcKeep_word_lt (b : Bc) (d : BcData) (a : Nat) : (bcKeep b d).word a < 2 ^ 24 := by
  rw [BcData.word]
  split
  · exact tget_tableOf_lt bcWords d.mem a
  · decide

theorem bridgeInstruction_eq (instr : Nat) (h : s.bcRuns c = true) : exec (.bridgeInstruction c instr) s =
    .next (s.setBc c ((s.bcore c).kept (Config.camlor instr (s.bcore c).fp (s.bcore c).core))) := by
  show execBridgeInstruction c instr s = _
  rw [execBridgeInstruction, State.onBc_runs h]
  rfl

/-- Settles O23: the reported flags and the wait, the granted and the refused test-and-set, and what `bcKeep` lets through. -/
theorem bridgeCoresAtWork : Obligations.BridgeCoresAtWork := by
  intro s c h b
  refine ⟨fun hreseed hevent hq hp => ?_, fun hreseed hevent hheld hq hp => ?_, fun addr hpath hlock hfree => ?_,
    fun addr hlock => testAndSet_refused addr h hlock, fun instr => ?_⟩
  · obtain ⟨hsat, hv, hdz⟩ := s.bcReported_flags c
    obtain ⟨hwaits, hflags⟩ := s.bcore_waited_same c
    refine ⟨_, ?_, hwaits, hflags, hsat, hv, hdz, fun k hk => s.bcore_waited_other hk, s.waited_frame c⟩
    rw [waits_eq h hreseed hq hp, hevent, Bool.false_and, if_neg Bool.false_ne_true]
  · refine ⟨(s.waited c).bcTake c (s.bcore c).at', ?_, ?_, ?_⟩
    · rw [waits_eq h hreseed hq hp, hevent, hheld, Bool.not_false, Bool.and_self, if_pos rfl]
    · rw [State.bcTake, State.bcore_setBc_same]
    · rw [State.bcTake, State.bcore_setBc_same]
  · obtain ⟨f, hexec⟩ := testAndSet_granted addr h hpath hlock hfree
    obtain ⟨hdram, hlocks⟩ := s.tasGranted_mem c addr
    exact ⟨_, hexec, hdram, hlocks, s.tasGranted_byte c addr⟩
  · refine ⟨_, bridgeInstruction_eq instr h, ?_⟩
    rw [State.bcore_setBc_same]
    simp only [Bc.kept]
    exact ⟨rfl, rfl, rfl, rfl, fun w r hw hr => bcKeep_reg _ _ hw hr, bcKeep_word_lt _ _, fun k hk => State.bcore_setBc_other _ _ hk, rfl⟩

end Sys2Proof.Machine
end

section
/-! SUPPORT. Where a strip engine goes after a bundle: branches, delay slots and repeats. Statements O11 and O13. -/

namespace Sys2Proof.Machine

variable {s : State} {e : Nat} {t : Se}

/-! ## Where a bundle leads (R178, R184) -/

/-- What says where an engine goes: its bundle, a branch on its way and the active repeats. -/
def Se.flow (t : Se) : Nat × Option (Nat × Nat) × List SeRepeat := (t.pc, t.branch, t.reps)

theorem Se.flow_postModified (t : Se) : t.postModified.flow = t.flow := by
  refine List.foldlRecOn (motive := fun u : Se => u.flow = t.flow) _ _ rfl ?_
  intro u hu an _
  split
  · exact hu
  · exact hu

theorem Se.flow_bundleLanded (t : Se) : t.bundleLanded.flow = t.flow := rfl

theorem Se.flow_bundleFlags (t : Se) (zn : Option Nat) (sticky : Nat) : (t.bundleFlags zn sticky).flow = t.flow := by
  unfold Se.bundleFlags
  split <;> rfl

theorem Se.flow_divDone (t : Se) : t.divDone.flow = t.flow := by
  unfold Se.divDone
  split
  · rfl
  · dsimp only
    split <;> rfl

theorem Se.flow_bundleDiv (t : Se) : t.bundleDiv.flow = t.flow := by
  unfold Se.bundleDiv
  split
  · split
    · exact t.flow_divDone
    · rfl
  · rfl

/-- A bundle that ends no repeat counts none. -/
theorem Se.endRepeats_body (h : ∀ r ∈ t.reps.head?, r.last ≠ t.pc) (k next : Nat) : t.endRepeats k next = (t, next) := by
  cases k with
  | zero => rfl
  | succ k =>
    unfold Se.endRepeats
    split
    · rfl
    · next r rest hreps => rw [if_pos (h r (by rw [hreps]; rfl))]

/-- At no repeat's END, control finds the engine's branch and repeats as they stood in the bundle. -/
theorem Se.endBundle_inBody (hin : ∀ r ∈ t.reps.head?, r.last ≠ t.pc) (jump go : Option Nat) :
    ∃ u : Se, u.branch = t.branch ∧ u.reps = t.reps ∧ t.endBundle jump go = u.bundleGoes ((t.pc + 1) % 8192) jump go := by
  have hflow := ((t.postModified.bundleLanded.bundleFlags t.postModified.zn t.postModified.sticky).flow_bundleDiv.trans
    (Se.flow_bundleFlags _ _ _)).trans (t.postModified.flow_bundleLanded.trans t.flow_postModified)
  rw [Se.endBundle_eq]
  generalize (t.postModified.bundleLanded.bundleFlags t.postModified.zn t.postModified.sticky).bundleDiv = u at hflow ⊢
  obtain ⟨hpc, hbranch, hreps⟩ : u.pc = t.pc ∧ u.branch = t.branch ∧ u.reps = t.reps := by simpa [Se.flow] using hflow
  exact ⟨u, hbranch, hreps, by rw [Se.bundleNext, Se.endRepeats_body (by rwa [hreps, hpc]), hpc]⟩

theorem Se.bundleGoes_free (hb : t.branch = none) (next : Nat) (jump : Option Nat) :
    t.bundleGoes next jump none = { t with pc := next, branch := jump.map (·, 2) } := by
  obtain ⟨⟩ := t
  subst hb
  cases jump <;> rfl

/-- Outside a delay slot and at no repeat's END, the next bundle issues, and a jump is two delay slots away. -/
theorem Se.endBundle_goes (hb : t.branch = none) (hin : ∀ r ∈ t.reps.head?, r.last ≠ t.pc) (jump : Option Nat) :
    (t.endBundle jump none).pc = (t.pc + 1) % 8192 ∧ (t.endBundle jump none).branch = jump.map (·, 2) ∧
      (t.endBundle jump none).reps = t.reps := by
  obtain ⟨u, hbranch, hreps, hend⟩ := Se.endBundle_inBody hin jump none
  rw [hend, Se.bundleGoes_free (hbranch.trans hb)]
  exact ⟨rfl, rfl, hreps⟩

/-- There, a control operation that issues its own next bundle opens no branch. -/
theorem Se.endBundle_skips (hb : t.branch = none) (hin : ∀ r ∈ t.reps.head?, r.last ≠ t.pc) (jump : Option Nat) (a : Nat) :
    (t.endBundle jump (some a)).pc = a % 8192 ∧ (t.endBundle jump (some a)).branch = none ∧
      (t.endBundle jump (some a)).reps = t.reps := by
  obtain ⟨u, hbranch, hreps, hend⟩ := Se.endBundle_inBody hin jump (some a)
  rw [hend]
  exact ⟨rfl, hbranch.trans hb, hreps⟩

/-! ## Conditions (R182) -/

theorem condHolds_defined {cond : Nat} (h : cond < 8) (flags : Nat) : ∃ b, condHolds cond flags = some b := by
  unfold condHolds
  interval_cases cond <;> exact ⟨_, rfl⟩

theorem condHolds_reserved {cond : Nat} (h : 8 ≤ cond) (flags : Nat) : condHolds cond flags = none := by
  unfold condHolds
  dsimp only
  rw [if_neg (by omega), if_neg (by omega), if_neg (by omega), if_neg (by omega), if_neg (by omega), if_neg (by omega),
    if_neg (by omega), if_neg (by omega)]

/-! ## Control operations outside a delay slot, and in one (R183) -/

theorem State.onCtrlNotSlot_free (s : State) (h : s.seUp e = true) (hb : (s.eng e).branch = none) (f : Se → Se) :
    s.onCtrlNotSlot e f = .next (s.setEng e (f (s.eng e))) := by
  rw [State.onCtrlNotSlot, h, hb]
  rfl

theorem State.onCtrlNotSlot_slot (h : s.seUp e = true) (hb : (s.eng e).branch.isSome = true) (f : Se → Se) :
    s.onCtrlNotSlot e f = .next (s.ctrlIllegal e) := by
  rw [State.onCtrlNotSlot, h, if_neg (by decide), if_pos hb]
  rfl

theorem State.repeat_free (h : s.seUp e = true) (hb : (s.eng e).branch = none) (hreps : (s.eng e).reps = []) (last : Nat)
    (count : Se → Nat) : s.repeat e last count = .next (s.setEng e ((s.eng e).openRepeat (count (s.eng e)) last)) := by
  rw [State.repeat, h, hb, hreps]
  rfl

theorem State.repeat_slot (h : s.seUp e = true) (hb : (s.eng e).branch.isSome = true) (last : Nat) (count : Se → Nat) :
    s.repeat e last count = .next (s.ctrlIllegal e) := by
  rw [State.repeat, h, if_neg (by decide), if_pos (.inl hb)]
  rfl

theorem exec_br (s : State) (e target : Nat) :
    exec (.br e target) s = s.onCtrlNotSlot e fun t => t.endBundle (some (target % 8192)) none := rfl

theorem exec_bri (s : State) (e ds : Nat) :
    exec (.bri e ds) s = s.onCtrlNotSlot e fun t => t.endBundle (some (t.reg (cD ds) % 8192)) none := rfl

theorem brk_single (h : s.seUp e = true) (hb : (s.eng e).branch = none) {r : SeRepeat} (hreps : (s.eng e).reps = [r]) :
    exec (.brk e) s = .next (s.setEng e
      ({ (s.eng e).setReg (cLc r.lc) 0 with reps := [] }.endBundle (some ((r.last + 1) % 8192)) none)) := by
  show execBrk e s = _
  rw [execBrk, State.onCtrlNotSlot_free _ h hb, hreps]

theorem brk_slot (h : s.seUp e = true) (hb : (s.eng e).branch.isSome = true) : exec (.brk e) s = .next (s.ctrlIllegal e) := by
  show execBrk e s = _
  exact State.onCtrlNotSlot_slot h hb _

theorem exec_rep (s : State) (e count last : Nat) :
    exec (.rep e count last) s = s.repeat e (last % 8192) fun _ => count % 65536 := rfl

theorem exec_repd (s : State) (e ds last : Nat) :
    exec (.repd e ds last) s = s.repeat e (last % 8192) fun t => t.reg (cD ds) % 65536 := rfl

theorem brc_defined (h : s.seUp e = true) (hb : (s.eng e).branch = none) {cond : Nat} {holds : Bool}
    (hc : condHolds cond ((s.eng e).reg cFlags) = some holds) (target : Nat) : exec (.brc e cond target) s =
      .next (s.setEng e ((s.eng e).endBundle (if holds then some (target % 8192) else none) none)) := by
  show execBrc e cond target s = _
  rw [execBrc, h, hc, if_neg (by decide)]
  exact (s.onCtrlNotSlot_free h hb fun t => t.endBundle (if holds then some (target % 8192) else none) none)

theorem brc_reserved (h : s.seUp e = true) {cond : Nat} (hc : 8 ≤ cond) (target : Nat) :
    exec (.brc e cond target) s = .next (s.ctrlIllegal e) := by
  show execBrc e cond target s = _
  rw [execBrc, h, condHolds_reserved hc]
  rfl

/-- Settles O11: a branch is on its way after the bundle exactly where the condition holds. -/
theorem branchConditions : Obligations.BranchConditions := by
  intro s e target h hb hreps f branch
  have hgoes : ∀ {cond : Nat} {holds : Bool}, condHolds cond f = some holds → branch cond holds := fun {cond holds} hc => by
    obtain ⟨-, hbranch, -⟩ := Se.endBundle_goes hb (by simp [hreps]) (if holds then some (target % 8192) else none)
    refine ⟨_, brc_defined h hb hc target, hbranch.trans ?_⟩
    cases holds <;> rfl
  exact ⟨hgoes rfl, hgoes rfl, hgoes rfl, hgoes rfl, hgoes rfl, hgoes (by rw [Bool.not_or]; rfl), hgoes rfl, hgoes rfl,
    fun cond hc _ => brc_reserved h hc target⟩

/-! ## Repeats (R184, R185) -/

/-- The repeat that REP opens with no other active. -/
theorem Se.openRepeat_opens (hb : t.branch = none) (hreps : t.reps = []) {count last : Nat} (hc : 0 < count) (hl : last % 8192 ≠ t.pc) :
    (t.openRepeat count last).pc = (t.pc + 1) % 8192 ∧ (t.openRepeat count last).branch = none ∧
      (t.openRepeat count last).reps = [{ first := (t.pc + 1) % 8192, last := last % 8192, lc := 0 }] := by
  rw [Se.openRepeat, if_neg hc.ne', hreps]
  refine Se.endBundle_goes (t := { t.setReg (cLc 0) count with reps := [_] }) hb (fun r hr => ?_) none
  obtain rfl : _ = r := Option.some.inj hr
  exact hl

theorem Se.openRepeat_skips (hb : t.branch = none) (hreps : t.reps = []) (last : Nat) :
    (t.openRepeat 0 last).pc = (last + 1) % 8192 ∧ (t.openRepeat 0 last).branch = none ∧ (t.openRepeat 0 last).reps = [] := by
  rw [Se.openRepeat, if_pos rfl]
  exact hreps ▸ Se.endBundle_skips hb (by simp [hreps]) none (last + 1)

/-- The low bits of a data register are those of its word. -/
theorem Se.reg_cD_mod (t : Se) (i : Nat) {m : Nat} (hm : m ∣ 2 ^ 32) : t.reg (cD i) % m = (t.dw i).toNat % m := by
  rw [Se.dw, BitVec.toNat_ofNat, Nat.mod_mod_of_dvd _ hm]

/-- Settles O13: each operation ends its bundle with the jump, the repeat or the next address that is its own. -/
theorem seBranchesAndRepeats : Obligations.SeBranchesAndRepeats := by
  refine ⟨fun s e h hb hreps _ => ?_, fun s e r h hb hreps _ => ?_, fun s e target ds count last h hb => ?_⟩
  · intro t goes opens
    have hgoes : ∀ {o : Out} (jump : Option Nat), o = .next (s.setEng e (t.endBundle jump none)) → goes o (jump.map (·, 2)) :=
      fun jump ho => ⟨_, ho, hreps ▸ Se.endBundle_goes hb (by simp [hreps]) jump⟩
    have hopens : ∀ {o : Out} {count last : Nat}, o = .next (s.setEng e (t.openRepeat count (last % 8192))) → 0 < count →
        last % 8192 ≠ t.pc → opens o last := fun {o count last} ho hc hl => by
      have hrep := Se.openRepeat_opens hb hreps hc (last := last % 8192) (by rwa [Nat.mod_mod])
      rw [Nat.mod_mod] at hrep
      exact ⟨_, ho, hrep⟩
    refine ⟨hgoes none ?_, fun target => hgoes (some (target % 8192)) ?_, fun cond target hc => ?_, fun ds => ?_, fun count last hc hl => hopens ?_ hc hl,
      fun ds last hc hl => ?_, fun count last hc => ?_⟩
    · show execNop e s = _
      exact State.onCtrl_eq h rfl
    · rw [exec_br, State.onCtrlNotSlot_free _ h hb]
    · obtain ⟨holds, hholds⟩ := condHolds_defined hc (t.reg cFlags)
      rw [hholds]
      cases holds with
      | true => exact hgoes (some (target % 8192)) (brc_defined h hb hholds target)
      | false => exact hgoes none (brc_defined h hb hholds target)
    · rw [← t.reg_cD_mod ds (by decide)]
      refine hgoes (some _) ?_
      rw [exec_bri, State.onCtrlNotSlot_free _ h hb]
    · rw [exec_rep, State.repeat_free h hb hreps]
    · refine hopens (count := t.reg (cD ds) % 65536) ?_ (by rwa [t.reg_cD_mod ds (by decide)]) hl
      rw [exec_repd, State.repeat_free h hb hreps]
    · rw [exec_rep, State.repeat_free h hb hreps, hc]
      exact ⟨_, rfl, Se.openRepeat_skips hb hreps (last % 8192)⟩
  · obtain ⟨hpc, hbranch, hnone⟩ := Se.endBundle_goes (t := { (s.eng e).setReg (cLc r.lc) 0 with reps := [] }) hb (by simp)
      (some ((r.last + 1) % 8192))
    exact ⟨_, brk_single h hb hreps, hnone, hpc, hbranch⟩
  · rw [exec_br, exec_bri, exec_rep, exec_repd]
    exact ⟨State.onCtrlNotSlot_slot h hb _, State.onCtrlNotSlot_slot h hb _, brk_slot h hb, State.repeat_slot h hb _ _,
      State.repeat_slot h hb _ _⟩

end Sys2Proof.Machine
end

section
/-! SUPPORT. Windows and traps of the Bridge cores. Statement O22. -/

namespace Sys2Proof.Machine

variable {s : State} {c : Nat}

/-! ## How an instruction ends (R209, R210) -/

/-- An instruction leaves its effect in the core, and beside it nothing but a free next address. -/
theorem State.bcNext_ends (s : State) (n c : Nat) (f : Bc → Bc) :
    let t := (({ s with free := n } : State).setBc c f).bcNext c
    t.bcore c = { f (s.bcore c) with core := { (f (s.bcore c)).core with pc := (t.bcore c).core.pc } } ∧
      (∀ k, k ≠ c → t.bcore k = s.bcore k) ∧ t = { s with bc := t.bc, free := t.free } := by
  obtain ⟨v, hv⟩ := (({ s with free := n } : State).setBc c f).bcore_bcNext_same c
  rw [State.bcore_setBc_same] at hv
  refine ⟨?_, fun k hk => ?_, rfl⟩
  · rw [hv]
    rfl
  · rw [State.bcore_bcNext_other _ hk, State.bcore_setBc_other _ _ hk]
    rfl

/-- The core in the trap window, which keeps the address of the instruction and the old FP (R210). -/
def Bc.trapped (b : Bc) : Bc :=
  { b with core := (b.core.setReg 7 14 b.core.pc).setReg 7 13 (withBits (b.core.reg 7 13) 2 0 b.fp), fp := 7, held := true }

theorem State.frameTrap_eq (s : State) (c : Nat) : s.frameTrap c = (s.setBc c Bc.trapped).bcNext c := rfl

/-! ## Double traps (R211) -/

/-- The core has stopped and its page shows it, before the trap is reported. -/
def State.doubleTrapped (s : State) (c : Nat) : State :=
  ((s.setBc c fun b => { b with halted := true }).putB BC_HALTED (bcPage c) true).putB Hdr.RUNNING (bcPage c) false

theorem State.bcore_doubleTrapped (s : State) (c : Nat) : (s.doubleTrapped c).bcore c = { s.bcore c with halted := true } :=
  s.bcore_setBc_same c fun b => { b with halted := true }

theorem State.doubleTrapped_stat (s : State) (c : Nat) :
    (s.doubleTrapped c).get BC_HALTED (bcPage c) = 1 ∧ (s.doubleTrapped c).get Hdr.RUNNING (bcPage c) = 0 :=
  ⟨(State.get_put_apart _ _ _ _ _ _ (by decide) (by decide)).trans (State.get_put_same _ _ _ _), State.get_put_same _ _ _ _⟩

/-! ## ENTER and LEAVE (R209, R211) -/

theorem enter_runs (h : s.bcRuns c = true) : exec (.enter c) s = .next
    (if (s.bcore c).fp = 7 then s.doubleTrap c
    else if (s.bcore c).res < 7 then (s.setBc c fun b => { b with fp := (b.fp + 6) % 7, res := b.res + 1 }).bcNext c
    else s.frameTrap c) := by
  show execEnter c s = _
  rw [execEnter, State.onBc_runs h]

theorem leave_runs (h : s.bcRuns c = true) : exec (.leave c) s = .next
    (if (s.bcore c).fp = 7 then s.doubleTrap c
    else if 1 < (s.bcore c).res then (s.setBc c fun b => { b with fp := (b.fp + 1) % 7, res := b.res - 1 }).bcNext c
    else if 0 < (s.bcore c).parked then s.frameTrap c
    else s.doubleTrap c) := by
  show execLeave c s = _
  rw [execLeave, State.onBc_runs h]

/-! ## Instructions of the handler (R210) -/

theorem park3_runs (h : s.bcRuns c = true) (hres : 3 < (s.bcore c).res) (hparked : (s.bcore c).parked + 3 < 2 ^ 16) :
    exec (.park3 c) s = .next ((s.draw.2.setBc c fun b => { b with
      core := ((((s.bcore c).core.park (((s.bcore c).fpOld + 6) % 7) ((s.bcore c).core.reg 7 15)).park
        (((s.bcore c).fpOld + 5) % 7) ((s.bcore c).core.reg 7 15 + 16)).park
        (((s.bcore c).fpOld + 4) % 7) ((s.bcore c).core.reg 7 15 + 32)).setReg 7 15 ((s.bcore c).core.reg 7 15 + 48),
      res := (s.bcore c).res - 3, parked := (s.bcore c).parked + 3 }).bcNext c) := by
  show execPark3 c s = _
  rw [execPark3, State.onBc_runs h]
  dsimp only
  rw [if_pos hres, if_pos hparked]

/-- UNPARK with one frame parked. -/
theorem unpark_runs (h : s.bcRuns c = true) (hres : (s.bcore c).res ≤ 4) (hparked : (s.bcore c).parked = 1) :
    exec (.unpark c) s = .next ((s.draw.2.setBc c fun _ => (s.bcore c).bringBack).bcNext c) := by
  have hone : forRange (fun _ b => Bc.bringBack b) 0 (min 3 (s.bcore c).parked) (s.bcore c) = (s.bcore c).bringBack := by
    rw [hparked]
    rfl
  have hkept : (s.bcore c).bringBack.res ≤ 7 := by
    show (s.bcore c).res + 1 ≤ 7
    omega
  show execUnpark c s = _
  rw [execUnpark, State.onBc_runs h, hone]
  dsimp only
  rw [if_pos hkept]

theorem trapx_runs (h : s.bcRuns c = true) : exec (.trapx c) s =
    .next (s.setBc c fun b => { b with fp := b.fpOld, held := false, core := { b.core with pc := b.core.reg 7 14 } }) := by
  show execTrapx c s = _
  rw [execTrapx, State.onBc_runs h]

/-! ## The statement -/

/-- Settles O22: each instruction takes its branch of the model, which is a window that moves, a frame trap or a double trap. -/
theorem bridgeWindowsAndTraps : Obligations.BridgeWindowsAndTraps := by
  intro s c h b ends trapped double
  have hends : ∀ {o : Out} (n : Nat) (f : Bc → Bc), o = .next ((({ s with free := n } : State).setBc c f).bcNext c) → ends o (f b) :=
    fun n f ho => ⟨_, ho, s.bcNext_ends n c f⟩
  have hdouble : ∀ {o : Out}, o = .next (s.doubleTrap c) → double o := fun ho => by
    obtain ⟨hhalted, hrunning⟩ := s.doubleTrapped_stat c
    exact ⟨_, ho, s.doubleTrapped c, rfl, s.bcore_doubleTrapped c, hhalted, hrunning, rfl⟩
  refine ⟨fun hfp hres => ?_, fun hfp hres => ?_, fun hfp hres => ?_, fun hfp hres hparked => ?_, fun hfp => ?_,
    fun hres hparked => ?_, fun hres hparked => ?_, fun hres hparked => ?_, ?_⟩
  · refine hends s.free (fun b => { b with fp := (b.fp + 6) % 7, res := b.res + 1 }) ?_
    rw [enter_runs h, if_neg hfp, if_pos hres]
  · refine hends s.free Bc.trapped ?_
    rw [enter_runs h, if_neg hfp, if_neg (Nat.not_lt.2 hres), State.frameTrap_eq]
  · refine hends s.free (fun b => { b with fp := (b.fp + 1) % 7, res := b.res - 1 }) ?_
    rw [leave_runs h, if_neg hfp, if_pos hres]
  · refine hends s.free Bc.trapped ?_
    rw [leave_runs h, if_neg hfp, if_neg (Nat.not_lt.2 hres), if_pos hparked, State.frameTrap_eq]
  · refine ⟨hdouble ?_, hdouble ?_⟩
    · rw [enter_runs h, if_pos hfp]
    · rw [leave_runs h, if_pos hfp]
  · refine hdouble ?_
    have hnone : ¬0 < (s.bcore c).parked := Nat.not_lt.2 (Nat.le_of_eq hparked)
    rw [leave_runs h, if_neg (Nat.not_lt.2 hres : ¬1 < (s.bcore c).res), if_neg hnone, ite_self]
  · exact hends _ _ (park3_runs h hres hparked)
  · have hend : ends (exec (.unpark c) s) b.bringBack :=
      hends (s.free + 1) (fun _ => b.bringBack) (unpark_runs h hres hparked)
    rwa [Bc.bringBack, show b.parked - 1 = 0 by rw [hparked]] at hend
  · exact ⟨_, trapx_runs h, s.bcore_setBc_same c _, fun k hk => s.bcore_setBc_other _ hk, rfl⟩

end Sys2Proof.Machine
end

section
/-! SUPPORT. Loading a strip program: the pages of the engines, and what a round over the engines leaves of each. Statement O18. -/

namespace Sys2Proof.Machine

variable {s t u : State} {e : Nat}

/-! ## One engine and its page -/

/-- An engine, the words of its page and the fault unit stay as they are. -/
def EngineKept (e : Nat) (s t : State) : Prop :=
  t.eng e = s.eng e ∧ t.flt = s.flt ∧ ∀ a, a / 4096 = 0x10 + e → t.word a = s.word a

theorem EngineKept.refl (e : Nat) (s : State) : EngineKept e s s := ⟨rfl, rfl, fun _ _ => rfl⟩

theorem EngineKept.trans (h : EngineKept e s t) (h' : EngineKept e t u) : EngineKept e s u := by
  obtain ⟨heng, hflt, hword⟩ := h
  obtain ⟨heng', hflt', hword'⟩ := h'
  exact ⟨heng'.trans heng, hflt'.trans hflt, fun a ha => (hword' a ha).trans (hword a ha)⟩

theorem EngineKept.put {f : Fld} {i v : Nat} (h : EngineKept e s t) (hf : fldAt f i / 4096 ≠ 0x10 + e) : EngineKept e s (t.put f i v) := by
  obtain ⟨heng, hflt, hword⟩ := h
  exact ⟨heng, hflt, fun a ha => (t.word_put_other f i v a fun hat => hf (hat ▸ ha)).trans (hword a ha)⟩

theorem EngineKept.setEng {k : Nat} {x : Se} (h : EngineKept e s t) (hk : e ≠ k) : EngineKept e s (t.setEng k x) := by
  obtain ⟨heng, hflt, hword⟩ := h
  exact ⟨(State.eng_setEng_other _ _ _ _ hk).trans heng, hflt, hword⟩

theorem EngineKept.get {f : Fld} {i : Nat} (h : EngineKept e s t) (hf : fldAt f i / 4096 = 0x10 + e) : t.get f i = s.get f i := by
  obtain ⟨-, -, hword⟩ := h
  rw [State.get, State.get, hword _ hf]

theorem EngineKept.eng (h : EngineKept e s t) : t.eng e = s.eng e := by
  obtain ⟨heng, -, -⟩ := h
  exact heng

theorem EngineKept.flt (h : EngineKept e s t) : t.flt = s.flt := by
  obtain ⟨-, hflt, -⟩ := h
  exact hflt

theorem isSubUnit_seUnit : ∀ e, e < 34 → isSubUnit (seUnit e) = false := by decide

theorem unitPage_se (he : e < 34) : unitPage (0x10 + e) = 0x10 + e := by
  unfold unitPage
  (repeat' split) <;> omega

theorem fldAt_header {f : Fld} (h : f.per = 1 ∧ f.pst = 4096 ∧ f.step = 0) (haddr : f.addr < 4096) (page : Nat) :
    fldAt f page / 4096 = page := by
  rw [fldAt_bcPage h]
  omega

theorem EngineKept.unitDown (h : EngineKept e s t) (he : e < 34) : t.unitDown (seUnit e) = s.unitDown (seUnit e) := by
  have hpage : unitPage (seUnit e).page = 0x10 + e := unitPage_se he
  simp only [State.unitDown, isSubUnit_seUnit e he, State.getB, hpage, h.get (fldAt_header (f := Hdr.FENCED) ⟨rfl, rfl, rfl⟩ (by decide) _),
    h.get (fldAt_header (f := Hdr.RETIRED) ⟨rfl, rfl, rfl⟩ (by decide) _), Bool.false_eq_true, ↓reduceIte]

theorem EngineKept.engineDown (h : EngineKept e s t) (he : e < 34) : t.engineDown e = s.engineDown e := by
  rw [State.engineDown, State.engineDown, h.unitDown he, State.suspended, State.suspended, h.flt]

/-! ## Rounds over the engines -/

/-- Where each round keeps every other engine, an engine is left as its own round leaves it. -/
theorem engineRound {f : Nat → State → State} (he : e < 34) (hf : ∀ k x, k < 34 → k ≠ e → EngineKept e x (f k x)) (s : State) :
    ∃ t, EngineKept e s t ∧ EngineKept e (f e t) (forRange f 0 34 s) :=
  forRange_around (EngineKept.refl e) EngineKept.trans 34 0 (Nat.zero_le e) (by omega) (fun k x hk hne => hf k x (by omega) hne) s

/-! ## Progress of a load (R205, R539) -/

/-- Rounds that each change register words alone change register words alone. -/
theorem forRange_regs {f : Nat → State → State} (hf : ∀ k x, ∃ r, f k x = { x with regs := r }) (n lo : Nat) (s : State) :
    ∃ r, forRange f lo n s = { s with regs := r } := by
  refine forRange_keeps (P := fun x => ∃ r, x = { s with regs := r }) (fun k x hx => ?_) n lo s ⟨s.regs, rfl⟩
  obtain ⟨r, rfl⟩ := hx
  exact hf k _

theorem State.progProgress_regs (s : State) (busy : Bool) (pos total : Nat) : ∃ r, s.progProgress busy pos total = { s with regs := r } :=
  forRange_regs (fun _ _ => ⟨_, rfl⟩) 34 0 s

theorem fldAt_busy (page : Nat) : fldAt Hdr.BUSY page = 4096 * page + 0x1C := by
  rw [fldAt_bcPage ⟨rfl, rfl, rfl⟩]
  exact Nat.add_comm _ _

/-- What BUSY of an engine's page shows of a load. -/
theorem State.busy_progress (s : State) (page : Nat) (busy : Bool) (pos total : Nat) :
    (s.progress page busy pos total).get Hdr.BUSY page = busy.toNat := by
  refine (State.get_put_apart _ _ _ _ _ _ (by decide) (by decide)).trans
    ((State.get_put_apart _ _ _ _ _ _ (by decide) (by decide)).trans ((State.get_put_same _ _ _ _).trans ?_))
  cases busy <;> rfl

theorem State.busy_progProgress (s : State) (busy : Bool) (pos total : Nat) (he : e < 34) :
    (s.progProgress busy pos total).get Hdr.BUSY (0x10 + e) = busy.toNat := by
  refine forRange_each (P := fun k x => x.get Hdr.BUSY (0x10 + k) = busy.toNat) (fun k x => x.busy_progress _ _ _ _)
    (fun k j x hx => ?_) 34 0 s e (Nat.zero_le e) (by omega)
  obtain rfl | hne := eq_or_ne k j
  · exact x.busy_progress _ _ _ _
  · rw [State.get_progress _ _ _ _ (by rw [fldAt_busy, fldAt_busy]; omega), hx]

theorem State.get_progProgress (s : State) (busy : Bool) (pos total : Nat) {f : Fld} {i : Nat} (hf : fldAt f i % 4096 ≠ 0x1C) :
    (s.progProgress busy pos total).get f i = s.get f i :=
  forRange_keeps (P := fun x : State => x.get f i = s.get f i)
    (fun k x hx => (State.get_progress _ _ _ _ (by rw [fldAt_busy]; omega)).trans hx) 34 0 s rfl

/-- The pages of the engines show that no load runs any more. -/
def State.progIdle (s : State) : State := forRange (fun e s => s.progressStop (0x10 + e)) 0 34 s

theorem State.progIdle_regs (s : State) : ∃ r, s.progIdle = { s with regs := r } := forRange_regs (fun _ _ => ⟨_, rfl⟩) 34 0 s

theorem State.busy_progIdle (s : State) (he : e < 34) : s.progIdle.get Hdr.BUSY (0x10 + e) = 0 := by
  have hstop : ∀ k (x : State), (x.progressStop (0x10 + k)).get Hdr.BUSY (0x10 + k) = 0 := fun _ _ => State.get_put_same _ _ _ _
  refine forRange_each (P := fun k x => x.get Hdr.BUSY (0x10 + k) = 0) hstop (fun k j x hx => ?_) 34 0 s e (Nat.zero_le e) (by omega)
  obtain rfl | hne := eq_or_ne k j
  · exact hstop k x
  · rw [State.get_progressStop _ (by rw [fldAt_busy, fldAt_busy]; omega), hx]

/-! ## The command (R203, R205) -/

/-- A program waits for its write. -/
def State.progAccepted (s : State) (q : Nat) (image : List Byte) : State :=
  let t := s.ringBegan q
  { t with prog := { t.prog with next := some (progHeader image, progBundles image), ring := q, since := t.idx } }

/-- What an image leads to, by its status and the index of the offending bundle: the load ends, or it waits for its write. -/
def State.progTaken (s : State) (q : Nat) (image : List Byte) (st k : Nat) : State :=
  if st ≠ 0 then
    ((s.progProgress true (if st = 0x34 then k else 0) (2 * (progBundles image).length)).progIdle).ringEnd q 0 st k
  else
    (s.progProgress true (progBundles image).length (2 * (progBundles image).length)).progAccepted q image

section
variable {q : Nat} {c : RingCmd} (image : Option (List Byte)) (hc : (s.hostRing q).cmd = some c) (hop : c.op = 0x11)
  (hb : c.began = false) (hnext : s.prog.next = none) (hwrite : s.prog.write = false)
include hc hop hb hnext hwrite

theorem loadStripProgram_eq : exec (.loadStripProgram q image) s = .next (if s.progMode then
      match if bit (c.a 0) 0 then s.busRead 0x27 (c.a 1 + 2 ^ 32 * c.a 2) (64 + 8 * 8192) else if s.hostReadable then image else none with
      | none => s.ringEnd q 0 0x04 0
      | some b => s.progTaken q b (progStatus b).1 (progStatus b).2
    else s.ringEnd q 0 0x30 0) := by
  have hcmd : s.ringCmd q 0x11 = some c := hop ▸ State.ringCmd_eq hc hb
  obtain ⟨check, hcheck⟩ : ∃ f, f = progStatus := ⟨_, rfl⟩
  show execLoadStripProgram q image s = _
  rw [execLoadStripProgram, hcmd, ← hcheck]
  dsimp only
  rw [hnext, hwrite, if_neg (by decide)]
  cases s.progMode with
  | false => rfl
  | true =>
    rw [if_neg (by decide), if_pos rfl]
    generalize (if bit (c.a 0) 0 = true then s.busRead 0x27 (c.a 1 + 2 ^ 32 * c.a 2) (64 + 8 * 8192)
      else if s.hostReadable = true then image else none) = got
    cases got with
    | none => rfl
    | some b =>
      dsimp only
      unfold State.progTaken
      split <;> rfl

end

/-- A load that ends has left register words of the engines' pages alone, and none shows it as busy. -/
theorem State.progTaken_bad (s : State) (q : Nat) (image : List Byte) {st : Nat} (k : Nat) (h : st ≠ 0) :
    ∃ u : State, s.progTaken q image st k = u.ringEnd q 0 st k ∧ u.prog = s.prog ∧ (∀ e, e < 34 → u.get Hdr.BUSY (0x10 + e) = 0) ∧
      u = { s with regs := u.regs } := by
  unfold State.progTaken
  rw [if_pos h]
  obtain ⟨_, hprogress⟩ := s.progProgress_regs true (if st = 0x34 then k else 0) (2 * (progBundles image).length)
  obtain ⟨_, hidle⟩ := State.progIdle_regs (s.progProgress true (if st = 0x34 then k else 0) (2 * (progBundles image).length))
  rw [hprogress] at hidle
  refine ⟨_, rfl, ?_, fun e he => State.busy_progIdle _ he, ?_⟩
  · rw [hprogress, hidle]
  · rw [hprogress, hidle]

theorem State.progAccepted_parts (s : State) (q : Nat) (image : List Byte) :
    (s.progAccepted q image).prog = { s.prog with next := some (progHeader image, progBundles image), ring := q, since := s.idx } ∧
      (s.progAccepted q image).se = s.se := ⟨rfl, rfl⟩

theorem State.get_progAccepted (s : State) (q : Nat) (image : List Byte) (f : Fld) (i : Nat) :
    (s.progAccepted q image).get f i = s.get f i := rfl

/-- A good image waits, and the engines' pages show the load as busy. -/
theorem State.progTaken_good (s : State) (q : Nat) (image : List Byte) (k : Nat) :
    (s.progTaken q image 0 k).prog = { s.prog with next := some (progHeader image, progBundles image), ring := q, since := s.idx } ∧
      (∀ e, e < 34 → (s.progTaken q image 0 k).get Hdr.BUSY (0x10 + e) = 1) ∧ (s.progTaken q image 0 k).se = s.se := by
  have htaken : s.progTaken q image 0 k =
      (s.progProgress true (progBundles image).length (2 * (progBundles image).length)).progAccepted q image := if_neg fun h => h rfl
  have hbusy := fun e (he : e < 34) => s.busy_progProgress true (progBundles image).length (2 * (progBundles image).length) he
  obtain ⟨_, hprogress⟩ := s.progProgress_regs true (progBundles image).length (2 * (progBundles image).length)
  rw [htaken]
  rw [hprogress] at hbusy ⊢
  obtain ⟨hprog, hse⟩ := State.progAccepted_parts { s with regs := _ } q image
  exact ⟨hprog, fun e he => (State.get_progAccepted _ q image _ _).trans (hbusy e he), hse⟩

/-! ## The write begins (R204, R138) -/

/-- At the start of a write an engine that is up drops its strip. -/
def Se.dropped (t : Se) : Se := { t with strip := none, begun := [], done := [] }

/-- The round of an engine at the start of a write. -/
def State.dropRound (e : Nat) (s : State) : State := if s.engineDown e then s else s.setEng e (s.eng e).dropped

/-- Strips begin anew where samples run. -/
def State.stripsAnew (s : State) : State := if s.mode.running then s.rebuildStrips.amEqual else s

/-- Freed notches are words of the strip report. -/
theorem State.word_dropNotches (s : State) {a : Nat} (h : a < 0x510000) : s.dropNotches.word a = s.word a := by
  have hkept : (!((s.keysIn 0x510000 0x520000).filter fun k => decide (0x10 ≤ k % 64)).contains a) = true := by
    simp [State.keysIn]
    omega
  refine (tget_filter _ (fun a => !((s.keysIn 0x510000 0x520000).filter fun k => decide (0x10 ≤ k % 64)).contains a) s.regs a).trans ?_
  rw [if_pos hkept]
  rfl

theorem EngineKept.of_parts (hse : t.se = s.se) (hflt : t.flt = s.flt) (hword : ∀ a, a / 4096 = 0x10 + e → t.word a = s.word a) :
    EngineKept e s t := ⟨by rw [State.eng, State.eng, hse], hflt, hword⟩

/-- Equal shares of Automix concern the strips alone. -/
theorem State.amEqual_only (s : State) : StripsOnly s s.amEqual ∧ s.amEqual.regs = s.regs := by
  unfold State.amEqual
  refine forRange_keeps (P := fun x => StripsOnly s x ∧ x.regs = s.regs) (fun g x hx => ?_) 16 0 s ⟨.refl s, rfl⟩
  refine forEach_keeps (P := fun x => StripsOnly s x ∧ x.regs = s.regs) (fun n y hy => ?_) _ x hx
  obtain ⟨honly, hregs⟩ := hy
  split
  exact ⟨honly.setStrip, hregs⟩

theorem State.stripsAnew_kept (s : State) (he : e < 34) : EngineKept e s s.stripsAnew ∧ s.stripsAnew.prog = s.prog := by
  unfold State.stripsAnew
  split
  · have hbuilt : EngineKept e s s.rebuildStrips := .of_parts rfl rfl fun a ha => s.word_dropNotches (by omega)
    have hprog : s.rebuildStrips.prog = s.prog := rfl
    obtain ⟨honly, hregs⟩ := s.rebuildStrips.amEqual_only
    generalize s.rebuildStrips.amEqual = t at honly hregs ⊢
    have hequal : EngineKept e s.rebuildStrips t :=
      .of_parts (by rw [honly.eq]) (by rw [honly.eq]) fun a _ => by rw [State.word, State.word, hregs]
    exact ⟨hbuilt.trans hequal, by rw [honly.eq, hprog]⟩
  · exact ⟨.refl e s, rfl⟩

theorem progWriteStart_eq {image : List Word × List DWord} (hnext : s.prog.next = some image) (hwrite : s.prog.write = false)
    (hrun : s.mode.running = false ∨ s.idx ≠ s.prog.since) : exec .progWriteStart s =
      let t := forRange State.dropRound 0 34 s.stripsAnew
      .next { t with prog := { t.prog with write := true, at' := s.clk.now, mute := 65 } } := by
  have hgo : (s.prog.write || (s.mode.running && s.idx == s.prog.since)) = false := by
    rw [hwrite, Bool.false_or, Bool.and_eq_false_iff]
    exact hrun.imp id beq_eq_false_iff_ne.2
  show execProgWriteStart s = _
  rw [execProgWriteStart, hnext]
  dsimp only
  rw [hgo]
  rfl

/-- A round of a write's start leaves every other engine alone. -/
theorem EngineKept.dropRound (s : State) {k : Nat} (hk : k ≠ e) : EngineKept e s (State.dropRound k s) := by
  unfold State.dropRound
  split
  · exact .refl e s
  · exact (EngineKept.refl e s).setEng hk.symm

theorem State.prog_dropRound (s : State) (k : Nat) : (State.dropRound k s).prog = s.prog := by
  unfold State.dropRound
  split <;> rfl

/-- The write's start: each engine that is up drops its strip. -/
theorem progWriteStart_drops {image : List Word × List DWord} (hnext : s.prog.next = some image) (hwrite : s.prog.write = false)
    (hrun : s.mode.running = false ∨ s.idx ≠ s.prog.since) :
    ∃ t : State, exec .progWriteStart s = .next t ∧ t.prog = { s.prog with write := true, at' := s.clk.now, mute := 65 } ∧
      ∀ e, e < 34 → s.engineDown e = false → t.eng e = (s.eng e).dropped := by
  refine ⟨_, progWriteStart_eq hnext hwrite hrun, ?_, fun e he hup => ?_⟩
  · obtain ⟨-, hanew⟩ := s.stripsAnew_kept (e := 0) (by decide)
    have hprog : (forRange State.dropRound 0 34 s.stripsAnew).prog = s.prog :=
      forRange_keeps (P := fun x : State => x.prog = s.prog) (fun k x hx => (x.prog_dropRound k).trans hx) 34 0 _ hanew
    rw [hprog]
  · obtain ⟨hanew, -⟩ := s.stripsAnew_kept he
    obtain ⟨y, hbefore, hafter⟩ := engineRound he (fun k x _ hk => EngineKept.dropRound x hk) s.stripsAnew
    have hkept := hanew.trans hbefore
    rw [State.dropRound, hkept.engineDown he, hup, if_neg Bool.false_ne_true] at hafter
    exact hafter.eng.trans ((State.eng_setEng_same _ _ _).trans (congrArg Se.dropped hkept.eng))

/-! ## The write ends (R204) -/

/-- Program memory after a write: the bundles from address 0 on. -/
def progCode (bs : List DWord) : Tbl DWord := bs.zipIdx.foldl (fun t p => tput 0 t p.2 p.1) []

theorem foldl_zipIdx_tput (bs : List DWord) (t : Tbl DWord) (k : Nat) :
    (bs.zipIdx k).foldl (fun t p => tput 0 t p.2 p.1) t = tputs 0 t k bs := by
  induction bs generalizing t k with
  | nil => rfl
  | cons b r ih => exact ih (tput 0 t k b) (k + 1)

theorem tget_progCode (bs : List DWord) (i : Nat) : tget 0 (progCode bs) i = bs.getD i 0 := by
  rw [progCode, foldl_zipIdx_tput, tget_tputs]
  split
  · next h => exact (List.getD_eq_getElem _ _ (by omega)).symm
  · next h => exact (List.getD_eq_default _ _ (by omega)).symm

/-- An engine takes a program: its code, the entry and the ID. -/
def State.takeProgram (s : State) (e : Nat) (code : Tbl DWord) (entry id : Nat) : State :=
  (((s.setEng e { s.eng e with prog := code, pc := entry }).put Reg.SE_PROG_ID e id).putB Hdr.PROG_VALID (0x10 + e) true).bumpEpoch
    (0x10 + e)

/-- Each engine in service takes a program. -/
def State.takeRound (code : Tbl DWord) (entry id e : Nat) (s : State) : State :=
  if s.unitDown (seUnit e) then s else s.takeProgram e code entry id

/-- Time has passed and the engines have taken a program with its header. -/
def State.progWritten (s : State) (h : List Word) (bs : List DWord) : State :=
  forRange (State.takeRound (progCode bs) (h.getD 7 0).toNat (h.getD 1 0).toNat) 0 34
    (s.advanceTo (s.prog.at' + 4 * ((bs.length + 7) / 8)))

/-- The program's header is in force, and no load is in progress. -/
def Prog.loaded (p : Prog) (h : List Word) : Prog :=
  { p with
    entry := (h.getD 7 0).toNat, vec := (h.getD 8 0).toNat, wIn := (h.getD 4 0).toNat, wOut := (h.getD 5 0).toNat,
    next := none, write := false, mute := 65 }

/-- The program is in place, before the command completes. -/
def State.progPlaced (s : State) (h : List Word) (bs : List DWord) : State :=
  State.progProgress { s.progWritten h bs with prog := (s.progWritten h bs).prog.loaded h } false (2 * bs.length) (2 * bs.length)

theorem progWriteEnd_eq {h : List Word} {bs : List DWord} (hnext : s.prog.next = some (h, bs)) (hwrite : s.prog.write = true) :
    exec .progWriteEnd s = .next ((s.progPlaced h bs).ringEnd (s.progWritten h bs).prog.ring 0 0 0) := by
  show execProgWriteEnd s = _
  rw [execProgWriteEnd, hnext]
  dsimp only
  rw [hwrite]
  rfl

theorem fldAt_progId (e : Nat) : fldAt Reg.SE_PROG_ID e = 4096 * (0x10 + e) + 0x40 := by
  rw [fldAt_bcPage ⟨rfl, rfl, rfl⟩]
  show 0x10040 + 0x1000 * e = _
  omega

theorem fldAt_progValid (page : Nat) : fldAt Hdr.PROG_VALID page = 4096 * page + 0x0C := fldAt_fenced page

theorem EngineKept.takeRound (s : State) (code : Tbl DWord) (entry id : Nat) {k : Nat} (hlt : k < 34) (hk : k ≠ e) :
    EngineKept e s (State.takeRound code entry id k s) := by
  unfold State.takeRound
  split
  · exact .refl e s
  · refine .put (.put (.put ((EngineKept.refl e s).setEng hk.symm) ?_) ?_) ?_
    · rw [fldAt_progId]
      omega
    · rw [fldAt_progValid]
      omega
    · rw [unitPage_se hlt, fldAt_epoch]
      omega

theorem State.takeProgram_eng (s : State) (e : Nat) (code : Tbl DWord) (entry id : Nat) :
    (s.takeProgram e code entry id).eng e = { s.eng e with prog := code, pc := entry } := State.eng_setEng_same _ _ _

theorem State.takeProgram_page (s : State) (he : e < 34) (code : Tbl DWord) (entry id : Nat) :
    (s.takeProgram e code entry id).get Reg.SE_PROG_ID e = id % 2 ^ 32 ∧
      (s.takeProgram e code entry id).get Hdr.PROG_VALID (0x10 + e) = 1 := by
  have hepoch : fldAt Hdr.EPOCH (unitPage (0x10 + e)) = 4096 * (0x10 + e) + 0x24 := by rw [unitPage_se he, fldAt_epoch]
  constructor
  · rw [State.takeProgram, State.get_bumpEpoch _ (by rw [fldAt_progId, hepoch]; omega), State.putB,
      State.get_put_word _ _ _ _ _ _ (by rw [fldAt_progId, fldAt_progValid]; omega)]
    exact State.get_put_same _ _ _ _
  · rw [State.takeProgram, State.get_bumpEpoch _ (by rw [fldAt_progValid, hepoch]; omega)]
    exact State.get_put_same _ _ _ _

/-- The rounds of a write's end concern engines and register words alone. -/
theorem State.progWritten_parts (s : State) (h : List Word) (bs : List DWord) : ∃ es rs, s.progWritten h bs =
    { s.advanceTo (s.prog.at' + 4 * ((bs.length + 7) / 8)) with se := es, regs := rs } := by
  unfold State.progWritten
  generalize s.advanceTo (s.prog.at' + 4 * ((bs.length + 7) / 8)) = t
  refine forRange_keeps (P := fun x => ∃ es rs, x = { t with se := es, regs := rs }) (fun k x hx => ?_) 34 0 t ⟨t.se, t.regs, rfl⟩
  obtain ⟨es, rs, rfl⟩ := hx
  unfold State.takeRound
  split
  · exact ⟨es, rs, rfl⟩
  · exact ⟨_, _, rfl⟩

/-- What a write's end leaves in an engine in service and in its page. -/
theorem State.progWritten_takes (s : State) (h : List Word) (bs : List DWord) (he : e < 34) (hup : s.unitDown (seUnit e) = false) :
    (s.progWritten h bs).eng e = { s.eng e with prog := progCode bs, pc := (h.getD 7 0).toNat } ∧
      (s.progWritten h bs).get Reg.SE_PROG_ID e = (h.getD 1 0).toNat ∧ (s.progWritten h bs).get Hdr.PROG_VALID (0x10 + e) = 1 := by
  obtain ⟨y, hbefore, hafter⟩ := engineRound he
    (fun k x hlt hk => EngineKept.takeRound x (progCode bs) (h.getD 7 0).toNat (h.getD 1 0).toNat hlt hk)
    (s.advanceTo (s.prog.at' + 4 * ((bs.length + 7) / 8)))
  have hdown : y.unitDown (seUnit e) = false := (hbefore.unitDown he).trans hup
  rw [State.takeRound, hdown, if_neg Bool.false_ne_true] at hafter
  obtain ⟨hid, hvalid⟩ := y.takeProgram_page he (progCode bs) (h.getD 7 0).toNat (h.getD 1 0).toNat
  refine ⟨hafter.eng.trans ?_, (hafter.get (by rw [fldAt_progId]; omega)).trans ?_,
    (hafter.get (by rw [fldAt_progValid]; omega)).trans hvalid⟩
  · rw [State.takeProgram_eng, hbefore.eng]
    rfl
  · rw [hid, Nat.mod_eq_of_lt (BitVec.isLt _)]

/-- Beside register words, the block is as it was when the engines had taken the program. -/
theorem State.progPlaced_parts (s : State) (h : List Word) (bs : List DWord) :
    (s.progPlaced h bs).prog = s.prog.loaded h ∧ (s.progPlaced h bs).clk.now = max s.clk.now (s.prog.at' + 4 * ((bs.length + 7) / 8)) ∧
      ∀ e, (s.progPlaced h bs).eng e = (s.progWritten h bs).eng e := by
  obtain ⟨_, hplaced⟩ := State.progProgress_regs { s.progWritten h bs with prog := (s.progWritten h bs).prog.loaded h } false
    (2 * bs.length) (2 * bs.length)
  obtain ⟨_, _, hwritten⟩ := s.progWritten_parts h bs
  rw [State.progPlaced, hplaced, hwritten]
  exact ⟨rfl, rfl, fun _ => rfl⟩

theorem State.get_progPlaced (s : State) (h : List Word) (bs : List DWord) {f : Fld} {i : Nat} (hf : fldAt f i % 4096 ≠ 0x1C) :
    (s.progPlaced h bs).get f i = (s.progWritten h bs).get f i := State.get_progProgress _ _ _ _ hf

/-! ## The statement -/

/-- Settles O18: the load by its status, the write's start and its end by the round of each engine. -/
theorem stripProgramLoads : Obligations.StripProgramLoads := by
  refine ⟨fun s q image c hc hop hb hnext hwrite => ⟨?_, ?_, ?_⟩, fun s h bs hnext hwrite hrun => ?_, fun s h bs hnext hwrite => ?_⟩
  · intro hmode
    rw [loadStripProgram_eq image hc hop hb hnext hwrite, hmode, if_neg (by decide)]
  · intro hmode hhost hnone
    have hunread : (if s.hostReadable then image else none) = none := by
      obtain himage | hread := hnone
      · rw [himage, ite_self]
      · rw [hread]
        rfl
    rw [loadStripProgram_eq image hc hop hb hnext hwrite, hmode, hhost, if_pos rfl, if_neg (by decide), hunread]
  · intro b st k hmode hhost hread himage hstatus
    rw [loadStripProgram_eq image hc hop hb hnext hwrite, hmode, hhost, if_pos rfl, if_neg (by decide), hread, if_pos rfl, himage]
    dsimp only
    rw [hstatus]
    refine ⟨fun hst => ?_, fun hst => ?_⟩
    · obtain ⟨u, hu, hrest⟩ := s.progTaken_bad q b k hst
      exact ⟨u, congrArg _ hu, hrest⟩
    · subst hst
      exact ⟨_, rfl, s.progTaken_good q b k⟩
  · exact progWriteStart_drops hnext hwrite hrun
  · obtain ⟨_, _, hwritten⟩ := s.progWritten_parts h bs
    have hring : (s.progWritten h bs).prog.ring = s.prog.ring := by
      rw [hwritten]
      rfl
    obtain ⟨hprog, hnow, heng⟩ := s.progPlaced_parts h bs
    refine ⟨_, hring ▸ progWriteEnd_eq hnext hwrite, ?_⟩
    rw [hprog, hnow]
    refine ⟨rfl, rfl, rfl, rfl, rfl, Nat.le_max_right _ _, fun e he hup => ?_⟩
    obtain ⟨htook, hid, hvalid⟩ := s.progWritten_takes h bs he hup
    rw [heng, htook]
    exact ⟨rfl, tget_progCode bs, (s.get_progPlaced h bs (by rw [fldAt_progId]; omega)).trans hid,
      (s.get_progPlaced h bs (by rw [fldAt_progValid]; omega)).trans hvalid⟩

end Sys2Proof.Machine
end

section
/-! SUPPORT. The Ephemeris and the cue lines: pushes and cancels, firings, pulses, and confirmed edges. Statement O28. -/

namespace Sys2Proof.Machine

-- one proof after another, so that waiting proofs do not use up the threads
set_option Elab.async false

variable {s : State}

/-! ## A bit of a field -/

theorem bit_withBit_same (x b : Nat) (v : Bool) : bit (withBit x b v) b = v := by
  rw [bit_eq_bits, withBit, bits_withBits_same, Nat.add_sub_cancel_left]
  cases v <;> rfl

/-- A bit of a field reads back as stored, where the field holds it. -/
theorem State.bit_setBitOf_same (s : State) (f : Fld) (i : Nat) {b : Nat} (v : Bool) (hf : f.hi < 32) (hb : b < fldWidth f) :
    bit ((s.setBitOf f i b v).get f i) b = v := by
  have hmod : ∀ x, bit (x % 2 ^ fldWidth f) b = bit x b := fun x => by
    rw [bit_eq_bits, bit_eq_bits]
    congr 1
    apply Nat.eq_of_testBit_eq
    intro k
    rw [testBit_bits, testBit_bits, Nat.testBit_mod_two_pow]
    by_cases hk : b + k < fldWidth f
    · simp [hk]
    · simp [show k ≠ 0 by omega]
  rw [State.setBitOf, State.get_put_same _ _ _ _ hf, hmod, bit_withBit_same]

/-! ## A plane's read of a page that is on -/

/-- A read of a page whose domain is ON is answered at once. -/
theorem State.readAt_on {page : Nat} (h : s.domState (pageDomain page) = 3) (p : Plane) (f : State → Out) : s.readAt p page f = f s := by
  have hdark : s.pageDark page = false := by simp [State.pageDark, h]
  have hwake : s.wakeFor page = s := if_pos (.inr h)
  rw [State.readAt, hdark, hwake]
  rfl

/-- A field of a plane's copy keeps its value where another of its words is stored. -/
theorem State.getP_putP_word (s : State) (p : Plane) {f g : Fld} {i j : Nat} (h : planeKey p (fldAt g j) ≠ planeKey p (fldAt f i))
    (v : Nat) : (s.putP p f i v).getP p g j = s.getP p g j := by
  simp only [State.getP, State.putP, State.word_setWord_other _ _ _ _ h]

theorem State.getP_setRead (s : State) (p q : Plane) (v : Nat) (f : Fld) (i : Nat) : (s.setRead q v).getP p f i = s.getP p f i := by
  cases q <;> rfl

/-! ## Entries that leave (R277) -/

/-- The words in which the Ephemeris shows what it holds. -/
def ephWords : List Nat := [fldAt Reg.EPH_USED 0, fldAt Reg.EPH_NET_USED 0, fldAt Reg.EPH_EMPTY 0]

theorem State.ephDrop_frame (s : State) (p : EphEntry → Bool) : s.ephDrop p =
    { s with regs := (s.ephDrop p).regs, eph := { s.eph with entries := s.eph.entries.filter fun x => !p x } } := rfl

theorem State.ephDrop_only (s : State) (p : EphEntry → Bool) :
    OnlyWords ephWords (s.modEph fun e => { e with entries := e.entries.filter fun x => !p x }) (s.ephDrop p) :=
  (((OnlyWords.refl _ _).putIn (f := Reg.EPH_USED) _ (by decide)).putIn (f := Reg.EPH_NET_USED) _ (by decide)).putIn
    (f := Reg.EPH_EMPTY) _ (by decide)

theorem State.get_ephDrop (s : State) (p : EphEntry → Bool) {f : Fld} {i : Nat} (hf : fldAt f i ∉ ephWords) :
    (s.ephDrop p).get f i = s.get f i := (s.ephDrop_only p).get hf

/-! ## A push (R279, R294) -/

/-- The answer to a push. -/
def State.ephAnswer (s : State) (p : Plane) (st h : Nat) : State :=
  ((s.putP p Reg.EPH_STATUS 0 st).putP p Reg.EPH_HANDLE 0 h).putP p Reg.EPH_DONE 0 1

theorem State.ephAnswer_answers (s : State) (p : Plane) {st : Nat} (h : Nat) (hst : st < 256) :
    (s.ephAnswer p st h).getP p Reg.EPH_STATUS = st ∧ (s.ephAnswer p st h).getP p Reg.EPH_DONE = 1 ∧
      (s.ephAnswer p st h).getP p Reg.EPH_HANDLE = h % 2 ^ fldWidth Reg.EPH_HANDLE := by
  unfold State.ephAnswer
  refine ⟨?_, State.getP_putP_same _ _ _ _ _, ?_⟩
  · rw [State.getP_putP_apart _ _ _ (by decide) (by decide) (by decide), State.getP_putP_apart _ _ _ (by decide) (by decide) (by decide),
      State.getP_putP_same _ _ _ _ _]
    exact Nat.mod_eq_of_lt hst
  · rw [State.getP_putP_apart _ _ _ (by decide) (by decide) (by decide), State.getP_putP_same _ _ _ _ _]

theorem State.ephAnswer_frame (s : State) (p : Plane) (st h : Nat) :
    s.ephAnswer p st h = { s with regs := (s.ephAnswer p st h).regs } := rfl

/-- The time and the kind that a plane's words state for a CUE_OUT entry. -/
def State.pushTime (s : State) (p : Plane) : Nat := statedTime (s.getP p Reg.EPH_W1) (s.getP p Reg.EPH_W2) (s.getP p Reg.EPH_W3)
def State.pushKind (s : State) (p : Plane) : EphKind :=
  .cueOut (s.getP p Reg.EPH_LINE) (s.getP p Reg.EPH_POL == 1) (s.getP p Reg.EPH_WIDTH)

/-- The state with a plane's entry inserted. -/
def State.ephPushed (s : State) (p : Plane) : State :=
  s.newHandle.2.ephAdd { time := s.pushTime p, kind := s.pushKind p, handle := s.newHandle.1 }

theorem ephPush_eq (p : Plane) {v : Word} (hdom : s.domState 3 = 3) (hv : v.toNat % 2 = 1) : exec (.ephPush p v) s =
    if s.getP p Reg.EPH_KIND ≠ 2 ∨ s.getP p Reg.EPH_WIDTH = 0 ∨ 1000000000 ≤ s.getP p Reg.EPH_W3 then
      .next (s.ephAnswer p Scs.BAD_ARG 0)
    else if !s.ephRoom then .next (((s.count Reg.EPH_REFUSED).irq Reg.EPH_IRQ_FULL).ephAnswer p Scs.EPH_FULL 0)
    else if s.pushTime p < s.thirds + 512 then .next ((s.count Reg.EPH_REFUSED).ephAnswer p Scs.EPH_PAST 0)
    else .next ((s.ephPushed p).ephAnswer p 0 s.newHandle.1) := by
  have hpage : s.domState (pageDomain 0x54) = 3 := hdom
  show execEphPush p v s = _
  rw [execEphPush, State.atPage_on hpage, if_neg (by omega)]
  rfl

theorem State.entries_ephPushed (s : State) (p : Plane) : (s.ephPushed p).eph.entries =
    ephInsert { time := s.pushTime p, kind := s.pushKind p, handle := s.newHandle.1 } s.eph.entries :=
  List.filter_eq_self.2 fun _ _ => rfl

theorem ephCancel_eq (v : Word) (hdom : s.domState 3 = 3) :
    exec (.ephCancel v) s = .next (s.ephDrop fun x => isCueOut x && x.handle == v.toNat % 4096) := by
  have hpage : s.domState (pageDomain 0x54) = 3 := hdom
  show execEphCancel v s = _
  rw [execEphCancel, State.atPage_on hpage]
  rfl

/-- A push leaves the samples and the scene engine alone. -/
theorem State.ephPushed_apart (s : State) (p : Plane) : (s.ephPushed p).dp = s.dp ∧ (s.ephPushed p).scn = s.scn := by
  rw [State.ephPushed, State.ephAdd, State.ephDrop_frame]
  exact ⟨rfl, rfl⟩

/-! ## Firings (R278, R280, R281) -/

/-- An entry that no step has passed leaves the Ephemeris and is counted. -/
theorem State.ephFired_due {x : EphEntry} (h : x.passed = false) : s.ephFired x = (s.ephDrop (· == x)).count Reg.EPH_FIRED := by
  rw [State.ephFired, h]
  rfl

theorem State.ephFired_frame {x : EphEntry} (h : x.passed = false) : s.ephFired x =
    { s with regs := (s.ephFired x).regs, eph := { s.eph with entries := s.eph.entries.filter fun y => !(y == x) } } := by
  rw [State.ephFired_due h]
  rfl

theorem ephCommitFire_eq {slot : Nat} {x : EphEntry} (hx : s.eph.entries.find? (isCommitOf slot) = some x) (hpassed : x.passed = false)
    (htime : x.time ≤ s.ptp.thirdsAt s.nextBoundary) :
    exec (.ephCommitFire slot) s = .next ((s.advanceTo (s.cutoff s.nextBoundary)).fireCommit slot x) := by
  show execEphCommitFire slot s = _
  have hgo : (x.passed || decide (s.ptp.thirdsAt s.nextBoundary < x.time)) = false := by
    rw [hpassed, decide_eq_false (Nat.not_lt.2 htime)]
    rfl
  simp only [execEphCommitFire, hx, hgo, Bool.false_eq_true, ↓reduceIte]
  rfl

theorem cueOutFire_eq {x : EphEntry} (hx : s.eph.entries.find? isCueOut = some x) (hpassed : x.passed = false)
    (hrun : s.ptp.run = true) : exec (.cueOutFire x.handle) s = .next ((s.advanceTo (s.edgeOf x.time)).fireCueOut x) := by
  show execCueOutFire x.handle s = _
  simp only [execCueOutFire, hx, hpassed, hrun]
  exact if_neg (by simp)

/-- A pulse on a line without one drives the line and runs for its width (R281). -/
theorem State.startPulse_alone {line : Nat} (pol : Bool) (width : Nat) (h : ∀ y ∈ s.eph.pulses, y.line ≠ line) :
    s.startPulse line pol width = s.modEph fun e => { e with
      pulses := e.pulses ++ [{ line := line, pol := pol, start := s.clk.now, stop := s.clk.now + width * usEdges }],
      lines := tput false e.lines line !pol } := by
  have hsame : s.eph.pulses.any (fun p => p.line == line && p.pol == pol) = false := by
    rw [List.any_eq_false]
    intro y hy
    simp [h y hy]
  simp only [State.startPulse, hsame, Bool.false_eq_true, ↓reduceIte, State.driveLine, State.modEph, List.filter_append,
    List.filter_cons, beq_self_eq_true, List.filter_nil, List.getLast?_concat]

/-- The only pulse of the lines ends, and its line idles (R281). -/
theorem cueOutPulseEnd_last {y : Pulse} (h : s.eph.pulses = [y]) : exec (.cueOutPulseEnd y.line) s =
    .next ((s.advanceTo y.stop).modEph fun e => { e with
      pulses := [], idle := tput false e.idle y.line y.pol, lines := tput false e.lines y.line y.pol }) := by
  show execCueOutPulseEnd y.line s = _
  simp only [execCueOutPulseEnd, h, List.filter_cons, beq_self_eq_true, ↓reduceIte, List.filter_nil, List.foldl_nil, State.driveLine,
    State.modEph, State.advanceTo_eph, bne_self_eq_false, Bool.false_eq_true, List.getLast?_nil, tget_tput_same]
  rfl

/-! ## A confirmed edge (R282, R283) -/

/-- A line's level and count after a confirmed edge. -/
def State.edgeSeen (s : State) (line : Nat) (level : Bool) : State :=
  ((s.setBitOf Reg.SCNQ_CUE_LEVEL 0 line level).count Reg.SCNQ_CUE_CNT line).setBitOf Reg.SCNQ_IRQ_CUE_EDGE 0 line true

/-- The slots whose CUE trigger waits for this edge of a line. -/
def State.edgeSlots (s : State) (line : Nat) (level : Bool) : List Nat := below 16 fun i =>
  s.get Reg.SLOT_TRIG i == 2 && (s.slotState i == 2 || s.slotState i == 4) && !(s.slot i).fired && (s.slot i).cue == line &&
    (s.slot i).edge == if level then 0 else 1

/-- The triggers of slots fire. -/
def State.fireSlots (s : State) (l : List Nat) : State := forEach (fun i s => s.setSlot i fun t => { t with fired := true }) l s

theorem State.fireSlots_frame (s : State) (l : List Nat) :
    s.fireSlots l = { s with scn := { s.scn with slots := (s.fireSlots l).scn.slots } } :=
  forEach_keeps (P := fun t : State => t = { s with scn := { s.scn with slots := t.scn.slots } })
    (fun i t ht => by
      show t.setSlot i _ = _
      rw [ht]
      rfl) l s rfl

theorem State.fired_setSlot_keeps (s : State) {i : Nat} (j : Nat) (h : (s.slot i).fired = true) :
    ((s.setSlot j fun t => { t with fired := true }).slot i).fired = true := by
  by_cases hij : i = j
  · subst hij
    rw [State.slot_setSlot_same]
  · rwa [State.slot_setSlot_other _ _ hij]

theorem State.fired_fireSlots (s : State) {l : List Nat} {i : Nat} (h : i ∈ l) : ((s.fireSlots l).slot i).fired = true :=
  forEach_each (P := fun i (t : State) => (t.slot i).fired = true)
    (fun i t => by rw [State.slot_setSlot_same]) (fun j _ t ht => t.fired_setSlot_keeps j ht) l s i h

theorem fldAt_cueEn {line : Nat} (h : line < 4) : fldAt Reg.SCNQ_CUE_EN line = 0x53080 + 4 * line := by
  simp [fldAt, Reg.SCNQ_CUE_EN]
  omega

theorem fldAt_cueCnt {line : Nat} (h : line < 4) : fldAt Reg.SCNQ_CUE_CNT line = 0x53090 + 4 * line := by
  simp [fldAt, Reg.SCNQ_CUE_CNT]
  omega

theorem cueEdgeConfirm_eq {line : Nat} (level : Bool) (hline : line < 4) (hball : s.onBall 0x0A line = true)
    (hen : s.getB Reg.SCNQ_CUE_EN line = true) (hslots : (s.edgeSeen line level).edgeSlots line level ≠ []) :
    exec (.cueEdgeConfirm line level) s =
      .next ((s.edgeSeen line level).fireSlots ((s.edgeSeen line level).edgeSlots line level)) := by
  have hgo : (decide (4 ≤ line) || !s.onBall 0x0A line) = false := by
    rw [hball, decide_eq_false (by omega)]
    rfl
  have hen' : (s.setBitOf Reg.SCNQ_CUE_LEVEL 0 line level).getB Reg.SCNQ_CUE_EN line = true := by
    rw [State.getB, State.setBitOf, State.get_put_word _ _ _ _ _ _ (by rw [fldAt_cueEn hline]; exact ne_of_lt (by show _ < 0x530A4; omega))]
    exact hen
  have hhits : ((s.edgeSeen line level).edgeSlots line level).isEmpty = false := by simpa using hslots
  show execCueEdgeConfirm line level s = _
  simp only [execCueEdgeConfirm, hgo, hen', Bool.false_eq_true, ↓reduceIte, Bool.not_true]
  exact if_neg (by rw [← State.edgeSeen, ← State.edgeSlots]; simp [hhits])

theorem State.get_edgeSeen (s : State) {line : Nat} (level : Bool) {f : Fld} {i : Nat}
    (hf : fldAt f i ∉ [0x53010, 0x530A4, fldAt Reg.SCNQ_CUE_CNT line]) : (s.edgeSeen line level).get f i = s.get f i := by
  simp only [List.mem_cons, List.not_mem_nil, or_false, not_or] at hf
  obtain ⟨hirq, hlevel, hcnt⟩ := hf
  exact (State.get_put_word _ _ _ _ _ _ hirq).trans ((State.get_put_word _ _ _ _ _ _ hcnt).trans (State.get_put_word _ _ _ _ _ _ hlevel))

/-- A confirmed edge shows the line's level and counts it. -/
theorem State.edgeSeen_shows (s : State) {line : Nat} (level : Bool) (hline : line < 4) :
    bit ((s.edgeSeen line level).get Reg.SCNQ_CUE_LEVEL) line = level ∧
      (s.edgeSeen line level).get Reg.SCNQ_CUE_CNT line = satInc 32 (s.get Reg.SCNQ_CUE_CNT line) 1 := by
  have hcnt : fldAt Reg.SCNQ_CUE_CNT line ≠ fldAt Reg.SCNQ_CUE_LEVEL 0 ∧
      fldAt Reg.SCNQ_CUE_CNT line ≠ fldAt Reg.SCNQ_IRQ_CUE_EDGE 0 := by
    rw [fldAt_cueCnt hline]
    exact ⟨ne_of_lt (show _ < 0x530A4 by omega), ne_of_gt (show 0x53010 < _ by omega)⟩
  obtain ⟨hlevel, hirq⟩ := hcnt
  constructor
  · rw [State.edgeSeen, State.setBitOf, State.get_put_word _ _ _ _ _ _ (by decide), State.count,
      State.get_put_word _ _ _ _ _ _ hlevel.symm]
    exact s.bit_setBitOf_same Reg.SCNQ_CUE_LEVEL 0 level (by decide) hline
  · rw [State.edgeSeen, State.setBitOf, State.get_put_word _ _ _ _ _ _ hirq, State.get_count_same _ _ _ _ (by decide), State.setBitOf,
      State.get_put_word _ _ _ _ _ _ hlevel]
    rfl

/-- An ARMED slot that waits for this edge is among those whose trigger fires. -/
theorem State.mem_edgeSlots {line i : Nat} {level : Bool} (hline : line < 4) (hi : i < 16) (htrig : s.get Reg.SLOT_TRIG i = 2)
    (hst : s.slotState i = 4) (hfired : (s.slot i).fired = false) (hcue : (s.slot i).cue = line)
    (hedge : (s.slot i).edge = if level then 0 else 1) : i ∈ (s.edgeSeen line level).edgeSlots line level := by
  have hword : fldAt Reg.SLOT_STATE i ∉ [0x53010, 0x530A4, fldAt Reg.SCNQ_CUE_CNT line] := by
    rw [fldAt_slotState, fldAt_cueCnt hline]
    simp
    omega
  have htrig' : (s.edgeSeen line level).get Reg.SLOT_TRIG i = 2 := (s.get_edgeSeen (f := Reg.SLOT_TRIG) level hword).trans htrig
  have hst' : (s.edgeSeen line level).slotState i = 4 := (s.get_edgeSeen level hword).trans hst
  have hslot : (s.edgeSeen line level).slot i = s.slot i := rfl
  exact List.mem_filter.2 ⟨List.mem_range.2 hi, by simp [htrig', hst', hslot, hfired, hcue, hedge]⟩

/-! ## The clauses of the statement -/

/-- A push that is refused leaves its answer, counts and interrupts alone. -/
theorem ephPush_refused {p : Plane} {v : Word} {u : State} {st : Nat} (hst : st < 256) (hu : u = { s with regs := u.regs })
    (h : exec (.ephPush p v) s = .next (u.ephAnswer p st 0)) : ∃ t : State, exec (.ephPush p v) s = .next t ∧
      t.getP p Reg.EPH_STATUS = st ∧ t.getP p Reg.EPH_DONE = 1 ∧ t.eph = s.eph ∧ t = { s with regs := t.regs } := by
  obtain ⟨hstatus, hdone, _⟩ := u.ephAnswer_answers p 0 hst
  have hframe : u.ephAnswer p st 0 = { s with regs := (u.ephAnswer p st 0).regs } := by
    rw [hu]
    rfl
  exact ⟨_, h, hstatus, hdone, (congrArg State.eph hframe :), hframe⟩

theorem cueOutFire_drives {x : EphEntry} {line width : Nat} {pol : Bool} (hx : s.eph.entries.find? isCueOut = some x)
    (hkind : x.kind = .cueOut line pol width) (hpassed : x.passed = false) (hrun : s.ptp.run = true)
    (halone : ∀ y ∈ s.eph.pulses, y.line ≠ line) :
    ∃ u : State, exec (.cueOutFire x.handle) s = .next u ∧ tget false u.eph.lines line = !pol ∧
      u.eph.entries = s.eph.entries.filter (fun y => !(y == x)) ∧ u.get Reg.EPH_IRQ_CUE_OUT = 1 ∧
      u.get Reg.EPH_FIRED = satInc 32 (s.get Reg.EPH_FIRED) 1 ∧ s.edgeOf x.time ≤ u.clk.now ∧
      u.eph.pulses = s.eph.pulses ++ [{ line := line, pol := pol, start := u.clk.now, stop := u.clk.now + 3000 * width }] := by
  refine ⟨_, cueOutFire_eq hx hpassed hrun, ?_⟩
  have hfired : (((s.advanceTo (s.edgeOf x.time)).ephFired x).irq Reg.EPH_IRQ_CUE_OUT).get Reg.EPH_FIRED =
      satInc 32 (s.get Reg.EPH_FIRED) 1 := by
    rw [State.irq, State.get_put_word _ _ _ _ _ _ (by decide), State.ephFired_due hpassed, State.get_count_same _ _ _ _ (by decide),
      State.get_ephDrop _ _ (by decide)]
    rfl
  simp only [State.fireCueOut, hkind]
  rw [State.startPulse_alone (s := (_ : State).irq _) pol width (by rw [State.irq_eph, State.ephFired_frame hpassed]; exact halone)]
  refine ⟨tget_tput_same _ _ _ _, ?_, State.get_put_same _ Reg.EPH_IRQ_CUE_OUT 0 1, hfired, ?_, ?_⟩
  · rw [State.ephFired_frame hpassed]
    rfl
  · rw [State.ephFired_frame hpassed]
    exact Nat.le_max_right _ _
  · rw [State.ephFired_frame hpassed, Nat.mul_comm 3000 width]
    rfl

theorem cueEdgeConfirm_fires {line i : Nat} {level : Bool} (hline : line < 4) (hi : i < 16) (hball : s.onBall 0x0A line = true)
    (hen : s.getB Reg.SCNQ_CUE_EN line = true) (htrig : s.get Reg.SLOT_TRIG i = 2) (hst : s.slotState i = 4)
    (hfired : (s.slot i).fired = false) (hcue : (s.slot i).cue = line) (hedge : (s.slot i).edge = if level then 0 else 1) :
    ∃ u : State, exec (.cueEdgeConfirm line level) s = .next u ∧ (u.slot i).fired = true ∧
      bit (u.get Reg.SCNQ_CUE_LEVEL) line = level ∧ u.get Reg.SCNQ_CUE_CNT line = satInc 32 (s.get Reg.SCNQ_CUE_CNT line) 1 ∧
      u = { s with regs := u.regs, scn := { s.scn with slots := u.scn.slots } } := by
  have hmem := State.mem_edgeSlots hline hi htrig hst hfired hcue hedge
  have hframe := (s.edgeSeen line level).fireSlots_frame ((s.edgeSeen line level).edgeSlots line level)
  obtain ⟨hlevel, hcnt⟩ := s.edgeSeen_shows level hline
  refine ⟨_, cueEdgeConfirm_eq level hline hball hen (List.ne_nil_of_mem hmem), State.fired_fireSlots _ hmem, ?_, ?_, ?_⟩
  · rw [hframe]
    exact hlevel
  · rw [hframe]
    exact hcnt
  · rw [hframe]
    rfl

theorem ephCommitFire_fires {slot : Nat} {x : EphEntry} (hx : s.eph.entries.find? (isCommitOf slot) = some x)
    (hpassed : x.passed = false) (htime : x.time ≤ s.ptp.thirdsAt s.nextBoundary) :
    ∃ u : State, exec (.ephCommitFire slot) s = .next u ∧ (u.slot slot).fired = true ∧
      u.eph.entries = s.eph.entries.filter (fun y => !(y == x)) ∧ s.cutoff s.nextBoundary ≤ u.clk.now ∧ u.dp = s.dp := by
  refine ⟨_, ephCommitFire_eq hx hpassed htime, ?_, ?_⟩
  · rw [State.fireCommit, State.slot_setSlot_same]
  · rw [State.fireCommit, State.ephFired_frame hpassed]
    exact ⟨rfl, Nat.le_max_right _ _, rfl⟩

/-- A read of the next time answers the earliest entry's, its words latched for the reading plane (R294). -/
theorem ephNextSecLoRead_first {x : EphEntry} {xs : List EphEntry} (hdom : s.domState 3 = 3) (hx : s.eph.entries = x :: xs) :
    ∃ u : State, exec (.ephNextSecLoRead .host) s = .next u ∧ u.host.readHost = [BitVec.ofNat 32 (secOf x.time)] ∧
      u.getP .host Reg.EPH_NEXT_SEC_HI = secOf x.time / 2 ^ 32 % 2 ^ fldWidth Reg.EPH_NEXT_SEC_HI ∧
      u.getP .host Reg.EPH_NEXT_NS = nsOf x.time % 2 ^ fldWidth Reg.EPH_NEXT_NS := by
  have hpage : s.domState (pageDomain 0x54) = 3 := hdom
  have hexec : exec (.ephNextSecLoRead .host) s = .next ((((s.putP .host Reg.EPH_NEXT_SEC_HI 0 (secOf x.time / 2 ^ 32)).putP .host
      Reg.EPH_NEXT_NS 0 (nsOf x.time)).putP .host Reg.EPH_EMPTY 0 0).setRead .host (secOf x.time % 2 ^ 32)) := by
    show execEphNextSecLoRead .host s = _
    simp only [execEphNextSecLoRead, State.readAt_on hpage, hx]
    rfl
  refine ⟨_, hexec, ?_, ?_, ?_⟩
  · exact congrArg (fun w => [w]) (BitVec.eq_of_toNat_eq (by simp))
  · rw [State.getP_setRead, State.getP_putP_word _ _ (by decide), State.getP_putP_word _ _ (by decide), State.getP_putP_same _ _ _ _ _]
  · rw [State.getP_setRead, State.getP_putP_apart _ _ _ (by decide) (by decide) (by decide), State.getP_putP_same _ _ _ _ _]

/-- Settles O28: a push by its three checks in order, a firing by the entry that leaves and the line or trigger it moves, and an edge by
the slots that wait for it. -/
theorem ephemerisAndCues : Obligations.EphemerisAndCues := by
  refine ⟨fun s p v hdom hv => ?_, fun s v hdom => ?_, fun s x line width pol hx hkind hpassed hrun halone => ?_, fun s line hnone => ?_,
    fun s line y hy hline => ?_, fun s line i level hline hi hball hen htrig hst hfired hcue hedge => ?_,
    fun s slot x hx hpassed htime => ?_, fun s x xs hdom hx => ?_⟩
  · have hpush := ephPush_eq p hdom hv
    refine ⟨fun hbad => ?_, fun ⟨hk, hw, hn⟩ hroom => ?_, fun ⟨hk, hw, hn⟩ hroom hpast => ?_,
      fun ⟨hk, hw, hn⟩ hroom hahead => ?_⟩
    · exact ephPush_refused (by decide) rfl (hpush.trans (if_pos (by omega)))
    · rw [if_neg (by omega), if_pos (by rw [hroom]; rfl)] at hpush
      exact ephPush_refused (by decide) rfl hpush
    · rw [if_neg (by omega), if_neg (by rw [hroom]; decide), if_pos (show s.pushTime p < _ from hpast)] at hpush
      exact ephPush_refused (by decide) rfl hpush
    · rw [if_neg (by omega), if_neg (by rw [hroom]; decide), if_neg (show ¬s.pushTime p < _ from Nat.not_lt.2 hahead)] at hpush
      obtain ⟨hstatus, hdone, hhandle⟩ := (s.ephPushed p).ephAnswer_answers p s.newHandle.1 (st := 0) (by decide)
      refine ⟨s.newHandle.1, _, hpush, hstatus, hdone, hhandle, ?_⟩
      rw [State.ephAnswer_frame]
      exact ⟨s.entries_ephPushed p, s.ephPushed_apart p⟩
  · exact ⟨_, ephCancel_eq v hdom, rfl, rfl⟩
  · exact cueOutFire_drives hx hkind hpassed hrun halone
  · show execCueOutPulseEnd line s = _
    rw [execCueOutPulseEnd, hnone]
    rfl
  · subst hline
    exact ⟨_, cueOutPulseEnd_last hy, rfl, Nat.le_max_right _ _, tget_tput_same _ _ _ _, rfl⟩
  · exact cueEdgeConfirm_fires hline hi hball hen htrig hst hfired hcue hedge
  · exact ephCommitFire_fires hx hpassed htime
  · exact ephNextSecLoRead_first hdom hx

end Sys2Proof.Machine
end

section
/-! SUPPORT. Commands of the scene engine by a plane or a ring, and the slots that they open, close, arm and end. Statement O25. -/

namespace Sys2Proof.Machine

-- one proof after another, so that waiting proofs do not use up the threads
set_option Elab.async false

variable {s t : State} {p : Plane} {q i : Nat}

/-! ## How a command is taken up (R284, R285) -/

/-- A ring's command as the scene engine serves it. -/
def ringScn (q : Nat) (c : RingCmd) : ScnCmd :=
  { who := .ring q, slot := bits (c.a 0) 8 4, a0 := c.a 1, a1 := c.a 2, a2 := c.a 3, a3 := c.a 4 }

/-- A ring's command is served on the state in which the ring has begun it. -/
theorem State.scnServe_ring {c : RingCmd} {op : Nat} (hc : s.ringCmd q 0x10 = some c) (hop : bits (c.a 0) 3 0 = op)
    (hoff : s.stagingOff = false) (slot : Nat) (f : ScnCmd → State → Out) :
    s.scnServe (.ring q) op slot f = f (ringScn q c) (s.ringBegan q) := by
  have htake : s.scnTake (.ring q) op slot = (some (ringScn q c), s.ringBegan q) := by
    rw [State.scnTake, hc]
    exact if_pos hop
  have hoff' : (s.ringBegan q).stagingOff = false := hoff
  simp only [State.scnServe, htake, hoff', Bool.false_eq_true, ↓reduceIte]

/-- A plane's command as the scene engine serves it. -/
def State.planeScn (s : State) (p : Plane) (slot : Nat) : ScnCmd :=
  { who := .reg p, slot := slot % 32, a0 := s.getP p Reg.SCNC_ARG 0, a1 := s.getP p Reg.SCNC_ARG 1, a2 := s.getP p Reg.SCNC_ARG 2,
    a3 := s.getP p Reg.SCNC_ARG 3 }

/-- A plane's command is taken up. -/
def State.scnTaken (s : State) (p : Plane) : State := (s.putP p Reg.SCNC_CMD_DONE 0 0).putP p Reg.SCNC_CMD_BUSY 0 1

theorem State.scnTaken_frame (s : State) (p : Plane) : s.scnTaken p = { s with regs := (s.scnTaken p).regs } := rfl

theorem State.get_scnTaken (s : State) (p : Plane) {f : Fld} {i : Nat} (h : fldAt f i < 0x1000000) :
    (s.scnTaken p).get f i = s.get f i := by
  rw [State.get, State.get, State.scnTaken, State.word_putP_low _ _ _ _ _ h, State.word_putP_low _ _ _ _ _ h]

theorem State.stagingOff_scnTaken (s : State) (p : Plane) : (s.scnTaken p).stagingOff = s.stagingOff := by
  have hmode : (s.scnTaken p).opMode = s.opMode := s.get_scnTaken p (by decide)
  rw [State.stagingOff, State.stagingOff, hmode]
  rfl

theorem fldAt_slotState_low (i : Nat) : fldAt Reg.SLOT_STATE i < 0x1000000 := by
  rw [fldAt_slotState]
  omega

theorem State.slotState_scnTaken (s : State) (p : Plane) (i : Nat) : (s.scnTaken p).slotState i = s.slotState i :=
  s.get_scnTaken p (fldAt_slotState_low i)

theorem State.slot_scnTaken (s : State) (p : Plane) (i : Nat) : (s.scnTaken p).slot i = s.slot i := rfl

/-- A plane's command is served unless the mode refuses every command (R270). -/
theorem State.scnServe_plane (hdark : s.pageDark 0x51 = false) (hbusy : s.getP p Reg.SCNC_CMD_BUSY = 0) (op slot : Nat)
    (f : ScnCmd → State → Out) : s.scnServe (.reg p) op slot f =
      if s.stagingOff then .next ((s.scnTaken p).scnDone (.reg p) (slot % 32) Scs.SCN_MODE 0)
      else f (s.planeScn p slot) (s.scnTaken p) := by
  have htake : s.scnTake (.reg p) op slot = (some (s.planeScn p slot), s.scnTaken p) := by
    simp only [State.scnTake, hdark, hbusy, Bool.false_eq_true, Nat.zero_ne_one, ↓reduceIte]
    rfl
  rw [State.scnServe, htake]
  simp only [State.stagingOff_scnTaken]
  rfl

theorem State.pageDark_of_staging (h : s.stagingOff = false) (page : Nat) : s.pageDark page = false := by
  have hmode : (s.opMode == 0) = false := by
    simp only [State.stagingOff, Bool.or_eq_false_iff] at h
    exact h.1.1
  rw [State.pageDark, hmode]
  rfl

/-! ## A plane's answer (R285) -/

/-- The answer of a command that a plane reads in its words. -/
def Answers (t : State) (p : Plane) (st n : Nat) : Prop :=
  t.getP p Reg.SCNC_CMD_BUSY = 0 ∧ t.getP p Reg.SCNC_CMD_DONE = 1 ∧ t.getP p Reg.SCNC_CMD_STATUS = st ∧
    t.getP p Reg.SCNC_STAT_SLOT = n

theorem State.scnDone_answers (s : State) (p : Plane) {n st : Nat} (hn : n < 32) (hst : st < 256) (index : Nat) :
    Answers (s.scnDone (.reg p) n st index) p st n := by
  have hindex : ∀ {f : Fld} (u : State), fldAt f 0 = fldAt Reg.SCNC_CMD_BUSY 0 →
      (u.putP p Reg.SCNC_CMD_INDEX 0 index).getP p f 0 = u.getP p f 0 := fun u hf =>
    u.getP_putP_word p (by rw [hf]; cases p <;> decide) _
  unfold State.scnDone Answers
  dsimp only
  refine ⟨?_, ?_, ?_, ?_⟩
  · rw [hindex _ (by decide), State.getP_putP_apart _ _ _ (by decide) (by decide) (by decide),
      State.getP_putP_apart _ _ _ (by decide) (by decide) (by decide), State.getP_putP_apart _ _ _ (by decide) (by decide) (by decide),
      State.getP_putP_same _ _ _ _ _]
    rfl
  · rw [hindex _ (by decide), State.getP_putP_apart _ _ _ (by decide) (by decide) (by decide),
      State.getP_putP_apart _ _ _ (by decide) (by decide) (by decide), State.getP_putP_same _ _ _ _ _]
    rfl
  · rw [hindex _ (by decide), State.getP_putP_same _ _ _ _ _]
    exact Nat.mod_eq_of_lt hst
  · rw [hindex _ (by decide), State.getP_putP_apart _ _ _ (by decide) (by decide) (by decide), State.getP_putP_same _ _ _ _ _]
    exact Nat.mod_eq_of_lt hn

theorem State.scnDone_frame (s : State) (p : Plane) (n st index : Nat) :
    s.scnDone (.reg p) n st index = { s with regs := (s.scnDone (.reg p) n st index).regs } := by
  unfold State.scnDone
  rfl

theorem State.slot_scnDone (s : State) (p : Plane) (n st index i : Nat) : (s.scnDone (.reg p) n st index).slot i = s.slot i := rfl

theorem State.get_scnDone (s : State) (p : Plane) (n st index : Nat) {f : Fld} {i : Nat} (h : fldAt f i < 0x1000000) :
    (s.scnDone (.reg p) n st index).get f i = s.get f i := by
  simp only [State.get, State.scnDone, State.word_putP_low _ _ _ _ _ h]

/-- A command that ends at once with its status answers its plane and changes no more. -/
theorem State.plane_refused (s : State) (p : Plane) {n st : Nat} (hn : n < 32) (hst : st < 256) :
    Answers ((s.scnTaken p).scnDone (.reg p) n st 0) p st n ∧ (s.scnTaken p).scnDone (.reg p) n st 0 =
      { s with regs := ((s.scnTaken p).scnDone (.reg p) n st 0).regs } := by
  refine ⟨(s.scnTaken p).scnDone_answers p hn hst 0, ?_⟩
  rw [State.scnDone_frame, State.scnTaken_frame]

/-! ## OPEN (R258, R284) -/

/-- The words of a slot's page that are the slot's. -/
def slotWords (i : Nat) : List Nat := (List.range 8).map fun w => fldAt Reg.SLOT_STATE i + 4 * w

theorem OnlyWords.trans {ks : List Nat} {u : State} (h : OnlyWords ks s t) (h' : OnlyWords ks t u) : OnlyWords ks s u := by
  obtain ⟨hframe, hword⟩ := h
  obtain ⟨hframe', hword'⟩ := h'
  refine ⟨?_, fun a ha => (hword' a ha).trans (hword a ha)⟩
  rw [hframe', hframe]

theorem OnlyWords.scn {ks : List Nat} (h : OnlyWords ks s t) : t.scn = s.scn := (congrArg State.scn h.1 :)

theorem OnlyWords.slot {ks : List Nat} (h : OnlyWords ks s t) (i : Nat) : t.slot i = s.slot i := by
  rw [State.slot, State.slot, h.scn]

/-- A slot's words are cleared. -/
def State.slotCleared (s : State) (i : Nat) : State := forRange (fun w s => s.setWord (fldAt Reg.SLOT_STATE i + 4 * w) 0) 0 8 s

theorem State.slotCleared_only (s : State) (i : Nat) : OnlyWords (slotWords i) s (s.slotCleared i) := by
  refine forRange_relates (R := OnlyWords (slotWords i)) (.refl _) .trans 8 0 (fun k x _ hk => ?_) s
  refine ⟨rfl, fun a ha => x.word_setWord_other _ _ _ fun e => ha ?_⟩
  exact List.mem_map.2 ⟨k, List.mem_range.2 (by omega), e.symm⟩

theorem State.slot_slotCleared (s : State) (i j : Nat) : (s.slotCleared i).slot j = s.slot j := (s.slotCleared_only i).slot j

theorem slotState_notSlot {i j : Nat} (hi : i < 16) (hj : j < 16) (h : j ≠ i) : fldAt Reg.SLOT_STATE j ∉ slotWords i := by
  rw [slotWords, fldAt_slotState, fldAt_slotState]
  simp
  omega

/-- A slot is opened, without moves, and takes a staging buffer. -/
def State.slotOpened (s : State) (i : Nat) : State :=
  (((s.slotCleared i).put Reg.SLOT_STATE i 1).setSlot i fun _ => {}).allocBuf (openSize (stageOwner i)) clsStage (stageOwner i)

theorem slotState_notPasses (i : Nat) : fldAt Reg.SLOT_STATE i ∉ passWords := by
  rw [fldAt_slotState]
  simp [passWords]
  omega

theorem BufsOnly.scn {ks : List Nat} (h : BufsOnly ks s t) : t.scn = s.scn := (congrArg State.scn h.1 :)

theorem State.slotState_allocBuf (s : State) (size cls owner i : Nat) : (s.allocBuf size cls owner).slotState i = s.slotState i := by
  rw [State.slotState, State.slotState, State.get, State.get, (s.allocBuf_bufs size cls owner).2 _ (slotState_notPasses i)]

theorem State.slot_allocBuf (s : State) (size cls owner i : Nat) : (s.allocBuf size cls owner).slot i = s.slot i := by
  rw [State.slot, State.slot, (s.allocBuf_bufs size cls owner).scn]

theorem State.slotState_setSlot (s : State) (i j : Nat) (f : Slot → Slot) : (s.setSlot j f).slotState i = s.slotState i := rfl

theorem State.slot_put (s : State) (f : Fld) (j v i : Nat) : (s.put f j v).slot i = s.slot i := rfl

theorem State.slotState_put_same (s : State) (i v : Nat) : (s.put Reg.SLOT_STATE i v).slotState i = v % 8 :=
  State.get_put_same _ Reg.SLOT_STATE i v

theorem State.slotOpened_self (s : State) (i : Nat) : (s.slotOpened i).slotState i = 1 ∧ (s.slotOpened i).slot i = {} := by
  rw [State.slotOpened, State.slotState_allocBuf, State.slotState_setSlot, State.slotState_put_same, State.slot_allocBuf,
    State.slot_setSlot_same]
  exact ⟨rfl, rfl⟩

theorem State.slotOpened_other (s : State) {i j : Nat} (hi : i < 16) (hj : j < 16) (h : j ≠ i) :
    (s.slotOpened i).slotState j = s.slotState j ∧ (s.slotOpened i).slot j = s.slot j := by
  have hne : fldAt Reg.SLOT_STATE j ≠ fldAt Reg.SLOT_STATE i := by
    rw [fldAt_slotState, fldAt_slotState]
    omega
  rw [State.slotOpened, State.slotState_allocBuf, State.slotState_setSlot, State.slot_allocBuf, State.slot_setSlot_other _ _ h,
    State.slot_put, State.slot_slotCleared, State.slotState, State.get_put_word _ _ _ _ _ _ hne,
    (s.slotCleared_only i).get (slotState_notSlot hi hj h)]
  exact ⟨rfl, rfl⟩

theorem State.slotState_showScn (s : State) (i : Nat) : s.showScn.slotState i = s.slotState i :=
  s.showScn_only.get (slotState_notTotals i)

theorem State.slot_showScn (s : State) (i : Nat) : s.showScn.slot i = s.slot i := s.showScn_only.slot i

section Open

variable (hoff : s.stagingOff = false) (hbusy : s.getP p Reg.SCNC_CMD_BUSY = 0)

include hoff hbusy

/-- OPEN by a plane where no slot is FREE. -/
theorem openSlot_full (hfull : (List.range 16).find? (fun j => s.slotState j == 0) = none) :
    exec (.openSlot (.reg p)) s = .next ((s.scnTaken p).scnDone (.reg p) 0 Scs.SLOTS_FULL 0) := by
  show execOpenSlot (.reg p) s = _
  rw [execOpenSlot, State.scnServe_plane (State.pageDark_of_staging hoff _) hbusy, hoff]
  simp only [State.slotState_scnTaken, hfull]
  rfl

/-- OPEN by a plane takes the lowest FREE slot. -/
theorem openSlot_takes (hfree : (List.range 16).find? (fun j => s.slotState j == 0) = some i) :
    exec (.openSlot (.reg p)) s = .next (((s.scnTaken p).slotOpened i).showScn.scnDone (.reg p) i 0 0) := by
  show execOpenSlot (.reg p) s = _
  rw [execOpenSlot, State.scnServe_plane (State.pageDark_of_staging hoff _) hbusy, hoff]
  simp only [State.slotState_scnTaken, hfree]
  rfl

end Open

/-! ## The end of a slot without committing (R264) -/

theorem BufsOnly.trans {ks : List Nat} {u : State} (h : BufsOnly ks s t) (h' : BufsOnly ks t u) : BufsOnly ks s u := by
  refine ⟨?_, fun a ha => (h'.2 a ha).trans (h.2 a ha)⟩
  rw [h'.eq]
  exact h.1

theorem BufsOnly.get {ks : List Nat} (h : BufsOnly ks s t) {f : Fld} {i : Nat} (hf : fldAt f i ∉ ks) : t.get f i = s.get f i := by
  rw [State.get, State.get, h.2 _ hf]

theorem BufsOnly.eph {ks : List Nat} (h : BufsOnly ks s t) : t.eph = s.eph := (congrArg State.eph h.1 :)

theorem State.freeBufs_bufs (s : State) (cls owner : Nat) : BufsOnly passWords s (s.freeBufs cls owner) :=
  forEach_keeps (P := BufsOnly passWords s) (fun _ x h => h.trans (x.retag_bufs _ _ _ _)) _ s ⟨rfl, fun _ _ => rfl⟩

theorem OnlyWords.weaken {ks ks' : List Nat} (h : OnlyWords ks s t) (hk : ks ⊆ ks') : OnlyWords ks' s t :=
  ⟨h.1, fun a ha => h.2 a fun hm => ha (hk hm)⟩

theorem State.shown_only (s : State) (i : Nat) : OnlyWords (movesWords i ++ totalWords) s (s.showSlot i).showScn :=
  ((s.showSlot_only i).weaken (List.subset_append_left _ _)).trans ((State.showScn_only _).weaken (List.subset_append_right _ _))

theorem OnlyWords.eph {ks : List Nat} (h : OnlyWords ks s t) : t.eph = s.eph := (congrArg State.eph h.1 :)

/-- A slot is FREE and empty, with its status in its report. -/
def State.slotEmptied (s : State) (i status : Nat) : State :=
  (((if okUpto 2 4 (s.slotState i) then s.mirrorSlot 2 i s.idx else s).put Reg.SLOT_STATUS i status).put Reg.SLOT_STATE i 0).setSlot i
    fun _ => {}

/-- Its COMMIT entry and its buffers go as well. -/
def State.slotFreed (s : State) (i status : Nat) : State :=
  ((s.slotEmptied i status).ephDrop (isCommitOf i)).freeBufs clsStage (stageOwner i)

theorem State.endSlot_eq (s : State) (i status : Nat) : s.endSlot i status =
    ((if status ≠ 0 then (s.slotFreed i status).irq Reg.SCN_IRQ_REFUSED else s.slotFreed i status).showSlot i).showScn := rfl

theorem State.slotEmptied_self (s : State) (i status : Nat) :
    (s.slotEmptied i status).slotState i = 0 ∧ (s.slotEmptied i status).slot i = {} := by
  rw [State.slotEmptied, State.slotState_setSlot, State.slotState_put_same, State.slot_setSlot_same]
  exact ⟨rfl, rfl⟩

theorem State.eph_mirrorSlot (s : State) (op lane sample : Nat) : (s.mirrorSlot op lane sample).eph = s.eph := by
  rw [State.mirrorSlot]
  split
  · rw [State.sendRecord_frame]
  · rfl

theorem State.eph_slotEmptied (s : State) (i status : Nat) : (s.slotEmptied i status).eph = s.eph := by
  show (if okUpto 2 4 (s.slotState i) then s.mirrorSlot 2 i s.idx else s).eph = s.eph
  split
  · exact s.eph_mirrorSlot _ _ _
  · rfl

theorem slotState_notEph (i : Nat) : fldAt Reg.SLOT_STATE i ∉ ephWords := by
  rw [fldAt_slotState]
  simp [ephWords, fldAt, Reg.EPH_USED, Reg.EPH_NET_USED, Reg.EPH_EMPTY]
  omega

theorem State.slotFreed_self (s : State) (i status : Nat) :
    (s.slotFreed i status).slotState i = 0 ∧ (s.slotFreed i status).slot i = {} ∧
      (s.slotFreed i status).eph.entries = s.eph.entries.filter fun x => !isCommitOf i x := by
  have hbufs := ((s.slotEmptied i status).ephDrop (isCommitOf i)).freeBufs_bufs clsStage (stageOwner i)
  obtain ⟨hstate, hslot⟩ := s.slotEmptied_self i status
  refine ⟨?_, ?_, ?_⟩
  · exact (hbufs.get (slotState_notPasses i)).trans ((State.get_ephDrop _ _ (slotState_notEph i)).trans hstate)
  · rw [State.slot, State.slotFreed, hbufs.scn]
    exact hslot
  · rw [State.slotFreed, hbufs.eph, State.ephDrop_frame]
    exact congrArg (fun e => e.entries.filter fun x => !isCommitOf i x) (s.eph_slotEmptied i status)

/-- What a slot's end shows and leaves (R264). -/
theorem State.endSlot_self (s : State) (i status : Nat) :
    (s.endSlot i status).slotState i = 0 ∧ (s.endSlot i status).slot i = {} ∧
      ((s.endSlot i status).eph.entries = s.eph.entries.filter fun x => !isCommitOf i x) ∧
      (status ≠ 0 → (s.endSlot i status).get Reg.SCN_IRQ_REFUSED = 1) := by
  obtain ⟨hstate, hslot, hentries⟩ := s.slotFreed_self i status
  have hshown := fun u : State => u.shown_only i
  have hirq : fldAt Reg.SLOT_STATE i ≠ fldAt Reg.SCN_IRQ_REFUSED 0 := slotState_ne (by decide)
  have hnot : fldAt Reg.SLOT_STATE i ∉ movesWords i ++ totalWords := by
    rw [List.mem_append, not_or]
    exact ⟨slotState_notMoves i i, slotState_notTotals i⟩
  rw [State.endSlot_eq]
  refine ⟨((hshown _).get hnot).trans ?_, ((hshown _).slot i).trans ?_, ?_, fun hst => ?_⟩
  · split
    · exact (State.get_put_word _ _ _ _ _ _ hirq).trans hstate
    · exact hstate
  · split <;> exact hslot
  · rw [(hshown _).eph]
    split <;> exact hentries
  · have hirqNot : fldAt Reg.SCN_IRQ_REFUSED 0 ∉ movesWords i ++ totalWords := by
      rw [List.mem_append, not_or]
      exact ⟨notMoves_of_page (by decide) i, by decide⟩
    rw [if_pos hst, (hshown _).get hirqNot]
    exact State.get_put_same _ Reg.SCN_IRQ_REFUSED 0 1

theorem State.load_endSlot (s : State) (i status : Nat) : (s.endSlot i status).scn.load = s.scn.load := by
  rw [((CutOnly.refl i s).endSlot status).eq]

theorem State.loadCut_none (h : s.scn.load = none) (slot status : Nat) : s.loadCut slot status = s := by
  rw [State.loadCut, h]
  rfl

/-! ## Admission at CLOSE (R261) -/

theorem State.partnerFollows_put (s : State) {f : Fld} {i : Nat} (v : Nat) (hf : fldAt f i ∉ partnerWords) :
    (s.put f i v).partnerFollows = s.partnerFollows :=
  State.partnerFollows_congr (fun _ ha => s.word_put_other _ _ _ _ fun e => hf (e ▸ ha)) rfl

theorem slotState_notPartner (i : Nat) : fldAt Reg.SLOT_STATE i ∉ partnerWords := by
  rw [fldAt_slotState]
  simp [partnerWords, fldAt, Reg.STBY_PAIR, Reg.STBY_ACTIVE, Reg.KZL_UP]
  omega

/-- A slot whose moves are admitted is DERIVING. -/
theorem State.closeSlot_admitted (hp : s.partnerFollows = false) (hfailed : (s.slot i).failed = 0)
    (hadm : s.admission s.stagedMoves (s.slot i).moves = 0) : s.closeSlot i = (0, s.put Reg.SLOT_STATE i 2) := by
  have hput : (s.put Reg.SLOT_STATE i 2).partnerFollows = false := (s.partnerFollows_put 2 (slotState_notPartner i)).trans hp
  have hsent : forEach (fun m s => s.mirrorMove i 0 m) (s.slot i).moves (s.put Reg.SLOT_STATE i 2) = s.put Reg.SLOT_STATE i 2 :=
    forEach_keeps (P := (· = s.put Reg.SLOT_STATE i 2)) (fun m x hx => by rw [hx, State.mirrorMove_alone hput]) _ _ rfl
  simp only [State.closeSlot, hfailed, hadm, ne_eq, not_true_eq_false, ↓reduceIte, hsent, State.mirrorSlot_alone hput]

/-- A slot whose moves are refused ends with the refusal. -/
theorem State.closeSlot_refused {st : Nat} (hst : st ≠ 0) (hfailed : (s.slot i).failed = 0)
    (hadm : s.admission s.stagedMoves (s.slot i).moves = st) : s.closeSlot i = (st, (s.countRefusal st).endSlot i st) := by
  simp only [State.closeSlot, hfailed, hadm, ne_eq, not_true_eq_false, ↓reduceIte, hst, not_false_eq_true]

/-! ## Triggers (R266) -/

/-- HOLD is attached to a slot. -/
def State.holds (s : State) (i : Nat) : State := (s.put Reg.SLOT_TRIG i 3).putB Reg.SLOT_LATE_ABORT i false

theorem State.attach_hold (s : State) (i time : Nat) : s.attach i 3 time = (0, s.holds i) := rfl

/-- NEXT is attached to a slot: its trigger has fired. -/
def State.firesNext (s : State) (i : Nat) : State :=
  (((s.put Reg.SLOT_TRIG i 0).putB Reg.SLOT_LATE_ABORT i false).modScn fun x => { x with orders := x.orders + 1 }).setSlot i fun t =>
    { t with order := s.scn.orders + 1, fired := true, missed := false, cue := 0, edge := 0 }

theorem State.attach_next (s : State) (i time : Nat) : s.attach i 0 time = (0, s.firesNext i) := rfl

theorem State.get_trig_put_state (s : State) (i v : Nat) : (s.put Reg.SLOT_STATE i v).get Reg.SLOT_TRIG i = s.get Reg.SLOT_TRIG i :=
  s.get_put_apart Reg.SLOT_STATE Reg.SLOT_TRIG i i v (by decide) (by decide)

theorem State.holds_self (s : State) (i : Nat) : (s.holds i).get Reg.SLOT_TRIG i = 3 ∧ (s.holds i).slotState i = s.slotState i := by
  rw [State.holds, State.putB, State.slotState, State.get_put_apart _ _ _ _ _ _ (by decide) (by decide), State.get_put_same _ _ _ _,
    State.get_put_apart _ _ _ _ _ _ (by decide) (by decide), State.get_put_apart _ _ _ _ _ _ (by decide) (by decide)]
  exact ⟨rfl, rfl⟩

theorem State.firesNext_self (s : State) (i : Nat) : (s.firesNext i).get Reg.SLOT_TRIG i = 0 ∧
    (s.firesNext i).slot i = { s.slot i with order := s.scn.orders + 1, fired := true, missed := false, cue := 0, edge := 0 } := by
  refine ⟨?_, State.slot_setSlot_same _ _ _⟩
  show ((s.put Reg.SLOT_TRIG i 0).putB Reg.SLOT_LATE_ABORT i false).get Reg.SLOT_TRIG i = 0
  rw [State.putB, State.get_put_apart _ _ _ _ _ _ (by decide) (by decide), State.get_put_same _ _ _ _]
  rfl

/-- Outside START and MAINT, and under a trigger other than NEXT, nothing commits at once (R270). -/
theorem State.commitNow_waits (h : (s.opMode = 1 ∨ s.opMode = 2) → s.get Reg.SLOT_TRIG i ≠ 0) : s.commitNow i = s :=
  if_neg fun ⟨hmode, _, htrig⟩ => h hmode htrig

/-- A slot armed under NEXT, its trigger fired, commits at the next cutoff (R266). -/
def State.armedNext (s : State) (i : Nat) : State := ((s.firesNext i).put Reg.SLOT_STATE i 4).irq Reg.SCN_IRQ_READY

theorem State.armedNext_self (s : State) (i : Nat) : (s.armedNext i).slotState i = 4 ∧ (s.armedNext i).get Reg.SLOT_TRIG i = 0 ∧
    (s.armedNext i).slot i = { s.slot i with order := s.scn.orders + 1, fired := true, missed := false, cue := 0, edge := 0 } := by
  obtain ⟨htrig, hslot⟩ := s.firesNext_self i
  have hne : fldAt Reg.SLOT_STATE i ≠ fldAt Reg.SCN_IRQ_READY 0 := slotState_ne (by decide)
  refine ⟨(State.get_put_word _ _ _ _ _ _ hne).trans (State.slotState_put_same _ i 4), ?_, hslot⟩
  exact (State.get_put_word _ Reg.SCN_IRQ_READY Reg.SLOT_TRIG 0 i _ hne).trans ((State.get_trig_put_state _ i 4).trans htrig)

theorem State.opMode_armedNext (s : State) (i : Nat) : (s.armedNext i).opMode = s.opMode := by
  have hstate : fldAt Reg.MODE_MODE 0 ≠ fldAt Reg.SLOT_STATE i := (slotState_ne (by decide)).symm
  have htrig : fldAt Reg.MODE_MODE 0 ≠ fldAt Reg.SLOT_TRIG i := hstate
  have hlate : fldAt Reg.MODE_MODE 0 ≠ fldAt Reg.SLOT_LATE_ABORT i := hstate
  have hfires : (s.firesNext i).get Reg.MODE_MODE = ((s.put Reg.SLOT_TRIG i 0).putB Reg.SLOT_LATE_ABORT i false).get Reg.MODE_MODE := rfl
  rw [State.opMode, State.armedNext, State.irq, State.get_put_word _ _ _ _ _ _ (by decide), State.get_put_word _ _ _ _ _ _ hstate, hfires,
    State.putB, State.get_put_word _ _ _ _ _ _ hlate, State.get_put_word _ _ _ _ _ _ htrig]
  rfl

/-! ## CLOSE, ARM and ABORT by a ring -/

theorem State.get_trig_shown (s : State) (i : Nat) : (s.showSlot i).get Reg.SLOT_TRIG i = s.get Reg.SLOT_TRIG i :=
  (s.showSlot_only i).get (f := Reg.SLOT_TRIG) (slotState_notMoves i i)

theorem State.get_trig_readied (s : State) (i : Nat) : (s.readied i).get Reg.SLOT_TRIG i = s.get Reg.SLOT_TRIG i :=
  ((s.readied_only i).get (f := Reg.SLOT_TRIG) (slotState_notMoves i i)).trans
    ((State.get_put_word _ Reg.SCN_IRQ_READY Reg.SLOT_TRIG 0 i _ (slotState_ne (by decide))).trans (s.get_trig_put_state i 3))

/-- A slot under HOLD is READY once its moves are all staged, and DERIVING until then (R258). -/
theorem State.settled_under_hold (hst : s.slotState i = 2) (hload : s.scn.load = none) (htrig : s.get Reg.SLOT_TRIG i = 3) :
    (s.settled i).slot i = s.slot i ∧ (s.settled i).get Reg.SLOT_TRIG i = 3 ∧
      (s.settled i).slotState i = if (s.slot i).moves.all (·.derive == 0) then 3 else 2 := by
  by_cases hall : (s.slot i).moves.all (·.derive == 0) = true
  · rw [State.settled_hold hst hload htrig fun m hm => beq_iff_eq.1 (List.all_eq_true.1 hall m hm), if_pos hall]
    exact ⟨(s.readied_only i).slot i, (s.get_trig_readied i).trans htrig, s.slotState_readied i⟩
  · have hset : s.settled i = s.showSlot i := by
      have hnone : (s.showSlot i).scn.load = none := by
        rw [(s.showSlot_only i).scn]
        exact hload
      simp only [State.settled, State.settleSlot, if_neg (fun h : s.slotState i = 2 ∧ _ => hall h.2), hnone, Option.any_none,
        Bool.false_eq_true, ↓reduceIte]
    rw [hset, if_neg hall]
    exact ⟨(s.showSlot_only i).slot i, (s.get_trig_shown i).trans htrig, ((s.showSlot_only i).get (slotState_notMoves i i)).trans hst⟩

/-- A slot closed under HOLD. -/
def State.closedHold (s : State) (i : Nat) : State := (((s.put Reg.SLOT_STATE i 2).holds i).settled i).showScn

theorem State.closedHold_self (hload : s.scn.load = none) : ((s.closedHold i).slot i).moves = (s.slot i).moves ∧
    (s.closedHold i).get Reg.SLOT_TRIG i = 3 ∧
    (s.closedHold i).slotState i = if (s.slot i).moves.all (·.derive == 0) then 3 else 2 := by
  obtain ⟨htrig, hstate⟩ := (s.put Reg.SLOT_STATE i 2).holds_self i
  obtain ⟨hslot', htrig', hstate'⟩ :=
    State.settled_under_hold (s := (s.put Reg.SLOT_STATE i 2).holds i) (hstate.trans (s.slotState_put_same i 2)) hload htrig
  have hslot : ((s.put Reg.SLOT_STATE i 2).holds i).slot i = s.slot i := rfl
  rw [State.closedHold, State.slot_showScn, State.slotState_showScn, hslot', hstate', hslot]
  exact ⟨rfl, ((State.showScn_only _).get (f := Reg.SLOT_TRIG) (slotState_notTotals i)).trans htrig', rfl⟩

theorem trigOk_hold (a2 a3 : Nat) : trigOk 3 a2 a3 = true := rfl

theorem argsGood_hold (hi : i < 16) (a2 a3 : Nat) : (decide (16 ≤ i) || !trigOk 3 a2 a3) = false := by
  rw [trigOk_hold, decide_eq_false (by omega)]
  rfl

theorem trigOk_next (a2 a3 : Nat) : trigOk 0 a2 a3 = true := rfl

theorem State.trigMode_hold (s : State) : s.trigMode 3 = true := by
  rw [State.trigMode, show (trigKind 3 == 1 || trigKind 3 == 2) = false from rfl, Bool.and_false]
  rfl

theorem State.trigMode_next (s : State) : s.trigMode 0 = true := by
  rw [State.trigMode, show (trigKind 0 == 1 || trigKind 0 == 2) = false from rfl, Bool.and_false]
  rfl

section Ring

variable {c : RingCmd} (hc : s.ringCmd q 0x10 = some c) (hslot : bits (c.a 0) 8 4 = i) (hi : i < 16) (hoff : s.stagingOff = false)

include hc hslot hi hoff

theorem close_hold_slotState (hop : bits (c.a 0) 3 0 = 2) (htrig : c.a 1 = 3) (hst : s.slotState i ≠ 1) :
    exec (.close (.ring q) i) s = .next ((s.ringBegan q).ringEnd q i Scs.SLOT_STATE 0) := by
  show execClose (.ring q) i s = _
  rw [execClose, State.scnServe_ring hc hop hoff]
  simp only [ringScn, hslot, htrig, argsGood_hold hi, Bool.false_eq_true, ↓reduceIte]
  exact if_pos hst

/-- A ring's CLOSE of an OPEN slot under HOLD goes by the admission of its moves. -/
theorem close_hold_eq (hop : bits (c.a 0) 3 0 = 2) (htrig : c.a 1 = 3) (hst : s.slotState i = 1) {st : Nat} {u : State}
    (hclose : (s.ringBegan q).closeSlot i = (st, u)) (hload : u.scn.load = none) : exec (.close (.ring q) i) s =
      if st ≠ 0 then .next (u.ringEnd q i st 0) else .next ((((u.holds i).settled i).commitNow i).showScn.ringEnd q i 0 0) := by
  have hmode : (!(s.ringBegan q).trigMode 3) = false := by rw [State.trigMode_hold]; rfl
  have hst' : (s.ringBegan q).slotState i = 1 := hst
  show execClose (.ring q) i s = _
  rw [execClose, State.scnServe_ring hc hop hoff]
  simp only [ringScn, hslot, htrig, argsGood_hold hi, hmode, hst', hclose, State.loadCut_none hload, State.attach_hold, Bool.false_eq_true,
    ne_eq, not_true_eq_false, ↓reduceIte]
  rfl

/-- A slot whose moves are admitted is closed under HOLD. -/
theorem close_hold_admitted (hop : bits (c.a 0) 3 0 = 2) (htrig : c.a 1 = 3) (hload : s.scn.load = none)
    (hp : s.partnerFollows = false) (hst : s.slotState i = 1) (hfailed : (s.slot i).failed = 0)
    (hadm : s.admission s.stagedMoves (s.slot i).moves = 0) :
    exec (.close (.ring q) i) s = .next (((s.ringBegan q).closedHold i).ringEnd q i 0 0) := by
  have hclose := State.closeSlot_admitted (s := s.ringBegan q) (i := i) hp hfailed hadm
  have hcommit := State.commitNow_waits (s := (((s.ringBegan q).put Reg.SLOT_STATE i 2).holds i).settled i) (i := i) fun _ => by
    obtain ⟨htrig, hstate⟩ := ((s.ringBegan q).put Reg.SLOT_STATE i 2).holds_self i
    rw [(State.settled_under_hold (hstate.trans (State.slotState_put_same _ i 2)) hload htrig).2.1]
    decide
  rw [close_hold_eq hc hslot hi hoff hop htrig hst hclose hload, if_neg (not_not_intro rfl), hcommit]
  rfl

/-- A slot whose moves are refused ends with the refusal. -/
theorem close_hold_refused (hop : bits (c.a 0) 3 0 = 2) (htrig : c.a 1 = 3) (hload : s.scn.load = none) (hst : s.slotState i = 1)
    (hfailed : (s.slot i).failed = 0) {st : Nat} (hne : st ≠ 0) (hadm : s.admission s.stagedMoves (s.slot i).moves = st) :
    exec (.close (.ring q) i) s = .next ((((s.ringBegan q).countRefusal st).endSlot i st).ringEnd q i st 0) := by
  have hclose := State.closeSlot_refused (s := s.ringBegan q) (i := i) hne hfailed hadm
  have hnone : (((s.ringBegan q).countRefusal st).endSlot i st).scn.load = none := by
    rw [State.load_endSlot, State.countRefusal]
    split <;> exact hload
  rw [close_hold_eq hc hslot hi hoff hop htrig hst hclose hnone, if_pos hne]

theorem arm_next_eq (hop : bits (c.a 0) 3 0 = 3) (htrig : c.a 1 = 0) : exec (.arm (.ring q) i) s =
    if s.slotState i ≠ 3 then .next ((s.ringBegan q).ringEnd q i Scs.SLOT_STATE 0)
    else .next ((((s.ringBegan q).armedNext i).commitNow i).ringEnd q i 0 0) := by
  have hgood : ∀ a2 a3, (decide (16 ≤ i) || !trigOk 0 a2 a3 || trigKind 0 == 3) = false := fun a2 a3 => by
    rw [trigOk_next, decide_eq_false (by omega)]
    rfl
  have hmode : (!(s.ringBegan q).trigMode 0) = false := by rw [State.trigMode_next]; rfl
  show execArm (.ring q) i s = _
  rw [execArm, State.scnServe_ring hc hop hoff]
  simp only [ringScn, hslot, htrig, hgood, hmode, State.attach_next, Bool.false_eq_true, ↓reduceIte]
  rfl

theorem abort_eq (hop : bits (c.a 0) 3 0 = 4) (hload : s.scn.load = none) : exec (.abort (.ring q) i) s =
    if s.slotState i = 0 ∨ s.slotState i = 5 then .next ((s.ringBegan q).ringEnd q i Scs.SLOT_STATE 0)
    else .next (((s.ringBegan q).endSlot i 0).ringEnd q i 0 0) := by
  have hnone : ((s.ringBegan q).endSlot i 0).scn.load = none := (State.load_endSlot _ _ _).trans hload
  show execAbort (.ring q) i s = _
  rw [execAbort, State.scnServe_ring hc hop hoff]
  simp only [ringScn, hslot, State.loadCut_none hnone]
  rw [if_neg (by omega)]
  rfl

end Ring

/-! ## CLOSE, ARM and ABORT by a plane -/

section Plane

variable (hbusy : s.getP p Reg.SCNC_CMD_BUSY = 0) {slot : Nat} (hlt : slot < 32)

include hbusy hlt

/-- Where staging is not allowed, a plane's command answers SCN_MODE and changes no more (R270). -/
theorem State.scnServe_off (hoff : s.stagingOff = true) (hdark : s.pageDark 0x51 = false) (op : Nat) (f : ScnCmd → State → Out) :
    s.scnServe (.reg p) op slot f = .next ((s.scnTaken p).scnDone (.reg p) slot Scs.SCN_MODE 0) := by
  rw [State.scnServe_plane hdark hbusy, if_pos hoff, Nat.mod_eq_of_lt hlt]

theorem abort_plane_eq (hoff : s.stagingOff = false) (hfree : 16 ≤ slot ∨ s.slotState slot = 0 ∨ s.slotState slot = 5) :
    exec (.abort (.reg p) slot) s =
      .next ((s.scnTaken p).scnDone (.reg p) slot (if 16 ≤ slot then Scs.BAD_ARG else Scs.SLOT_STATE) 0) := by
  show execAbort (.reg p) slot s = _
  rw [execAbort, State.scnServe_plane (State.pageDark_of_staging hoff _) hbusy, hoff]
  simp only [State.planeScn, Nat.mod_eq_of_lt hlt, State.slotState_scnTaken, Bool.false_eq_true, ↓reduceIte]
  split
  · rfl
  · next h => exact if_pos (hfree.resolve_left h)

end Plane

/-! ## The statement -/

/-- A plane's command that only answers. -/
theorem plane_answers {i : Instr} {n st : Nat} (hn : n < 32) (hst : st < 256)
    (h : exec i s = .next ((s.scnTaken p).scnDone (.reg p) n st 0)) :
    ∃ t : State, exec i s = .next t ∧ Answers t p st n ∧ t = { s with regs := t.regs } :=
  have ⟨hanswers, hframe⟩ := s.plane_refused p hn hst
  ⟨_, h, hanswers, hframe⟩

theorem openSlot_opens (hoff : s.stagingOff = false) (hbusy : s.getP p Reg.SCNC_CMD_BUSY = 0)
    (hfree : (List.range 16).find? (fun j => s.slotState j == 0) = some i) :
    ∃ t : State, exec (.openSlot (.reg p)) s = .next t ∧ Answers t p 0 i ∧ t.slotState i = 1 ∧ t.slot i = {} ∧
      ∀ j, j < 16 → j ≠ i → t.slotState j = s.slotState j ∧ t.slot j = s.slot j := by
  have hi : i < 16 := List.mem_range.1 (List.mem_of_find?_eq_some hfree)
  have hstate : ∀ j, ((((s.scnTaken p).slotOpened i).showScn).scnDone (.reg p) i 0 0).slotState j =
      ((s.scnTaken p).slotOpened i).slotState j := fun j =>
    (State.get_scnDone _ _ _ _ _ (fldAt_slotState_low j)).trans (State.slotState_showScn _ j)
  have hslot : ∀ j, ((((s.scnTaken p).slotOpened i).showScn).scnDone (.reg p) i 0 0).slot j =
      ((s.scnTaken p).slotOpened i).slot j := fun j => (State.slot_scnDone _ _ _ _ _ j).trans (State.slot_showScn _ j)
  obtain ⟨hopen, hempty⟩ := (s.scnTaken p).slotOpened_self i
  refine ⟨_, openSlot_takes hoff hbusy hfree, State.scnDone_answers _ p (by omega) (by decide) 0, (hstate i).trans hopen, (hslot i).trans hempty,
    fun j hj hne => ?_⟩
  obtain ⟨hkept, hkept'⟩ := (s.scnTaken p).slotOpened_other hi hj hne
  exact ⟨(hstate j).trans (hkept.trans (s.slotState_scnTaken p j)), (hslot j).trans (hkept'.trans (s.slot_scnTaken p j))⟩

/-- Settles O25: OPEN by the lowest FREE slot, the others by the slot's state, and CLOSE by the admission of its moves. -/
theorem slotCommands : Obligations.SlotCommands := by
  refine ⟨fun s p slot hbusy hlt => ⟨fun hoff => ⟨fun i hi => openSlot_opens hoff hbusy hi, fun hfull => ?_, fun hslot => ?_,
    fun hslot hst => ?_⟩, fun hoff hdark => ⟨?_, ?_⟩⟩,
    fun s q i c hc hslot hi hoff hp hload => ⟨fun hop htrig hst hfailed => ⟨fun hadm => ?_, fun st hne hadm => ?_⟩,
      fun hop htrig hst => ?_, fun hop htrig hst hmode => ?_, fun hop htrig hst => ?_, fun hop hlo hhi => ?_⟩⟩
  · have hnone : (List.range 16).find? (fun i => s.slotState i == 0) = none :=
      List.find?_eq_none.2 fun i hi => by simpa using hfull i (List.mem_range.1 hi)
    obtain ⟨t, ht, ⟨_, _, hstatus, _⟩, hframe⟩ := plane_answers (by decide) (by decide) (openSlot_full hoff hbusy hnone)
    exact ⟨t, ht, hstatus, hframe⟩
  · have hexec := abort_plane_eq hbusy hlt hoff (.inl hslot)
    rw [if_pos hslot] at hexec
    exact plane_answers hlt (by decide) hexec
  · have hexec := abort_plane_eq hbusy hlt hoff (.inr hst)
    rw [if_neg (by omega)] at hexec
    exact plane_answers hlt (by decide) hexec
  · exact plane_answers hlt (by decide) (State.scnServe_off hbusy hlt hoff hdark 2 _)
  · exact plane_answers hlt (by decide) (State.scnServe_off hbusy hlt hoff hdark 3 _)
  · exact ⟨_, close_hold_admitted hc hslot hi hoff hop htrig hload hp hst hfailed hadm, State.closedHold_self (s := s.ringBegan q) hload⟩
  · obtain ⟨hfree, hempty, _, hirq⟩ := ((s.ringBegan q).countRefusal st).endSlot_self i st
    exact ⟨_, close_hold_refused hc hslot hi hoff hop htrig hload hst hfailed hne hadm, hfree, hempty, hirq hne⟩
  · exact close_hold_slotState hc hslot hi hoff hop htrig hst
  · have harm := arm_next_eq hc hslot hi hoff hop htrig
    have hwait := State.commitNow_waits (s := (s.ringBegan q).armedNext i) (i := i) fun h => by
      rw [State.opMode_armedNext, show (s.ringBegan q).opMode = s.opMode from rfl] at h
      omega
    rw [if_neg (not_not_intro hst), hwait] at harm
    obtain ⟨hstate, htrig', hslot'⟩ := (s.ringBegan q).armedNext_self i
    refine ⟨_, harm, hstate, ?_, ?_, ?_, htrig'⟩ <;> rw [hslot'] <;> rfl
  · rw [arm_next_eq hc hslot hi hoff hop htrig, if_pos hst]
    rfl
  · obtain ⟨hfree, hempty, hentries, _⟩ := (s.ringBegan q).endSlot_self i 0
    refine ⟨_, (abort_eq hc hslot hi hoff hop hload).trans (if_neg (by omega)), hfree, hempty, fun x hx => ?_⟩
    rw [hentries] at hx
    simpa using (List.mem_filter.1 hx).2

end Sys2Proof.Machine
end

section
/-! SUPPORT. Scene images and moves from host memory: the check-value unit that a load claims, and how a load ends. Statement O26. -/

namespace Sys2Proof.Machine

-- one proof after another, so that waiting proofs do not use up the threads
set_option Elab.async false

variable {s t : State} {q i : Nat}

/-! ## Check-value units (R286, R521) -/

/-- The words of a unit's page that a claim sets beside the control word. -/
def cvuParams (u : Nat) : List Nat :=
  [fldAt Reg.CVU_POLY_LO u, fldAt Reg.CVU_POLY_HI u, fldAt Reg.CVU_INIT_LO u, fldAt Reg.CVU_INIT_HI u, fldAt Reg.CVU_XOR_LO u,
    fldAt Reg.CVU_XOR_HI u, fldAt Hdr.EPOCH (unitPage (0xBC + u))]

theorem fldAt_cvuEn (u : Nat) : fldAt Reg.CVU_EN u = 0xBC040 + 4096 * u := fldAt_bcPage ⟨rfl, rfl, rfl⟩ u

theorem fldAt_epoch_cvu (u : Nat) : 0xBC000 ≤ fldAt Hdr.EPOCH (unitPage (0xBC + u)) := by
  have hpage : 0xBC ≤ unitPage (0xBC + u) := by
    unfold unitPage
    (repeat' split) <;> omega
  rw [fldAt_epoch]
  omega

theorem notParams_of_ctrl (u : Nat) : fldAt Reg.CVU_EN u ∉ cvuParams u := by
  simp only [cvuParams, fldAt_epoch, List.mem_cons, List.not_mem_nil, or_false, not_or]
  simp [fldAt, Reg.CVU_EN, Reg.CVU_POLY_LO, Reg.CVU_POLY_HI, Reg.CVU_INIT_LO, Reg.CVU_INIT_HI, Reg.CVU_XOR_LO, Reg.CVU_XOR_HI]
  omega

theorem notParams_of_low {a : Nat} (h : a < 0xBC000) (u : Nat) : a ∉ cvuParams u := by
  have hepoch := fldAt_epoch_cvu u
  simp only [cvuParams, List.mem_cons, List.not_mem_nil, or_false, not_or]
  simp [fldAt, Reg.CVU_POLY_LO, Reg.CVU_POLY_HI, Reg.CVU_INIT_LO, Reg.CVU_INIT_HI, Reg.CVU_XOR_LO, Reg.CVU_XOR_HI] at hepoch ⊢
  omega

theorem BufsOnly.refl (ks : List Nat) (s : State) : BufsOnly ks s s := ⟨rfl, fun _ _ => rfl⟩

theorem BufsOnly.put {ks : List Nat} (h : BufsOnly ks s t) {f : Fld} {i : Nat} (v : Nat) (hf : fldAt f i ∈ ks) :
    BufsOnly ks s (t.put f i v) :=
  ⟨h.1, fun a ha => (t.word_put_other f i v a fun e => ha (e ▸ hf)).trans (h.2 a ha)⟩

theorem BufsOnly.modMem {ks : List Nat} (h : BufsOnly ks s t) (f : Mem → Mem) : BufsOnly ks s (t.modMem f) := h

/-- The control word of a unit as a claim sets it. -/
def State.cvuSet (s : State) (u : Nat) : State :=
  (((((s.put Reg.CVU_KIND u 2).put Reg.CVU_WIDTH_M1 u 63).put Reg.CVU_CLAIMED u 1).put Reg.CVU_REFIN u 1).put Reg.CVU_REFOUT u 1).put
    Reg.CVU_EN u 1

theorem State.cvuSet_only (s : State) (u : Nat) : OnlyWords [fldAt Reg.CVU_EN u] s (s.cvuSet u) := by
  have hput : ∀ {t : State} (f : Fld) (v : Nat), fldAt f u = fldAt Reg.CVU_EN u → OnlyWords [fldAt Reg.CVU_EN u] s t →
      OnlyWords [fldAt Reg.CVU_EN u] s (t.put f u v) := fun f v hf h => h.putIn v (List.mem_singleton.2 hf)
  exact hput _ _ rfl (hput _ _ rfl (hput _ _ rfl (hput _ _ rfl (hput _ _ rfl (hput _ _ rfl (.refl _ s))))))

theorem State.cvuSet_self (s : State) (u : Nat) : (s.cvuSet u).get Reg.CVU_CLAIMED u = 1 ∧ (s.cvuSet u).get Reg.CVU_EN u = 1 := by
  refine ⟨?_, State.get_put_same _ Reg.CVU_EN u 1⟩
  rw [State.cvuSet, State.get_put_apart _ _ _ _ _ _ (by decide) (by decide), State.get_put_apart _ _ _ _ _ _ (by decide) (by decide),
    State.get_put_apart _ _ _ _ _ _ (by decide) (by decide), State.get_put_same _ _ _ _]
  rfl

theorem State.cvuClaim_params (s : State) (u : Nat) : BufsOnly (cvuParams u) (s.cvuSet u) (s.cvuClaim u) := by
  have hpoly := ((BufsOnly.refl (cvuParams u) (s.cvuSet u)).put (f := Reg.CVU_POLY_LO) (i := u) 0xA9EA3693 (by simp [cvuParams])).put
    (f := Reg.CVU_POLY_HI) (i := u) 0x42F0E1EB (by simp [cvuParams])
  have hinit := (hpoly.put (f := Reg.CVU_INIT_LO) (i := u) 0xFFFFFFFF (by simp [cvuParams])).put (f := Reg.CVU_INIT_HI) (i := u)
    0xFFFFFFFF (by simp [cvuParams])
  have hxor := (hinit.put (f := Reg.CVU_XOR_LO) (i := u) 0xFFFFFFFF (by simp [cvuParams])).put (f := Reg.CVU_XOR_HI) (i := u)
    0xFFFFFFFF (by simp [cvuParams])
  exact (hxor.modMem _).put _ (by simp [cvuParams])

/-- A unit that is claimed runs; words below the units' pages, and the scene engine, stay. -/
theorem State.cvuClaim_self (s : State) (u : Nat) : (s.cvuClaim u).get Reg.CVU_CLAIMED u = 1 ∧ (s.cvuClaim u).get Reg.CVU_EN u = 1 ∧
    (∀ f j, fldAt f j < 0xBC000 → (s.cvuClaim u).get f j = s.get f j) ∧ (s.cvuClaim u).scn = s.scn := by
  have hparams := s.cvuClaim_params u
  have hset := s.cvuSet_only u
  obtain ⟨hclaimed, hen⟩ := s.cvuSet_self u
  refine ⟨(hparams.get (f := Reg.CVU_CLAIMED) (notParams_of_ctrl u)).trans hclaimed, (hparams.get (notParams_of_ctrl u)).trans hen,
    fun f j hlow => (hparams.get (notParams_of_low hlow u)).trans (hset.get ?_), hparams.scn.trans hset.scn⟩
  rw [List.mem_singleton, fldAt_cvuEn]
  omega

/-- A unit that is released does not run; words below the units' pages stay. -/
theorem State.cvuRelease_self (s : State) (u : Nat) : (s.cvuRelease u).get Reg.CVU_EN u = 0 ∧
    ∀ f j, fldAt f j < 0xBC000 → (s.cvuRelease u).get f j = s.get f j := by
  have hepoch : fldAt Reg.CVU_EN u ≠ fldAt Hdr.EPOCH (unitPage (0xBC + u)) := by
    rw [fldAt_cvuEn, fldAt_epoch]
    omega
  refine ⟨(State.get_bumpEpoch _ hepoch).trans (State.get_put_same _ Reg.CVU_EN u 0), fun f j hlow => ?_⟩
  have hen : fldAt f j ≠ fldAt Reg.CVU_EN u := by
    rw [fldAt_cvuEn]
    omega
  have hclaimed : fldAt f j ≠ fldAt Reg.CVU_CLAIMED u := hen
  rw [State.cvuRelease, State.get_bumpEpoch _ (ne_of_lt (lt_of_lt_of_le hlow (fldAt_epoch_cvu u))), State.get_put_word _ _ _ _ _ _ hen,
    State.get_put_word _ _ _ _ _ _ hclaimed]

/-! ## Records of host memory -/

/-- Records are made of four words each. -/
theorem length_recsOf (l : List Nat) : (recsOf l).length = l.length / 4 := by
  induction l using recsOf.induct with
  | case1 a b c d r ih =>
    rw [recsOf, List.length_cons, ih]
    simp only [List.length_cons]
    omega
  | case2 l hshort =>
    match l, hshort with
    | [], _ => rfl
    | [_], _ => simp [recsOf]
    | [_, _], _ => simp [recsOf]
    | [_, _, _], _ => simp [recsOf]
    | a :: b :: c :: d :: r, hshort => exact absurd rfl (hshort a b c d r)

theorem movesArgs_good {n : Nat} (hi : i < 16) (hlo : 1 ≤ n) (hhi : n ≤ 4096) : (decide (16 < i) || !okUpto 1 4096 n) = false := by
  rw [okUpto, decide_eq_false (by omega), decide_eq_true hlo, decide_eq_true hhi]
  rfl

/-! ## LOAD_IMAGE (R284, R287) -/

/-- The load that a ring's command states. -/
def ringLoad (q i : Nat) (c : RingCmd) : ImageLoad :=
  { who := .ring q, slot := i, dram := c.a 3 % 2 == 1, addr := argAddr (c.a 1) (c.a 2) 6, cvu := bits (c.a 3) 5 4 }

/-- A load has started and shows no progress yet. -/
def State.loadStarted (s : State) (l : ImageLoad) : State :=
  ((s.cvuClaim l.cvu).modScn fun x => { x with load := some l }).progress 0x50 true 0 1

theorem State.loadStarted_self (s : State) (l : ImageLoad) : (s.loadStarted l).scn.load = some l ∧
    (s.loadStarted l).get Reg.CVU_CLAIMED l.cvu = 1 ∧ (s.loadStarted l).get Reg.CVU_EN l.cvu = 1 ∧
    (s.loadStarted l).get Hdr.BUSY 0x50 = 1 ∧ ∀ i, (s.loadStarted l).slotState i = s.slotState i := by
  obtain ⟨hclaimed, hen, hlow, _⟩ := s.cvuClaim_self l.cvu
  have hget : ∀ (f : Fld) (j : Nat), fldAt f j ≠ fldAt Hdr.BUSY 0x50 → (s.loadStarted l).get f j = (s.cvuClaim l.cvu).get f j :=
    fun f j h => (State.get_progress _ _ _ _ h).trans (State.get_modScn _ _ _ _)
  have hctrl : fldAt Reg.CVU_EN l.cvu ≠ fldAt Hdr.BUSY 0x50 := by
    rw [fldAt_cvuEn, fldAt_busy]
    omega
  have hstate : ∀ i, fldAt Reg.SLOT_STATE i ≠ fldAt Hdr.BUSY 0x50 ∧ fldAt Reg.SLOT_STATE i < 0xBC000 := fun i => by
    rw [fldAt_slotState, fldAt_busy]
    omega
  refine ⟨?_, (hget Reg.CVU_CLAIMED _ hctrl).trans hclaimed, (hget _ _ hctrl).trans hen, State.busy_progress _ _ _ _ _,
    fun i => (hget _ _ (hstate i).1).trans (hlow _ _ (hstate i).2)⟩
  rw [State.loadStarted, State.progress_frame, State.modScn_scn]

section Ring

variable {c : RingCmd} (hc : s.ringCmd q 0x10 = some c) (hslot : bits (c.a 0) 8 4 = i) (hi : i < 16) (hoff : s.stagingOff = false)

include hc hslot hi hoff

/-- A ring's LOAD_IMAGE into an open, empty slot starts, or is refused and frees the slot. -/
theorem loadImage_eq (hop : bits (c.a 0) 3 0 = 5) (haddr : imageAddrOk (c.a 3 % 2 == 1) (argAddr (c.a 1) (c.a 2) 6) = true)
    (hst : s.slotState i = 1) (hempty : (s.slot i).moves = []) {st : Nat}
    (hstatus : (if s.scn.load.isSome then Scs.IMG_BUSY
      else if s.getB Reg.CVU_EN (bits (c.a 3) 5 4) || s.getB Reg.CVU_CLAIMED (bits (c.a 3) 5 4) then Scs.IMG_CVU_BUSY else 0) = st) :
    exec (.loadImage (.ring q) i) s =
      if st ≠ 0 then .next ((((s.ringBegan q).endSlot i st).irq Reg.SCN_IRQ_IMG_DONE).ringEnd q i st 0)
      else .next ((s.ringBegan q).loadStarted (ringLoad q i c)) := by
  have hargs : (decide (16 ≤ i) || !imageAddrOk (c.a 3 % 2 == 1) (argAddr (c.a 1) (c.a 2) 6)) = false := by
    rw [haddr, decide_eq_false (by omega)]
    rfl
  have hopen : (decide ((s.ringBegan q).slotState i ≠ 1) || !((s.ringBegan q).slot i).moves.isEmpty) = false := by
    rw [show (s.ringBegan q).slotState i = 1 from hst, show ((s.ringBegan q).slot i).moves = [] from hempty]
    rfl
  subst hstatus
  show execLoadImage (.ring q) i s = _
  rw [execLoadImage, State.scnServe_ring hc hop hoff]
  simp only [ringScn, hslot, hargs, hopen, Bool.false_eq_true, ↓reduceIte]
  rfl

/-! ## MOVES (R284) -/

section Moves

variable (hop : bits (c.a 0) 3 0 = 6) (hst : s.slotState i = 1) (hlo : 1 ≤ c.a 3 % 8192) (hhi : c.a 3 % 8192 ≤ 4096)

include hop hst hlo hhi

/-- MOVES without data. -/
theorem moves_unread : exec (.moves (.ring q) i none) s = .next ((s.ringBegan q).ringEnd q i 0x04 0) := by
  have hopen : ¬(i ≠ 16 ∧ (s.ringBegan q).slotState i ≠ 1) := fun h => h.2 hst
  show execMoves (.ring q) i none s = _
  rw [execMoves, State.scnServe_ring hc hop hoff]
  simp only [ringScn, hslot, movesArgs_good hi hlo hhi, hopen, ite_self, Bool.false_eq_true, ↓reduceIte]
  rfl

/-- MOVES with all its data receives the records of its words. -/
theorem moves_received {ws : List Word} (hread : s.hostReadable = true) (hlen : ws.length = 4 * (c.a 3 % 8192)) {st k : Nat} {u : State}
    (hrecs : (s.ringBegan q).slotReceiveAll i 0 (recsOf (ws.map (·.toNat))) = ((st, k), u)) :
    exec (.moves (.ring q) i (some ws)) s = .next (u.ringEnd q i st k) := by
  have hopen : ¬(i ≠ 16 ∧ (s.ringBegan q).slotState i ≠ 1) := fun h => h.2 hst
  have hread' : (s.ringBegan q).hostReadable = true := hread
  have hall : (recsOf (ws.map (·.toNat))).take (c.a 3 % 8192) = recsOf (ws.map (·.toNat)) :=
    List.take_of_length_le (by rw [length_recsOf, List.length_map]; omega)
  show execMoves (.ring q) i (some ws) s = _
  rw [execMoves, State.scnServe_ring hc hop hoff]
  simp only [ringScn, hslot, movesArgs_good hi hlo hhi, hopen, hread', hlen, hall, hrecs, Nat.ne_of_lt hi, le_refl, Bool.false_eq_true,
    ↓reduceIte]
  rfl

end Moves

end Ring

/-! ## The end of a load (R287 to R289) -/

section Load

variable {l : ImageLoad} (hload : s.scn.load = some l) (hwho : l.who = .ring q)

include hload hwho

/-- A load that has not passed its image releases its unit as it ends. -/
theorem State.loadEnd_running (hclosing : l.closing = false) (status index : Nat) : s.loadEnd status index =
    (((s.cvuRelease l.cvu).modScn fun x => { x with load := none }).irq Reg.SCN_IRQ_IMG_DONE).ringEnd q l.slot status index := by
  rw [State.loadEnd, hload]
  dsimp only
  rw [hclosing, hwho]
  rfl

/-- A load that has passed its image has released its unit. -/
theorem State.loadEnd_closing (hclosing : l.closing = true) (status index : Nat) : s.loadEnd status index =
    ((s.modScn fun x => { x with load := none }).irq Reg.SCN_IRQ_IMG_DONE).ringEnd q l.slot status index := by
  rw [State.loadEnd, hload]
  dsimp only
  rw [hclosing, hwho]
  rfl

end Load

/-- A load ends with its unit released. -/
def State.loadStopped (s : State) (u : Nat) : State :=
  (((s.progressStop 0x50).cvuRelease u).modScn fun x => { x with load := none }).irq Reg.SCN_IRQ_IMG_DONE

theorem State.loadStopped_self (s : State) (u : Nat) : (s.loadStopped u).scn.load = none ∧ (s.loadStopped u).get Reg.CVU_EN u = 0 ∧
    (s.loadStopped u).get Reg.SCN_IRQ_IMG_DONE = 1 ∧ ∀ i, (s.loadStopped u).slotState i = s.slotState i := by
  obtain ⟨hen, hlow⟩ := (s.progressStop 0x50).cvuRelease_self u
  have hget : ∀ (f : Fld) (j : Nat), fldAt f j ≠ fldAt Reg.SCN_IRQ_IMG_DONE 0 →
      (s.loadStopped u).get f j = ((s.progressStop 0x50).cvuRelease u).get f j := fun f j h =>
    (State.get_put_word _ _ _ _ _ _ h).trans (State.get_modScn _ _ _ _)
  have hirq : fldAt Reg.CVU_EN u ≠ fldAt Reg.SCN_IRQ_IMG_DONE 0 := by
    rw [fldAt_cvuEn]
    exact ne_of_gt (show 0x50010 < _ by omega)
  refine ⟨rfl, (hget _ _ hirq).trans hen, State.get_put_same _ Reg.SCN_IRQ_IMG_DONE 0 1, fun i => ?_⟩
  have hstate : fldAt Reg.SLOT_STATE i ≠ fldAt Hdr.BUSY 0x50 ∧ fldAt Reg.SLOT_STATE i < 0xBC000 := by
    rw [fldAt_slotState, fldAt_busy]
    omega
  exact (hget _ _ (slotState_ne (by decide))).trans ((hlow _ _ hstate.2).trans (State.get_progressStop _ hstate.1))

theorem State.loadEnd_stopped {l : ImageLoad} (hload : s.scn.load = some l) (hwho : l.who = .ring q) (hclosing : l.closing = false)
    (status index : Nat) :
    (s.progressStop 0x50).loadEnd status index = (s.loadStopped l.cvu).ringEnd q l.slot status index :=
  State.loadEnd_running (s := s.progressStop 0x50) hload hwho hclosing status index

/-- A running load that is refused frees its slot and its unit (R288). -/
theorem State.loadRefuse_eq {l : ImageLoad} (hload : s.scn.load = some l) (hwho : l.who = .ring q) (hclosing : l.closing = false)
    (status index : Nat) :
    s.loadRefuse l.slot status index = ((s.endSlot l.slot status).loadStopped l.cvu).ringEnd q l.slot status index :=
  State.loadEnd_stopped ((s.load_endSlot l.slot status).trans hload) hwho hclosing status index

/-! ## A load whose image has passed -/

/-- The image has passed: its unit is released, and its slot, under HOLD, settles. -/
def State.imagePassed (s : State) (l : ImageLoad) : State :=
  (((s.cvuRelease l.cvu).modScn fun x => { x with load := some { l with closing := true } }).put Reg.SLOT_TRIG l.slot 3).loadShow

/-- The load ends as its slot becomes READY. -/
def State.loadReady (s : State) (i : Nat) : State :=
  (((s.readied i).progress 0x50 false (s.slot i).moves.length (s.slot i).moves.length).modScn fun x => { x with load := none }).irq
    Reg.SCN_IRQ_IMG_DONE

theorem State.settled_load {l : ImageLoad} (hload : s.scn.load = some l) (hwho : l.who = .ring q) (hclosing : l.closing = true)
    (hst : s.slotState l.slot = 2) (htrig : s.get Reg.SLOT_TRIG l.slot = 3)
    (hall : (s.slot l.slot).moves.all (·.derive == 0) = true) :
    s.settled l.slot = (s.loadReady l.slot).ringEnd q l.slot 0 0 := by
  have hsettle : (s.settleSlot l.slot).showSlot l.slot = s.readied l.slot := by
    rw [State.settleSlot, if_pos ⟨hst, hall⟩, if_pos htrig]
    rfl
  have hscn : (s.readied l.slot).scn = s.scn := (s.readied_only l.slot).scn
  have hslot : (s.readied l.slot).slot l.slot = s.slot l.slot := (s.readied_only l.slot).slot l.slot
  have hmine : (s.readied l.slot).scn.load.any (fun x => x.slot == l.slot && x.closing) = true := by
    rw [hscn, hload]
    simp [hclosing]
  have hprog : ((s.readied l.slot).progress 0x50 false (s.slot l.slot).moves.length (s.slot l.slot).moves.length).scn.load = some l := by
    rw [State.progress_frame]
    exact (congrArg Scn.load hscn).trans hload
  rw [State.settled]
  simp only [hsettle, hmine, s.slotState_readied, hslot, ↓reduceIte]
  rw [State.loadEnd_closing hprog hwho hclosing]
  rfl

/-- The words that show a load's progress. -/
theorem State.loadShow_only (s : State) : OnlyWords [fldAt Hdr.BUSY 0x50] s s.loadShow := by
  unfold State.loadShow
  split
  · exact .refl _ s
  · exact (((OnlyWords.refl _ s).putIn (f := Hdr.BUSY) _ (by decide)).putIn (f := Hdr.PERCENT) _ (by decide)).putIn
      (f := Hdr.POSITION) _ (by decide)

theorem State.imagePassed_self (s : State) (l : ImageLoad) :
    (s.imagePassed l).scn = { s.scn with load := some { l with closing := true } } ∧
    (s.imagePassed l).get Reg.CVU_EN l.cvu = 0 ∧ (s.imagePassed l).get Reg.SLOT_TRIG l.slot = 3 ∧
    (s.imagePassed l).slotState l.slot = s.slotState l.slot := by
  obtain ⟨hen, hlow⟩ := s.cvuRelease_self l.cvu
  set u := (s.cvuRelease l.cvu).modScn fun x => { x with load := some { l with closing := true } }
  have hu : ∀ (f : Fld) (j : Nat), u.get f j = (s.cvuRelease l.cvu).get f j := fun f j => State.get_modScn _ _ _ _
  have hshow := (u.put Reg.SLOT_TRIG l.slot 3).loadShow_only
  have hstate : fldAt Reg.SLOT_STATE l.slot < 0xBC000 ∧ fldAt Reg.SLOT_STATE l.slot ∉ [fldAt Hdr.BUSY 0x50] := by
    rw [fldAt_slotState, fldAt_busy, List.mem_singleton]
    omega
  have hctrl : fldAt Reg.CVU_EN l.cvu ≠ fldAt Reg.SLOT_STATE l.slot ∧ fldAt Reg.CVU_EN l.cvu ∉ [fldAt Hdr.BUSY 0x50] := by
    rw [fldAt_cvuEn, fldAt_slotState, fldAt_busy, List.mem_singleton]
    omega
  have htrig : fldAt Reg.CVU_EN l.cvu ≠ fldAt Reg.SLOT_TRIG l.slot := hctrl.1
  refine ⟨hshow.scn, ?_, ?_, ?_⟩
  · exact (hshow.get hctrl.2).trans ((State.get_put_word _ _ _ _ _ _ htrig).trans ((hu _ _).trans hen))
  · exact (hshow.get (f := Reg.SLOT_TRIG) hstate.2).trans (State.get_put_same _ Reg.SLOT_TRIG l.slot 3)
  · exact (hshow.get hstate.2).trans ((State.get_put_apart _ Reg.SLOT_TRIG Reg.SLOT_STATE _ _ _ (by decide) (by decide)).trans
      ((hu _ _).trans (hlow _ _ hstate.1)))

theorem State.loadReady_self (s : State) (i : Nat) : (s.loadReady i).slotState i = 3 ∧
    (s.loadReady i).get Reg.SLOT_TRIG i = s.get Reg.SLOT_TRIG i ∧ (s.loadReady i).scn.load = none ∧
    ∀ u, (s.loadReady i).get Reg.CVU_EN u = s.get Reg.CVU_EN u := by
  have hget : ∀ (f : Fld) (j : Nat), fldAt f j ≠ fldAt Reg.SCN_IRQ_IMG_DONE 0 → fldAt f j ≠ fldAt Hdr.BUSY 0x50 →
      (s.loadReady i).get f j = (s.readied i).get f j := fun f j hirq hbusy =>
    (State.get_put_word _ _ _ _ _ _ hirq).trans ((State.get_modScn _ _ _ _).trans (State.get_progress _ _ _ _ hbusy))
  have hstate : fldAt Reg.SLOT_STATE i ≠ fldAt Reg.SCN_IRQ_IMG_DONE 0 ∧ fldAt Reg.SLOT_STATE i ≠ fldAt Hdr.BUSY 0x50 := by
    refine ⟨slotState_ne (by decide), ?_⟩
    rw [fldAt_slotState, fldAt_busy]
    omega
  refine ⟨(hget _ _ hstate.1 hstate.2).trans (s.slotState_readied i),
    (hget Reg.SLOT_TRIG i hstate.1 hstate.2).trans (s.get_trig_readied i), rfl, fun u => ?_⟩
  have hen : fldAt Reg.CVU_EN u ∉ movesWords i ∧ fldAt Reg.CVU_EN u ≠ fldAt Reg.SLOT_STATE i ∧
      fldAt Reg.CVU_EN u ≠ fldAt Hdr.BUSY 0x50 := by
    rw [fldAt_cvuEn, fldAt_slotState, fldAt_busy]
    refine ⟨?_, by omega, by omega⟩
    simp [movesWords, fldAt, Reg.SLOT_MOVES, Reg.SLOT_STAGED, Reg.SLOT_DERIVE_LEFT]
    omega
  have hirq : ∀ f : Fld, fldAt f 0 < 0xBC000 → fldAt Reg.CVU_EN u ≠ fldAt f 0 := fun f hf => by
    rw [fldAt_cvuEn]
    omega
  obtain ⟨hmoves, hslot, hbusy⟩ := hen
  exact (hget _ _ (hirq _ (by decide)) hbusy).trans (((s.readied_only i).get hmoves).trans
    ((State.get_put_word _ _ _ _ _ _ (hirq _ (by decide))).trans (State.get_put_word _ _ _ _ _ _ hslot)))

/-! ## IMAGE_LOAD_END (R286 to R289) -/

/-- The state in which an image's records are received: its slot shows the image, and its unit has been fed. -/
def State.imageFed (s : State) (l : ImageLoad) (b : List Byte) : State :=
  ((s.put Reg.SLOT_IMAGE l.slot 1).put Reg.SLOT_SCENE l.slot (imgHead b).scene).cvuFeed l.cvu (b.take 0x38 ++ b.drop 64)

section LoadEnd

variable {l : ImageLoad} {b : List Byte} (hload : s.scn.load = some l) (hclosing : l.closing = false) (hdram : l.dram = false)
  (hread : s.hostReadable = true) (hlen : b.length = 64 + 16 * (imgHead (b.take 64)).count)

include hdram hread hlen in
/-- An image of the length that its header states is fetched whole. -/
theorem State.imageBytes_whole : s.imageBytes l b false = (b, false) := by
  rw [State.imageBytes, hdram]
  simp only [Bool.false_eq_true, ↓reduceIte, Bool.not_false, hread, ← hlen, List.take_length]
  simp

include hload hclosing hdram hread hlen

theorem imageLoadEnd_badHeader (hbad : (imgHead b).good = false) :
    exec (.imageLoadEnd b false) s = .next (s.loadRefuse l.slot Scs.IMG_HEADER 0) := by
  have hlong : ¬b.length < 64 := by omega
  show execImageLoadEnd b false s = _
  rw [execImageLoadEnd, hload]
  simp only [hclosing, State.imageBytes_whole hdram hread hlen, hlong, hbad, Bool.false_eq_true, Bool.not_false, ↓reduceIte]
  rfl

/-- An image that is received, of its check value, and admitted, has passed (R288). -/
theorem imageLoadEnd_passes {u v : State} (hgood : (imgHead b).good = true) (hprog : (imgHead b).prog = 0)
    (hrecs : (s.imageFed l b).slotReceiveAll l.slot 0 (recsOf (leWords (b.drop 64))) = ((0, 0), u))
    (hcheck : u.cvuResult l.cvu = (imgHead b).check) (hclose : u.closeSlot l.slot = (0, v)) :
    exec (.imageLoadEnd b false) s = .next ((v.imagePassed l).settled l.slot) := by
  have hlong : ¬b.length < 64 := by omega
  unfold State.imageFed at hrecs
  show execImageLoadEnd b false s = _
  rw [execImageLoadEnd, hload]
  simp only [hclosing, State.imageBytes_whole hdram hread hlen, hlong, hgood, hprog, hrecs, hcheck, hclose, Bool.false_eq_true,
    Bool.not_true, ne_eq, not_true_eq_false, false_and, ↓reduceIte]
  rfl

end LoadEnd

/-! ## The statement -/

/-- Settles O26: a load starts or is refused by what runs, MOVES goes by the records it receives, and the end of a load by the header,
or by the slot that its image fills. -/
theorem imagesAndMoves : Obligations.ImagesAndMoves := by
  refine ⟨fun s q i c hc hslot hi hoff => ⟨fun hop haddr hst hempty => ⟨fun hnone hen hclaimed => ?_, fun hsome _ => ?_⟩,
    fun hop hst hlo hhi => ⟨?_, fun ws hread hlen => ?_⟩⟩, ?_⟩
  · have hfree : (s.getB Reg.CVU_EN (bits (c.a 3) 5 4) || s.getB Reg.CVU_CLAIMED (bits (c.a 3) 5 4)) = false := by
      rw [hen, hclaimed]
      rfl
    have hexec := loadImage_eq hc hslot hi hoff hop haddr hst hempty (st := 0) (by rw [hnone, hfree]; rfl)
    obtain ⟨hload, hclaimed', hen', hbusy, hstate⟩ := (s.ringBegan q).loadStarted_self (ringLoad q i c)
    exact ⟨_, hexec.trans (if_neg (not_not_intro rfl)), hload, hclaimed', hen', hbusy, (hstate i).trans hst⟩
  · have hexec := loadImage_eq hc hslot hi hoff hop haddr hst hempty (st := 0x50) (if_pos (Option.isSome_iff_ne_none.2 hsome))
    obtain ⟨hfree, _⟩ := (s.ringBegan q).endSlot_self i 0x50
    exact ⟨_, hexec.trans (if_pos (by decide)), (State.get_put_word _ _ _ _ _ _ (slotState_ne (by decide))).trans hfree,
      (s.ringBegan q).load_endSlot i 0x50⟩
  · exact moves_unread hc hslot hi hoff hop hst hlo hhi
  · exact ⟨_, _, _, rfl, moves_received hc hslot hi hoff hop hst hlo hhi hread hlen rfl⟩
  · intro s q l b hload hclosing hwho hdram hi hread _ n b' hlen
    have htake : b' = b := List.take_of_length_le hlen.le
    rw [htake]
    refine ⟨fun hbad => ?_, fun u v hgood hprog hrecs hcheck hclose hst hall => ?_⟩
    · have hexec := imageLoadEnd_badHeader hload hclosing hdram hread hlen hbad
      rw [State.loadRefuse_eq hload hwho hclosing] at hexec
      obtain ⟨hnone, hen, hirq, hstate⟩ := (s.endSlot l.slot Scs.IMG_HEADER).loadStopped_self l.cvu
      obtain ⟨hfree, _⟩ := s.endSlot_self l.slot Scs.IMG_HEADER
      exact ⟨_, hexec, (hstate _).trans hfree, hnone, hen, hirq⟩
    · have hexec := imageLoadEnd_passes hload hclosing hdram hread hlen hgood hprog hrecs hcheck hclose
      obtain ⟨hscn, hen, htrig, hstate⟩ := v.imagePassed_self l
      have hload' : (v.imagePassed l).scn.load = some { l with closing := true } := by rw [hscn]
      have hmoves : ((v.imagePassed l).slot l.slot).moves = (v.slot l.slot).moves := by rw [State.slot, hscn, State.slot]
      have hset := State.settled_load hload' hwho rfl (hstate.trans hst) htrig (by rw [hmoves]; exact hall)
      obtain ⟨hready, htrig', hnone, hen'⟩ := (v.imagePassed l).loadReady_self l.slot
      exact ⟨_, hexec.trans (congrArg _ hset), hready, htrig'.trans htrig, hnone, (hen' _).trans hen⟩

end Sys2Proof.Machine
end

section
/-! SUPPORT. Network time: steps and readings of the PTP clock, the timestamp FIFO, the servos and the show calendar. Statement O30. -/

namespace Sys2Proof.Machine

-- one proof after another, so that waiting proofs do not use up the threads
set_option Elab.async false

variable {s : State}

/-! ## Steps of the clock (R348, R349) -/

theorem State.ptp_calAutoLoad (s : State) : s.calAutoLoad.1.ptp = s.ptp := by
  unfold State.calAutoLoad
  split <;> rfl

theorem State.ptp_taiApply (s : State) : s.taiApply.ptp = s.ptp := by
  simp only [State.taiApply, State.put0, State.irq_ptp, State.put_ptp]

theorem State.ptp_ephStep (s : State) (pre post : Nat) : (s.ephStep pre post).ptp = s.ptp := rfl

theorem State.ptp_rxStep (s : State) (pre post i : Nat) : (s.rxStep pre post i).ptp = s.ptp := by
  unfold State.rxStep
  split
  · rfl
  · dsimp only
    split <;> rfl

/-- The network ports follow a step and leave the clock alone. -/
theorem State.ptp_netStep (s : State) (pre post : Nat) : (s.netStep pre post).ptp = s.ptp :=
  forEach_keeps (f := State.txStep pre post) (P := fun t : State => t.ptp = s.ptp) (fun _ _ ht => ht) _ _
    (forEach_keeps (f := State.rxStep pre post) (P := fun t : State => t.ptp = s.ptp)
      (fun i t ht => (t.ptp_rxStep pre post i).trans ht) _ _ rfl)

/-- A step takes the decision away, is counted, and moves the clock by whole base periods; what else it does leaves the clock
alone. The servos' last offsets move with it, DEDUCED (log entry 65). -/
theorem State.stepBy_clock (s : State) (n : Int) : (s.stepBy n).ptp.step = none ∧ (s.stepBy n).ptp.steps = s.ptp.steps + 1 ∧
    (s.stepBy n).ptp.at0 = s.clk.now ∧ (s.stepBy n).ptp.base = (((s.thirds : Int) + n * 62500) % (ptpModulus : Int)).toNat := by
  unfold State.stepBy
  extract_lets pre post moved stepped c shown irqd ported due applied
  have hported : ported.ptp = stepped.ptp := by
    simp only [ported, irqd, shown, State.ptp_netStep, State.ptp_ephStep, State.put0, State.irq_ptp, State.put_ptp]
  have happlied : applied.ptp = stepped.ptp := by
    simp only [applied]
    split
    · exact ported.ptp_taiApply.trans hported
    · exact hported
  have hclock : (if applied.getB Reg.CAL_AUTO then applied.calAutoLoad.1 else applied).ptp = stepped.ptp := by
    split
    · exact applied.ptp_calAutoLoad.trans happlied
    · exact happlied
  rw [hclock]
  exact ⟨rfl, rfl, rfl, rfl⟩

theorem ptpStep_idle (h : s.ptp.step = none) : exec .ptpStep s = .next s := by
  show execPtpStep s = _
  rw [execPtpStep, h]
  rfl

theorem ptpStep_steps {n : Int} (h : s.ptp.step = some n) (hrun : s.ptp.run = true) :
    exec .ptpStep s = .next ((s.advanceTo s.nextGrid).stepBy n) := by
  show execPtpStep s = _
  simp only [execPtpStep, h, hrun, ↓reduceIte]
  rfl

/-! ## Readings of the time (R350) -/

/-- The time words latched for the host, taken in one tick. -/
def State.timeLatched (s : State) : State :=
  let latch := fun (f : Fld) (v : Nat) (s : State) => s.setWord (planeKey .host (fldAt f 0)) (BitVec.ofNat 32 v)
  let t := latch Reg.TIME_TS32 (ts32Of s.thirds) <| latch Reg.TIME_STEP_CNT (s.ptp.steps % 2 ^ 32) <|
    latch Reg.TIME_SEC_HI (secOf s.thirds / 2 ^ 32) <| latch Reg.TIME_NS (nsOf s.thirds) <| latch Reg.TIME_FRAC (fracOf s.thirds) s
  latch Reg.TIME_VALID t.timeStat t

theorem State.timeLatched_frame (s : State) : s.timeLatched = { s with regs := s.timeLatched.regs } := by
  unfold State.timeLatched
  rfl

theorem timeSecLoRead_eq (hdom : s.domState 3 = 3) :
    exec (.timeSecLoRead .host) s = .next (s.timeLatched.setRead .host (secOf s.thirds % 2 ^ 32)) := by
  have hpage : s.domState (pageDomain 0x74) = 3 := hdom
  show execTimeSecLoRead .host s = _
  rw [execTimeSecLoRead, State.readAt_on hpage]
  rfl

theorem State.word_setRead (s : State) (p : Plane) (v a : Nat) : (s.setRead p v).word a = s.word a := rfl

theorem State.timeLatched_words (s : State) :
    s.timeLatched.word (planeKey .host (fldAt Reg.TIME_SEC_HI 0)) = BitVec.ofNat 32 (secOf s.thirds / 2 ^ 32) ∧
      s.timeLatched.word (planeKey .host (fldAt Reg.TIME_NS 0)) = BitVec.ofNat 32 (nsOf s.thirds) ∧
      s.timeLatched.word (planeKey .host (fldAt Reg.TIME_FRAC 0)) = BitVec.ofNat 32 (fracOf s.thirds) ∧
      s.timeLatched.word (planeKey .host (fldAt Reg.TIME_TS32 0)) = BitVec.ofNat 32 (ts32Of s.thirds) := by
  unfold State.timeLatched
  refine ⟨?_, ?_, ?_, ?_⟩ <;> simp (disch := decide) only [State.word_setWord_other, State.word_setWord_same]

/-! ## The timestamp FIFO (R355) -/

/-- The words in which the head of the FIFO shows. -/
def txtsWords : List Nat := [0x74088, 0x7408C, 0x74090, 0x74094, 0x74098]

theorem State.showTxts_only (s : State) : OnlyWords txtsWords (s.put0 Reg.TIME_TXTS_CNT s.ptp.txts.length) s.showTxts := by
  have hput : ∀ {t u : State} (f : Fld) (i v : Nat), OnlyWords txtsWords t u → fldAt f i ∈ txtsWords →
      OnlyWords txtsWords t (u.put f i v) := fun _ _ v h hf => h.putIn v hf
  refine hput _ _ _ (hput _ _ _ (hput _ _ _ (hput _ _ _ (hput _ _ _ (hput _ _ _ (.refl _ _) ?_) ?_) ?_) ?_) ?_) ?_ <;> decide

theorem State.showTxts_shows (s : State) : s.showTxts = { s with regs := s.showTxts.regs } ∧
    s.showTxts.get Reg.TIME_TXTS_CNT = s.ptp.txts.length % 2 ^ fldWidth Reg.TIME_TXTS_CNT := by
  have honly := s.showTxts_only
  exact ⟨honly.1, (honly.get (by decide)).trans (State.get_put_same _ _ _ _)⟩

theorem timeTxtsPop_host (hdom : s.domState 3 = 3) (v : Word) : exec (.timeTxtsPop .host v) s = .next s := by
  have hpage : s.domState (pageDomain 0x74) = 3 := hdom
  show execTimeTxtsPop .host v s = _
  rw [execTimeTxtsPop, State.atPage_on hpage]
  rfl

theorem timeTxtsPop_mgmt {v : Word} (hdom : s.domState 3 = 3) (hv : v.toNat % 2 = 1) :
    exec (.timeTxtsPop .mgmt v) s = .next (s.modPtp fun q => { q with txts := q.txts.tail }).showTxts := by
  have hpage : s.domState (pageDomain 0x74) = 3 := hdom
  show execTimeTxtsPop .mgmt v s = _
  rw [execTimeTxtsPop, State.atPage_on hpage, if_pos ⟨rfl, hv⟩]
  rfl

/-! ## The servos (R355 to R358) -/

theorem State.servo_setServo_same (s : State) (x : Nat) (f : Servo → Servo) : (s.setServo x f).servo x = f (s.servo x) := by
  by_cases hx : x = 0 <;> simp [State.servo, State.setServo, hx]

/-- What a push carries, in 2^-16 ns: TB less TA less CORR (R357). -/
def State.pushValue (s : State) (x : Nat) : Int :=
  let ns := fun (lo hi n : Fld) => (((s.get lo x + 2 ^ 32 * s.get hi x) * 1000000000 + s.get n x : Nat) : Int)
  (ns Reg.TIME_TB_SEC_LO Reg.TIME_TB_SEC_HI Reg.TIME_TB_NS - ns Reg.TIME_TA_SEC_LO Reg.TIME_TA_SEC_HI Reg.TIME_TA_NS) * 65536 -
    sx 64 (s.get Reg.TIME_CORR_LO x + 2 ^ 32 * s.get Reg.TIME_CORR_HI x)

/-- A push by the host is ignored: R355 names the RW words of a servo, and that its push is among them is DEDUCED (log entry 19). -/
theorem svxPush_host (hdom : s.domState 3 = 3) (x : Nat) (v : Word) : exec (.svxPush .host x v) s = .next s := by
  have hpage : s.domState (pageDomain 0x74) = 3 := hdom
  show execSvxPush .host x v s = _
  rw [execSvxPush, State.atPage_on hpage, if_pos (.inl rfl)]
  rfl

section Push

variable {x : Nat} {v : Word} (hdom : s.domState 3 = 3) (hx : x < 2) (hv : v.toNat % 2 = 1)
include hdom hx hv

omit hdom in
theorem push_submitted : ¬((Plane.mgmt != .mgmt) = true ∨ v.toNat % 2 = 0 ∨ 2 ≤ x) := by
  rintro (h | h | h)
  · exact absurd h (by decide)
  · omega
  · omega

theorem svxPush_rejected
    (hbad : s.getB Reg.TIME_EN x = false ∨ 1000000000 ≤ s.get Reg.TIME_TA_NS x ∨ 1000000000 ≤ s.get Reg.TIME_TB_NS x) :
    exec (.svxPush .mgmt x v) s = .next ((s.count Reg.TIME_REJ_CNT x).irq Reg.TIME_IRQ_PUSH_REJ) := by
  have hpage : s.domState (pageDomain 0x74) = 3 := hdom
  show execSvxPush .mgmt x v s = _
  rw [execSvxPush, State.atPage_on hpage, if_neg (push_submitted hx hv), if_pos (by simpa using hbad)]
  rfl

variable (hen : s.getB Reg.TIME_EN x = true) (hta : s.get Reg.TIME_TA_NS x < 1000000000) (htb : s.get Reg.TIME_TB_NS x < 1000000000)
include hen hta htb

omit hdom hx hv in
theorem push_inRange :
    ¬((!s.getB Reg.TIME_EN x) = true ∨ 1000000000 ≤ s.get Reg.TIME_TA_NS x ∨ 1000000000 ≤ s.get Reg.TIME_TB_NS x) := by
  rw [hen]
  rintro (h | h | h)
  · exact absurd h (by decide)
  · omega
  · omega

/-- A SYNC push before any path delay is kept for the pairs to come and yields no measurement. -/
theorem svxPush_sync (hkind : s.get Reg.TIME_KIND x = 0) (hmpd : s.getB Reg.TIME_MPD_VALID x = false) :
    exec (.svxPush .mgmt x v) s =
      .next ((s.setServo x fun v => { v with lastS := some (s.pushValue x) }).put Reg.TIME_MEAS_VALID x 0) := by
  have hpage : s.domState (pageDomain 0x74) = 3 := hdom
  have hnone : (s.setServo x fun v => { v with lastS := some (s.pushValue x) }).getB Reg.TIME_MPD_VALID x = false := hmpd
  show execSvxPush .mgmt x v s = _
  rw [execSvxPush, State.atPage_on hpage, if_neg (push_submitted hx hv), if_neg (push_inRange hen hta htb)]
  exact (if_pos hkind).trans (if_neg (ne_true_of_eq_false hnone))

/-- A DELAY push makes a pair with the last SYNC value and shows the mean path delay. -/
theorem svxPush_delay {q : Int} (hkind : s.get Reg.TIME_KIND x = 1) (hlast : (s.servo x).lastS = some q) :
    ∃ mpd, exec (.svxPush .mgmt x v) s = .next (((s.setServo x fun v =>
      { v with pairs := ({ s := q, d := s.pushValue x } :: v.pairs).take 16, mpdAt := s.clk.now }).put Reg.TIME_MPD x mpd).put
        Reg.TIME_MPD_VALID x 1) := by
  have hpage : s.domState (pageDomain 0x74) = 3 := hdom
  show ∃ mpd, execSvxPush .mgmt x v s = _
  rw [execSvxPush, State.atPage_on hpage, if_neg (push_submitted hx hv), if_neg (push_inRange hen hta htb)]
  simp only [hlast]
  exact ⟨_, if_neg (by omega)⟩

end Push

theorem mpdTimeout_eq {x : Nat} (hx : x < 2) (hmpd : s.getB Reg.TIME_MPD_VALID x = true) :
    exec (.mpdTimeout x) s = .next ((s.advanceTo ((s.servo x).mpdAt + 64 * secEdges)).mpdClear x) := if_pos ⟨hx, hmpd⟩

/-! ## The civil calendar (R360 to R362) -/

theorem monthDays_range (y m : Nat) : 28 ≤ monthDays y m ∧ monthDays y m ≤ 31 := by
  unfold monthDays
  (repeat' split) <;> omega

theorem Civil.ok_iff (c : Civil) : c.ok = true ↔ 2000 ≤ c.year ∧ c.year ≤ 2199 ∧ 1 ≤ c.month ∧ c.month ≤ 12 ∧ 1 ≤ c.day ∧
    c.day ≤ monthDays c.year c.month ∧ c.hour ≤ 23 ∧ c.minute ≤ 59 ∧ c.second ≤ 59 := decide_eq_true_iff

theorem Civil.ok_tick {c : Civil} (h : c.ok = true) : c.tick.1.ok = true := by
  have hnext := monthDays_range c.year (c.month + 1)
  have hyear := monthDays_range (c.year + 1) 1
  have hfirst := monthDays_range 2000 1
  rw [Civil.ok_iff] at h
  simp only [Civil.tick]
  repeat' split
  all_goals
    rw [Civil.ok_iff]
    dsimp only
    omega

/-- The century wraps after its last second (R361). -/
theorem Civil.tick_wraps_iff {c : Civil} (h : c.ok = true) :
    c.tick.2 = true ↔ c = { year := 2199, month := 12, day := 31, hour := 23, minute := 59, second := 59 } := by
  refine ⟨fun hwrap => ?_, fun hlast => hlast ▸ rfl⟩
  obtain ⟨year, month, day, hour, minute, second⟩ := c
  rw [Civil.ok_iff] at h
  dsimp only at h
  have hlong : day = monthDays year month ∧ month = 12 ∧ year = 2199 ∧ hour = 23 ∧ minute = 59 ∧ second = 59 := by
    simp [Civil.tick, apply_ite Prod.snd] at hwrap
    omega
  obtain ⟨rfl, rfl, rfl, rfl, rfl, rfl⟩ := hlong
  rfl

/-! ## The calendar that is shown -/

/-- The calendar shows a date that it holds as it is. -/
theorem State.calendar_setCalendar (s : State) {c : Civil} (h : c.ok = true) : (s.setCalendar c).calendar = c := by
  obtain ⟨year, month, day, hour, minute, second⟩ := c
  obtain ⟨_, hyear, _, hmonth, _, hday, hhour, hminute, hsecond⟩ := (Civil.ok_iff _).1 h
  have hlong := hday.trans (monthDays_range year month).2
  simp (disch := decide) only [State.calendar, State.setCalendar, State.put0, State.get_put_apart, State.get_put_word, State.get_put_same,
    Civil.mk.injEq]
  exact ⟨Nat.mod_eq_of_lt (hyear.trans_lt (by decide)), Nat.mod_eq_of_lt (hmonth.trans_lt (by decide)),
    Nat.mod_eq_of_lt (hlong.trans_lt (by decide)), Nat.mod_eq_of_lt (hhour.trans_lt (by decide)),
    Nat.mod_eq_of_lt (hminute.trans_lt (by decide)), Nat.mod_eq_of_lt (hsecond.trans_lt (by decide))⟩

/-- The words of the calendar. -/
def calWords : List Nat := [0x75040, 0x75044]

theorem State.setCalendar_only (s : State) (c : Civil) : OnlyWords calWords s (s.setCalendar c) := by
  have hput : ∀ {t : State} (f : Fld) (v : Nat), OnlyWords calWords s t → fldAt f 0 ∈ calWords →
      OnlyWords calWords s (t.put f 0 v) := fun _ v h hf => h.putIn v hf
  refine hput _ _ (hput _ _ (hput _ _ (hput _ _ (hput _ _ (hput _ _ (.refl _ s) ?_) ?_) ?_) ?_) ?_) ?_ <;> decide

theorem State.calendar_put (s : State) {f : Fld} {i : Nat} (v : Nat) (h : fldAt f i ∉ calWords) :
    (s.put f i v).calendar = s.calendar := by
  simp only [calWords, List.mem_cons, List.not_mem_nil, or_false, not_or] at h
  have hdate : ∀ g : Fld, fldAt g 0 = 0x75040 ∨ fldAt g 0 = 0x75044 → (s.put f i v).get g = s.get g := fun g hg =>
    s.get_put_word f g i 0 v (by omega)
  simp only [State.calendar, hdate Reg.CAL_YEAR (.inl rfl), hdate Reg.CAL_MONTH (.inl rfl), hdate Reg.CAL_DAY (.inl rfl),
    hdate Reg.CAL_HOUR (.inr rfl), hdate Reg.CAL_MINUTE (.inr rfl), hdate Reg.CAL_SECOND (.inr rfl)]

/-- The calendar counts one second on, and a wrap of the century is shown; register words alone change. -/
theorem State.calTick_shows (s : State) (h : s.calendar.ok = true) : s.calTick.calendar = s.calendar.tick.1 ∧
    (s.calendar.tick.2 = true → s.calTick.get Reg.CAL_CENTURY_WRAP = 1) ∧ s.calTick = { s with regs := s.calTick.regs } := by
  have hset := s.calendar_setCalendar (Civil.ok_tick h)
  have hframe := (s.setCalendar_only s.calendar.tick.1).1
  by_cases hwrap : s.calendar.tick.2 = true
  · have htick : s.calTick = ((s.setCalendar s.calendar.tick.1).put0 Reg.CAL_CENTURY_WRAP 1).irq Reg.CAL_IRQ_WRAP := if_pos hwrap
    rw [htick, State.irq, State.put0]
    refine ⟨?_, fun _ => ?_, ?_⟩
    · rw [State.calendar_put _ _ (by decide), State.calendar_put _ _ (by decide), hset]
    · rw [State.get_put_word _ _ _ _ _ _ (by decide), State.get_put_same _ _ _ _]
      rfl
    · rw [State.put_eq, State.put_eq, hframe]
  · have htick : s.calTick = s.setCalendar s.calendar.tick.1 := if_neg hwrap
    rw [htick]
    exact ⟨hset, fun hw => absurd hw hwrap, hframe⟩

/-! ## The seconds carry (R360 to R364) -/

/-- The clock at its seconds carry, the set that waited taken away. -/
def State.carried (s : State) : State :=
  let t := s.advanceTo (s.edgeOf ((secOf s.thirds + 1) * 3000000000))
  t.modPtp fun p => { p with secSeen := secOf t.thirds, calSet := none }

theorem secondsCarry_stopped (hrun : s.ptp.run = false) : exec .secondsCarry s = .next s := by
  show execSecondsCarry s = _
  rw [execSecondsCarry, hrun]
  rfl

section Carry

variable (hrun : s.ptp.run = true) (harm : s.getB Reg.CAL_TAI_UTC_ARM = false) (hauto : s.getB Reg.CAL_AUTO = false)
include hrun harm hauto

/-- With no change armed and AUTO off, a carry shows the set that waited, or counts on. -/
theorem secondsCarry_eq : (s.ptp.calSet = none → exec .secondsCarry s = .next s.carried.calTick) ∧
    ∀ c : Civil, s.ptp.calSet = some (c.year, c.month, c.day, c.hour, c.minute, c.second) →
      exec .secondsCarry s = .next (s.carried.setCalendar c) := by
  have harm' : ∀ e f, ((s.advanceTo e).modPtp f).getB Reg.CAL_TAI_UTC_ARM = false := fun _ _ => harm
  have hauto' : ∀ e f, ((s.advanceTo e).modPtp f).getB Reg.CAL_AUTO = false := fun _ _ => hauto
  refine ⟨fun hset => ?_, fun c hset => ?_⟩
  all_goals
    show execSecondsCarry s = _
    simp only [execSecondsCarry, hrun, harm', hauto', Bool.not_true, Bool.false_and, Bool.false_eq_true, ↓reduceIte, State.modPtp_ptp,
      State.advanceTo_ptp, hset]
    rfl

end Carry

/-! ## Sets and changes of the calendar (R362, R364, R366) -/

/-- The date and time written to be set. -/
def State.calWritten (s : State) : Civil :=
  { year := s.get Reg.CAL_SET_YEAR, month := s.get Reg.CAL_SET_MONTH, day := s.get Reg.CAL_SET_DAY,
    hour := s.get Reg.CAL_SET_HOUR, minute := s.get Reg.CAL_SET_MINUTE, second := s.get Reg.CAL_SET_SECOND }

section Cal

variable {v : Word} (hdom : s.domState 3 = 3)
include hdom

theorem calSetGo_eq : exec (.calSetGo v) s =
    if v.toNat % 2 = 0 then .next s
    else if s.calWritten.ok then
      .next ((s.put0 Reg.CAL_AUTO 0).modPtp fun p => { p with
        calSet := some (s.calWritten.year, s.calWritten.month, s.calWritten.day, s.calWritten.hour, s.calWritten.minute,
          s.calWritten.second)
        calLoad := false })
    else .next ((s.put0 Reg.CAL_DATE_ERR 1).irq Reg.CAL_IRQ_DATE_ERR) := by
  have hpage : s.domState (pageDomain 0x75) = 3 := hdom
  show execCalSetGo v s = _
  rw [execCalSetGo, State.atPage_on hpage]
  rfl

theorem calTaiUtcArm_eq : exec (.calTaiUtcArm v) s = .next (if v.toNat % 2 = 1 then s.put0 Reg.CAL_TAI_UTC_ARM 1 else s) := by
  have hpage : s.domState (pageDomain 0x75) = 3 := hdom
  show execCalTaiUtcArm v s = _
  rw [execCalTaiUtcArm, State.atPage_on hpage]
  rfl

theorem calDateRead_eq : exec (.calDateRead .host) s =
    .next ((s.setWord (planeKey .host (fldAt Reg.CAL_HOUR 0)) (s.word (fldAt Reg.CAL_HOUR 0))).setRead .host
      (s.word (fldAt Reg.CAL_YEAR 0)).toNat) := by
  have hpage : s.domState (pageDomain 0x75) = 3 := hdom
  show execCalDateRead .host s = _
  rw [execCalDateRead, State.readAt_on hpage]
  rfl

end Cal

/-! ## The clauses of the statement -/

/-- A set is taken or refused by its date, a change is armed, and a write of 0 does neither. -/
theorem calendar_written {v : Word} (hdom : s.domState 3 = 3) :
    (v.toNat % 2 = 0 → exec (.calSetGo v) s = .next s ∧ exec (.calTaiUtcArm v) s = .next s) ∧
    (v.toNat % 2 = 1 →
      (s.calWritten.ok = true → ∃ t : State, exec (.calSetGo v) s = .next t ∧
        t.ptp = { s.ptp with
          calSet := some (s.calWritten.year, s.calWritten.month, s.calWritten.day, s.calWritten.hour, s.calWritten.minute,
            s.calWritten.second)
          calLoad := false } ∧
        t.get Reg.CAL_AUTO = 0 ∧ OnlyWords [fldAt Reg.CAL_AUTO 0] { s with ptp := t.ptp } t) ∧
      (s.calWritten.ok = false → ∃ t : State, exec (.calSetGo v) s = .next t ∧ t.get Reg.CAL_DATE_ERR = 1 ∧
        t.get Reg.CAL_IRQ_DATE_ERR = 1 ∧ t = { s with regs := t.regs }) ∧
      ∃ t : State, exec (.calTaiUtcArm v) s = .next t ∧ t.get Reg.CAL_TAI_UTC_ARM = 1 ∧ OnlyWords [fldAt Reg.CAL_TAI_UTC_ARM 0] s t) := by
  refine ⟨fun hv => ⟨(calSetGo_eq hdom).trans (if_pos hv), (calTaiUtcArm_eq hdom).trans (congrArg _ (if_neg (by omega)))⟩,
    fun hv => ⟨fun hok => ?_, fun hbad => ?_, ?_⟩⟩
  · refine ⟨_, (calSetGo_eq hdom).trans ((if_neg (by omega)).trans (if_pos hok)), rfl, State.get_put_same s Reg.CAL_AUTO 0 0, rfl,
      fun a ha => ?_⟩
    exact State.word_put_other _ _ _ _ _ fun h => ha (List.mem_singleton.2 h)
  · refine ⟨_, (calSetGo_eq hdom).trans ((if_neg (by omega)).trans (if_neg (ne_true_of_eq_false hbad))), ?_,
      State.get_irq_same _ _ _ rfl (by decide), rfl⟩
    rw [State.irq, State.get_put_word _ _ _ _ _ _ (by decide)]
    exact State.get_put_same s Reg.CAL_DATE_ERR 0 1
  · exact ⟨_, (calTaiUtcArm_eq hdom).trans (congrArg _ (if_pos hv)), State.get_put_same s Reg.CAL_TAI_UTC_ARM 0 1,
      (OnlyWords.refl _ s).putIn _ (List.mem_singleton.2 rfl)⟩

theorem svxPush_counts_rejection {x : Nat} {v : Word} (hdom : s.domState 3 = 3) (hx : x < 2) (hv : v.toNat % 2 = 1)
    (hbad : s.getB Reg.TIME_EN x = false ∨ 1000000000 ≤ s.get Reg.TIME_TA_NS x ∨ 1000000000 ≤ s.get Reg.TIME_TB_NS x) :
    ∃ t : State, exec (.svxPush .mgmt x v) s = .next t ∧ t.get Reg.TIME_REJ_CNT x = satInc 32 (s.get Reg.TIME_REJ_CNT x) 1 ∧
      t.get Reg.TIME_IRQ_PUSH_REJ = 1 ∧ t = { s with regs := t.regs } := by
  have hne : fldAt Reg.TIME_REJ_CNT x ≠ fldAt Reg.TIME_IRQ_PUSH_REJ 0 := by
    obtain rfl | rfl : x = 0 ∨ x = 1 := by omega
    all_goals decide
  refine ⟨_, svxPush_rejected hdom hx hv hbad, ?_, State.get_irq_same _ _ _ rfl (by decide), rfl⟩
  rw [State.irq, State.get_put_word _ _ _ _ _ _ hne, State.get_count_same _ _ _ _ (by decide)]
  rfl

theorem mpdTimeout_clears {x : Nat} (hx : x < 2) (hmpd : s.getB Reg.TIME_MPD_VALID x = true) :
    ∃ t : State, exec (.mpdTimeout x) s = .next t ∧ (t.servo x).pairs = [] ∧ t.get Reg.TIME_MPD_VALID x = 0 ∧
      (s.servo x).mpdAt + 192000000000 ≤ t.clk.now := by
  have hservo := (s.advanceTo ((s.servo x).mpdAt + 64 * secEdges)).servo_setServo_same x fun v => { v with pairs := [] }
  exact ⟨_, mpdTimeout_eq hx hmpd, congrArg Servo.pairs hservo, State.get_put_same _ Reg.TIME_MPD_VALID x 0, Nat.le_max_right _ _⟩

/-- Settles O30: each command by the one equation of what it does, the calendar by the months' lengths. -/
theorem ptpClockServosAndCalendar : Obligations.PtpClockServosAndCalendar := by
  refine ⟨⟨fun s h => ptpStep_idle h, fun s n h hrun => ?_, fun s hdom => ?_, fun s v hdom => ⟨timeTxtsPop_host hdom v, fun hv => ?_⟩,
    fun s x v hx hdom hv => ⟨svxPush_counts_rejection hdom hx hv, fun hen hta htb => ⟨fun hkind hmpd => ?_, fun q hkind hlast => ?_⟩,
      svxPush_host hdom x v⟩, fun s x hx hmpd => mpdTimeout_clears hx hmpd⟩,
    fun s hrun => secondsCarry_stopped hrun, fun s hrun harm hauto hok => ?_, fun c hok => ⟨Civil.ok_tick hok, Civil.tick_wraps_iff hok⟩,
    fun s v hdom => calendar_written hdom, fun s hdom => ?_⟩
  · exact ⟨s.advanceTo s.nextGrid, ptpStep_steps h hrun, rfl, _, rfl, (s.advanceTo s.nextGrid).stepBy_clock n⟩
  · obtain ⟨hsec, hns, hfrac, hts⟩ := s.timeLatched_words
    have hword := s.timeLatched.word_setRead .host (secOf s.thirds % 2 ^ 32)
    refine ⟨_, timeSecLoRead_eq hdom, congrArg (fun w => [w]) (BitVec.eq_of_toNat_eq (by simp)), (hword _).trans hsec,
      (hword _).trans hns, (hword _).trans hfrac, (hword _).trans hts, ?_⟩
    rw [s.timeLatched_frame]
    rfl
  · obtain ⟨hframe, hcnt⟩ := (s.modPtp fun q => { q with txts := q.txts.tail }).showTxts_shows
    exact ⟨_, timeTxtsPop_mgmt hdom hv, rfl, hcnt, hframe⟩
  · have hservo := s.servo_setServo_same x fun v => { v with lastS := some (s.pushValue x) }
    exact ⟨_, svxPush_sync hdom hx hv hen hta htb hkind hmpd, congrArg Servo.lastS hservo,
      State.get_put_same _ Reg.TIME_MEAS_VALID x 0, rfl⟩
  · obtain ⟨mpd, hpush⟩ := svxPush_delay hdom hx hv hen hta htb hkind hlast
    have hservo := s.servo_setServo_same x fun v =>
      { v with pairs := ({ s := q, d := s.pushValue x } :: v.pairs).take 16, mpdAt := s.clk.now }
    exact ⟨_, hpush, congrArg Servo.pairs hservo, congrArg Servo.mpdAt hservo, State.get_put_same _ Reg.TIME_MPD_VALID x 1, rfl⟩
  · obtain ⟨hcount, hshow⟩ := secondsCarry_eq hrun harm hauto
    refine ⟨fun hset => ?_, fun c hset hc => ?_⟩
    · obtain ⟨hcal, hwrap, hframe⟩ := s.carried.calTick_shows hok
      refine ⟨_, hcount hset, hcal, ?_, hwrap, ?_⟩
      · rw [hcal]
        exact Civil.ok_tick hok
      · rw [hframe]
        exact ⟨rfl, Nat.le_max_right _ _⟩
    · exact ⟨_, hshow c hset, s.carried.calendar_setCalendar hc, rfl⟩
  · exact ⟨_, calDateRead_eq hdom, by simp [State.setRead], State.word_setWord_same _ _ _, rfl⟩

end Sys2Proof.Machine
end
